-- ==== Sys2Proof/Word.lean ====
section
/-! DEFINITION. The word types of the C2428: a byte, a 32-bit register word and a 64-bit value (R11), and the index types
that name the part's instances (R10). -/
namespace Sys2Proof

/-- One byte of a packet, a record or a Ledger line. -/
abbrev Byte := BitVec 8

/-- One 32-bit register word (R11). -/
abbrev Word := BitVec 32

/-- One 64-bit value: a register pair, a Purse word, a timestamp (R11, R238). -/
abbrev Dword := BitVec 64

/-- Host slots H0 to H3 (R10). -/
abbrev SlotId := Fin 4

/-- Downstream ports P00 to P23 (R10). -/
abbrev PortId := Fin 24

/-- Stiles A, B and C as 0, 1 and 2 (R10). -/
abbrev StileId := Fin 3

/-- Mint channels M000 to M127 (R10). -/
abbrev ChanId := Fin 128

/-- Mint groups G0 to G15 (R10). -/
abbrev GroupId := Fin 16

/-- Clearance bodies B0 to B7 (R10). -/
abbrev BodyId := Fin 8

/-- Clearance pairs by their pair index, 0 to 27 (section "Pairs" of file 10). -/
abbrev PairId := Fin 28

/-- Standing orders 0 to 1023 (R10). -/
abbrev OrderId := Fin 1024

/-- Purses 0 to 255 (R10). -/
abbrev PurseId := Fin 256

/-- Feedback templates 0 to 63 (R278). -/
abbrev TemplId := Fin 64

end Sys2Proof
end

