-- ==== Sys2Proof/Syntax.lean ====
section
/-! DEFINITION. The commands the C2428 takes: one constructor of `Instr` per row of the spec's table of operations and
events, with the row's operands. A Teller opcode carries the command as a caller sends it (header fields and parameter
bytes, R163); an event carries what the outside world shows the part at that moment. -/
namespace Sys2Proof

/-- Who hands Teller a command: a host slot's endpoint 0x01, or the MGMT mailbox (R159, R192). -/
inductive Caller where
  | slot (h : SlotId)
  | mbx
  deriving DecidableEq, Repr

/-- The paths to a register (file 15, "Paths to a register"): a slot, the mailbox, or a direct MGMT transaction. -/
inductive Path where
  | slot (h : SlotId)
  | mbx
  | mgmt
  deriving DecidableEq, Repr

/-- One Teller command as its caller sends it (R163). The opcode is the constructor's, PLEN the length of `params`. -/
structure CmdArgs where
  caller : Caller
  tag : BitVec 16
  flags : Byte
  arg0 : Word
  arg1 : Word
  params : List Byte
  deriving DecidableEq, Repr

/-- One direct MGMT transaction (R191, R415, R423): the 7-bit target address after its START, the address bytes that came,
then the data bytes of a write (a PEC byte among them where the controller appends one) or the number of bytes clocked out by
a read. -/
structure MgmtXact where
  dev : BitVec 7
  addr : List Byte
  isRead : Bool
  data : List Byte
  count : Nat
  deriving DecidableEq, Repr

/-- Port modes (R110, R128). -/
inductive PortMode where
  | off | relay | proxy
  deriving DecidableEq, Repr, Inhabited

/-- Rp levels (R327). -/
inductive Rp where
  | ua80 | ua180 | ua330
  deriving DecidableEq, Repr, Inhabited

/-- What SetPortFeature(PORT_INDICATOR) makes Pnn_LED_N show (R102). -/
inductive LedMode where
  | off | on | blink
  deriving DecidableEq, Repr

/-- USB 2.0 port test modes (R154). -/
inductive TestMode where
  | testJ | testK | se0Nak | packet | forceEnable
  deriving DecidableEq, Repr

/-- Kinds of bus reset on a slot (R125). -/
inductive BusReset where
  | usb2 | hot | warm
  deriving DecidableEq, Repr

/-- How a transaction or a standard request on a proxied port ended, seen on the wire (R140, R155, R204). -/
inductive XactResult where
  | data (bytes : List Byte)
  | ack
  | nak
  | stall
  | error
  | babble
  deriving DecidableEq, Repr

/-- Windows of a port's microframe or frame that end (R203, R201): MINT_OUT at t = 40 µs, first attempts of FEEDBACK at t = 85 µs,
everything periodic at t = 100 µs, and the frame of a full- or low-speed port. -/
inductive OrderWindow where
  | mintOut | feedbackFirst | late | frame
  deriving DecidableEq, Repr

/-- Classes of standing order (R195). -/
inductive OrderClass where
  | other | mintOut | feedback
  deriving DecidableEq, Repr

/-- What the full- or low-speed side of a Transaction Translator holds for a complete-split (R137, R138): `part` is data of a
periodic transaction that is not its last. -/
inductive TtResult where
  | ready (bytes : List Byte)
  | part (bytes : List Byte)
  | notYet
  | err
  deriving DecidableEq, Repr

/-- A frame as it is received on DOVE_IN: its bytes, whether an invalid character lies inside it, the invalid characters seen
since the frame before it, and, of a TRAIN frame, whether the device itself sent it (R253 to R255, R261). [DESIGN CHOICE, log
178] -/
structure DoveFrame where
  bytes : List Byte
  broken : Bool
  invalid : Nat
  own : Bool
  deriving DecidableEq, Repr

/-- Termination seen on one CC pin (R330). -/
inductive CcTerm where
  | openCc | rd | ra | rp
  deriving DecidableEq, Repr

/-- What the seal loop returns to CAB_SEAL_B: the driven bit, or a fixed level (R482). -/
inductive SealReturn where
  | loop
  | stuck (level : Bool)
  deriving DecidableEq, Repr

/-- Wake sources by code (file 14, "Wake sources and the Passbook"). -/
inductive WakeCode where
  | mgmt | wakeN | cabKey | rule | rtc | vbus | seat | cc
  deriving DecidableEq, Repr

/-- Which clock source failed to become stable (R75). -/
inductive PllWhich where
  | system
  | ss (h : SlotId)
  deriving DecidableEq, Repr

/-- What a Stile measures of one port over a 10 µs step, with its rails, as its 12-bit ADC gives it: the shunt voltage in
62.5 µV per LSB and its direction, VBUS_SNS, VRAIL_L_SNS and VRAIL_H_SNS in 15 mV per LSB, and the level of VCONN_IN in the
same unit (R44, R63, R64, R370, R380). -/
structure StileSample where
  shunt : BitVec 12
  reverse : Bool
  vbus : BitVec 12
  railL : BitVec 12
  railH : BitVec 12
  vconnIn : BitVec 12
  deriving DecidableEq, Repr

/-- One port's entry of the boot profile (R84). -/
structure ProfilePort where
  mode : PortMode
  owner : SlotId
  viewers : BitVec 4
  rp : Rp
  priority : BitVec 3
  deriving DecidableEq, Repr, Inhabited

/-- The boot profile: entries of P00 onwards (a port past the list is OFF) and the 5 V boot budget in watts (R84). -/
structure BootProfile where
  ports : List ProfilePort
  budgetW : Nat
  deriving DecidableEq, Repr, Inhabited

/-- What the boot ROM finds in one image slot of the flash (R79 to R82, R474). `payload` names the payload's content.
[DESIGN CHOICE, log 25] -/
structure ImageInfo where
  headerOk : Bool
  length : Nat
  keyHash : List Byte
  signatureOk : Bool
  listsB0 : Bool
  version : Word
  timesOut : Bool
  tableFormat : Nat
  oldestFormat : Nat
  payload : Nat
  profile : BootProfile
  deriving DecidableEq, Repr, Inhabited

/-- The flash as the boot ROM reads it: SFDP present and at least 32 MiB, and the two image slots (R79, R81). -/
structure FlashView where
  sfdpOk : Bool
  a : ImageInfo
  b : ImageInfo
  deriving DecidableEq, Repr

/-- The USB functions of one slot (R96). -/
inductive SlotFunction where
  | ssHub | hub2 | teller
  deriving DecidableEq, Repr

/-- Features of a hub port that ClearPortFeature names beside those with rows of their own (R101): the change bits and
PORT_ENABLE. -/
inductive HubFeature where
  | cConnection | cEnable | cSuspend | cOverCurrent | cReset | enable
  deriving DecidableEq, Repr

/-- The requests of a host on endpoint 0 of a slot's function (R96 to R101, R104, R107, R108), but for those that have rows of
their own. Hub port 25 is `none` where a hub port is named. [DESIGN CHOICE, log 167] -/
inductive StdRequest where
  | setAddress (a : BitVec 7)
  | setConfiguration (v : Byte)
  | remoteWake (on : Bool)
  | u1Enable (on : Bool)
  | u2Enable (on : Bool)
  | getStatus
  | getDescriptor (ty index : Byte)
  | getHubDescriptor
  | getHubStatus
  | getPort25Status
  | clearPortFeature (k : Option PortId) (f : HubFeature)
  | vendor
  deriving DecidableEq, Repr

/-- The commands of the block: one constructor per row of spec/opcode_table.json, in the table's order. -/
inductive Instr where
  /-- NOP (R181): Command that does nothing and completes at dispatch. -/
  | nop (a : CmdArgs)
  /-- ECHO (R181): Command that returns ARG0 and its parameters as result data. -/
  | echo (a : CmdArgs)
  /-- GET_INFO (R182): Command that returns the 64-byte information page 0. -/
  | getInfo (a : CmdArgs)
  /-- FENCE (R175): Command that takes effect and completes once every earlier command of its slot has completed. -/
  | fence (a : CmdArgs)
  /-- CANCEL (R178): Command that cancels a tag of its own slot, with an outcome set by how far the target has progressed. -/
  | cancel (a : CmdArgs)
  /-- REG_RD (R422): Command that reads COUNT register words, each judged in ascending address order. -/
  | regRd (a : CmdArgs)
  /-- REG_WR (R183): Command that writes register words, subject to the slot's address rights and the access rules. -/
  | regWr (a : CmdArgs)
  /-- REG_RMW (R183): Command that atomically writes (old AND NOT MASK) OR (VALUE AND MASK) and returns the old value. -/
  | regRmw (a : CmdArgs)
  /-- PORT_MODE (R129): Command that changes a port's mode among OFF, RELAY and PROXY, with the effects of the transition
  table. -/
  | portMode (a : CmdArgs)
  /-- PORT_POWER (R184): Command that places or withdraws a port's 5 V power request and completes on VBUS_ON or on discharge. -/
  | portPower (a : CmdArgs)
  /-- PORT_RESET (R158): Command that resets a port, optionally by power cycle, and re-enumerates a proxied device. -/
  | portReset (a : CmdArgs)
  /-- PORT_SUSPEND (R150): Command that selectively suspends a port once its Mint groups are held at rest. -/
  | portSuspend (a : CmdArgs)
  /-- PORT_RESUME (R151): Command that drives 20 ms of resume signalling on a suspended proxied port. -/
  | portResume (a : CmdArgs)
  /-- DEED_RELEASE (R111): Deed operation by which the owner, or MGMT with presence, gives up a port's ownership. -/
  | deedRelease (a : CmdArgs)
  /-- DEED_CLAIM (R112): Deed operation that takes ownership of an unowned port. -/
  | deedClaim (a : CmdArgs)
  /-- DEED_SEIZE (R112): Deed operation that takes ownership of a port from any owner while the presence window is open. -/
  | deedSeize (a : CmdArgs)
  /-- DEED_VIEW (R111): Deed operation that replaces a port's viewer mask. -/
  | deedView (a : CmdArgs)
  /-- CTRL_XFER (R185): Command that runs a control transfer on a proxied port. -/
  | ctrlXfer (a : CmdArgs)
  /-- BULK_XFER (R185): Command that runs a bulk transfer on a proxied port. -/
  | bulkXfer (a : CmdArgs)
  /-- INT_XFER (R185): Command that runs an interrupt transfer in periodic time left over by standing orders. -/
  | intXfer (a : CmdArgs)
  /-- ISO_XFER (R185): Command that runs COUNT isochronous microframes on a proxied endpoint. -/
  | isoXfer (a : CmdArgs)
  /-- SO_CREATE (R198): Command that admits and creates a standing order against the port's periodic budget. -/
  | soCreate (a : CmdArgs)
  /-- SO_MODIFY (R202): Command that replaces a standing order's record, judged with the old record removed. -/
  | soModify (a : CmdArgs)
  /-- SO_DELETE (R208): Command that removes a standing order and completes when its transaction in progress ends. -/
  | soDelete (a : CmdArgs)
  /-- SO_QUERY (R234): Command that returns an order's record, state and counters. -/
  | soQuery (a : CmdArgs)
  /-- STMT_LAYOUT (R213): Command that sets the slot's Statement layout from the next snapshot. -/
  | stmtLayout (a : CmdArgs)
  /-- STMT_SUBSCRIBE (R221): Command that starts or stops Statements for the slot from the next snapshot. -/
  | stmtSubscribe (a : CmdArgs)
  /-- MNT_CFG (R267): Command that writes a Mint channel record, applied at the next snapshot. -/
  | mntCfg (a : CmdArgs)
  /-- MNT_SEG (R270): Command that queues 1 to 32 segments on a channel. -/
  | mntSeg (a : CmdArgs)
  /-- MNT_START (R286): Command that arms a start of the named groups for a start microframe. -/
  | mntStart (a : CmdArgs)
  /-- MNT_HOLD (R290): Command that raises a HOST hold on groups, optionally completing when they are at rest. -/
  | mntHold (a : CmdArgs)
  /-- MNT_RELEASE (R295): Command that clears a HELD group's causes and queues and returns it to IDLE. -/
  | mntRelease (a : CmdArgs)
  /-- MNT_QUERY (R301): Command that returns a channel's record and MINT_CH data. -/
  | mntQuery (a : CmdArgs)
  /-- MNT_FBTEMPLATE (R278): Command that loads or unloads a feedback template program. -/
  | mntFbtemplate (a : CmdArgs)
  /-- CLR_BODY (R306): Command that defines or removes a Clearance body. -/
  | clrBody (a : CmdArgs)
  /-- CLR_PAIR (R311): Command that loads or unloads a Clearance pair record. -/
  | clrPair (a : CmdArgs)
  /-- CLR_ARM (R321): Command that arms the Clearance pairs of a mask. -/
  | clrArm (a : CmdArgs)
  /-- CLR_DISARM (R321): Command that disarms Clearance pairs, needing presence for armed ones. -/
  | clrDisarm (a : CmdArgs)
  /-- TLY_SET (R247): Command that relabels T by whole microframes and hands the residual to the requested mode. -/
  | tlySet (a : CmdArgs)
  /-- TLY_MODE (R248): Command that sets Tally's requested discipline mode at the next boundary. -/
  | tlyMode (a : CmdArgs)
  /-- TLY_QUERY (R262): Command that returns 48 bytes of Tally state taken in one fabric cycle. -/
  | tlyQuery (a : CmdArgs)
  /-- CC_CFG (R328): Command that sets a port's CC record: mode, Rp, VCONN, wake and timers. -/
  | ccCfg (a : CmdArgs)
  /-- PD_CFG (R339): Command that sets a port's source capabilities and auto-responder delay. -/
  | pdCfg (a : CmdArgs)
  /-- PD_TX (R340): Command that sends a PD message as a reply or an initiation. -/
  | pdTx (a : CmdArgs)
  /-- PD_HARDRESET (R344): Command that signals Hard Reset and starts the source recovery. -/
  | pdHardreset (a : CmdArgs)
  /-- ESC_BUDGET (R374): Command that replaces the three Escrow rail budgets. -/
  | escBudget (a : CmdArgs)
  /-- ESC_PRIORITY (R382): Command that sets a port's Escrow priority and reorders its queued request. -/
  | escPriority (a : CmdArgs)
  /-- GATE_CFG (R356): Command that sets a port's gate record in its Stile. -/
  | gateCfg (a : CmdArgs)
  /-- MODEL_CFG (R369): Command that sets a port's FET thermal model record. -/
  | modelCfg (a : CmdArgs)
  /-- ESC_QUERY (R382): Command that returns budgets, charges and queue state from one fabric cycle. -/
  | escQuery (a : CmdArgs)
  /-- LDG_RD (R188): Command that reads Ledger bytes and reports correction, unwritten or uncorrectable lines. -/
  | ldgRd (a : CmdArgs)
  /-- LDG_WR (R385): Command that writes host-region Ledger lines, merging partial lines. -/
  | ldgWr (a : CmdArgs)
  /-- PLANE_CFG (R392): Command that sets Plane's visit rate. -/
  | planeCfg (a : CmdArgs)
  /-- INLAY_QUERY (R396): Command that returns the 8 Inlay entries. -/
  | inlayQuery (a : CmdArgs)
  /-- PRS_CFG (R224): Command that configures, resizes or frees a Purse. -/
  | prsCfg (a : CmdArgs)
  /-- PRS_READ (R228): Command that removes whole packets from the head of a Purse. -/
  | prsRead (a : CmdArgs)
  /-- PWR_DOMAIN (R407): Command that drains and switches off, or switches on, a slot, port-group or Stile domain. -/
  | pwrDomain (a : CmdArgs)
  /-- SLEEP (R409): Command that enters S1, or requests S2 or S3 entry from Nightsafe. -/
  | sleep (a : CmdArgs)
  /-- FW_STAGE (R190): Command that erases and writes image data into the slot that is not running. -/
  | fwStage (a : CmdArgs)
  /-- FW_COMMIT (R190): Command that verifies the staged image under the boot checks. -/
  | fwCommit (a : CmdArgs)
  /-- FW_SWAP (R475): Command that runs the hitless swap to the committed image. -/
  | fwSwap (a : CmdArgs)
  /-- OTP_WRITE (R440): Command that programs one Vault row and reads it back. -/
  | otpWrite (a : CmdArgs)
  /-- VAULT_LOCK (R441): Command that raises the Vault lock level by programming mark rows. -/
  | vaultLock (a : CmdArgs)
  /-- COMMAND_TRANSFER (R159): Bulk OUT transfer on endpoint 0x01 whose commands enter the slot's Till. -/
  | commandTransfer (h : SlotId) (bytes : List Byte)
  /-- COMMAND_DISPATCH (R174): Teller starts a command once its key, fence and priority allow it. -/
  | commandDispatch
  /-- RECORD_DELIVERY (R161): Completions and event records are delivered on an IN request of endpoint 0x81. -/
  | recordDelivery (h : SlotId)
  /-- STATEMENT_DELIVERY (R219): A queued Statement is delivered on an IN request of endpoint 0x82. -/
  | statementDelivery (h : SlotId)
  /-- MGMT_MBX_GO (R192): A write of 1 to GO starts the command held in the MGMT mailbox. -/
  | mgmtMbxGo (p : Path)
  /-- MGMT_TRANSACTION (R423): A direct MGMT write or read transaction accesses registers word by word. -/
  | mgmtTransaction (x : MgmtXact)
  /-- GLB_UNLOCK (R430): A write to GLB_UNLOCK unlocks, or locks, the writing source. -/
  | glbUnlock (p : Path) (v : Word)
  /-- GLB_LOCK (R432): A write-once to GLB_LOCK closes groups of configuration registers. -/
  | glbLock (p : Path) (v : Word)
  /-- PRESENCE_CLOSE (R433): A write of 1 to GLB_PRESENCE.CLOSE closes the presence window at once. -/
  | presenceClose (p : Path)
  /-- LDG_TEST_LOAD (R398): LDG_TEST_CTRL LOAD copies a line's stored data and check word into the test registers. -/
  | ldgTestLoad (p : Path)
  /-- LDG_TEST_STORE_DATA (R398): LDG_TEST_CTRL STORE_DATA writes the test data while keeping the stored check word. -/
  | ldgTestStoreData (p : Path)
  /-- LDG_TEST_STORE_CHECK (R398): LDG_TEST_CTRL STORE_CHECK writes the test check word while keeping the stored data. -/
  | ldgTestStoreCheck (p : Path)
  /-- LDG_TEST_STORE_BOTH (R398): LDG_TEST_CTRL STORE_BOTH writes the test data and check word unchanged. -/
  | ldgTestStoreBoth (p : Path)
  /-- LDG_FLIP (R399): A write to LDG_FLIP arms or disarms a check-word flip for the next write of a line. -/
  | ldgFlip (p : Path) (v : Word)
  /-- FORCE_OFF_CLEAR (R418): A keyed write of 1 to NSF_RULE_HIT.FORCE_OFF clears the latch once its rule is no longer active. -/
  | forceOffClear (p : Path) (hits : BitVec 16)
  /-- REGISTER_WRITE (R425): A write to a register with no row of its own acts on each field by its access code. -/
  | registerWrite (p : Path) (addr v : Word)
  /-- SET_PORT_POWER (R102): SetPortFeature(PORT_POWER) places a 5 V power request for an owned RELAY port. -/
  | setPortPower (h : SlotId) (k : PortId)
  /-- CLEAR_PORT_POWER (R102): ClearPortFeature(PORT_POWER) turns an owned RELAY port off and returns its charges. -/
  | clearPortPower (h : SlotId) (k : PortId)
  /-- SET_PORT_RESET (R102): SetPortFeature(PORT_RESET) resets an owned RELAY port. -/
  | setPortReset (h : SlotId) (k : PortId)
  /-- SET_PORT_SUSPEND (R102): SetPortFeature(PORT_SUSPEND) selectively suspends an owned RELAY port. -/
  | setPortSuspend (h : SlotId) (k : PortId)
  /-- CLEAR_PORT_SUSPEND (R102): ClearPortFeature(PORT_SUSPEND) resumes an owned RELAY port. -/
  | clearPortSuspend (h : SlotId) (k : PortId)
  /-- SET_PORT_INDICATOR (R102): SetPortFeature(PORT_INDICATOR) drives the port LED. -/
  | setPortIndicator (h : SlotId) (k : PortId) (m : LedMode)
  /-- GET_PORT_STATUS (R118): GetPortStatus reports a port as it appears to the requesting slot. -/
  | getPortStatus (h : SlotId) (k : PortId)
  /-- SET_PORT_TEST (R154): SetPortFeature(PORT_TEST) puts an idle owned RELAY port into a USB 2.0 test mode. -/
  | setPortTest (h : SlotId) (k : PortId) (m : TestMode)
  /-- CLEAR_TT_BUFFER (R139): CLEAR_TT_BUFFER clears a buffer of an owned RELAY port's TT. -/
  | clearTtBuffer (h : SlotId) (k : PortId) (key : BitVec 16)
  /-- RESET_TT (R139): RESET_TT resets an owned RELAY port's Transaction Translator. -/
  | resetTt (h : SlotId) (k : PortId)
  /-- GET_TT_STATE (R139): GET_TT_STATE is answered with a STALL. -/
  | getTtState (h : SlotId) (k : PortId)
  /-- STOP_TT (R139): STOP_TT is answered with a STALL. -/
  | stopTt (h : SlotId) (k : PortId)
  /-- SLOT_VBUS_RISE (R86): VBUS rises on a slot, which then presents its termination and pull-up within 2 ms. -/
  | slotVbusRise (h : SlotId) (cc : BitVec 2)
  /-- SLOT_VBUS_LOSS (R120): A slot loses VBUS, which is treated as suspend. -/
  | slotVbusLoss (h : SlotId)
  /-- SS_TRAINING_TIMEOUT (R105): SuperSpeed has not reached U0 100 ms after VBUS, so Teller moves to USB 2.0 hub port 25. -/
  | ssTrainingTimeout (h : SlotId)
  /-- SS_LINK_FAILURE (R106): A trained SuperSpeed link fails and the Teller function moves to port 25. -/
  | ssLinkFailure (h : SlotId)
  /-- SLOT_BUS_RESET (R125): A USB 2.0 bus reset or SuperSpeed hot or warm reset on a slot. -/
  | slotBusReset (h : SlotId) (kind : BusReset)
  /-- SLOT_SUSPEND (R121): A slot becomes suspended: its groups are held and its other proxied ports suspended. -/
  | slotSuspend (h : SlotId)
  /-- SLOT_RESUME (R122): A suspended slot resumes and its selectively suspended proxied ports are resumed. -/
  | slotResume (h : SlotId)
  /-- UPSTREAM_SOF (R251): An upstream SOF or ITP is received and timestamped into TLY_USOF_TS. -/
  | upstreamSof (h : SlotId) (ts : Dword) (itp : Bool)
  /-- PROXY_REMOTE_WAKE (R123): A device on a suspended PROXY port signals remote wake and is resumed by the C2428. -/
  | proxyRemoteWake (k : PortId)
  /-- RELAY_REMOTE_WAKE (R123): A device on a RELAY port signals remote wake, handled by the hub and recorded as SLOT_WAKE. -/
  | relayRemoteWake (k : PortId)
  /-- MICROFRAME_BOUNDARY (R237): T reaches a multiple of 125,000 ns and a new proxied microframe begins. -/
  | microframeBoundary
  /-- FEEDBACK_MISSING (R283): A channel's missing-sample count reaches MISS_LIMIT and raises a FEEDBACK hold. -/
  | feedbackMissing (c : ChanId)
  /-- MNT_START_ABANDON (R287): A start that has not fired 800 microframes after N_s is abandoned. -/
  | mntStartAbandon (g : GroupId)
  /-- MINT_SEND (R298): At t = 3 µs Mint chooses planned or stopped setpoints and packs the Mint frames. -/
  | mintSend
  /-- CLEARANCE_SLOT (R317): A Clearance pipeline slot ends with a pair's distance at one step judged. -/
  | clearanceSlot (i : Fin 896)
  /-- YOUNG_COUNT_EXPIRY (R310): A body's young count reaches 0 and its inflation ends. -/
  | youngCountExpiry (b : BodyId)
  /-- STATEMENT_ASSEMBLY (R217): At t = 90 µs the Statements of each subscribing slot are assembled and queued. -/
  | statementAssembly
  /-- ORDER_TRANSACTION_DONE (R204): A standing-order transaction attempt ends and the occurrence is retried, continued or
  ended. -/
  | orderTransactionDone (n : OrderId) (r : XactResult) (late retryFits : Bool)
  /-- ORDER_WINDOW_END (R204): A class window ends and occurrences that cannot fit end ERROR or SKIPPED. -/
  | orderWindowEnd (k : PortId) (w : OrderWindow)
  /-- PRS_READ_COPY_DONE (R230): The copy of detached Purse words ends and their space is freed. -/
  | prsReadCopyDone (n : PurseId)
  /-- MSYNC_IN_EDGE (R249): An edge on MSYNC_IN is timestamped and taken as a measurement. -/
  | msyncInEdge (rising : Bool) (ts : Dword) (widthNs : Nat)
  /-- MSYNC_IN_MISSING (R249): An expected MSYNC_IN edge does not arrive within ±1 µs. -/
  | msyncInMissing
  /-- MSYNC_OUT_PULSE (R250): MSYNC_OUT drives a pulse at SOF time plus OUT_OFFSET. -/
  | msyncOutPulse
  /-- DOVETAIL_TRAIN_RECEIVED (R254): A TRAIN frame is received and forwarded, or closes the ring. -/
  | dovetailTrainReceived (f : DoveFrame) (delayNs : BitVec 16)
  /-- DOVETAIL_TRAIN_TIMEOUT (R255): The ring does not close within 50 ms and the device stays untrained. -/
  | dovetailTrainTimeout
  /-- DOVETAIL_SYNC_LAUNCH (R256): A trained device launches its SYNC frame at t = 62.5 µs. -/
  | dovetailSyncLaunch
  /-- DOVETAIL_SYNC_RECEIVED (R256): A follower takes a SYNC frame as a time measurement. -/
  | dovetailSyncReceived (f : DoveFrame) (arrival : Dword)
  /-- DOVETAIL_HOLD_RECEIVED (R257): A HOLD frame is received, applied to HOLD_GROUPS and forwarded. -/
  | dovetailHoldReceived (f : DoveFrame)
  /-- DOVE_IN_LOSS (R259): Loss of DOVE_IN is declared. -/
  | doveInLoss (invalid : Nat)
  /-- DOVE_IN_RETURN (R259): Valid characters return on DOVE_IN and the device retrains. -/
  | doveInReturn
  /-- USB_CONNECT (R134): A device pull-up is seen on a powered port. -/
  | usbConnect (k : PortId) (dplus : Bool)
  /-- USB_DISCONNECT (R134): A device disconnects while VBUS stays on. -/
  | usbDisconnect (k : PortId)
  /-- CONNECT_DEBOUNCE_END (R135): The 100 ms proxied connect debounce completes. -/
  | connectDebounceEnd (k : PortId)
  /-- PORT_RESET_END (R136): Port reset signalling ends with the speed decided. -/
  | portResetEnd (k : PortId) (chirp dplus : Bool)
  /-- ENUM_REQUEST_DONE (R140): A standard request of proxy enumeration completes. -/
  | enumRequestDone (k : PortId) (r : XactResult)
  /-- ENUM_REQUEST_TIMEOUT (R140): A standard request of proxy enumeration is not complete within 500 ms. -/
  | enumRequestTimeout (k : PortId)
  /-- PORT_BABBLE (R155): Babble on a port disables it. -/
  | portBabble (k : PortId)
  /-- XFER_TRANSACTION_DONE (R185): A transaction of a proxied transfer command ends. -/
  | xferTransactionDone (k : PortId) (ep : BitVec 4) (isIn : Bool) (r : XactResult)
  /-- XFER_TIMEOUT (R185): TIMEOUT_MS expires and the transfer ends ENAK_TIMEOUT. -/
  | xferTimeout (k : PortId) (ep : BitVec 4) (isIn : Bool)
  /-- RESUME_SIGNALLING_END (R151): 20 ms of resume signalling ends and the port returns to its previous state. -/
  | resumeSignallingEnd (k : PortId)
  /-- TT_START_SPLIT (R138): A start-split reaches a port's TT and is taken, NAKed or discarded. -/
  | ttStartSplit (k : PortId) (periodic isoOut : Bool) (key : BitVec 16) (bytes : Nat)
  /-- TT_RESULT_DISCARD (R138): A non-periodic TT result not collected within 8 ms is discarded. -/
  | ttResultDiscard (k : PortId) (key : BitVec 16)
  /-- POWER_CYCLE_NO_CONNECT (R158): No pull-up is seen within 1 s of power good after a power-cycle reset. -/
  | powerCycleNoConnect (k : PortId)
  /-- SEAT_PIN_CHANGE (R353): A SEAT pin changes level. -/
  | seatPinChange (k : PortId) (aLow bLow : Bool)
  /-- SEATING_CONFIRMED (R353): Both SEAT pins have read low for 10 ms. -/
  | seatingConfirmed (k : PortId)
  /-- SEATING_LOST (R354): A SEAT pin has read high for 100 µs and the port is detached. -/
  | seatingLost (k : PortId)
  /-- CC_CHANGE (R330): The CC comparators report a change of termination. -/
  | ccChange (k : PortId) (cc1 cc2 : CcTerm)
  /-- CC_ATTACH_CONFIRMED (R331): The attach debounce ends and the port enters ATTACHED_SRC. -/
  | ccAttachConfirmed (k : PortId)
  /-- CC_DETACH (R332): Rd is absent for DETACH_DB and the port detaches. -/
  | ccDetach (k : PortId)
  /-- DRP_TOGGLE (R330): The DRP period toggles between the source and sink roles. -/
  | drpToggle (k : PortId)
  /-- TRY_SRC_TIMEOUT (R330): tDRPTry expires in TRY_SRC. -/
  | trySrcTimeout (k : PortId)
  /-- SOURCE_PARTNER_BACKOFF (R331): The BACKOFF time of SOURCE_PARTNER expires. -/
  | sourcePartnerBackoff (k : PortId)
  /-- PD_MESSAGE_RECEIVED (R336): A PD message is received, acknowledged and passed to the owner, opening a reply window if
  due. -/
  | pdMessageReceived (k : PortId) (sop : BitVec 2) (msg : List Byte) (crcOk : Bool)
  /-- PD_REQUEST_RECEIVED (R341): A Request or EPR_Request is judged and given an Escrow verdict. -/
  | pdRequestReceived (k : PortId) (msg : List Byte)
  /-- SOFT_RESET_RECEIVED (R333): A Soft_Reset is received and answered with Accept. -/
  | softResetReceived (k : PortId) (sop : BitVec 2)
  /-- EPR_KEEPALIVE_RECEIVED (R343): An EPR_KeepAlive is received and answered by the Stile. -/
  | eprKeepaliveReceived (k : PortId)
  /-- HARD_RESET_RECEIVED (R344): Hard Reset signalling is received and the source recovery starts. -/
  | hardResetReceived (k : PortId)
  /-- BIST_RECEIVED (R333): A BIST message is received and handled in the Stile. -/
  | bistReceived (k : PortId) (carrier : Bool)
  /-- PS_RDY_RECEIVED (R346): The partner's PS_RDY ends a VCONN swap from the port. -/
  | psRdyReceived (k : PortId)
  /-- GOODCRC_RECEIVED (R333): The GoodCRC of a sent message is received. -/
  | goodcrcReceived (k : PortId)
  /-- CRC_RECEIVE_TIMEOUT (R333): No GoodCRC within CRCReceiveTimer; the message is retransmitted or fails. -/
  | crcReceiveTimeout (k : PortId)
  /-- AUTO_RESPONSE (R337): RESP_MS expires with no owner reply and the Stile sends its automatic reply. -/
  | autoResponse (k : PortId)
  /-- WAIT_TIMER_EXPIRY (R338): The 100 ms wait-and-retry timer expires. -/
  | waitTimerExpiry (k : PortId)
  /-- SINK_TX_WAIT_END (R335): The 18 ms tSinkTx wait ends and the initiation is sent. -/
  | sinkTxWaitEnd (k : PortId)
  /-- EXCHANGE_END (R335): 30 ms pass with no SOP message and Rp returns to SinkTxOK. -/
  | exchangeEnd (k : PortId)
  /-- SRC_TRANSITION_END (R342): tSrcTransition ends and the power path moves to the new voltage. -/
  | srcTransitionEnd (k : PortId)
  /-- EPR_KEEPALIVE_TIMEOUT (R343): No SOP message from the partner for 875 ms in EPR mode, so Hard Reset is signalled. -/
  | eprKeepaliveTimeout (k : PortId)
  /-- EPR_VBUS_GUARD (R343): VBUS above 20 V for 500 ms outside EPR mode leads to Hard Reset. -/
  | eprVbusGuard (k : PortId)
  /-- VCONN_SOURCE_TIMEOUT (R346): No PS_RDY within 150 ms of a VCONN swap, so Hard Reset is signalled. -/
  | vconnSourceTimeout (k : PortId)
  /-- VCONN_SWAP_PS_RDY_SEND (R346): 2 ms after closing the VCONN switch the Stile sends PS_RDY. -/
  | vconnSwapPsRdySend (k : PortId)
  /-- HARD_RESET_PATHS_OFF (R344): tPSHardReset expires and both paths turn off with DISCH and VCONN off. -/
  | hardResetPathsOff (k : PortId)
  /-- HARD_RESET_VSAFE0V (R344): VBUS falls below 0.8 V during Hard Reset recovery. -/
  | hardResetVsafe0v (k : PortId)
  /-- HARD_RESET_RECOVER (R344): tSrcRecover expires; VCONN is restored and the 5 V request queued. -/
  | hardResetRecover (k : PortId)
  /-- BIST_CARRIER_END (R333): 45 ms of BIST Carrier Mode ends. -/
  | bistCarrierEnd (k : PortId)
  /-- VCONN_TRIP (R345): The VCONN switch exceeds its current limit and opens. -/
  | vconnTrip (k : PortId)
  /-- ESCROW_GRANT (R377): Escrow grants a ready queued request a ramp slot and its charges. -/
  | escrowGrant
  /-- RAMP_PRECHARGE_END (R357): Precharge ends and the slew phase starts. -/
  | rampPrechargeEnd (k : PortId)
  /-- RAMP_SLEW_END (R357): VBUS reaches 95 % of target and the enhance phase starts. -/
  | rampSlewEnd (k : PortId) (vbusMv : Nat)
  /-- PORT_POWER_GOOD (R357): The enhance phase ends and the port has power good. -/
  | portPowerGood (k : PortId) (vbusMv vgsMv : Nat)
  /-- RAMP_TIMEOUT (R357): A ramp has not reached power good by t_nom + 2 ms and trips. -/
  | rampTimeout (k : PortId)
  /-- TRANSITION_SETTLED (R359): VBUS settles after a voltage transition and PS_RDY is sent. -/
  | transitionSettled (k : PortId) (vbusMv : Nat)
  /-- DISCHARGE_TO_5V (R360): VBUS falls to 5.5 V in a downward transition and the 5 V path takes over. -/
  | dischargeTo5v (k : PortId)
  /-- DISCHARGE_FAILURE (R360): VBUS is still above 5.5 V 500 ms into a downward transition, a DISCH trip. -/
  | dischargeFailure (k : PortId)
  /-- SWITCH_OFF_DISCHARGED (R361): VBUS falls below 0.8 V after a switch-off. -/
  | switchOffDischarged (k : PortId) (vbusMv : Nat)
  /-- SWITCH_OFF_DISCH_TIMEOUT (R361): VBUS is still at or above 0.8 V 500 ms after switch-off and DISCH is released. -/
  | switchOffDischTimeout (k : PortId) (vbusMv : Nat)
  /-- CURRENT_LIMIT (R364): Port current exceeds ILIM_EFF and limiting begins. -/
  | currentLimit (k : PortId) (iMa : Int)
  /-- LIMITING_END (R364): Current stays below 95 % of ILIM_EFF for 1 ms and limiting ends. -/
  | limitingEnd (k : PortId)
  /-- FAST_TRIP (R365): The fast-trip comparator crosses its threshold. -/
  | fastTrip (k : PortId) (iMa : Int) (vbusMv : Nat)
  /-- OVER_VOLTAGE (R366): VBUS_SNS above 1.1 × V_c + 0.5 V for 20 µs is a model trip of the OV kind. -/
  | overVoltage (k : PortId) (vbusMv : Nat)
  /-- VBUS_LOW (R366): VBUS_SNS below 0.9 × V_c for 1 ms sets VBUS_LOW. -/
  | vbusLow (k : PortId) (vbusMv : Nat)
  /-- THERMAL_MODEL_STEP (R370): The 10 µs FET thermal-model update of each path. -/
  | thermalModelStep (k : PortId) (m : StileSample)
  /-- COOLDOWN_END (R368): COOL_MS has passed and the model has cooled, so the cooldown ends. -/
  | cooldownEnd (k : PortId)
  /-- BOARD_TEMP_UPDATE (R371): The Carcass forwards T_B to every Stile every 1 ms. -/
  | boardTempUpdate
  /-- VGD_UNDERVOLTAGE (R53): VGD falls below 9.6 V and the Stile clamps every gate. -/
  | vgdUndervoltage (s : StileId)
  /-- VGD_RECOVER (R53): VGD rises above 10.2 V and the Stile's ports may be granted again. -/
  | vgdRecover (s : StileId)
  /-- VGD_LOSS (R53): VGD falls below 6.0 V and the Stile loses its state. -/
  | vgdLoss (s : StileId)
  /-- VGD_PRESENT (R371): VGD rises to 6.0 V and the Stile's models start from zero. -/
  | vgdPresent (s : StileId)
  /-- SPLINE_FLIT_ERROR (R17): A flit fails its CRC or its acknowledgement is missing and it is retransmitted. -/
  | splineFlitError (s : StileId) (place : BitVec 3) (seen : Option (List Byte)) (again : Bool)
  /-- SPLINE_LINK_DOWN (R17): 16 consecutive failed retransmissions declare the link down. -/
  | splineLinkDown (s : StileId)
  /-- SPLINE_HOLDOVER_EXPIRY (R18): The link has been down 100 ms and the Stile shuts its ports. -/
  | splineHoldoverExpiry (s : StileId)
  /-- SPLINE_LINK_UP (R464): The link trains and the Carcass resynchronises the Stile's state and events. -/
  | splineLinkUp (s : StileId)
  /-- STILE_RESET_LINE (R51): The Stile's reset line is asserted and its ports turn off. -/
  | stileResetLine (s : StileId)
  /-- PLANE_VISIT (R392): Plane checks and repairs one Ledger line. -/
  | planeVisit
  /-- CAB_KEY_DEBOUNCED (R433): CAB_KEY_N reads low after its debounce and the presence window opens or restarts. -/
  | cabKeyDebounced
  /-- PRESENCE_WINDOW_EXPIRY (R433): The presence window closes 120 s after it opened. -/
  | presenceWindowExpiry
  /-- SEAL_BIT (R482): Each millisecond a new seal bit is driven and the returned bit compared. -/
  | sealBit (r : SealReturn)
  /-- ADC_SAMPLE (R416): The Nightsafe ADC converts the next enabled input and filters it. -/
  | adcSample (x : BitVec 12)
  /-- WAKE_SOURCE (R412): An enabled wake source occurs in S2 or S3 and RAIL_EN rises. -/
  | wakeSource (l : List (WakeCode × Byte))
  /-- SLEEP_DECISION (R409): At the first tick after a SLEEP request Nightsafe aborts or commits the entry. -/
  | sleepDecision (pending : BitVec 8) (detail : Byte)
  /-- DRAIN_END (R408): No tag or job of the draining work remains. -/
  | drainEnd
  /-- DRAIN_TIMEOUT (R408): DRAIN expires and remaining tags complete EPOWERED_DOWN. -/
  | drainTimeout
  /-- LATCHED_WAKE (R410): A wake latched during entry fires once RAIL_EN has been low 10 ms. -/
  | latchedWake
  /-- XT32_SWITCH (R71): The 32.768 kHz crystal has run stably for 1 s and Nightsafe switches to it. -/
  | xt32Switch
  /-- VSVC_RISE (R71): VSVC enters its range and Nightsafe starts and raises RAIL_EN. -/
  | vsvcRise (mgmtAddr : BitVec 3) (vbusDet : BitVec 4) (keyLow : Bool)
  /-- VSVC_LOSS (R58): VSVC falls below 2.7 V, a full power-on reset. -/
  | vsvcLoss
  /-- POR_N_LOW (R94): POR_N goes low and the device resets. -/
  | porNLow
  /-- RESET_N_LOW (R93): RESET_N is held low for at least 10 µs and the device resets. -/
  | resetNLow (bootSlot cascadeEn : Bool)
  /-- SUPPLY_MONITOR_RESET (R57): A Carcass supply leaves its range and the monitor resets the Carcass. -/
  | supplyMonitorReset
  /-- POWER_GOOD (R72): POR_N rises and the start-up sequence begins. -/
  | powerGood (bootSlot cascadeEn : Bool)
  /-- PLL_LOCK_TIMEOUT (R75): The oscillator or a PLL is not stable within its bound. -/
  | pllLockTimeout (w : PllWhich)
  /-- LEDGER_SELF_TEST_END (R76): The Ledger self-test ends, having made Inlay entries or halted. -/
  | ledgerSelfTestEnd (badLines badSpares : List Nat)
  /-- IMAGE_CHECK_END (R81): The boot ROM accepts an image or rejects both slots. -/
  | imageCheckEnd (f : FlashView) (badLines badSpares : List Nat)
  /-- CLOCK_LOSS (R467): The 25 MHz reference or system PLL is lost and the Carcass resets. -/
  | clockLoss
  /-- TELLER_WATCHDOG_EXPIRY (R469): A Teller core fails to report for 8 ms, or traps, and Teller restarts. -/
  | tellerWatchdogExpiry
  /-- TELLER_RESTART_END (R469): A Teller restart ends and held commands are dispatched. -/
  | tellerRestartEnd
  /-- SWAP_ROLLBACK (R476): A swap not ready by 12 ms, or faulting first, rolls back to the old image. -/
  | swapRollback
  /-- CAB_KEY_RELEASE (R433): CAB_KEY_N reads high after its debounce, which re-arms the opening of a new presence window. -/
  | cabKeyRelease
  /-- SS_LINK_TRAINED (R105): The slot's SuperSpeed link reaches U0 and the Teller function appears on SuperSpeedPlus hub
  port 1. -/
  | ssLinkTrained (h : SlotId) (gen2 : Bool)
  /-- STANDARD_REQUEST (R104): A host's standard request on endpoint 0 of a slot function sets its address, configuration or
  remote-wake enable. -/
  | standardRequest (h : SlotId) (f : SlotFunction) (r : StdRequest)
  /-- SCL_LOW_TIMEOUT (R453): SCL stays low for 25–35 ms and the MGMT target releases the bus and ends the transaction. -/
  | sclLowTimeout (x : MgmtXact)
  /-- TT_COMPLETE_SPLIT (R138): A complete-split reaches a port's TT and is answered with data, NYET or ERR. -/
  | ttCompleteSplit (k : PortId) (periodic : Bool) (key : BitVec 16) (r : TtResult)
  /-- CLOCKS_STABLE (R72): The oscillator and the PLLs lock, ending start-up step 2: Tally starts at 0 and MGMT begins to
  acknowledge. -/
  | clocksStable (ssLocked : BitVec 4)
  /-- SWAP_READY (R475): The new image adopts the handover record, posts FW_SWAPPED, releases the hold and completes FW_SWAP. -/
  | swapReady
  /-- NIGHTSAFE_CYCLE (R403): One 32.768 kHz Nightsafe tick: RS copies, posted writes, RTC counting and Nightsafe parity
  checks act. -/
  | nightsafeCycle
  /-- USB2_HUB_SUSPEND (R120): The slot's USB 2.0 hub becomes suspended and its relayed ports follow it, while the Teller
  path is on SuperSpeed. -/
  | usb2HubSuspend (h : SlotId)
  /-- USB2_HUB_RESUME (R120): The slot's USB 2.0 hub leaves suspend and its relayed ports resume, while the slot may stay
  suspended. -/
  | usb2HubResume (h : SlotId)
  /-- UPSTREAM_LINK_U1_U2 (R100): The upstream SuperSpeed link enters or leaves U1 or U2. -/
  | upstreamLinkU1U2 (h : SlotId) (st : BitVec 2) (own : Bool)
  /-- RAIL_5V_IN_RANGE (R377): VRAIL_L_SNS returns within ±5 % of 5 V and waiting queued requests become ready for a grant. -/
  | rail5vInRange (s : StileId) (mv : Nat)
  deriving DecidableEq, Repr

end Sys2Proof
end

