-- ==== Sys2Proof/Decode.lean ====
section
/-! DEFINITION. The table of commands gives no row any bits: the C2428 is a block that takes commands, not words, so that no word
spells one. -/
namespace Sys2Proof

/-- The command that a word spells by the table's bits: none, since no row of the table has bits. [DESIGN CHOICE, log 1] -/
def decodeTableWord (_nbits _w : Nat) : Option Instr := none

end Sys2Proof
end

