-- ==== Sys2Proof/Config.lean ====
section
/-! DEFINITION. What an implementation fixes and the spec does not give, and the free values: opaque constants with no
body, so that nothing in Lean can evaluate one. A free value is applied to the state's free-value counter `fv`, or to the
operands it depends on. Each is named in the assumption log. -/
namespace Sys2Proof.Config

/-- A free natural number. -/
opaque freeNat : Nat → Nat

/-- A free bit. -/
opaque freeBool : Nat → Bool

/-- A free 64-bit value. -/
opaque freeDword : Nat → Dword

/-- What the boot checks of R81 find in an image slot that FW_STAGE has written: a function of the pieces written. The
spec gives neither the image's byte layout nor its signature's place. -/
opaque stagedImage : List (Nat × List Byte) → ImageInfo

/-- The payload bytes of an image (R80): the spec gives an image no content. -/
opaque payloadByte : Nat → Nat → Byte

/-- Bytes of Ledger regions whose layout the spec does not give (system regions of R383), at a free-value count. -/
opaque systemByte : Nat → Nat → Byte

/-- Bytes of a RECOMPUTE line as its producer makes them in a microframe (R388): by the microframe, the line and the place in
it. -/
opaque recomputedByte : Nat → Nat → Nat → Byte

/-- Descriptor bytes that the spec does not give: by product number, descriptor and offset. -/
opaque descriptorByte : Nat → Nat → Nat → Byte

/-- The string index of the serial number, less 1 (R98). -/
opaque serialIndex : Fin 255

/-- The Container ID's bytes, which derive from the serial number (R98) in a way the spec does not give. -/
opaque containerByte : Nat → Nat → Byte

/-- RATE as the loop of LOCKED and SLEW sets it (R244, R246): by the free-value counter, the bandwidth in Hz and what divides it,
the phase error and the RATE before. The spec gives the loop's order, not its terms. -/
opaque loopRate : Nat → Nat → Nat → Int → Int → Int

/-- The initial value of the CRC-16 of a Spline flit (R16), which the spec does not give. -/
opaque flitCrcInit : Nat

end Sys2Proof.Config
end

