-- ==== Sys2Proof/Machine/State.lean ====
section
/-! DEFINITION. The state of the C2428: every register, queue, buffer, counter, mode and pin the spec gives the part, as plain
data. A field's default value is its value in `State.reset`, the state right after VSVC power-on (R58). Each field's
docstring names the rule that gives it; where the spec gives no reset value the docstring says DESIGN CHOICE and names
the log entry. Fields marked MODEL are the model's own. -/
namespace Sys2Proof.Machine

/-- Status codes of completions (R180). -/
inductive Status where
  | ok | okCorrected | okUnwritten | eOpcode | eLen | eAlign | eWidth | eRange | eTag | eDeed | ePresence | eLocked | eKey
  | eBusy | eNotReady | ePoweredDown | eBudget | eStall | eNakTimeout | eBabble | eXact | eDetached | ePortReset | eData
  | eHalted | eAborted | eCancelled
  deriving DecidableEq, Repr

/-- A completion record with its result data (R164). -/
structure Completion where
  opcode : Byte
  tag : BitVec 16
  status : Status
  entry : Bool
  lines : Nat
  result0 : Word
  data : List Byte
  deriving DecidableEq, Repr

/-- An event record with its payload (R165); EXT is set exactly when `ext` holds. -/
structure Event where
  code : Byte
  seq : BitVec 16
  port : Byte
  aux : BitVec 16
  data : Word
  mf : Word
  ext : Bool
  payload : List Byte
  deriving DecidableEq, Repr

/-- A record on endpoint 0x81 (R162). -/
inductive Record where
  | completion (c : Completion)
  | event (e : Event)
  deriving DecidableEq, Repr

/-- The resource a command acts on (R174, table of keys). -/
inductive Key where
  | none | registers | port (k : Nat) | endpoint (k ep : Nat) (isIn : Bool) | orders | mint | clearance | tally | pd (k : Nat)
  | power (k : Nat) | escrow | ledger | purse (n : Nat) | powerState | firmware | vault
  deriving DecidableEq, Repr

/-- Progress of a proxied transfer (R185): what it asks for and what it has moved. `tries` counts the consecutive failed
tries of its transaction, `failed` the isochronous microframes with a failed transaction. -/
structure Xfer where
  op : Byte
  port : PortId
  ep : BitVec 4
  isIn : Bool
  length : Nat
  setup : List Byte
  outData : List Byte
  got : List Byte
  moved : Nat
  tries : Nat
  size : Nat
  count : Nat
  done : Nat
  failed : Nat
  lens : List Nat
  deriving DecidableEq, Repr

/-- What a dispatched command waits for before it completes. -/
inductive Wait where
  | none
  | portOn (k : PortId)
  | portOff (k : PortId)
  | portReset (k : PortId)
  | portCycle (k : PortId)
  | portResume (k : PortId)
  | xfer (x : Xfer)
  | mintStop (groups : BitVec 16)
  | soDelete (n : OrderId)
  | pdTx (k : PortId)
  | drain
  | domainOn (d : Nat)
  | sleep
  | swap
  deriving DecidableEq, Repr

/-- The points of a command (file 06, "Dispatch, keys, fences and priority"). -/
inductive CmdPoint where
  | waiting | dispatched | effected
  deriving DecidableEq, Repr

/-- One command in a Till: entered, and not yet completed (R169, R172, R174). `entered` is the microframe clock at entry;
`credit` is false once a bus reset has restored the credits (R172). -/
structure TillEntry where
  op : Byte
  args : CmdArgs
  key : Key
  lines : Nat
  entered : Nat
  credit : Bool
  point : CmdPoint
  wait : Wait
  /-- R408: it was in flight when the drain that runs began -/
  early : Bool := false
  deriving DecidableEq, Repr

/-- What a function's endpoint 0 answered last: nothing yet, success, STALL, or data. -/
inductive CtlReply where
  | none | ack | stall | data (bytes : List Byte)
  deriving DecidableEq, Repr

/-- One element of a Statement layout with its fixed data length d (R213). -/
structure LayoutElem where
  ty : Byte
  index : Nat
  mask : Word
  d : Nat
  deriving DecidableEq, Repr

/-- A Statement queued on endpoint 0x82 (R215 to R220); the header is made at delivery from these fields. -/
structure Statement where
  n : Word
  sofTime : Dword
  gen : BitVec 16
  count : Nat
  truncated : Bool
  newLayout : Bool
  body : List Byte
  deriving DecidableEq, Repr

/-- Change bits of one hub port as one slot's USB 2.0 hub shows them (R101, R114, R129). [DEDUCED, log 64] -/
structure HubChange where
  connection : Bool := false
  enable : Bool := false
  suspend : Bool := false
  overCurrent : Bool := false
  reset : Bool := false
  deriving DecidableEq, Repr

/-- A host slot (R96 to R108, R120 to R127, R159 to R178, R213 to R221). -/
structure Slot where
  /-- R107: HST_STATUS.VBUS, level of Hn_VBUS_DET [DESIGN CHOICE, log 5] -/
  vbus : Bool := false
  /-- R86: the slot presents its termination and pull-up -/
  presented : Bool := false
  /-- R105, R106: SuperSpeed termination is presented, so that the link may train -/
  ssTerm : Bool := false
  /-- R45, R351: the CC pin on which the host's Rp is seen: 1 CC1, 2 CC2, 0 none -/
  orient : BitVec 2 := 0
  /-- R107: SS_SPEED -/
  ssSpeed : BitVec 2 := 0
  /-- R107: SS_LINK -/
  ssLink : BitVec 2 := 0
  /-- R75: the slot's SuperSpeed PLL is locked [DESIGN CHOICE, log 159] -/
  ssPll : Bool := true
  /-- R107: HUB2_SUSP -/
  hub2Susp : Bool := false
  /-- R107: HS, the USB 2.0 hub runs at high speed -/
  hs : Bool := false
  /-- R107: TELLER_PATH -/
  tellerPath : BitVec 2 := 0
  /-- R107: TELLER_CFG -/
  tellerCfg : Bool := false
  /-- R107: SUSPENDED, the slot is suspended (R120) -/
  suspended : Bool := false
  /-- R107: remote wake enabled on the USB 2.0 hub (half of WAKE_ARMED) -/
  wakeHub2 : Bool := false
  /-- R107: remote wake enabled on the Teller function (half of WAKE_ARMED) -/
  wakeTeller : Bool := false
  /-- R123: the slot signals remote wake upstream -/
  wakeSignal : Bool := false
  /-- R123: the USB 2.0 hub drives resume upstream for a relayed port -/
  hubWake : Bool := false
  /-- R108: TELLER_ADDR -/
  tellerAddr : BitVec 7 := 0
  /-- R108: HUB2_ADDR -/
  hub2Addr : BitVec 7 := 0
  /-- R108: SSHUB_ADDR -/
  ssHubAddr : BitVec 7 := 0
  /-- R104: configuration value of the SuperSpeedPlus hub -/
  ssHubCfg : Bool := false
  /-- R104: configuration value of the USB 2.0 hub -/
  hub2Cfg : Bool := false
  /-- R100: the host has enabled U1, and U2, on the SuperSpeedPlus hub -/
  u1En : Bool := false
  /-- As the field before it. -/
  u2En : Bool := false
  /-- R101: change bits of hub ports 1 to 24 -/
  hub : Vector HubChange 24 := Vector.replicate 24 {}
  /-- R101: change of hub port 25's connection (the Teller function's port, R106) -/
  port25Change : Bool := false
  /-- R102, R139: last answer on endpoint 0 of the slot's hub [DESIGN CHOICE, log 159] -/
  ctl : CtlReply := .none
  /-- R169, R174: commands entered and not completed, in Till order -/
  till : List TillEntry := []
  /-- R172: entry credits free -/
  entryCredits : Nat := 512
  /-- R172: line credits free -/
  lineCredits : Nat := 8192
  /-- R174, R31: keys of completed commands whose effect point is the next snapshot -/
  keyHold : List Key := []
  /-- R161, R168: records posted on 0x81 and not delivered, oldest first -/
  records : List Record := []
  /-- R165: SEQ of the next event -/
  seq : BitVec 16 := 0
  /-- R161: bytes of the last transfer on 0x81 [DESIGN CHOICE, log 159] -/
  lastIn81 : List Byte := []
  /-- R219: bytes of the last transfer on 0x82 [DESIGN CHOICE, log 159] -/
  lastIn82 : List Byte := []
  /-- R213: the layout in force -/
  layout : Option (List LayoutElem) := none
  /-- R214: a layout accepted since the last snapshot -/
  nextLayout : Option (List LayoutElem) := none
  /-- R214: layout generation -/
  layoutGen : BitVec 16 := 0
  /-- R215: the next Statement is the first with this generation -/
  newLayout : Bool := false
  /-- R221: Statements are on -/
  subscribed : Bool := false
  /-- R221: subscription asked for from the next snapshot -/
  nextSubscribed : Bool := false
  /-- R121, R122, R221: a Statement is assembled for the slot in the microframe that runs -/
  stmtOn : Bool := false
  /-- R219: Statements queued, oldest first, at most two -/
  statements : List Statement := []
  /-- R215: DROPPED -/
  dropped : Word := 0
  /-- R215: DROP_BEFORE is due on the next Statement delivered -/
  dropBefore : Bool := false
  /-- R219: microframe clock of the last AUX 0x2 event -/
  lastDropEvent : Option Nat := none
  /-- R220: the last Statement was truncated -/
  truncating : Bool := false
  /-- R218: indices of the elements without access at the last snapshot -/
  noAccess : List Nat := []
  /-- R251: TLY_USOF_TS -/
  usofTs : Dword := 0
  /-- R425, R430: the slot's unlock state -/
  unlocked : Bool := false
  /-- R407: the SLOT domain is on -/
  domainOn : Bool := true
  /-- R383: MODEL: Teller was configured here since the Carcass reset, so that the slot's Till, results and Statement buffers may
  hold lines -/
  used : Bool := false
  /-- R410: records at the head of the queue that a committed entry waits for -/
  owed : Nat := 0
  deriving DecidableEq, Repr

/-- The Deed record of a port (R110). -/
structure Deed where
  /-- R110: OWNER, none when OWNED = 0 -/
  owner : Option SlotId := none
  /-- R110: MODE -/
  mode : PortMode := .off
  /-- R110: VIEWERS as stored; the owner's own bit reads 0 -/
  viewers : BitVec 4 := 0
  /-- R110: GEN -/
  gen : Byte := 0
  deriving DecidableEq, Repr

/-- Port states (R131). -/
inductive PortState where
  | off | waitAttach | waitPower | powered | connectDebounce | resetting | enumerating | addressed | active | suspended
  | resuming | refused | disabled | test | cooldown
  deriving DecidableEq, Repr

/-- Identity of a proxied device (R145). -/
structure Identity where
  vid : BitVec 16
  pid : BitVec 16
  bcd : BitVec 16
  serial : List Byte
  cfgCrcs : List Word
  deriving DecidableEq, Repr

/-- The request of proxy enumeration that is on the bus (R140, R145). -/
inductive EnumStep where
  | idle | device8 | setAddress | device18 | config9 (c : Nat) | configAll (c : Nat) (len : Nat) | string0 | serial
  | replay (rest : List (List Byte))
  deriving DecidableEq, Repr

/-- A periodic slot of a TT: its key and its pool bytes (R137). -/
structure TtPeriodic where
  key : BitVec 16
  bytes : Nat
  /-- R137: an isochronous OUT, which has no complete-split -/
  isoOut : Bool
  /-- R137: microframe clock of its first start-split -/
  born : Nat
  deriving DecidableEq, Repr

/-- What a split transaction was answered last (R138). [DEDUCED, log 68] -/
inductive TtReply where
  | none | ack | nak | nyet | err | noAnswer | data (bytes : List Byte)
  deriving DecidableEq, Repr

/-- The Carcass side of a port (R131 to R158). -/
structure Port where
  deed : Deed := {}
  /-- R131: STATE -/
  state : PortState := .off
  /-- R131, R151: the state a resume returns to -/
  prev : PortState := .off
  /-- R133: REFUSE -/
  refuse : BitVec 4 := 0
  /-- R133: IDENT_CHANGED -/
  identChanged : Bool := false
  /-- R133: SPEED -/
  speed : BitVec 2 := 0
  /-- R133, R154: test mode -/
  test : Option TestMode := none
  /-- R133: WAKE_CAP -/
  wakeCap : Bool := false
  /-- R133: CONNECTED -/
  connected : Bool := false
  /-- R133: PRT_DEV.PID -/
  pid : BitVec 16 := 0
  /-- R133: PRT_DEV.VID -/
  vid : BitVec 16 := 0
  /-- R133: PRT_ERRCNT.BABBLE -/
  errBabble : Byte := 0
  /-- R133: PRT_ERRCNT.XACT -/
  errXact : Byte := 0
  /-- R133: PRT_ERRCNT.TT_OVF -/
  errTtOvf : Byte := 0
  /-- R133: PRT_ERRCNT.SOF_CLAMP -/
  errSofClamp : Byte := 0
  /-- R149: PRT_SOF_TS -/
  sofTs : Dword := 0
  /-- R147: frame number of that SOF -/
  sofFrame : BitVec 11 := 0
  /-- R146: an SOF has been launched since the last reset or resume -/
  sofRunning : Bool := false
  /-- R155: microframe clock of the last TT overflow event -/
  lastTtEvent : Option Nat := none
  /-- R155: microframe clock of the last SOF clamp event -/
  lastSofEvent : Option Nat := none
  /-- R102: what Pnn_LED_N shows -/
  led : LedMode := .off
  /-- R121: suspended because the owner slot is -/
  slotSuspend : Bool := false
  /-- R120: the relayed port follows a suspended hub -/
  hubSuspend : Bool := false
  /-- R155: endpoints halted by STALL (bit 7 = IN) -/
  haltedEps : List Byte := []
  /-- R140: enumeration attempt -/
  attempt : Nat := 0
  /-- R140: request on the bus -/
  step : EnumStep := .idle
  /-- R140: bMaxPacketSize0 learnt [DESIGN CHOICE, log 159] -/
  mps0 : Byte := 8
  /-- R140: device descriptor read -/
  devDesc : List Byte := []
  /-- R140: configuration descriptors read, in order -/
  cfgDescs : List (List Byte) := []
  /-- R140: first LANGID of string descriptor 0 -/
  langId : BitVec 16 := 0
  /-- R145: identity of the device enumerated last -/
  identity : Option Identity := none
  /-- R145: recorded SET_CONFIGURATION and SET_INTERFACE packets, in order -/
  recorded : List (List Byte) := []
  /-- R443: periodic slots of the TT in use -/
  ttPeriodic : List TtPeriodic := []
  /-- R443: non-periodic buffers of the TT in use, by the key of their transaction -/
  ttBuffers : List (BitVec 16) := []
  /-- R150: the device's DEVICE_REMOTE_WAKEUP feature, as the port host engine set it -/
  wakeSet : Bool := false
  /-- R31, R217: PRT_STATE at the last snapshot -/
  snapState : Word := 0
  /-- R31, R216: the port was ACTIVE in PROXY mode at the last snapshot -/
  snapActive : Bool := false
  /-- R156: microframe clock of the last detach -/
  detachedAt : Option Nat := none
  /-- R156: tags of the port that a reset or babble ended, with the microframe clock -/
  endedTags : List (SlotId × BitVec 16 × Nat) := []
  /-- R138: last answer to a split [DESIGN CHOICE, log 159] -/
  ttReply : TtReply := .none
  deriving DecidableEq, Repr

/-- CC states (R330). -/
inductive CcState where
  | disabled | seatWait | unattachedSrc | attachWaitSrc | attachedSrc | unattachedSnk | attachWaitSnk | trySrc
  | tryWaitSnk | sourcePartner | accessory
  deriving DecidableEq, Repr

/-- The CC record of a port (R327, defaults of R329). Timer fields hold the value in force, never 0. -/
structure CcRec where
  /-- R327: MODE, 1 = DRP with Try.SRC -/
  drp : Bool := false
  /-- R327: VCONN_EN -/
  vconnEn : Bool := true
  /-- R327: WAKE -/
  wake : Bool := false
  /-- R327: RP -/
  rp : Rp := .ua80
  /-- R327: ATTACH_DB in ms -/
  attachDb : Nat := 150
  /-- R327: DETACH_DB in ms -/
  detachDb : Nat := 15
  /-- R327: DRP_PERIOD in ms -/
  drpPeriod : Nat := 75
  /-- R327: DRP_DUTY in per cent -/
  drpDuty : Nat := 50
  /-- R327: BACKOFF in s -/
  backoff : Nat := 2
  deriving DecidableEq, Repr

/-- The gate record of a port (R355), with its defaults. -/
structure GateRec where
  /-- R355: ILIM_CAP, mA -/
  ilimCap : Nat := 6000
  /-- R355: LIM_PCT -/
  limPct : Nat := 110
  /-- R355: IRAMP, mA -/
  iramp : Nat := 1000
  /-- R355: RAMP_SLEW, 0.1 V/ms -/
  rampSlew : Nat := 10
  /-- R355: XSLEW, mV/µs -/
  xslew : Nat := 30
  /-- R355: IG_MAX, µA -/
  igMax : Nat := 100
  /-- R355: RSHUNT, µΩ -/
  rshunt : Nat := 5000
  /-- R355: COOL_MS -/
  coolMs : Nat := 2000
  deriving DecidableEq, Repr

/-- The model record of a port (R369), with its defaults. -/
structure ModelRec where
  /-- R369: R1, 0.001 K/W -/
  r1 : Nat := 500
  /-- R369: R2 -/
  r2 : Nat := 2000
  /-- R369: R3 -/
  r3 : Nat := 20000
  /-- R369: TRIP, 0.1 °C -/
  trip : Nat := 1500
  /-- R369: TAU1, µs -/
  tau1 : Nat := 100
  /-- R369: TAU2 -/
  tau2 : Nat := 10000
  /-- R369: TAU3 -/
  tau3 : Nat := 2000000
  /-- R369: RDS_HOT, µΩ -/
  rdsHot : Nat := 15000
  /-- R369: COOL_DELTA, K -/
  coolDelta : Nat := 20
  /-- R369: WARN_DELTA, K -/
  warnDelta : Nat := 15
  deriving DecidableEq, Repr

/-- The PD record of a port (R339). -/
structure PdRec where
  pdo1 : Word
  pdoH : Word
  hkind : Nat
  respMs : Nat
  deriving DecidableEq, Repr

/-- A contract or an accepted request: current and maximum current in 10 mA, voltage in 50 mV, object position, EPR (R341,
R342, R363). -/
structure Contract where
  cur : Nat
  maxCur : Nat
  volt : Nat
  pos : Nat
  epr : Bool
  deriving DecidableEq, Repr

/-- An open reply window: the class (0 control, 1 data, 2 extended) and type of the message, whether it is a structured
VDM request with its header, and whether it was a valid request (R336, R337). -/
structure ReplyWindow where
  cls : Nat
  ty : Nat
  vdm : Option Word
  request : Option Contract
  deriving DecidableEq, Repr

/-- Why the Stile is sending a message. -/
inductive TxOrigin where
  | owner | auto | psRdyContract | psRdyVconn | softAccept | keepAliveAck | chunkRequest
  deriving DecidableEq, Repr

/-- A PD message of the Stile: its bytes, SOP type, retries left, and, of an extended message, the number of the chunk that
is sent (R333, R335, R340). -/
structure PdTx where
  bytes : List Byte
  sop : BitVec 2
  retries : Nat
  chunk : Nat := 0
  origin : TxOrigin
  /-- The class and type of the message it answers, where it is a reply (R336, R338). -/
  replyTo : Option (Nat × Nat)
  /-- A deed change came before the outcome: it goes to the new owner as an event (R114). -/
  orphan : Bool
  deriving DecidableEq, Repr

/-- Source Hard Reset recovery (R344). -/
inductive HrPhase where
  | none | waitPathsOff | waitVsafe0 | waitRecover | waitPower
  deriving DecidableEq, Repr

/-- VCONN swap in progress (R346). -/
inductive VconnSwap where
  | none | asked | waitPsRdy | sendPsRdy
  deriving DecidableEq, Repr

/-- BIST mode (R333). -/
inductive BistMode where
  | none | carrier | testData
  deriving DecidableEq, Repr

/-- The CC and PD half of a port in its Stile (R326 to R350). -/
structure Pd where
  ccRec : CcRec := {}
  /-- R350: STL_CC_STATUS.STATE -/
  cc : CcState := .disabled
  /-- R330: terminations seen on CC1 and CC2 [DESIGN CHOICE, log 5] -/
  term1 : CcTerm := .openCc
  /-- As the field before it. [DESIGN CHOICE, log 5] -/
  term2 : CcTerm := .openCc
  /-- R350: ORIENT -/
  orient : BitVec 2 := 0
  /-- R350: PARTNER -/
  partner : BitVec 2 := 0
  /-- R350: RP_NOW -/
  rpNow : BitVec 2 := 0
  /-- R350: VCONN_ON -/
  vconnOn : Bool := false
  /-- R350: VCONN_PIN -/
  vconnPin : Bool := false
  /-- R350: VCONN_FAULT -/
  vconnFault : Bool := false
  /-- R345: the switch has tripped, and stays open until the next attach or a VCONN swap that returns VCONN -/
  vconnTripped : Bool := false
  /-- R346: the port gave VCONN away by a swap -/
  vconnGiven : Bool := false
  /-- R344: VCONN was on when the Hard Reset came -/
  vconnWasOn : Bool := false
  /-- R339: PD record; none = PD_CFG never applied -/
  pdRec : Option PdRec := none
  /-- R337: PD_CFG applied since attach -/
  cfgSinceAttach : Bool := false
  /-- R350: CONTRACT, CUR, VOLT, OBJPOS -/
  contract : Option Contract := none
  /-- R342: an Accept has been acknowledged and its PS_RDY is due (TRANSITION) -/
  accepted : Option Contract := none
  /-- R340: contract whose Accept is being sent -/
  accepting : Option Contract := none
  /-- R350: EPR_MODE -/
  eprMode : Bool := false
  /-- R350: SPEC_REV -/
  specRev : BitVec 2 := 0
  /-- R350: REPLY_DUE -/
  reply : Option ReplyWindow := none
  /-- R338: WAIT_TIMER runs: the message type answered, and whether the port sent the Wait -/
  waitTimer : Option (Nat × Bool) := none
  /-- R350: HR_RECOVERY -/
  hr : HrPhase := .none
  /-- R333: MessageID counters sent, per SOP type -/
  txId : Vector (BitVec 3) 3 := Vector.replicate 3 0
  /-- R333: last MessageID received, per SOP type -/
  rxId : Vector (Option (BitVec 3)) 3 := Vector.replicate 3 none
  /-- R333: the message on the wire, whose GoodCRC is due -/
  tx : Option PdTx := none
  /-- R335: an initiation that waits tSinkTx and has not started -/
  held : Option PdTx := none
  /-- R333: an extended message of which a chunk has been acknowledged, waiting for the Chunk Request of the next -/
  chunkOut : Option PdTx := none
  /-- R342, R346: a PS_RDY that is due as soon as the wire is free -/
  psDue : Option TxOrigin := none
  /-- R333: chunks of a partly reassembled extended message -/
  chunks : List Byte := []
  /-- R335: Rp shows SinkTxNG for an open exchange -/
  sinkTxNg : Bool := false
  /-- R346: VCONN swap -/
  vconnSwap : VconnSwap := .none
  /-- R333: BIST -/
  bist : BistMode := .none
  /-- R333: message last acknowledged with GoodCRC (SOP type) -/
  goodCrcSent : Option (BitVec 2) := none
  /-- R350: STL_PD_CNT.HARD_RESETS -/
  hardResets : Byte := 0
  /-- R350: STL_PD_CNT.NO_GOODCRC -/
  noGoodCrc : Byte := 0
  /-- R350: STL_PD_CNT.RX_CRC -/
  rxCrc : Byte := 0
  /-- R350: STL_PD_CNT.AUTO -/
  auto : Byte := 0
  /-- R337: last message put on the wire by the Stile (sent bytes with SOP type) [DESIGN CHOICE, log 159] -/
  wire : Option (BitVec 2 × List Byte) := none
  deriving DecidableEq, Repr

/-- Phase of a ramp from 0 V (R357). -/
inductive Ramp where
  | none | precharge | slew | enhance
  deriving DecidableEq, Repr

/-- Voltage transition (R359, R360). -/
inductive Transition where
  | none | up | down
  deriving DecidableEq, Repr

/-- The rises of one path's Foster network in 1/1024 K (R370). -/
structure Foster where
  d1 : Nat := 0
  d2 : Nat := 0
  d3 : Nat := 0
  deriving DecidableEq, Repr

/-- The power half of a port in its Stile, and its Escrow entries (R353 to R382). -/
structure Pwr where
  gateRec : GateRec := {}
  modelRec : ModelRec := {}
  /-- R380: SEAT_A_LOW [DESIGN CHOICE, log 5] -/
  seatA : Bool := false
  /-- R380: SEAT_B_LOW [DESIGN CHOICE, log 5] -/
  seatB : Bool := false
  /-- R380: SEAT_OK -/
  seatOk : Bool := false
  /-- R380: GATE_L -/
  gateL : Bool := false
  /-- R380: GATE_H -/
  gateH : Bool := false
  /-- R380: RAMPING, and the ramp's phase -/
  ramp : Ramp := .none
  /-- R380: TRANSITION -/
  trans : Transition := .none
  /-- R380: DISCH_ON -/
  disch : Bool := false
  /-- R361: switched off and not yet below 0.8 V -/
  offPending : Bool := false
  /-- R133: VBUS_ON, a path is on and power good was reached -/
  vbusOn : Bool := false
  /-- R361, R377: last VBUS_SNS measurement in mV [DESIGN CHOICE, log 5] -/
  vbusMv : Nat := 0
  /-- R380: LIMITING -/
  limiting : Bool := false
  /-- R380: VBUS_LOW -/
  vbusLow : Bool := false
  /-- R380: COOLDOWN -/
  cooling : Bool := false
  /-- R380: STL_COOL.LEFT, kept in 10 µs steps -/
  coolLeft : Nat := 0
  /-- R133: OVERCURRENT -/
  overcurrent : Bool := false
  /-- R380: LAST_OFF -/
  lastOff : BitVec 4 := 0
  /-- R380: VBUS_MV of STL_PWR_MEAS -/
  measMv : BitVec 16 := 0
  /-- R380: IPORT_MA of STL_PWR_MEAS -/
  measMa : BitVec 16 := 0
  /-- R20: sums of the current microframe's samples (mV, mA, number) -/
  sumMv : Nat := 0
  sumMa : Rat := 0
  samples : Nat := 0
  /-- R370: model of the 5 V path -/
  fosterL : Foster := {}
  /-- R370: model of the high path -/
  fosterH : Foster := {}
  /-- R370: the 5 V path's model stands at or above TRIP − WARN_DELTA -/
  warnL : Bool := false
  /-- R370: as `warnL` for the high path -/
  warnH : Bool := false
  /-- R370: a model stands at or above TRIP -/
  hot : Bool := false
  /-- R380: STL_PWR_CNT.FAST -/
  cntFast : Byte := 0
  /-- R380: STL_PWR_CNT.MODEL -/
  cntModel : Byte := 0
  /-- R380: STL_PWR_CNT.LIMIT -/
  cntLimit : Byte := 0
  /-- R380: STL_PWR_CNT.SEAT_LOSS -/
  cntSeat : Byte := 0
  /-- R377: power is wanted -/
  want : Bool := false
  /-- R381: ESC_PORT.PRIORITY -/
  priority : BitVec 3 := 0
  /-- R377: in the Escrow queue, with its order of entry -/
  queued : Option Nat := none
  /-- R381: BUDGET_WAIT -/
  budgetWait : Bool := false
  /-- R381: SLOT, a ramp slot is held -/
  slot : Bool := false
  /-- R375: Rp or 5 V contract charge held, mW -/
  chgL : Nat := 0
  /-- R375: 5 V charge that returns when a running transition ends, mW -/
  oldL : Nat := 0
  /-- R375: high contract charge held, mW -/
  chgH : Nat := 0
  /-- R375: high charge that returns when a running transition ends, mW -/
  oldH : Nat := 0
  /-- R375: inrush charge on the 5 V rail, mW -/
  inrushL : Nat := 0
  /-- R375: inrush charge on the high rail, mW -/
  inrushH : Nat := 0
  /-- R375: VCONN charge, mW -/
  chgV : Nat := 0
  /-- R429: the port's Vault limit row failed its reload: no grant until reset -/
  vaultBarred : Bool := false
  deriving DecidableEq, Repr

/-- The per-port registers of a Stile as the Carcass's shadow copy holds them (R445). -/
structure Shadow where
  pwrStatus : Word := 0
  pwrMeas : Word := 0
  model : Word := 0x05500550
  cool : Word := 0x00010000
  pwrCnt : Word := 0
  ccStatus : Word := 0
  pdStatus : Word := 0
  pdCnt : Word := 0
  deriving DecidableEq, Repr

/-- A Stile and its Spline link (R16 to R20, R53, R444, R445, R464). -/
structure Stile where
  /-- R444: STL_LINK.UP -/
  up : Bool := false
  /-- R444: RETRAINING -/
  retraining : Bool := false
  /-- R444: VGD_OK, VGD above 10.2 V -/
  vgdOk : Bool := false
  /-- R53: VGD present, at or above 6.0 V [DESIGN CHOICE, log 5] -/
  vgdPresent : Bool := false
  /-- R444: RESET, the reset line is asserted -/
  resetLine : Bool := true
  /-- R444: HOLDOVER -/
  holdover : Bool := false
  /-- R444: SHUTDOWN -/
  shutdown : Bool := false
  /-- R444: RETRY -/
  retry : BitVec 16 := 0
  /-- R444: DOWN -/
  down : Byte := 0
  /-- R17: place in the 8-flit replay buffer of the flit that is being retransmitted -/
  replayAt : Option (BitVec 3) := none
  /-- R17: consecutive failed retransmissions of that flit -/
  failedRetries : Nat := 0
  /-- R464: microframe clocks of the link-downs within the last 10 s -/
  downTimes : List Nat := []
  /-- R464: quarantined -/
  quarantined : Bool := false
  /-- R464: the quarantine's domain-off half has happened -/
  quarantineOff : Bool := false
  /-- R407: the STILE domain is on -/
  domainOn : Bool := true
  /-- R377: VRAIL_L_SNS in mV [DESIGN CHOICE, log 5] -/
  railLMv : Nat := 0
  /-- R339: VRAIL_H_SNS in mV [DESIGN CHOICE, log 5] -/
  railHMv : Nat := 0
  /-- R44, R56: VCONN_IN in mV [DESIGN CHOICE, log 5] -/
  vconnMv : Nat := 0
  /-- R371: T_B held by the Stile, 1/16 °C -/
  tb : Int := 1360
  /-- R464: events kept during an outage, oldest first -/
  kept : List (PortId × Event) := []
  /-- R445: shadow copies, per port -/
  shadow : Vector Shadow 8 := Vector.replicate 8 {}
  /-- R445: shadow copy of STL_RAILS -/
  shadowRails : Word := 0
  deriving DecidableEq, Repr

/-- Escrow (R374 to R381). -/
structure Escrow where
  /-- R381: ESC_BUDGET_L -/
  budgetL : Word := 0
  /-- R381: ESC_BUDGET_H -/
  budgetH : Word := 0
  /-- R381: ESC_BUDGET_V -/
  budgetV : Word := 24000
  /-- R381: RAMPS_STILE -/
  rampsStile : BitVec 4 := 2
  /-- R381: RAMPS_DEV -/
  rampsDev : BitVec 5 := 6
  /-- R377: MODEL: counts entries to the queue, for the order of entry [DESIGN CHOICE, log 2] -/
  entries : Nat := 0
  deriving DecidableEq, Repr

/-- Destination of an order (R195). -/
inductive Dest where
  | discard | purse | stmt | template | ledger | mintFrame | ledgerSrc
  deriving DecidableEq, Repr

/-- An order record (R195); `raw` is the 32 bytes as written. -/
structure OrderRec where
  port : PortId
  ep : BitVec 4
  isIn : Bool
  cls : OrderClass
  iso : Bool
  copyStmt : Bool
  e : Nat
  phase : Nat
  maxp : Nat
  length : Nat
  dest : Dest
  dindex : Nat
  laddr : Nat
  entries : Nat
  firstCh : Nat
  nch : Nat
  raw : List Byte
  deriving DecidableEq, Repr

/-- Order states (R207). -/
inductive OrderState where
  | free | active | waiting | halted | destLost
  deriving DecidableEq, Repr

/-- Occurrence statuses (R205). -/
inductive OccStatus where
  | ok | late | nak | error | skipped | stall | babble
  deriving DecidableEq, Repr

/-- The occurrence of an order that is due or under way: the record it runs under, transactions done, tries of the current
one, data moved, and the ring entry its result goes to (R204, R208, R211). -/
structure Occurrence where
  cfg : OrderRec
  n : Dword
  txn : Nat
  tries : Nat
  got : List Byte
  src : List Byte
  widx : BitVec 16 := 0
  /-- R212: the data of the current transaction have been read -/
  built : Bool := false
  deriving DecidableEq, Repr

/-- An order's Statement slot: data, N of the data, status of the last occurrence, and whether data has been placed (R210,
R216). -/
structure OrderSlot where
  data : List Byte := []
  n : Word := 0
  status : Option OccStatus := none
  has : Bool := false
  deriving DecidableEq, Repr

/-- A standing order (R195 to R212, R234). -/
structure Order where
  /-- R233: STATE -/
  state : OrderState := .free
  /-- R234: the record written -/
  cfg : Option OrderRec := none
  /-- R31, R208: the record of the last snapshot -/
  snap : Option OrderRec := none
  /-- R234: LAST -/
  last : OccStatus := .ok
  /-- R234: LAST reads 0 until an occurrence ends -/
  ran : Bool := false
  /-- R234: N of the last OK or LATE result -/
  lastN : Word := 0
  /-- R234: DONE -/
  done : Word := 0
  /-- R234: SKIP -/
  skip : Word := 0
  /-- R234: ERR -/
  err : Word := 0
  /-- R234: LATE -/
  late : Word := 0
  /-- R234: LEDGER ring write index -/
  widx : BitVec 16 := 0
  /-- R203: the occurrence due or under way -/
  occ : Option Occurrence := none
  /-- R208: SO_DELETE waits for the transaction in progress -/
  deleting : Bool := false
  /-- R210: the Statement slot -/
  slot : OrderSlot := {}
  /-- R31, R217: state at the last snapshot, and whether an occurrence of the record it took has ended -/
  snapState : OrderState := .free
  /-- As the field before it. -/
  snapRan : Bool := false
  /-- R31, R217: the Statement slot of the record of the last snapshot, where a command has replaced or deleted the order since -/
  shown : Option OrderSlot := none
  /-- R212: data of the last OUT transaction on the bus -/
  sent : List Byte := []
  deriving DecidableEq, Repr

/-- A word of a Purse with its END mark, and whether its parity bit agrees (R225, R231). -/
structure PurseWord where
  data : Dword
  fin : Bool
  parityOk : Bool
  deriving DecidableEq, Repr

/-- A Purse (R223 to R236, R466). -/
structure Purse where
  /-- R235: BLOCKS; 0 = not configured -/
  blocks : Nat := 0
  /-- R235: OWNER -/
  owner : SlotId := 0
  /-- R223: WATERMARK -/
  watermark : Nat := 0
  /-- R223: WM_EVENT -/
  wmEvent : Bool := false
  /-- R223: LOSS_EVENT -/
  lossEvent : Bool := false
  /-- R397: the Draft that copies the words of a PRS_READ -/
  draft : Option (Fin 32) := none
  /-- R226: words held, oldest first -/
  words : List PurseWord := []
  /-- R231: the read pointer and its second copy -/
  rd : Nat := 0
  rd2 : Nat := 0
  /-- R231: the write pointer and its second copy -/
  wr : Nat := 0
  wr2 : Nat := 0
  /-- R230: words detached by a PRS_READ whose copy runs -/
  detached : Nat := 0
  /-- R235: LOST -/
  lost : BitVec 28 := 0
  /-- R235: RESETS -/
  resets : BitVec 4 := 0
  /-- R227: the loss event is armed -/
  armed : Bool := false
  /-- R227: microframe clock of the last loss event -/
  lastLoss : Option Nat := none
  /-- R466: microframe clocks of the resets within the last second -/
  resetTimes : List Nat := []
  /-- R466: retired -/
  retired : Bool := false
  /-- R466: blocks of its table, by place, that gave parity errors -/
  badBlocks : List Nat := []
  /-- R466: blocks withheld from PRS_FREE -/
  withheld : Nat := 0
  deriving DecidableEq, Repr

/-- Tally modes (R242). -/
inductive TallyMode where
  | locked | slew | free
  deriving DecidableEq, Repr

/-- Tally and MSYNC (R237 to R251). -/
structure Tally where
  /-- R72: Tally runs -/
  running : Bool := false
  /-- R237: T at the last boundary, ns -/
  t : Dword := 0
  /-- R237: N -/
  n : Dword := 0
  /-- R261: TLY_RATE -/
  rate : Word := 0
  /-- R261: TLY_STATUS.REQ -/
  req : TallyMode := .locked
  /-- R261: TLY_STATUS.MODE -/
  mode : TallyMode := .slew
  /-- R248: mode asked for, from the next boundary -/
  nextReq : Option TallyMode := none
  /-- R241: T relabel due at the next boundary, microframes -/
  relabelT : Int := 0
  /-- R241: N relabel due at the next boundary, microframes -/
  relabelN : Int := 0
  /-- R261: EVER_LOCKED -/
  everLocked : Bool := false
  /-- R261: REF_OK -/
  refOk : Bool := false
  /-- R261: MISSING -/
  missing : Byte := 0
  /-- R261: OUTLIERS -/
  outliers : BitVec 16 := 0
  /-- R261: TLY_PHASE -/
  phase : Word := 0
  /-- R244: the phase error as it stands, from the last measurement and RATE since, in 1/256 ns times RATE's unit of 2 to
  the −40 -/
  err : Int := 0
  /-- R31, R217: effective mode at the last snapshot -/
  modeSnap : TallyMode := .slew
  /-- R244: consecutive measurements within 10 ns -/
  good : Nat := 0
  /-- R245: consecutive outliers -/
  bad : Nat := 0
  /-- R249: a lock was reached since acquisition began -/
  acquired : Bool := false
  /-- R247: SLEW target residual left, in the unit of the phase error -/
  target : Int := 0
  /-- R242: rates of the microframes of the last second, newest first -/
  rates : List Word := []
  /-- R242, R240: the mean RATE that holdover goes to -/
  holdTo : Option Int := none
  /-- R261: TLY_MSI_CFG -/
  msiCfg : Word := 0x00020000
  /-- R261: TLY_MSO_CFG -/
  msoCfg : Word := 0x00020000
  /-- R261: TLY_MSO_WID.WIDTH -/
  msoWid : BitVec 16 := 0x03E8
  /-- R31, R261: configuration of the last snapshot: TLY_MSI_CFG -/
  msiSnap : Word := 0x00020000
  /-- R31, R261: TLY_MSO_CFG of the last snapshot -/
  msoSnap : Word := 0x00020000
  /-- R31, R261: TLY_MSO_WID of the last snapshot -/
  widSnap : BitVec 16 := 0x03E8
  /-- R261: TLY_MSI_TS -/
  msiTs : Dword := 0
  /-- R261: TLY_MSI_N -/
  msiN : Word := 0
  /-- R249: count of microframe boundaries (Glb.clock) of the first accepted edge, from which edges are expected -/
  msiFirst : Option Nat := none
  /-- R250: target time, width in ns and level of the last MSYNC_OUT pulse -/
  msoPulse : Option (Dword × Nat × Bool) := none
  /-- R239: timestamp of the last MSYNC_OUT launch -/
  msoTs : Dword := 0
  deriving DecidableEq, Repr

/-- Dovetail (R252 to R263). -/
structure Dovetail where
  /-- R261: HOLD_GROUPS -/
  holdGroups : BitVec 16 := 0
  /-- R261: LOSS_HOLD -/
  lossHold : Bool := true
  /-- R261: CABLE -/
  cable : BitVec 15 := 0
  /-- R31: HOLD_GROUPS of the last snapshot -/
  holdSnap : BitVec 16 := 0
  /-- R31: LOSS_HOLD of the last snapshot -/
  lossSnap : Bool := true
  /-- R31: CABLE of the last snapshot -/
  cableSnap : BitVec 15 := 0
  /-- R254: training runs -/
  training : Bool := false
  /-- R254: trained -/
  trained : Bool := false
  /-- R261: RING_SIZE -/
  ringSize : BitVec 2 := 0
  /-- R95: CHAIN_POS -/
  chainPos : BitVec 2 := 3
  /-- R261: LINK_IN valid characters -/
  linkIn : Bool := false
  /-- R261: CONFLICT -/
  conflict : Bool := false
  /-- R261: BYPASS -/
  bypass : Bool := false
  /-- R261: RING_DELAY -/
  ringDelay : BitVec 16 := 0
  /-- R254: origins heard with their hop counts -/
  heard : List (BitVec 7 × Nat) := []
  /-- R254: consecutive rounds with one ring size and position -/
  rounds : Nat := 0
  /-- R254: ring size and position of those rounds -/
  candidate : Nat × Nat := (0, 0)
  /-- R261: CODE_ERR -/
  codeErr : Byte := 0
  /-- R261: CRC_ERR -/
  crcErr : Byte := 0
  /-- R261: HOLD_RX -/
  holdRx : Byte := 0
  /-- R261: HOLD_TX -/
  holdTx : Byte := 0
  /-- R257: sequence number of the next own hold -/
  seq : Byte := 0
  /-- R257: origin, sequence number and microframe clock of holds seen -/
  seen : List (BitVec 2 × Byte × Nat) := []
  /-- R254 to R257: frames sent on DOVE_OUT by the last command that sent any [DESIGN CHOICE, log 159] -/
  sent : List (List Byte) := []
  /-- R256: SYNC frames missed or invalid in a row -/
  syncMissing : Nat := 0
  /-- R256: a valid SYNC came since the last boundary -/
  syncSeen : Bool := false
  deriving DecidableEq, Repr

/-- A channel record (R266), numbers in the LSBs of their formats (R264); `raw` is the 64 bytes as written. -/
structure ChanRec where
  enable : Bool
  seed : Bool
  bcast : Bool
  fmtPos : Bool
  port : PortId
  group : GroupId
  feLag : Nat
  missLimit : Nat
  startPos : Int
  feLimit : Nat
  vmax : Nat
  amax : Nat
  vjump : Nat
  stopA : Nat
  stopJ : Nat
  raw : List Byte
  deriving DecidableEq, Repr

/-- A segment record (R270): coefficients in the LSBs of their formats. -/
structure Segment where
  dur : Nat
  wait : Bool
  mark : Bool
  tag : Byte
  c1 : Int
  c2 : Int
  c3 : Int
  c4 : Int
  c5 : Int
  deriving DecidableEq, Repr

/-- A setpoint: P (Q32.32), V (Q24.40), A (Q16.48), A/2 (Q16.48), J/6 (Q8.56), each rounded once (R272); `atRest` holds
when its exact velocity and acceleration are both 0. -/
structure Setpoint where
  p : Int := 0
  v : Int := 0
  a : Int := 0
  a2 : Int := 0
  a3 : Int := 0
  atRest : Bool := true
  stag : Byte := 0
  moving : Bool := false
  stopping : Bool := false
  saturated : Bool := false
  deriving DecidableEq, Repr

/-- A running segment: its record, its base position and the τ of the last setpoint it gave (R271). -/
structure SegRun where
  seg : Segment
  base : Int
  tau : Nat
  deriving DecidableEq, Repr

/-- One phase of a stop profile: its duration in microframes and its jerk in counts per microframe³ (R294). -/
structure StopPhase where
  dur : Rat
  jerk : Rat
  deriving DecidableEq, Repr

/-- A stop profile: start position (Q32.32), direction, speed and acceleration along it, and its phases (R294). -/
structure StopProfile where
  p0 : Int := 0
  dir : Int := 1
  v : Rat := 0
  a : Rat := 0
  phases : List StopPhase := []
  jerkExceeded : Bool := false
  deriving DecidableEq, Repr

/-- A feedback sample waiting for its snapshot: position, the microframe it was latched in, the snapshot it is due at,
drive fault, and LATE (R281, R282). -/
structure Sample where
  pos : Int
  k : Dword
  due : Dword
  fault : Bool
  late : Bool
  deriving DecidableEq, Repr

/-- A Mint channel (R266 to R301). -/
structure Chan where
  /-- R266: the record in force; none = never configured since the reset that loses Mint -/
  cfg : Option ChanRec := none
  /-- R268: the channel has a last setpoint (HISTORY) -/
  history : Bool := false
  /-- R273: segments queued behind the running one -/
  queue : List Segment := []
  /-- R273: the entry that the next segment is written to, modulo 32 -/
  tail : Nat := 0
  /-- R322: moved to another port, or reseeded, at the last snapshot -/
  shifted : Bool := false
  /-- R273: entries of segments whose last setpoint is computed, freed at the next snapshot -/
  freeing : Nat := 0
  /-- R271: the running segment -/
  run : Option SegRun := none
  /-- R292: the stop profile followed and the k of its last setpoint -/
  stop : Option (StopProfile × Nat) := none
  /-- R294: standby profile from the newest setpoint -/
  standby : StopProfile := {}
  /-- R298: setpoint planned for the next microframe -/
  planned : Setpoint := {}
  /-- R298: stopped setpoint for the next microframe -/
  stopped : Setpoint := {}
  /-- R300: last setpoint sent in a Mint frame -/
  last : Setpoint := {}
  /-- R314: setpoint in effect at the SOF of the current microframe -/
  effect : Setpoint := {}
  /-- R293: at rest before a WAIT segment -/
  waiting : Bool := false
  /-- R289: position of the newest sample used since the channel was enabled or reseeded -/
  seedPos : Option Int := none
  /-- R282: samples delivered and not yet used -/
  pending : List Sample := []
  /-- R278: previous actual position, for extension -/
  actual : Option Int := none
  /-- R300: newest sample used -/
  sample : Option Sample := none
  /-- R300: FE of that sample; none = none formed -/
  fe : Option Int := none
  /-- R300: FE above FE_LIMIT -/
  feOver : Bool := false
  /-- R300: a sample was used in this microframe -/
  used : Bool := false
  /-- R282: a LATE sample was used in this microframe -/
  lateFb : Bool := false
  /-- R303: MISS -/
  miss : Nat := 0
  /-- R283: the count has reached MISS_LIMIT and its hold is to be raised -/
  missDue : Bool := false
  /-- R282: setpoints that took effect, newest first: microframe and P where VALID -/
  past : List (Dword × Option Int) := []
  /-- R300: channel data of the last snapshot (MINT_CH, 48 bytes) -/
  data48 : List Byte := []
  deriving DecidableEq, Repr

/-- Group states (R285). -/
inductive GroupState where
  | idle | armed | running | holding | held
  deriving DecidableEq, Repr

/-- A Mint group (R285 to R296). -/
structure Group where
  /-- R285: STATE -/
  state : GroupState := .idle
  /-- R290: CAUSE -/
  cause : BitVec 16 := 0
  /-- R32: causes raised, to take effect at the next snapshot -/
  pend : BitVec 16 := 0
  /-- R302: channel that raised a pending cause -/
  raiser : Option ChanId := none
  /-- R290: causes added in this microframe, and the channel that raised them -/
  added : BitVec 16 := 0
  /-- As the field before it. -/
  addedBy : Option ChanId := none
  /-- R32, R298: held by a Dovetail hold received before t = 3 µs of this microframe -/
  early : Bool := false
  /-- R286: N_s of an armed start -/
  armed : Option Dword := none
  /-- R288: N_s of a start armed on a RUNNING group -/
  armedRun : Option Dword := none
  /-- R295: released at the next snapshot -/
  release : Bool := false
  /-- R300: N of the last change of state -/
  changed : Word := 0
  /-- R314: STATE as the snapshot left it -/
  snap : GroupState := .idle
  /-- R314: N_s of a start armed at the snapshot -/
  snapStart : Option Dword := none
  /-- R300: group data of the last snapshot (MINT_GRP, 8 bytes) -/
  data8 : List Byte := []
  deriving DecidableEq, Repr

/-- A template instruction (R278). -/
structure TemplInstr where
  op : Nat
  ch : Byte
  off : Nat
  width : Nat
  frac : Nat
  signed : Bool
  invert : Bool
  arg : BitVec 16
  deriving DecidableEq, Repr

/-- A feedback template (R278 to R281, R303). -/
structure Template where
  /-- R303: COUNT and the program; empty = not loaded -/
  prog : List TemplInstr := []
  /-- R278: SEQ fields of the last valid packet, in program order -/
  seqs : List Nat := []
  /-- R303: INVALID -/
  invalid : Byte := 0
  /-- R281: microframe clock of the last AUX 0x8 event -/
  lastEvent : Option Nat := none
  deriving DecidableEq, Repr

/-- A Mint command accepted and waiting for the snapshot (R31, R298). -/
inductive MintOp where
  | config (c : ChanId) (r : ChanRec) (reseed flush : Bool)
  | segments (c : ChanId) (l : List Segment)
  | template (t : TemplId) (prog : List TemplInstr)
  deriving DecidableEq, Repr

/-- A body record (R306). -/
structure BodyRec where
  capsule : Bool
  chans : List ChanId
  vmax : Nat
  offset : Int × Int × Int
  coef : List (Int × Int × Int)
  extent : Int × Int × Int
  radius : Nat
  deriving DecidableEq, Repr

/-- A Clearance body (R306 to R310, R325). -/
structure Body where
  /-- R325: DEFINED -/
  cfg : Option BodyRec := none
  /-- R325: YOUNG -/
  young : Nat := 0
  /-- R310: inflated in this microframe -/
  inflated : Bool := false
  /-- R325: UNRESOLVED -/
  unresolved : Bool := false
  /-- R325: RANGE -/
  range : Bool := false
  /-- R310: channels of the body that had history at the last resolution -/
  hist : List ChanId := []
  /-- R314: predicted positions of steps 0 upwards in this microframe -/
  path : List (Int × Int × Int) := []
  deriving DecidableEq, Repr

/-- A pair record (R311). -/
structure PairRec where
  clear : Nat
  warn : Nat
  look : Nat
  bcast : Bool
  holdGroups : BitVec 16
  deriving DecidableEq, Repr

/-- Pair decisions (R316, R323). -/
inductive PairState where
  | disarmed | clear | warn | violated
  deriving DecidableEq, Repr

/-- A Clearance pair (R311 to R325). -/
structure Pair where
  /-- R325: LOADED -/
  cfg : Option PairRec := none
  /-- R321: armed from the snapshot -/
  armed : Bool := false
  /-- R321: counts as armed, from the completion of CLR_ARM to the snapshot of CLR_DISARM -/
  armedNow : Bool := false
  /-- R325: STATE of the last microframe -/
  state : PairState := .disarmed
  /-- R325: MIN_D of the last microframe -/
  minD : Int := 0
  /-- R325: MINSTEP -/
  minStep : Nat := 0
  /-- R325: FIRST -/
  first : Nat := 0
  /-- R325: INSIDE -/
  inside : Bool := false
  /-- R323: a body unresolved in the last microframe -/
  unres : Bool := false
  /-- R323: body A, and body B, young in the last microframe -/
  youngA : Bool := false
  youngB : Bool := false
  /-- R316: d_0 of this microframe -/
  d0 : Int := 0
  /-- R317: least distance and its step so far in this microframe -/
  runMin : Option (Int × Nat) := none
  /-- R317: first violating step found in this microframe -/
  runFirst : Nat := 0
  /-- R324: a violation episode runs -/
  episode : Bool := false
  /-- R324: microframe clock of the last WARN event -/
  lastWarn : Option Nat := none
  deriving DecidableEq, Repr

/-- A Clearance command accepted and waiting for the snapshot (R31). -/
inductive ClrOp where
  | body (b : BodyId) (r : Option BodyRec)
  | pair (p : PairId) (r : Option PairRec)
  | arm (mask : BitVec 28)
  | disarm (mask : BitVec 28)
  deriving DecidableEq, Repr

/-- Mint as a whole (R298, R303). -/
structure Mint where
  chans : Vector Chan 128 := Vector.replicate 128 {}
  groups : Vector Group 16 := Vector.replicate 16 {}
  templates : Vector Template 64 := Vector.replicate 64 {}
  /-- R31: commands waiting for the snapshot, in order -/
  pend : List MintOp := []
  /-- R298: t = 3 µs of the current microframe has passed -/
  sent : Bool := false
  /-- R303: MNT_LOAD.PEAK -/
  peak : BitVec 16 := 0
  /-- R303: MNT_LOAD.LAST -/
  load : BitVec 16 := 0
  /-- R275: Mint frames packed for this microframe, by order number -/
  frames : List (Nat × List Byte) := []
  /-- R298: N of the microframe whose setpoints were sent last -/
  sentN : Dword := 0
  /-- R383: MODEL: Mint and Clearance have written RECOMPUTE lines since the Carcass reset -/
  produced : Bool := false
  deriving DecidableEq, Repr

/-- Clearance as a whole (R317, R325). -/
structure Clearance where
  bodies : Vector Body 8 := Vector.replicate 8 {}
  pairs : Vector Pair 28 := Vector.replicate 28 {}
  /-- R31: commands waiting for the snapshot, in order -/
  pend : List ClrOp := []
  /-- R325: CLR_TRIPS -/
  trips : BitVec 28 := 0
  /-- R325: CLR_VIOL -/
  viol : BitVec 28 := 0
  /-- R318: a HOLD frame was sent for Clearance in this microframe -/
  holdSent : Bool := false
  /-- R317: bodies are resolved and the slots of this microframe run -/
  open_ : Bool := false
  deriving DecidableEq, Repr

/-- An Inlay entry; both copies are held (R396, R401, R468). -/
structure InlayEntry where
  runtime : Bool
  spare : Nat
  line : Nat
  n : Word
  /-- R468: the two copies agree -/
  agree : Bool := true
  /-- R468: exactly one copy has good parity -/
  oneGood : Bool := true
  deriving DecidableEq, Repr

/-- A Draft channel (R397, R402). [DESIGN CHOICE, log 121] -/
structure Draft where
  /-- R402: HALTS -/
  halts : BitVec 16 := 0
  /-- R402: CLIENT -/
  client : BitVec 4 := 0
  /-- R402: ZERO_FILL -/
  zeroFill : Bool := false
  /-- R402: BUSY -/
  busy : Bool := false
  deriving DecidableEq, Repr

/-- The Ledger (R383 to R402). -/
structure Ledger where
  /-- R383: stored data bytes, canonical: rising addresses, no zero byte listed -/
  mem : List Host.Cell := []
  /-- R387: lines written since self-test, rising; every other line is unwritten -/
  written : List Nat := []
  /-- R384: lines whose stored check word differs from the CRC of the stored data, with the difference, rising -/
  chk : List (Nat × Word) := []
  /-- R80, R475: lines of bank 0 that hold the image payload: their number and the payload's name -/
  payloadLines : Nat := 0
  payload : Nat := 0
  /-- R475: the image slot that is the clean source of REFETCH lines -/
  refetchSlot : Bool := false
  /-- R398: REFETCH lines stored by a test mode, which no longer hold the payload, rising -/
  overwritten : List Nat := []
  /-- R388: SUSPECT lines -/
  suspect : List Nat := []
  /-- R388: SUSPECT lines whose episode has had its first correction -/
  announced : List Nat := []
  /-- R390: uncorrectable lines of an episode already reported -/
  reported : List Nat := []
  /-- R393: SUSPECT queue, oldest first -/
  queue : List Nat := []
  /-- R395: lines for which the remap was found impossible -/
  noRemap : List Nat := []
  /-- R394: Inlay entries, in order -/
  inlay : List InlayEntry := []
  /-- R76, R394: spares withdrawn or in use, as bank × 8 + spare -/
  usedSpares : List Nat := []
  /-- R76, R393: MODEL: lines whose cells do not hold what is written [DESIGN CHOICE, log 2] -/
  badLines : List Nat := []
  /-- R76, R394: MODEL: spares whose cells do not hold what is written, as bank × 8 + spare [DESIGN CHOICE, log 2] -/
  badSpares : List Nat := []
  /-- R401: RATE -/
  rate : BitVec 13 := 14
  /-- R401: SQ_OVF -/
  sqOvf : Bool := false
  /-- R400: an AUX 0x6 event was raised in this pass -/
  ovfEvent : Bool := false
  /-- R401: LDG_CORR -/
  corr : Word := 0
  /-- R401: LDG_UNCORR -/
  uncorr : Word := 0
  /-- R401: PASSES -/
  passes : BitVec 15 := 0
  /-- R401: VISIT -/
  visit : BitVec 17 := 0
  /-- R401: LDG_LAST -/
  last : Word := 0
  /-- R401: LDG_INJ -/
  inj : Option (BitVec 17) := none
  /-- R398: lines injected and not written since -/
  injected : List Nat := []
  /-- R401: LDG_TEST_ADDR -/
  testAddr : BitVec 17 := 0
  /-- R401: LDG_TEST_CHECK -/
  testCheck : Word := 0
  /-- R401: LDG_TEST_CALC -/
  testCalc : Word := 0
  /-- R401: LDG_TEST_DATA0 to 15 -/
  testData : Vector Word 16 := Vector.replicate 16 0
  /-- R401: LDG_FLIP_ADDR -/
  flipAddr : BitVec 17 := 0
  /-- R401: LDG_FLIP -/
  flip : Word := 0
  /-- R400: microframe clocks of AUX 0x1 events within the last second -/
  corrEvents : List Nat := []
  /-- R402: DRF_STATUS -/
  drafts : Vector Draft 32 := Vector.replicate 32 {}
  /-- R402: DRF_LAST -/
  draftLast : BitVec 17 := 0
  deriving DecidableEq, Repr

/-- A Vault row (R437, R429). -/
structure VaultRow where
  val : Word := 0
  programmed : Bool := false
  /-- R429: the P copy's parity bit disagrees [DESIGN CHOICE, log 2] -/
  copyBad : Bool := false
  /-- R429: the OTP cells themselves give bad parity [DESIGN CHOICE, log 2] -/
  otpBad : Bool := false
  deriving DecidableEq, Repr

/-- A Passbook record (R413, R420). -/
structure PassbookRec where
  more : Byte
  detail : Byte
  fromState : BitVec 4
  aborted : Bool
  code : BitVec 7
  sec : Word
  deriving DecidableEq, Repr

/-- A Nightsafe ADC input (R416, R420): y in 1/1024 of a code. -/
structure AdcInput where
  cfg : Word := 0x04000D6B
  raw : BitVec 12 := 0
  y : Nat := 0
  /-- R416: a sample has been taken since the input was enabled -/
  primed : Bool := false
  deriving DecidableEq, Repr

/-- A Nightsafe rule (R418, R420). -/
structure NsfRule where
  cfg : Word := 0
  act : BitVec 12 := 0
  /-- R420: ACTIVE -/
  active : Bool := false
  /-- R418: consecutive samples counted towards the next change -/
  count : Nat := 0
  deriving DecidableEq, Repr

/-- A Nightsafe register write on its way (R36). [DEDUCED, log 47] -/
structure PostedWrite where
  addr : Nat
  val : Word
  ticks : Nat
  deriving DecidableEq, Repr

/-- Nightsafe (R71, R403 to R420, R433, R434, R482). -/
structure Nightsafe where
  /-- R71: Nightsafe runs -/
  running : Bool := false
  /-- R71: the tick comes from the 32.768 kHz crystal -/
  crystal : Bool := false
  /-- R47: RAIL_EN -/
  railEn : Bool := false
  /-- R442: GLB_STRAPS.MGMT_ADDR [DESIGN CHOICE, log 159] -/
  mgmtAddr : BitVec 3 := 7
  /-- R420: NSF_WAKE_EN -/
  wakeEn : Byte := 0xFF
  /-- R413: Passbook records, newest first, at most 8 -/
  passbook : List PassbookRec := []
  /-- R420: HIT -/
  hit : BitVec 16 := 0
  /-- R418: FORCE_OFF latch -/
  forceOff : Bool := false
  /-- R418: the rules whose PORTS_OFF set the latch -/
  forcedBy : BitVec 16 := 0
  /-- R420: NSF_RTC_SEC -/
  rtcSec : Word := 0
  /-- R420: NSF_RTC_SUB -/
  rtcSub : BitVec 15 := 0
  /-- R420: NSF_ALARM -/
  alarm : Word := 0
  /-- R420: ADC inputs 0 to 15 -/
  ain : Vector AdcInput 16 := Vector.replicate 16 {}
  /-- R416: the input converted last -/
  lastIn : Nat := 15
  /-- R420: rules 0 to 15 -/
  rules : Vector NsfRule 16 := Vector.replicate 16 {}
  /-- R36: posted writes, oldest first -/
  posted : List PostedWrite := []
  /-- R442: GLB_PRESENCE.KEY [DESIGN CHOICE, log 5] -/
  keyLow : Bool := false
  /-- R433: the key has read high through its debounce, so a low opens a window -/
  keyArmed : Bool := false
  /-- R433: ticks left of the presence window; 0 = closed -/
  presence : Nat := 0
  /-- R442: SEAL_OPEN -/
  sealOpen : Bool := false
  /-- R482: consecutive bits against the present verdict -/
  sealCount : Nat := 0
  /-- R482: the bit CAB_SEAL_A drives [DESIGN CHOICE, log 5] -/
  sealBit : Bool := false
  /-- R434: TAMPER -/
  tamper : Bool := false
  /-- R434: NSF_RTC_SEC at the latching -/
  tamperSec : Word := 0
  /-- R409: a SLEEP request is posted: its level -/
  sleepReq : Option (BitVec 2) := none
  /-- R410: a committed entry runs: its level -/
  entering : Option (BitVec 2) := none
  /-- R410: MODEL: ticks since SLEEP completed in a committed entry [DESIGN CHOICE, log 2] -/
  entryTicks : Nat := 0
  /-- R410: steps 4 and 5 of a committed entry are done: slots withdrawn, ports off -/
  entryOff : Bool := false
  /-- R410: wakes latched during entry, with DETAIL, in order -/
  latched : List (WakeCode × Byte) := []
  /-- R404: the state slept in: 2 or 3 -/
  asleep : Option (BitVec 2) := none
  /-- R412: slots whose POWER_STATE event of the last wake is due -/
  wakeDue : BitVec 4 := 0
  /-- R467: clock failure kept for GLB_FAULT.CLOCK -/
  clockFail : Bool := false
  /-- R36, R424: RS copies of the last tick: FORCE_OFF, HIT, TAMPER, SEAL_OPEN, KEY -/
  rsForceOff : Bool := false
  /-- R36: RS copy of PB_COUNT -/
  rsPbCount : Nat := 0
  /-- R36: RS copy of NSF_RTC_SUB -/
  rsSub : BitVec 15 := 0
  /-- R36: RS copy of TAMPER -/
  rsTamper : Bool := false
  /-- R36: RS copy of SEAL_OPEN -/
  rsSealOpen : Bool := false
  /-- R36: RS copy of KEY -/
  rsKey : Bool := false
  /-- R36: RS copy of the presence window's ticks left -/
  rsPresence : Nat := 0
  /-- R36: RS copy of the Passbook -/
  rsPassbook : List PassbookRec := []
  /-- R36: RS copies of the rules' ACTIVE bits -/
  rsActive : BitVec 16 := 0
  /-- R36: RS copies of RAW and y of the inputs -/
  rsAin : Vector (BitVec 12 × Nat) 16 := Vector.replicate 16 (0, 0)
  /-- R414: the S2 retention record: image slot, payload length, payload -/
  retained : Option (Bool × ImageInfo) := none
  deriving DecidableEq, Repr

/-- What Teller is doing (R405, R469, R470, R475). -/
inductive TellerRun where
  | stopped | running | restarting | swapping | halted
  deriving DecidableEq, Repr

/-- Teller, the mailbox and firmware (R163 to R194, R469 to R477). -/
structure Teller where
  run : TellerRun := .stopped
  /-- R465: the source whose turn comes first: 0 to 3 slots, 4 mailbox -/
  turn : Nat := 0
  /-- R473: events held while Teller restarts or swaps, oldest first -/
  heldEvents : List (SlotId × Event) := []
  /-- R470: microframe clocks of the restarts within the last 10 s -/
  restarts : List Nat := []
  /-- R470: microframe clock of the last firmware fault -/
  lastFault : Option Nat := none
  /-- R192: MGMT_MBX_CMD -/
  mbxCmd : Vector Word 68 := Vector.replicate 68 0
  /-- R192: GO -/
  go : Bool := false
  /-- R192: DONE -/
  done : Bool := false
  /-- R192: MGMT_MBX_RSP -/
  mbxRsp : Vector Word 68 := Vector.replicate 68 0
  /-- R194: a NOTIFY completion waits for its first word to be read -/
  mbxNotify : Bool := false
  /-- R192: the mailbox command not yet completed -/
  mbxEntry : Option TillEntry := none
  /-- R174, R31: keys of completed mailbox commands whose effect point is the next snapshot -/
  mbxKeyHold : List Key := []
  deriving DecidableEq, Repr

/-- The flash and the images (R79, R190, R474). -/
structure Firmware where
  /-- R79: the flash answers SFDP and is large enough [DESIGN CHOICE, log 5] -/
  sfdpOk : Bool := false
  /-- R79: image slots A and B; none = nothing read or staged [DESIGN CHOICE, log 159] -/
  slotA : Option ImageInfo := none
  /-- As the field before it. [DESIGN CHOICE, log 159] -/
  slotB : Option ImageInfo := none
  /-- R190: pieces FW_STAGE has written to the slot that is not running -/
  pieces : List (Nat × List Byte) := []
  /-- R474: the slot that is not running is staged -/
  staged : Bool := false
  /-- R474: the slot that is not running is committed -/
  committed : Bool := false
  /-- R182: firmware version running [DESIGN CHOICE, log 159] -/
  version : Word := 0
  /-- R474: table format of the running image [DESIGN CHOICE, log 159] -/
  format : Nat := 0
  /-- R84: the boot profile applied [DESIGN CHOICE, log 159] -/
  profile : BootProfile := ⟨[], 0⟩
  deriving DecidableEq, Repr

/-- Power states of the Carcass (file 14). -/
inductive CoreState where
  | inReset | s0 | s1
  deriving DecidableEq, Repr

/-- Draining (R408): none, a domain (its ARG0 code and tags ended so far), or an S2 or S3 entry. -/
inductive Drain where
  | none
  | domain (d : Nat)
  | sleep
  deriving DecidableEq, Repr

/-- The Global block and the device-wide state (R95, R421 to R435, R442, R471). -/
structure Glb where
  core : CoreState := .inReset
  /-- R50: POR_N, RESET_N or the internal reset holds the Carcass; true = held -/
  held : Bool := true
  /-- R95: PHASE -/
  phase : BitVec 4 := 1
  /-- R95: RESET_CAUSE [DESIGN CHOICE, log 159] -/
  resetCause : BitVec 3 := 0
  /-- R95: UNSEALED -/
  unsealed : Bool := false
  /-- R95: INLAY_BOOT -/
  inlayBoot : BitVec 4 := 0
  /-- R95: FAIL_B -/
  failB : BitVec 4 := 0
  /-- R95: FAIL_A -/
  failA : BitVec 4 := 0
  /-- R95: DVT -/
  dvt : BitVec 2 := 0
  /-- R95: IMAGE -/
  image : Bool := false
  /-- R442: GLB_STRAPS.CASCADE_EN [DESIGN CHOICE, log 159] -/
  cascadeEn : Bool := false
  /-- R442: GLB_STRAPS.BOOT_SLOT [DESIGN CHOICE, log 159] -/
  bootSlot : Bool := false
  /-- R73: bring-up step 2 has ended: MGMT acknowledges -/
  clocksOk : Bool := false
  /-- R75: a first lock attempt has failed -/
  pllRetry : Bool := false
  /-- R442: GLB_FAULT.VAULT -/
  fVault : Bool := false
  /-- R442: GLB_FAULT.PARITY -/
  fParity : Bool := false
  /-- R442: GLB_FAULT.INLAY -/
  fInlay : Bool := false
  /-- R442: GLB_FAULT.LEDGER -/
  fLedger : Bool := false
  /-- R442: GLB_FAULT.FIRMWARE -/
  fFirmware : Bool := false
  /-- R442: GLB_FAULT.CLOCK -/
  fClock : Bool := false
  /-- R442: GLB_FAULT.PURSE -/
  fPurse : Bool := false
  /-- R442: GLB_FAULT.PORTS_A, B and C as bits 0 to 2 -/
  fPorts : BitVec 3 := 0
  /-- R442: GLB_LOCK -/
  lock : BitVec 4 := 0
  /-- R432: GLB_LOCK has been written -/
  lockWritten : Bool := false
  /-- R430: unlock state of MGMT (mailbox and direct transactions) -/
  mgmtUnlocked : Bool := false
  /-- R442: GLB_VIOLATION SOURCE, CODE, COUNT, ADDR -/
  vioSource : BitVec 4 := 0
  vioCode : BitVec 4 := 0
  vioCount : BitVec 4 := 0
  vioAddr : BitVec 20 := 0
  /-- R442: GLB_PARITY_ADDR VALID and ADDR -/
  parityAddr : Option (BitVec 20) := none
  /-- R429: MODEL: addresses of registers whose parity bit disagrees [DESIGN CHOICE, log 2] -/
  parityBad : List Nat := []
  /-- R29, R217: the Statements of this microframe have been assembled -/
  assembled : Bool := false
  /-- R420: NSF_PWR_CFG.DRAIN -/
  drainLimit : Byte := 0x14
  /-- R420: NSF_DOMAIN bits of PORTGRP0 to 5 -/
  portGrpOn : BitVec 6 := 0x3F
  /-- R420: DRAINING -/
  drain : Drain := .none
  /-- R408: tags completed EPOWERED_DOWN by the drain -/
  drained : Nat := 0
  /-- R410: bytes of MGMT reads: the last transaction's answer [DESIGN CHOICE, log 159] -/
  mgmtOut : List Byte := []
  /-- R191: whether each byte of the last MGMT write was acknowledged at its PEC [DESIGN CHOICE, log 159] -/
  mgmtAck : Bool := true
  /-- R233: SO_SKIPPED -/
  soSkipped : Word := 0
  /-- R233: an occurrence ended SKIPPED in this microframe -/
  skippedNow : Bool := false
  /-- R237: MODEL: microframe boundaries since the Carcass reset (8,000 = 1 s) [DESIGN CHOICE, log 2] -/
  clock : Nat := 0
  /-- MODEL: the free-value counter [DESIGN CHOICE, log 2] -/
  fv : Nat := 0
  deriving DecidableEq, Repr

/-- The state of the block. `pending` is the queue of commands waiting, first in, first out. -/
structure State where
  glb : Glb := {}
  teller : Teller := {}
  fw : Firmware := {}
  slots : Vector Slot 4 := Vector.replicate 4 {}
  ports : Vector Port 24 := Vector.replicate 24 {}
  pd : Vector Pd 24 := Vector.replicate 24 {}
  pwr : Vector Pwr 24 := Vector.replicate 24 {}
  stiles : Vector Stile 3 := Vector.replicate 3 {}
  escrow : Escrow := {}
  orders : Vector Order 1024 := Vector.replicate 1024 {}
  purses : Vector Purse 256 := Vector.replicate 256 {}
  tally : Tally := {}
  dvt : Dovetail := {}
  mint : Mint := {}
  clr : Clearance := {}
  ldg : Ledger := {}
  vault : Vector VaultRow 128
  nsf : Nightsafe := {}
  /-- R114, R126: transfers whose tag has ended, which run on to their end on their port -/
  orphans : List TillEntry := []
  pending : List Instr := []
  deriving DecidableEq, Repr

/-- Reasons to stop with a fault. The spec stops the part on no command of its table, so no meaning raises one; the type
has one constructor because the host's interface asks for a closed inductive. -/
inductive Fault where
  /-- Raised by no meaning (safe): every command of the table has a next state. -/
  | neverRaised
  deriving DecidableEq, Repr

/-- Reasons to refuse a command. -/
inductive Refusal where
  /-- Raised by an arm of `exec` whose command has no meaning yet (safe: nothing can be proved about its effect). -/
  | notModelled (mnemonic : String)
  deriving DecidableEq, Repr

/-- The Vault of a part as delivered (R437): Olrumas's sixteen rows are programmed with non-zero values, every other row is
blank. DESIGN CHOICE (log 3): serial 0x0000_0000_0001, grade AI at stepping B0, Dovetail delay 0x2000, trims of 1.
[DESIGN CHOICE, log 3] -/
def resetVault : Vector VaultRow 128 :=
  (Vector.ofFn fun (i : Fin 128) =>
    if i.val = 0 then { val := 1, programmed := true }
    else if i.val = 1 then { val := 0x00010000, programmed := true }
    else if i.val = 2 then { val := 0x000001B0, programmed := true }
    else if i.val = 3 then { val := 0x00002000, programmed := true }
    else if i.val < 16 then { val := 1, programmed := true }
    else {})

/-- The machine right after VSVC power-on (R58): every field at its reset value, the Carcass held in reset, Nightsafe not
yet started, no command waiting. [DESIGN CHOICE, log 3, 5] -/
def State.reset : State := { vault := resetVault }

end Sys2Proof.Machine
end

