-- ==== Sys2Proof/Machine/Bits.lean ====
section
/-! DEFINITION. Bit fields, little-endian byte strings (R7), signed fields, the CRCs the spec names, and small list and
vector helpers. -/
namespace Sys2Proof.Machine

/-- Bits `lo` to `lo + len - 1` of a number. -/
def bitsAt (x lo len : Nat) : Nat := (x >>> lo) % 2 ^ len

/-- A Bool as the number 0 or 1. -/
def bitOf (b : Bool) : Nat := if b then 1 else 0

/-- A field of a register word, placed at bit `lo`. -/
def fieldAt (x lo : Nat) : Nat := x <<< lo

/-- A one-bit field of a register word. -/
def flagAt (b : Bool) (lo : Nat) : Nat := bitOf b <<< lo

/-- A number as a 32-bit word. -/
def toWord (x : Nat) : Word := BitVec.ofNat 32 x

/-- The `n` bytes of a number, least significant first (R7). -/
def leBytes : Nat → Nat → List Byte
  | 0, _ => []
  | n + 1, x => BitVec.ofNat 8 x :: leBytes n (x / 256)

/-- The number that bytes hold, least significant first (R7). -/
def ofLe : List Byte → Nat
  | [] => 0
  | b :: l => b.toNat + 256 * ofLe l

/-- The `n` bytes of a two's complement number (R7). -/
def leBytesInt (n : Nat) (x : Int) : List Byte := leBytes n (x % (256 ^ n : Nat)).toNat

/-- A field of `len` bits read as two's complement. -/
def signedOf (len x : Nat) : Int := if x < 2 ^ (len - 1) then (x : Int) else (x : Int) - (2 ^ len : Nat)

/-- `len` bytes from offset `off`. -/
def slice (l : List Byte) (off len : Nat) : List Byte := (l.drop off).take len

/-- The number held by `len` bytes from offset `off`. -/
def leAt (l : List Byte) (off len : Nat) : Nat := ofLe (slice l off len)

/-- The two's complement number held by `len` bytes from offset `off`. -/
def sleAt (l : List Byte) (off len : Nat) : Int := signedOf (8 * len) (leAt l off len)

/-- Whether all `len` bytes from offset `off` are zero. -/
def zeroAt (l : List Byte) (off len : Nat) : Bool := (slice l off len).all (· == 0)

/-- `l` cut or filled with zero bytes to exactly `n` bytes. -/
def fitTo (n : Nat) (l : List Byte) : List Byte := (l ++ List.replicate (n - l.length) 0).take n

/-- `l` filled with zero bytes to a multiple of 8 bytes (R161). -/
def pad8 (l : List Byte) : List Byte := l ++ List.replicate ((8 - l.length % 8) % 8) 0

/-- The words of a byte string, four bytes each. -/
def wordsOf (n : Nat) (l : List Byte) : List Word :=
  (List.range n).map fun i => toWord (leAt l (4 * i) 4)

/-- The bytes of a list of words. -/
def bytesOfWords (l : List Word) : List Byte := l.flatMap fun w => leBytes 4 w.toNat

/-- A counter of `bits` bits that saturates. -/
def satAdd {n : Nat} (x : BitVec n) (k : Nat) : BitVec n := BitVec.ofNat n (min (x.toNat + k) (2 ^ n - 1))

/-- A signed number held in 16 bits, at the nearer end where it does not fit. -/
def sat16 (x : Int) : Nat := ((max (-32768) (min 32767 x)) % 65536).toNat

/-- An unsigned number held in 16 bits, at the top of the range where it does not fit. -/
def satU16 (x : Nat) : Nat := min x 65535

/-- One bit of a CRC with the most significant bit first: `deg` bits, polynomial `poly`. -/
def crcBitMsb (deg poly : Nat) (c : Nat) (b : Bool) : Nat :=
  let top := (c.testBit (deg - 1)) != b
  let c' := (c <<< 1) % 2 ^ deg
  if top then c' ^^^ poly else c'

/-- One byte of a CRC with the most significant bit first. -/
def crcByteMsb (deg poly : Nat) (c : Nat) (x : Byte) : Nat :=
  (List.range 8).foldl (fun c i => crcBitMsb deg poly c (x.toNat.testBit (7 - i))) c

/-- A CRC with the most significant bit first. -/
def crcMsb (deg poly init : Nat) (l : List Byte) : Nat := l.foldl (crcByteMsb deg poly) init

/-- One byte of a reflected CRC: polynomial given reflected. -/
def crcByteLsb (poly : Nat) (c : Nat) (x : Byte) : Nat :=
  (List.range 8).foldl (fun c _ => if c % 2 = 1 then (c / 2) ^^^ poly else c / 2) (c ^^^ x.toNat)

/-- The CRC-32C of a byte string: reflected, initial value and final XOR all ones. -/
def crc32c (l : List Byte) : Word :=
  toWord (l.foldl (crcByteLsb 0x82F63B78) 0xFFFFFFFF ^^^ 0xFFFFFFFF)

/-- The CRC-8 of R481: polynomial 0x07, initial value 0. -/
def crc8 (l : List Byte) : Nat := crcMsb 8 0x07 0 l

/-- A CRC-16 with the polynomial 0x1021 (R481), most significant bit first. -/
def crc16 (init : Nat) (l : List Byte) : Nat := crcMsb 16 0x1021 init l

/-- Largest `r` with `r² ≤ n`, by bisection from the top bit: `fuel` bits of the root. -/
def isqrtGo : Nat → Nat → Nat → Nat
  | 0, _, r => r
  | k + 1, n, r =>
    let r' := r + 2 ^ k
    if r' * r' ≤ n then isqrtGo k n r' else isqrtGo k n r

/-- The integer square root, rounded down. -/
def isqrt (n : Nat) : Nat := isqrtGo (n.log2 / 2 + 1) n 0

/-- `x / y` rounded up. -/
def ceilDiv (x y : Nat) : Nat := (x + y - 1) / y

/-- `x / d` rounded to the nearest, halves up. -/
def roundDiv (x : Int) (d : Nat) : Int := (2 * x + d) / (2 * d)

/-- A rational rounded to the nearest integer, halves up. -/
def roundRat (x : Rat) : Int := (x + 1 / 2).floor

/-- Bit `i` of a word. -/
def testBit {n : Nat} (w : BitVec n) (i : Nat) : Bool := w.getLsbD i

/-- One element of a vector changed. -/
def vmod {α : Type} {n : Nat} (v : Vector α n) (i : Fin n) (f : α → α) : Vector α n := v.set i.val (f v[i.val]) i.isLt

/-- Keep the last `n` elements. -/
def keepLast {α : Type} (n : Nat) (l : List α) : List α := l.drop (l.length - n)

/-- Insert into a rising list without repeats. -/
def insertRising (x : Nat) : List Nat → List Nat
  | [] => [x]
  | y :: l => if x < y then x :: y :: l else if x = y then y :: l else y :: insertRising x l

/-- A number that names a port, where it does. -/
def portOf (n : Nat) : Option PortId := if h : n < 24 then some ⟨n, h⟩ else none

/-- A number modulo `n` as an index, for fields whose width already bounds them. -/
def finOf (n : Nat) (h : 0 < n) (x : Nat) : Fin n := ⟨x % n, Nat.mod_lt _ h⟩

/-- All indices below `n`, rising. -/
def allFin (n : Nat) : List (Fin n) := List.finRange n

end Sys2Proof.Machine
end

