-- ==== Sys2Proof/Machine/Ops.lean ====
section
/-! DEFINITION. The named operations over the state: reading and changing one instance, free values, the Deed table as
others read it (R110 to R118), power domains (R407), and event records (R165 to R167, R473). -/
namespace Sys2Proof.Machine

/-! ### Instances -/

/-- The state with one slot changed. -/
def State.modSlot (s : State) (h : SlotId) (f : Slot → Slot) : State := { s with slots := vmod s.slots h f }
/-- The state with one port changed. -/
def State.modPort (s : State) (k : PortId) (f : Port → Port) : State := { s with ports := vmod s.ports k f }
/-- The state with the CC and PD half of one port changed. -/
def State.modPd (s : State) (k : PortId) (f : Pd → Pd) : State := { s with pd := vmod s.pd k f }
/-- The state with the power half of one port changed. -/
def State.modPwr (s : State) (k : PortId) (f : Pwr → Pwr) : State := { s with pwr := vmod s.pwr k f }
/-- The state with one Stile changed. -/
def State.modStile (s : State) (i : StileId) (f : Stile → Stile) : State := { s with stiles := vmod s.stiles i f }
/-- The state with one standing order changed. -/
def State.modOrder (s : State) (n : OrderId) (f : Order → Order) : State := { s with orders := vmod s.orders n f }
/-- The state with one Purse changed. -/
def State.modPurse (s : State) (n : PurseId) (f : Purse → Purse) : State := { s with purses := vmod s.purses n f }
/-- The state with one Mint channel changed. -/
def State.modChan (s : State) (c : ChanId) (f : Chan → Chan) : State :=
  { s with mint := { s.mint with chans := vmod s.mint.chans c f } }
/-- The state with one Mint group changed. -/
def State.modGroup (s : State) (g : GroupId) (f : Group → Group) : State :=
  { s with mint := { s.mint with groups := vmod s.mint.groups g f } }
/-- The state with one feedback template changed. -/
def State.modTemplate (s : State) (t : TemplId) (f : Template → Template) : State :=
  { s with mint := { s.mint with templates := vmod s.mint.templates t f } }
/-- The state with one Clearance body changed. -/
def State.modBody (s : State) (b : BodyId) (f : Body → Body) : State :=
  { s with clr := { s.clr with bodies := vmod s.clr.bodies b f } }
/-- The state with one Clearance pair changed. -/
def State.modPair (s : State) (p : PairId) (f : Pair → Pair) : State :=
  { s with clr := { s.clr with pairs := vmod s.clr.pairs p f } }
/-- The state with the Global block changed. -/
def State.modGlb (s : State) (f : Glb → Glb) : State := { s with glb := f s.glb }
/-- The state with Teller changed. -/
def State.modTeller (s : State) (f : Teller → Teller) : State := { s with teller := f s.teller }
/-- The state with Escrow changed. -/
def State.modEscrow (s : State) (f : Escrow → Escrow) : State := { s with escrow := f s.escrow }
/-- The state with Tally changed. -/
def State.modTally (s : State) (f : Tally → Tally) : State := { s with tally := f s.tally }
/-- The state with Dovetail changed. -/
def State.modDvt (s : State) (f : Dovetail → Dovetail) : State := { s with dvt := f s.dvt }
/-- The state with the Ledger changed. -/
def State.modLdg (s : State) (f : Ledger → Ledger) : State := { s with ldg := f s.ldg }
/-- The state with Nightsafe changed. -/
def State.modNsf (s : State) (f : Nightsafe → Nightsafe) : State := { s with nsf := f s.nsf }

/-- The Stile that serves a port (R10, file 01): P00 to P07 A, P08 to P15 B, P16 to P23 C. -/
def stileOf (k : PortId) : StileId := finOf 3 (by decide) (k.val / 8)
/-- The port group of a port (R407): ports 4g to 4g + 3. -/
def portGrpOf (k : PortId) : Nat := k.val / 4

/-- All ports, rising. -/
def allPorts : List PortId := allFin 24
/-- All slots, rising. -/
def allSlots : List SlotId := allFin 4
/-- The ports of a Stile, rising. -/
def portsOf (i : StileId) : List PortId := allPorts.filter fun k => stileOf k == i

/-! ### Free values -/

/-- A free bit, and the state with the free-value counter advanced. -/
def State.freeBit (s : State) : Bool × State := (Config.freeBool s.glb.fv, s.modGlb fun g => { g with fv := g.fv + 1 })
/-- A free number below `n`, and the state with the counter advanced. [DEDUCED, log 68] -/
def State.freeBelow (n : Nat) (s : State) : Nat × State :=
  (Config.freeNat s.glb.fv % n, s.modGlb fun g => { g with fv := g.fv + 1 })
/-- Free bytes, and the state with the counter advanced. [DEDUCED, log 126] -/
def State.freeBytes (n : Nat) (s : State) : List Byte × State :=
  ((List.range n).map (Config.systemByte s.glb.fv), s.modGlb fun g => { g with fv := g.fv + 1 })

/-! ### Deeds as others read them -/

/-- The owner of a port, if it has one. -/
def State.owner (s : State) (k : PortId) : Option SlotId := s.ports[k.val].deed.owner
/-- The mode of a port. -/
def State.mode (s : State) (k : PortId) : PortMode := s.ports[k.val].deed.mode
/-- Whether slot `h` owns port `k`. -/
def State.owns (s : State) (h : SlotId) (k : PortId) : Bool := s.owner k == some h
/-- Whether slot `h` is a viewer of port `k` with access: the mask gives access in PROXY mode only (R116). -/
def State.views (s : State) (h : SlotId) (k : PortId) : Bool :=
  s.mode k == .proxy && testBit s.ports[k.val].deed.viewers h.val
/-- Whether slot `h` may read port `k`'s data: as owner or as viewer (R116). -/
def State.mayRead (s : State) (h : SlotId) (k : PortId) : Bool := s.owns h k || s.views h k
/-- Whether a caller meets an "Owner" requirement on a list of ports. MGMT owns nothing. -/
def State.ownsAll (s : State) (c : Caller) (ks : List PortId) : Bool :=
  match c with
  | .slot h => ks.all (s.owns h)
  | .mbx => false

/-- Whether the presence window is open, as a core-domain access sees it when it judges it (R433). [DEDUCED, log 51] -/
def State.presenceOpen (s : State) : Bool := s.nsf.presence != 0

/-! ### Power domains and links -/

/-- Whether the domain with an ARG0 code of R407 is on. [DEDUCED, log 116] -/
def State.domainOn (s : State) (d : Nat) : Bool :=
  if d < 2 then true
  else if h : d < 6 then s.slots[d - 2].domainOn
  else if d < 12 then testBit s.glb.portGrpOn (d - 6)
  else if h : d < 15 then s.stiles[d - 12].domainOn
  else false
/-- Whether the port group of a port is on. -/
def State.portGrpUp (s : State) (k : PortId) : Bool := testBit s.glb.portGrpOn (portGrpOf k)
/-- Whether a port's Stile domain is on. -/
def State.stileOn (s : State) (k : PortId) : Bool := s.stiles[(stileOf k).val].domainOn
/-- Whether a port's Spline link is up. -/
def State.linkUp (s : State) (k : PortId) : Bool := s.stiles[(stileOf k).val].up
/-- Whether the Carcass runs: out of reset. -/
def State.awake (s : State) : Bool := s.glb.core != .inReset

/-- Whether the hub personality is presented at all: bring-up step 5 has ended (R86). -/
def State.hubSide (s : State) : Bool := s.awake && (s.glb.phase == 5 || s.glb.phase == 6 || s.glb.phase == 7)

/-! ### Event records -/

/-- Bytes an event's payload takes in the slot's pool. -/
def recordPayload : Record → Nat
  | .event e => e.payload.length
  | .completion _ => 0
/-- Whether a record is an event. -/
def isEvent : Record → Bool
  | .event _ => true
  | .completion _ => false

/-- Whether the slot has its host's remote wake enabled: WAKE_ARMED (R107). -/
def Slot.wakeArmed (x : Slot) : Bool := x.wakeHub2 || x.wakeTeller

/-- A suspended slot with WAKE_ARMED = 1 signals remote wake (R123, R163). -/
def Slot.wakeIfArmed (x : Slot) : Slot := if x.suspended && x.wakeArmed then { x with wakeSignal := true } else x

/-- Put an event into a slot's queue, or drop it where it overflows the 1,024 records or the 16 KiB of payload (R167). -/
def Slot.queueEvent (x : Slot) (e : Event) : Slot :=
  let evs := x.records.filter isEvent
  let pool := (x.records.map recordPayload).sum
  if evs.length < 1024 ∧ pool + e.payload.length ≤ 16384 then
    ({ x with records := x.records ++ [Record.event e] }).wakeIfArmed
  else x

/-- The low 32 bits of Tally's microframe counter N. -/
def State.nLow (s : State) : Word := s.tally.n.setWidth 32

/-- The event record a slot is given next; its SEQ is the slot's (R165). -/
def State.mkEvent (s : State) (h : SlotId) (code : Nat) (port : Option PortId) (aux data : Nat) (payload : Option (List Byte)) :
    Event :=
  { code := BitVec.ofNat 8 code
    seq := s.slots[h.val].seq
    port := match port with | some k => BitVec.ofNat 8 k.val | none => 0xFF
    aux := match payload with | some l => BitVec.ofNat 16 l.length | none => BitVec.ofNat 16 aux
    data := toWord data
    mf := s.nLow
    ext := payload.isSome
    payload := payload.getD [] }

/-- Give a slot an event: SEQ is consumed whatever becomes of it (R165, R167); while Teller restarts or swaps the record
is held, up to 256 for the device (R473). -/
def State.give (s : State) (h : SlotId) (e : Event) : State :=
  let s := s.modSlot h fun x => { x with seq := x.seq + 1 }
  if s.teller.run = .restarting ∨ s.teller.run = .swapping then
    if s.teller.heldEvents.length < 256 then s.modTeller fun t => { t with heldEvents := t.heldEvents ++ [(h, e)] } else s
  else s.modSlot h fun x => x.queueEvent e

/-- An event to one slot. -/
def State.slotEvent (s : State) (h : SlotId) (code : Nat) (port : Option PortId) (aux data : Nat) : State :=
  s.give h (s.mkEvent h code port aux data none)

/-- An event with a payload to one slot (EXT = 1). -/
def State.slotEventExt (s : State) (h : SlotId) (code : Nat) (port : Option PortId) (data : Nat) (payload : List Byte) : State :=
  s.give h (s.mkEvent h code port 0 data (some payload))

/-- An event of a port, to its owner only; a port without an owner generates none (R157, R166). -/
def State.portEvent (s : State) (k : PortId) (code aux data : Nat) : State :=
  match s.owner k with
  | some h => s.slotEvent h code (some k) aux data
  | none => s

/-- An event to every slot with TELLER_CFG = 1 (R166). -/
def State.everySlotEvent (s : State) (code aux data : Nat) : State :=
  allSlots.foldl (fun s h => if s.slots[h.val].tellerCfg then s.slotEvent h code none aux data else s) s

/-- An event to each of some slots, in slot order. -/
def State.slotsEvent (s : State) (hs : List SlotId) (code aux data : Nat) : State :=
  allSlots.foldl (fun s h => if hs.contains h then s.slotEvent h code none aux data else s) s

/-- Post the events held while Teller restarted or swapped, in order (R473). Their SEQ was taken when they arose.
[DEDUCED, log 22] -/
def State.postHeld (s : State) : State :=
  let l := s.teller.heldEvents
  let s := s.modTeller fun t => { t with heldEvents := [] }
  l.foldl (fun s p => s.modSlot p.1 fun x => x.queueEvent p.2) s

/-- An event of a Stile's port: given at once while the link is up; kept by the Stile while it is not, up to 64 per Stile,
the oldest dropped with its SEQ consumed (R464). `ext` carries a PD message. -/
def State.stileEvent (s : State) (k : PortId) (code aux data : Nat) (ext : Option (List Byte)) : State :=
  match s.owner k with
  | none => s
  | some h =>
    let e := s.mkEvent h code (some k) aux data ext
    if s.linkUp k then s.give h e
    else
      let i := stileOf k
      let kept := s.stiles[i.val].kept ++ [(k, e)]
      let s := s.modStile i fun x => { x with kept := keepLast 64 kept }
      if kept.length > 64 then s.modSlot h fun x => { x with seq := x.seq + 1 } else s

/-- The events a Stile kept during an outage, delivered oldest first when its link is up again (R464). -/
def State.deliverKept (s : State) (i : StileId) : State :=
  let l := s.stiles[i.val].kept
  let s := s.modStile i fun x => { x with kept := [] }
  l.foldl (fun s p =>
    match s.owner p.1 with
    | some h => s.give h { p.2 with seq := s.slots[h.val].seq }
    | none => s) s

/-! ### Mint holds, as other blocks raise them -/

/-- Causes of a hold by bit (R290). -/
inductive Cause where
  | host | fe | limit | feedback | drive | underrun | segJump | clearance | dovetail | link | port | deed | suspend
  deriving DecidableEq, Repr

/-- The CAUSE bit of a cause (R290). -/
def Cause.bit : Cause → Nat
  | .host => 0 | .fe => 1 | .limit => 2 | .feedback => 3 | .drive => 4 | .underrun => 5 | .segJump => 6 | .clearance => 7
  | .dovetail => 8 | .link => 9 | .port => 10 | .deed => 11 | .suspend => 12

/-- A hold raised on a group: it takes effect at the next snapshot (R31, R32); of several channels the first is named (R302).
[DESIGN CHOICE, log 179] -/
def State.raiseHold (s : State) (g : GroupId) (c : Cause) (who : Option ChanId) : State :=
  s.modGroup g fun x =>
    { x with pend := x.pend ||| BitVec.ofNat 16 (2 ^ c.bit), raiser := match x.raiser with | some r => some r | none => who }

/-- All Mint channels, rising. -/
def allChans : List ChanId := allFin 128
/-- All Mint groups, rising. -/
def allGroups : List GroupId := allFin 16

/-- The port that carries a channel: the PORT of the record in force, enabled or not (R186). -/
def State.chanPort (s : State) (c : ChanId) : Option PortId := s.mint.chans[c.val].cfg.map (·.port)
/-- The group of a configured channel. -/
def State.chanGroup (s : State) (c : ChanId) : Option GroupId := s.mint.chans[c.val].cfg.map (·.group)
/-- Whether a channel is enabled. -/
def State.chanEnabled (s : State) (c : ChanId) : Bool := (s.mint.chans[c.val].cfg.map (·.enable)).getD false
/-- The channels a port carries. -/
def State.portChans (s : State) (k : PortId) : List ChanId := allChans.filter fun c => s.chanPort c == some k
/-- The enabled channels of a port. -/
def State.portEnabled (s : State) (k : PortId) : List ChanId := (s.portChans k).filter s.chanEnabled
/-- The configured channels of a group. -/
def State.groupChans (s : State) (g : GroupId) : List ChanId := allChans.filter fun c => s.chanGroup c == some g
/-- The enabled channels of a group. -/
def State.groupEnabled (s : State) (g : GroupId) : List ChanId := (s.groupChans g).filter s.chanEnabled
/-- The groups that have an enabled channel on a port, rising (R285). -/
def State.portGroups (s : State) (k : PortId) : List GroupId :=
  allGroups.filter fun g => (s.portEnabled k).any fun c => s.chanGroup c == some g
/-- The owners of the ports that carry some channels. -/
def State.ownersOf (s : State) (cs : List ChanId) : List SlotId :=
  allSlots.filter fun h => cs.any fun c => ((s.chanPort c).bind s.owner) == some h

/-- Every group with a channel on a port is held, as MNT_HOLD would hold it (R114, R121, R143). -/
def State.holdPort (s : State) (k : PortId) (c : Cause) : State :=
  (s.portGroups k).foldl (fun s g => s.raiseHold g c none) s

end Sys2Proof.Machine
end

