-- ==== Sys2Proof/Machine/Lines.lean ====
section
/-! DEFINITION. The Ledger's lines (file 13), as every block that reads or writes them uses them: stored bytes in one canonical
form, check words and unwritten bits, correction from clean sources, uncorrectable lines, Inlay, and the Drafts' jobs. -/
namespace Sys2Proof.Machine

/-! ### Stored bytes -/

/-- The byte at an address: an unlisted address reads 0. [DESIGN CHOICE, log 4] -/
def memGet (a : Nat) : List Host.Cell → Byte
  | [] => 0
  | c :: l => if c.1 = a then c.2 else memGet a l

/-- The memory with one byte written; a zero byte is not listed. [DESIGN CHOICE, log 4] -/
def memSet (a : Nat) (b : Byte) : List Host.Cell → List Host.Cell
  | [] => if b = 0 then [] else [(a, b)]
  | c :: l =>
    if a < c.1 then (if b = 0 then c :: l else (a, b) :: c :: l)
    else if a = c.1 then (if b = 0 then l else (a, b) :: l)
    else c :: memSet a b l

/-- Bytes written from an address on. -/
def memWrite (a : Nat) : List Byte → List Host.Cell → List Host.Cell
  | [], m => m
  | b :: l, m => memWrite (a + 1) l (memSet a b m)

/-- The canonical form: addresses strictly rising from `lo` on, no zero byte listed. -/
def memWfFrom (lo : Nat) : List Host.Cell → Bool
  | [] => true
  | c :: l => lo ≤ c.1 && c.2 != 0 && memWfFrom (c.1 + 1) l

/-- The canonical form of the Ledger's bytes. -/
def Memory.wf (m : List Host.Cell) : Bool := memWfFrom 0 m

/-! ### Lines -/

/-- Classes of line (R383). -/
inductive LineClass where
  | refetch | mirror | recompute | plain
  deriving DecidableEq, Repr

/-- The class of a line, by the Ledger-region table. -/
def classOf (line : Nat) : LineClass :=
  if line < 0x4000 then .refetch
  else if line < 0x6000 then .mirror
  else if line < 0x8000 then .recompute
  else if 0x14000 ≤ line ∧ line < 0x16000 then .mirror
  else .plain

/-- The class code of a LEDGER event (R400). -/
def LineClass.code : LineClass → Nat
  | .refetch => 0 | .mirror => 1 | .recompute => 2 | .plain => 3

/-- Whether a line lies in the host region (R383). -/
def hostLine (line : Nat) : Bool := 0xC000 ≤ line && line < 0x10000

/-- The other copy of a MIRROR line (R386). [DEDUCED, log 125] -/
def twinOf (line : Nat) : Nat := if line < 0x10000 then line + 0x10000 else line - 0x10000

/-- The bank of a line: 1 MiB each. -/
def bankOf (line : Nat) : Nat := line / 0x4000

/-- The check word of a line's data (R384). -/
def lineCrc (line : Nat) (l : List Byte) : Word := crc32c (leBytes 4 line ++ l)

/-- Whether a REFETCH line holds the image payload as it was loaded. -/
def Ledger.isPayload (g : Ledger) (line : Nat) : Bool := line < g.payloadLines && !g.overwritten.contains line

/-- Whether a line has been written (R387). -/
def Ledger.isWritten (g : Ledger) (line : Nat) : Bool := g.isPayload line || g.written.contains line

/-- Payload bytes of a line in an image (R80). [DEDUCED, log 127] -/
def payloadLine (payload line : Nat) : List Byte := (List.range 64).map fun i => Config.payloadByte payload (64 * line + i)

/-- Stored data bytes of a written line. [DESIGN CHOICE, log 4] -/
def Ledger.stored (g : Ledger) (line : Nat) : List Byte :=
  if g.isPayload line then payloadLine g.payload line else (List.range 64).map fun i => memGet (64 * line + i) g.mem

/-- How a line's stored check word differs from the CRC of its data; 0 = the line passes. -/
def Ledger.diff (g : Ledger) (line : Nat) : Word := match g.chk.find? fun c => c.1 == line with | some c => c.2 | none => 0

/-- The stored check word of a line. -/
def Ledger.checkWord (g : Ledger) (line : Nat) : Word := lineCrc line (g.stored line) ^^^ g.diff line

/-- The primary copy of a MIRROR line's number, and any other line's own. -/
def primaryOf (line : Nat) : Nat := if 0x14000 ≤ line ∧ line < 0x16000 then line - 0x10000 else line

/-- Whether a MIRROR line lies in a table of the sub-map that the model keeps (R383): segment queues, channel records, templates
and order records. -/
def keptTable (line : Nat) : Bool :=
  let p := primaryOf line
  (0x4000 ≤ p && p < 0x4C80) || (0x4D00 ≤ p && p < 0x5040)

/-- The slots whose Teller traffic lies in a line (R383): Till parameter pools, Till entry rings, Statement buffers with the order
slots, and result pools. [DESIGN CHOICE, log 54] -/
def lineUsers (line : Nat) : List SlotId :=
  let at_ := fun (h : Nat) => [(finOf 4 (by decide) h : SlotId)]
  if 0x8000 ≤ line ∧ line < 0xC000 then at_ ((line - 0x8000) / 0x2000)
  else if 0x10000 ≤ line ∧ line < 0x14000 then at_ (2 + (line - 0x10000) / 0x2000)
  else if 0x16000 ≤ line ∧ line < 0x16200 then at_ ((line - 0x16000) / 0x80)
  else if 0x16200 ≤ line ∧ line < 0x18000 then allSlots
  else if 0x18000 ≤ line ∧ line < 0x20000 then at_ ((line - 0x18000) / 0x2000)
  else []

/-- Whether a line that no store of the model has written may hold what the hardware put there at a place the spec does not give:
the tables that Teller builds in step 5 (R72), what Mint and Clearance produce, and what a slot's Teller traffic leaves. Every
other such line is unwritten (R77, R387). [DESIGN CHOICE, log 54] -/
def State.maybeWritten (s : State) (line : Nat) : Bool :=
  match classOf line with
  | .refetch => false
  | .mirror => s.hubSide && !keptTable line
  | .recompute => s.mint.produced
  | .plain => (lineUsers line).any fun h => s.slots[h.val].used

/-- Record a line's check difference. -/
def Ledger.setDiff (g : Ledger) (line : Nat) (d : Word) : Ledger :=
  let rest := g.chk.filter fun c => c.1 != line
  let (lo, hi) := (rest.filter fun c => decide (c.1 < line), rest.filter fun c => decide (line < c.1))
  { g with chk := if d = 0 then rest else lo ++ (line, d) :: hi }

/-- Put 64 data bytes into a line, its unwritten bit cleared; check difference as given. -/
def Ledger.put (g : Ledger) (line : Nat) (l : List Byte) (d : Word) : Ledger :=
  let g := { g with
    mem := memWrite (64 * line) (fitTo 64 l) g.mem
    overwritten := if line < g.payloadLines then insertRising line g.overwritten else g.overwritten
    written := insertRising line g.written }
  g.setDiff line d

/-- Whether a line's cells do not hold what is written, and no Inlay entry redirects it. [DEDUCED, log 123] -/
def Ledger.cellBad (g : Ledger) (line : Nat) : Bool := g.badLines.contains line && !g.inlay.any fun e => e.line == line

/-! ### Reports (R388, R390, R400) -/

/-- Codes of what found a failing line (R400). -/
inductive Finder where
  | fabric | plane | fetch | draft | merge
  deriving DecidableEq, Repr

/-- The FINDER code. -/
def Finder.code : Finder → Nat
  | .fabric => 0 | .plane => 1 | .fetch => 2 | .draft => 3 | .merge => 4

/-- A LEDGER event to every slot (R400). -/
def State.ledgerEvent (s : State) (aux data : Nat) : State := s.everySlotEvent 0x38 aux data

/-- A line becomes SUSPECT and is queued for Plane, if the queue has room (R388, R393). -/
def State.suspectLine (s : State) (line : Nat) : State :=
  if s.ldg.suspect.contains line then s
  else
    let s := s.modLdg fun g => { g with suspect := insertRising line g.suspect }
    if s.ldg.queue.length < 16 then s.modLdg fun g => { g with queue := g.queue ++ [line] }
    else
      let first := !s.ldg.ovfEvent
      let s := s.modLdg fun g => { g with sqOvf := true, ovfEvent := true }
      if first then s.ledgerEvent 0x6 0 else s

/-- The description of a failing line, as LDG_LAST and the events give it. -/
def Ledger.lineInfo (g : Ledger) (line : Nat) (f : Finder) : Nat :=
  line + fieldAt (classOf line).code 17 + flagAt (g.injected.contains line) 19 + fieldAt f.code 20

/-- A corrected read (R388): LDG_LAST, LDG_CORR, SUSPECT, and the event at the episode's first correction, at most 16 a second.
[DEDUCED, log 153] -/
def State.noteCorrected (s : State) (line : Nat) (f : Finder) : State :=
  let info := s.ldg.lineInfo line f
  let first := !s.ldg.announced.contains line
  let now := s.glb.clock
  let recent := s.ldg.corrEvents.filter fun t => decide (now < t + 8000)
  let s := (s.suspectLine line).modLdg fun g =>
    { g with last := toWord info, corr := satAdd g.corr 1, announced := insertRising line g.announced }
  if first ∧ recent.length < 16 then
    (s.modLdg fun g => { g with corrEvents := recent ++ [now] }).ledgerEvent 0x1 info
  else s

/-- An uncorrectable read (R390, R442). -/
def State.noteUncorrectable (s : State) (line : Nat) (f : Finder) : State :=
  let info := s.ldg.lineInfo line f
  let first := !s.ldg.reported.contains line
  let s := (s.suspectLine line).modLdg fun g =>
    { g with last := toWord (info + 2 ^ 31), uncorr := satAdd g.uncorr 1, reported := insertRising line g.reported }
  let s := s.modGlb fun g => { g with fLedger := true }
  if first then s.ledgerEvent 0x2 info else s

/-- An Inlay lookup compares the two copies of the entry of a line (R396, R468): a mismatch sets GLB_FAULT.INLAY; where one
copy has good parity it repairs the other. Answers whether the line is out of use. -/
def State.inlayCheck (s : State) (line : Nat) : Bool × State :=
  match s.ldg.inlay.find? fun e => e.line == line with
  | some e =>
    if e.agree then (false, s)
    else
      let s := s.modGlb fun g => { g with fInlay := true }
      if e.oneGood then
        (false, s.modLdg fun g => { g with inlay := g.inlay.map fun x => if x.line = line then { x with agree := true } else x })
      else (true, s)
  | none => (false, s)

/-! ### Reads (R387 to R390) -/

/-- How a line reads. -/
inductive LineStatus where
  | ok | unwritten | corrected | bad
  deriving DecidableEq, Repr

/-- A RECOMPUTE line as Mint or Clearance makes it in the current microframe: bit for bit what it wrote (R388). What the line
holds the spec does not lay out. [DEDUCED, log 126] -/
def State.recomputed (s : State) (line : Nat) : List Byte := (List.range 64).map (Config.recomputedByte s.glb.clock line)

/-- Whether some MIRROR line fails in both copies: what a producer computes from may be gone (R388, R390). [DEDUCED, log 126] -/
def Ledger.mirrorGone (g : Ledger) : Bool :=
  g.chk.any fun c => decide (0x4000 ≤ c.1 ∧ c.1 < 0x6000) && g.diff (twinOf c.1) != 0

/-- The accepted data of a failing line's clean source (R388, R390), if it gives any: the payload in flash, unless two reads of it
disagree or time out, which is free; the twin, where it passes; the line as its producer regenerates it, unless it
cannot. [DEDUCED, log 125, 126] -/
def State.cleanSource (s : State) (line : Nat) : Option (List Byte) × State :=
  match classOf line with
  | .refetch =>
    let f := s.freeBit
    (if f.1 then some (payloadLine s.ldg.payload line) else none, f.2)
  | .mirror =>
    let t := twinOf line
    (if s.ldg.isWritten t ∧ s.ldg.diff t = 0 then some (s.ldg.stored t) else none, s)
  | .recompute =>
    let f := s.freeBit
    (if s.ldg.mirrorGone && f.1 then none else some (s.recomputed line), f.2)
  | .plain => (none, s)

/-- A line that no store of the model has written, and that may have been: whether it is written is free, and what it holds is
the producer's, or free. [DESIGN CHOICE, log 54] -/
def State.openLine (s : State) (line : Nat) : LineStatus × List Byte × State :=
  let u := s.freeBit
  if u.1 then (.unwritten, List.replicate 64 0, u.2)
  else if classOf line = .recompute then (.ok, s.recomputed line, u.2)
  else
    let d := u.2.freeBytes 64
    (.ok, d.1, d.2)

/-- A reader's read of one line: what it gives, its data (zeros where it is uncorrectable), and the reports it causes. -/
def State.readLine (s : State) (f : Finder) (line : Nat) : LineStatus × List Byte × State :=
  let zero := List.replicate 64 (0 : Byte)
  if !s.ldg.isWritten line then
    if s.maybeWritten line then s.openLine line else (.unwritten, zero, s)
  else
    let c := s.inlayCheck line
    let s := c.2
    if c.1 then (.bad, zero, s.noteUncorrectable line f)
    else if s.ldg.diff line = 0 then (.ok, s.ldg.stored line, s)
    else
      let src := s.cleanSource line
      match src.1 with
      | some d => (.corrected, d, src.2.noteCorrected line f)
      | none => (.bad, zero, src.2.noteUncorrectable line f)

/-! ### Remapping (R394, R395) -/

/-- The lowest-numbered free spare of a bank that passes its patterns, as bank × 8 + spare (R394). -/
def Ledger.freeSpare (g : Ledger) (bank : Nat) : Option Nat :=
  ((List.range 8).map fun i => bank * 8 + i).find? fun x => !g.usedSpares.contains x && !g.badSpares.contains x

/-- A hard-failed line is remapped to a spare, or found impossible to remap, once (R394, R395). -/
def State.remap (s : State) (line : Nat) (l : List Byte) : State :=
  if s.ldg.noRemap.contains line then s
  else if s.ldg.inlay.length ≥ 8 then
    (s.modLdg fun g => { g with noRemap := insertRising line g.noRemap }).ledgerEvent 0x4 line
  else match s.ldg.freeSpare (bankOf line) with
    | none => (s.modLdg fun g => { g with noRemap := insertRising line g.noRemap }).ledgerEvent 0x4 (line + 2 ^ 20)
    | some x =>
      let e := s.ldg.inlay.length
      let n := s.nLow
      let s := s.modLdg fun g => { (g.put line l 0) with
        inlay := g.inlay ++ [{ runtime := true, spare := x % 8, line := line, n := n }]
        usedSpares := insertRising x g.usedSpares
        suspect := g.suspect.filter (· != line), reported := g.reported.filter (· != line)
        announced := g.announced.filter (· != line), queue := g.queue.filter (· != line) }
      s.ledgerEvent 0x3 (line + fieldAt (x % 8) 17 + fieldAt e 20)

/-- The read after a write that may return a SUSPECT line to service (R393): SUSPECT clears where it passes; otherwise the line
is hard-failed. -/
def State.verifyLine (s : State) (line : Nat) (l : List Byte) : State :=
  if s.ldg.diff line = 0 then
    s.modLdg fun g => { g with
      suspect := g.suspect.filter (· != line), reported := g.reported.filter (· != line)
      announced := g.announced.filter (· != line), queue := g.queue.filter (· != line) }
  else s.remap line l

/-! ### Writes (R385, R386, R399) -/

/-- One line is stored with a check word that differs from the right one by `d`, changed further by a flip that is armed for
the line (R399) and by cells that do not hold what is written. The line is injected where a flip acted, and else no longer.
[DEDUCED, log 123, 145] -/
def State.storeLine (s : State) (line : Nat) (l : List Byte) (d : Word) : State :=
  let armed := s.ldg.flip != 0 && s.ldg.flipAddr.toNat == line
  let d := if armed then d ^^^ s.ldg.flip else d
  let d := if s.ldg.cellBad line ∧ d = 0 then 1 else d
  s.modLdg fun g => { (g.put line l d) with
    flip := if armed then 0 else g.flip
    injected := if armed then insertRising line g.injected else g.injected.filter (· != line)
    inj := if g.inj = some (BitVec.ofNat 17 line) then none else g.inj }

/-- Replace `len` bytes of a line from offset `off`. -/
def spliceLine (old : List Byte) (off : Nat) (l : List Byte) : List Byte := old.take off ++ l ++ old.drop (off + l.length)

/-- A write to one line of `l`, from offset `off` (R385): the rest of a partial line is merged from what the line holds; a
partial write to a failing PLAIN line leaves it failing. What is merged where a clean source gives nothing is free.
[DESIGN CHOICE, log 144] -/
def State.writeLine (s : State) (line off : Nat) (l : List Byte) : State :=
  let s := (s.inlayCheck line).2
  if off = 0 ∧ l.length = 64 then
    let was := s.ldg.suspect.contains line
    let s := s.storeLine line l 0
    if was then s.verifyLine line l else s
  else if !s.ldg.isWritten line then s.storeLine line (spliceLine (List.replicate 64 0) off l) 0
  else
    let keep := s.ldg.stored line
    match s.readLine .merge line with
    | (.bad, _, s) =>
      if classOf line = .plain then s.storeLine line (spliceLine keep off l) 0xFFFFFFFF
      else
        let f := s.freeBytes 64
        f.2.storeLine line (spliceLine f.1 off l) 0
    | (_, d, s) => s.storeLine line (spliceLine d off l) 0

/-- The write of one line by its class: a MIRROR line is written in both copies (R386). -/
def State.writeClassed (s : State) (line off : Nat) (l : List Byte) : State :=
  if classOf line = .mirror then (s.writeLine line off l).writeLine (twinOf line) off l else s.writeLine line off l

/-- Bytes written to the Ledger from an address, line by line; `fuel` bounds the number of lines. -/
def State.ledgerWrite : Nat → Nat → List Byte → State → State
  | 0, _, _, s => s
  | f + 1, a, l, s =>
    if l.isEmpty then s
    else
      let off := a % 64
      let n := min (64 - off) l.length
      State.ledgerWrite f (a + n) (l.drop n) (s.writeClassed (a / 64) off (l.take n))

/-- Bytes written to the Ledger from an address. -/
def State.writeLedger (s : State) (a : Nat) (l : List Byte) : State := State.ledgerWrite (l.length + 1) a l s

/-- A record of a MIRROR table is written (R383): 32 bytes per order. [DESIGN CHOICE, log 122] -/
def State.writeOrderRecord (s : State) (n : OrderId) (l : List Byte) : State := s.writeLedger (0x139000 + 32 * n.val) l
/-- A Mint channel record is written. [DESIGN CHOICE, log 122] -/
def State.writeChanRecord (s : State) (c : ChanId) (l : List Byte) : State := s.writeLedger (0x130000 + 64 * c.val) l
/-- The place of entry `e` of a channel's segment queue (R383). -/
def entryAddr (c : ChanId) (e : Nat) : Nat := 0x100000 + 0x600 * c.val + 48 * (e % 32)
/-- A segment record of 48 bytes is written into an entry of a channel's queue (R383). [DESIGN CHOICE, log 122] -/
def State.writeSegment (s : State) (c : ChanId) (e : Nat) (l : List Byte) : State := s.writeLedger (entryAddr c e) l
/-- A feedback template's program is written (R383): 320 bytes per template. [DESIGN CHOICE, log 122] -/
def State.writeTemplate (s : State) (t : TemplId) (l : List Byte) : State := s.writeLedger (0x134000 + 320 * t.val) l

/-! ### Reads of several lines -/

/-- What a read of several lines found: bytes, and the index of the first uncorrectable, corrected and unwritten line. -/
structure LedgerRead where
  data : List Byte := []
  bad : Option Nat := none
  corrected : Option Nat := none
  unwritten : Option Nat := none

/-- One line added to a read. -/
def LedgerRead.add (r : LedgerRead) (i : Nat) (st : LineStatus) (l : List Byte) : LedgerRead :=
  let first := fun (o : Option Nat) => match o with | some x => some x | none => some i
  { data := r.data ++ l
    bad := if st = .bad then first r.bad else r.bad
    corrected := if st = .corrected then first r.corrected else r.corrected
    unwritten := if st = .unwritten then first r.unwritten else r.unwritten }

/-- `n` lines read from a line on. [DESIGN CHOICE, log 121] -/
def State.readLines (s : State) (f : Finder) (line n : Nat) : LedgerRead × State :=
  (List.range n).foldl (fun a i =>
    let x := a.2.readLine f (line + i)
    (a.1.add i x.1 x.2.1, x.2.2)) ({}, s)

/-- `len` bytes read from an address. -/
def State.readLedger (s : State) (f : Finder) (a len : Nat) : LedgerRead × State :=
  let lo := a / 64
  let n := (a + len + 63) / 64 - lo
  let x := s.readLines f lo n
  ({ x.1 with data := slice x.1.data (a % 64) len }, x.2)

/-- A record of a MIRROR table is checked as its reader reads it (R389, R390): whether it can be used. [DEDUCED, log 85, 124] -/
def State.checkRecord (s : State) (a len : Nat) : Bool × State :=
  let x := s.readLedger .fabric a len
  (x.1.bad.isNone, x.2)

/-! ### What the hardware keeps at places the spec does not give (R383, R397, R399) -/

/-- Lines in a part of the Ledger that fail their check, whose cells do not hold what is written, or for which a flip is
armed. -/
def Ledger.faulty (g : Ledger) (p : Nat → Bool) : List Nat :=
  let flip := if g.flip = 0 then [] else [g.flipAddr.toNat]
  ((g.chk.map (·.1)) ++ (g.badLines.filter g.cellBad) ++ flip).filter p |>.foldl (fun l x => insertRising x l) []

/-- The hardware writes a line of its own at which a flip is armed or whose cells fail (R399): the bytes are free, or the
producer's; a MIRROR line is written in both copies (R386). [DESIGN CHOICE, log 91] -/
def State.writeOwn (s : State) (line : Nat) : State :=
  if classOf line = .recompute then s.storeLine line (s.recomputed line) 0
  else
    let f := s.freeBytes 64
    let s := f.2.storeLine line f.1 0
    if classOf line = .mirror then s.storeLine (twinOf line) f.1 0 else s

/-- The hardware writes its own data in a part of the Ledger: the faulty lines among those it writes, which is free. Without a
faulty line nothing happens. [DESIGN CHOICE, log 91] -/
def State.ownWrites (s : State) (p : Nat → Bool) : State :=
  (s.ldg.faulty p).foldl (fun s line =>
    let f := s.freeBit
    if f.1 then f.2.writeOwn line else f.2) s

/-- The hardware reads its own data in a part of the Ledger: the failing lines among those it reads, which is free, with the
first that is uncorrectable. Without a failing line nothing happens. [DESIGN CHOICE, log 91] -/
def State.ownReads (s : State) (f : Finder) (p : Nat → Bool) : Option Nat × State :=
  ((s.ldg.chk.map (·.1)).filter p).foldl (fun a line =>
    let b := a.2.freeBit
    if !b.1 then (a.1, b.2)
    else
      let x := b.2.readLine f line
      (if a.1.isNone && x.1 == .bad then some line else a.1, x.2.2)) (none, s)

/-- The faulty lines of a part of the Ledger that the hardware's own data lie in: which of them the data of one job lie in is
free, since the spec does not give their place. A job writes its lines before it reads them. Without a faulty line nothing
happens. [DESIGN CHOICE, log 91] -/
def State.meets (s : State) (p : Nat → Bool) : List Nat × State :=
  (s.ldg.faulty p).foldl (fun a line =>
    let f := a.2.freeBit
    if !f.1 then (a.1, f.2)
    else
      let s := if f.2.ldg.diff line = 0 then f.2.writeOwn line else f.2
      (if s.ldg.diff line = 0 then a.1 else a.1 ++ [line], s)) ([], s)

/-- The Till parameter pool of a slot (R383). -/
def inParams (h : SlotId) (line : Nat) : Bool :=
  let base := if h.val < 2 then 0x8000 + 0x2000 * h.val else 0x10000 + 0x2000 * (h.val - 2)
  base ≤ line && line < base + 0x2000
/-- The result pool of a slot (R383). -/
def inResults (h : SlotId) (line : Nat) : Bool := 0x18000 + 0x2000 * h.val ≤ line && line < 0x1A000 + 0x2000 * h.val
/-- The region of the Statement buffers (R383). -/
def inStatements (line : Nat) : Bool := 0x16200 ≤ line && line < 0x18000
/-- The lines of Clearance's body and pair records, in both copies (R383). -/
def inClrRecords (line : Nat) : Bool := let p := primaryOf line; 0x5040 ≤ p && p < 0x5080
/-- The lines of Mint's channel history, in both copies (R383). -/
def inHistory (line : Nat) : Bool := let p := primaryOf line; 0x4C80 ≤ p && p < 0x4D00
/-- The line of a channel's history (R383). -/
def historyLine (c : ChanId) : Nat := 0x4C80 + c.val
/-- The RECOMPUTE region (R383). -/
def inProduced (line : Nat) : Bool := 0x6000 ≤ line && line < 0x8000

/-! ### Drafts (R397, R402) -/

/-- A job of a Draft in HALT mode has halted at a line (R390, R402): the Draft, which the C2428 chose itself, counts it and is
free for its next job. [DESIGN CHOICE, log 121] -/
def State.draftHalts (s : State) (line : Nat) : State :=
  let d := s.freeBelow 32
  d.2.modLdg fun g => { g with
    drafts := vmod g.drafts (finOf 32 (by decide) d.1) fun x => { x with halts := satAdd x.halts 1 }
    draftLast := BitVec.ofNat 17 line }

/-- A job of a Draft in HALT mode whose source lies in a part of the Ledger: whether it halts (R390, R397).
[DESIGN CHOICE, log 91] -/
def State.haltJob (s : State) (p : Nat → Bool) : Bool × State :=
  let x := s.meets p
  match x.1 with
  | [] => (false, x.2)
  | line :: _ => (true, (x.2.noteUncorrectable line .draft).draftHalts line)

/-- The Draft that brings a port a Mint frame (R397): whether its job halts at a line that cannot be regenerated (R390). -/
def State.frameJob (s : State) : Bool × State :=
  let x := s.ownReads .draft inProduced
  match x.1 with
  | none => (false, x.2)
  | some line => (true, x.2.draftHalts line)

/-- A Draft takes a job that outlasts its command (R397): an idle one, which of them is free. [DESIGN CHOICE, log 121] -/
def State.takeDraft (s : State) (client : BitVec 4) : Option (Fin 32) × State :=
  let idle := (allFin 32).filter fun d => !s.ldg.drafts[d.val].busy
  if idle.isEmpty then (none, s)
  else
    let f := s.freeBelow idle.length
    match idle[f.1]? with
    | none => (none, f.2)
    | some d => (some d, f.2.modLdg fun g => { g with
        drafts := vmod g.drafts d fun x => { x with client := client, zeroFill := false, busy := true } })

/-- A Draft's job ends. -/
def State.freeDraft (s : State) (d : Option (Fin 32)) : State :=
  match d with
  | none => s
  | some d => s.modLdg fun g => { g with drafts := vmod g.drafts d fun x => { x with client := 0, busy := false } }

end Sys2Proof.Machine
end

