-- ==== Sys2Proof/Machine/Operands.lean ====
section
/-! DEFINITION. The operand forms that the opcode tables share (R181): arguments shown as 0, the port argument with the
requirement that the caller owns it, and whether a port's work is powered down. Bit-field forms of single opcodes stand with
their opcode. -/
namespace Sys2Proof.Machine

/-- An argument shown as 0. -/
def arg0Zero (a : CmdArgs) : Bool := a.arg0 == 0
/-- An argument shown as 0. -/
def arg1Zero (a : CmdArgs) : Bool := a.arg1 == 0
/-- ARG0 is a port number, its other bits 0 (R181). -/
def arg0Port (a : CmdArgs) : Bool := a.arg0.toNat < 24
/-- The port that ARG0 names; checked by `arg0Port` before any body runs. -/
def portArg (a : CmdArgs) : PortId := finOf 24 (by decide) (a.arg0.toNat % 32)

/-- The caller owns the port that ARG0 names. -/
def ownerOfArg (s : State) (a : CmdArgs) : Bool := s.ownsAll a.caller [portArg a]

/-- Whether a port's work is off or draining, so that a command that targets it completes EPOWERED_DOWN (R407, R408).
[DEDUCED, log 116] -/
def State.portDown (s : State) (k : PortId) : Bool :=
  !s.portGrpUp k || !s.stileOn k || s.glb.drain == .domain (6 + portGrpOf k) || s.glb.drain == .domain (12 + (stileOf k).val)

/-- Calling slot of a command, if it is one. -/
def callerSlot : Caller → Option SlotId
  | .slot h => some h
  | .mbx => none

end Sys2Proof.Machine
end

