-- ==== Sys2Proof/Machine/Flags.lean ====
section
/-! DEFINITION. The status words and codes that are computed from the state: PRT_STATE, PRT_DEED, HST_STATUS and their
like (R95, R107 to R110, R133, R443), the fused values of the Vault (R437 to R441), and GLB_FAULT with INT_N and the fault
LED (R442, R471, R472). -/
namespace Sys2Proof.Machine

/-! ### Ports -/

/-- STATE codes of PRT_STATE (R131). -/
def PortState.code : PortState → Nat
  | .off => 0x0 | .waitAttach => 0x1 | .waitPower => 0x2 | .powered => 0x3 | .connectDebounce => 0x4 | .resetting => 0x5
  | .enumerating => 0x6 | .addressed => 0x7 | .active => 0x8 | .suspended => 0x9 | .resuming => 0xA | .refused => 0xB
  | .disabled => 0xC | .test => 0xD | .cooldown => 0xE

/-- Whether CC attach is confirmed on a port (R331). -/
def State.attached (s : State) (k : PortId) : Bool := s.pd[k.val].cc == .attachedSrc

/-- The state a port reports: OFF in OFF mode; COOLDOWN while a cooldown runs outside OFF mode (R131). -/
def State.shownState (s : State) (k : PortId) : PortState :=
  if s.mode k = .off then .off
  else if s.pwr[k.val].cooling then .cooldown
  else s.ports[k.val].state

/-- Whether a port reports ACTIVE. -/
def State.isActive (s : State) (k : PortId) : Bool := s.shownState k == .active

/-- PRT_STATE (R133). -/
def State.prtState (s : State) (k : PortId) : Word :=
  let p := s.ports[k.val]
  let w := s.pwr[k.val]
  toWord (fieldAt p.refuse.toNat 20 + flagAt p.identChanged 16 + fieldAt (s.shownState k).code 12 + fieldAt p.speed.toNat 10
    + flagAt p.test.isSome 9 + flagAt w.vbusOn 8 + flagAt w.overcurrent 3 + flagAt p.wakeCap 2 + flagAt p.connected 1
    + flagAt (s.attached k) 0)

/-- PRT_DEV (R133). -/
def State.prtDev (s : State) (k : PortId) : Word :=
  toWord (fieldAt s.ports[k.val].pid.toNat 16 + s.ports[k.val].vid.toNat)

/-- MODE code of a Deed record (R110). -/
def modeCode : PortMode → Nat
  | .off => 0 | .relay => 1 | .proxy => 2

/-- VIEWERS as PRT_DEED shows it: the owner's own bit reads 0 (R110). -/
def Deed.shownViewers (d : Deed) : BitVec 4 :=
  match d.owner with
  | some h => d.viewers &&& ~~~ (BitVec.ofNat 4 (2 ^ h.val))
  | none => d.viewers

/-- The PRT_DEED value of a Deed record (R110). -/
def Deed.word (d : Deed) : Word :=
  toWord (fieldAt d.gen.toNat 16 + fieldAt d.shownViewers.toNat 12 + fieldAt (modeCode d.mode) 8 + flagAt d.owner.isSome 4
    + (d.owner.map (·.val)).getD 0)

/-- PRT_DEED (R110). -/
def State.prtDeed (s : State) (k : PortId) : Word := s.ports[k.val].deed.word

/-- PRT_ERRCNT (R133), read without clearing. -/
def State.prtErr (s : State) (k : PortId) : Word :=
  let p := s.ports[k.val]
  toWord (fieldAt p.errBabble.toNat 24 + fieldAt p.errXact.toNat 16 + fieldAt p.errTtOvf.toNat 8 + p.errSofClamp.toNat)

/-- TT_STATE (R443). -/
def State.ttState (s : State) (k : PortId) : Word :=
  let p := s.ports[k.val]
  toWord (fieldAt p.ttBuffers.length 24 + fieldAt p.ttPeriodic.length 16 + min 4096 (p.ttPeriodic.map (·.bytes)).sum)

/-! ### Slots -/

/-- HST_STATUS (R107). -/
def State.hstStatus (s : State) (h : SlotId) : Word :=
  let x := s.slots[h.val]
  toWord (flagAt x.wakeArmed 11 + flagAt x.tellerCfg 10 + fieldAt x.tellerPath.toNat 8 + fieldAt x.ssSpeed.toNat 6
    + fieldAt x.ssLink.toNat 4 + flagAt x.hub2Susp 3 + flagAt x.suspended 2 + flagAt x.hs 1 + flagAt x.vbus 0)

/-- HST_ADDR (R108). -/
def State.hstAddr (s : State) (h : SlotId) : Word :=
  let x := s.slots[h.val]
  toWord (fieldAt x.tellerAddr.toNat 16 + fieldAt x.hub2Addr.toNat 8 + x.ssHubAddr.toNat)

/-- HST_DEEDS (R109). -/
def State.hstDeeds (s : State) (h : SlotId) : Word :=
  toWord ((allPorts.map fun k => if s.owns h k then 2 ^ k.val else 0).sum)

/-! ### Boot status and the Vault -/

/-- GLB_BOOT (R95). -/
def Glb.bootWord (g : Glb) (chainPos : BitVec 2) : Word :=
  toWord (fieldAt g.resetCause.toNat 29 + flagAt g.unsealed 28 + fieldAt g.inlayBoot.toNat 24 + fieldAt g.failB.toNat 20
    + fieldAt g.failA.toNat 16 + fieldAt chainPos.toNat 12 + fieldAt g.dvt.toNat 10 + flagAt g.image 9 + g.phase.toNat)

/-- A Vault row as its P copy reads: blank and failed copies read 0 (R437, R429). -/
def State.vaultRow (s : State) (r : Nat) : Nat :=
  if h : r < 128 then (if s.vault[r].otpBad then 0 else s.vault[r].val.toNat) else 0
/-- Whether a Vault row is programmed. -/
def State.vaultProgrammed (s : State) (r : Nat) : Bool := if h : r < 128 then s.vault[r].programmed else false
/-- Whether the key hash counts as fused: any of rows 0x10 to 0x17 programmed (R438). -/
def State.keyFused (s : State) : Bool := (List.range 8).any fun i => s.vaultProgrammed (0x10 + i)
/-- Whether some but not all key-hash rows are programmed (R446). -/
def State.keyPartial (s : State) : Bool := s.keyFused && !(List.range 8).all fun i => s.vaultProgrammed (0x10 + i)
/-- The fused key hash, blank rows as zero (R438). -/
def State.keyHash (s : State) : List Byte := (List.range 8).flatMap fun i => leBytes 4 (s.vaultRow (0x10 + i))
/-- The rollback floor: the largest of rows 0x18 to 0x1F (R438). -/
def State.floor (s : State) : Nat := ((List.range 8).map fun i => s.vaultRow (0x18 + i)).foldl max 0
/-- The lock level: mark rows programmed with their value (R441); 3 where a lock row failed its reload (R429). -/
def State.lockLevel (s : State) : Nat :=
  if (List.range 3).any fun i => if h : 0x2C + i < 128 then s.vault[0x2C + i].otpBad else false then 3
  else ((List.range 3).filter fun i => s.vaultRow (0x2C + i) == 0x4C4B0000 + i + 1).length
/-- The 16-bit port-power limit entry of a port (R439). -/
def State.limitEntry (s : State) (k : PortId) : Nat := bitsAt (s.vaultRow (0x20 + k.val / 2)) (16 * (k.val % 2)) 16
/-- The fused current limit of a port in mA (R439). [DEDUCED, log 112] -/
def State.fusedMa (s : State) (k : PortId) : Nat :=
  let i := s.limitEntry k % 256
  if i = 0 then 6000 else 50 * min i 120
/-- The fused power limit of a port in mW (R439). -/
def State.fusedMw (s : State) (k : PortId) : Nat :=
  let p := s.limitEntry k / 256
  if p = 0 then 240000 else 1000 * p
/-- The serial of the part, six bytes (R437). -/
def State.serial (s : State) : List Byte := leBytes 4 (s.vaultRow 0) ++ leBytes 2 (s.vaultRow 1)
/-- GLB_STEP (R3). -/
def State.glbStep (s : State) : Word := toWord (s.vaultRow 2 % 65536)

/-! ### Faults -/

/-- Whether a Stile is unavailable: VGD absent or under voltage, link down, quarantined or shut down (R53, R78, R18, R464).
A link that only retrains within its 50 µs is not down (R17). The Carcass judges no Stile before bring-up step 2 has ended
(R78), so the bits read their reset value 0 until then (R442). [DEDUCED, log 46] -/
def State.stileFault (s : State) (i : StileId) : Bool :=
  let x := s.stiles[i.val]
  s.glb.clocksOk && (!x.vgdOk || x.holdover || x.shutdown || x.quarantined)

/-- GLB_FAULT (R442). FORCE_OFF and TAMPER are RS copies. [DEDUCED, log 46] -/
def State.glbFault (s : State) : Word :=
  let g := s.glb
  let hi := flagAt s.nsf.rsTamper 15 + flagAt s.nsf.rsForceOff 14 + flagAt g.fVault 13 + flagAt g.fParity 12
    + flagAt g.fInlay 11 + flagAt g.fLedger 10 + flagAt g.fFirmware 9 + flagAt g.fClock 8 + flagAt g.fPurse 7
    + fieldAt g.fPorts.toNat 4
    + flagAt (s.stileFault 2) 3 + flagAt (s.stileFault 1) 2 + flagAt (s.stileFault 0) 1
  toWord (hi + flagAt (hi != 0) 0)

/-- INT_N asserted (R472, R194, R418). -/
def State.intAsserted (s : State) : Bool := testBit s.glbFault 0 || s.teller.mbxNotify || s.nsf.forceOff || s.nsf.tamper

/-- FLED_N[0] driven low (R472, R75, R76, R83). -/
def State.fled0Low (s : State) : Bool :=
  s.glb.fClock || s.glb.fInlay || s.glb.fVault || s.teller.run == .halted || s.glb.phase == 0xE || s.glb.phase == 0xF

/-- FLED_N[1] driven low: TAMPER (R434); high impedance in reset and asleep (R50). -/
def State.fled1Low (s : State) : Bool := s.awake && s.nsf.tamper

end Sys2Proof.Machine
end

