-- ==== Sys2Proof/Machine/Tags.lean ====
section
/-! DEFINITION. Tags and completions: status codes (R180), posting a completion with its credits (R164, R168, R172), the
mailbox's answer (R192, R193), and ending the tags that wait on something (R155, R156, R114, R125). -/
namespace Sys2Proof.Machine

/-- Status codes (R180). -/
def Status.code : Status → Nat
  | .ok => 0x0000 | .okCorrected => 0x0001 | .okUnwritten => 0x0002 | .eOpcode => 0x0010 | .eLen => 0x0011 | .eAlign => 0x0012
  | .eWidth => 0x0013 | .eRange => 0x0014 | .eTag => 0x0015 | .eDeed => 0x0020 | .ePresence => 0x0021 | .eLocked => 0x0022
  | .eKey => 0x0023 | .eBusy => 0x0030 | .eNotReady => 0x0031 | .ePoweredDown => 0x0032 | .eBudget => 0x0033 | .eStall => 0x0040
  | .eNakTimeout => 0x0041 | .eBabble => 0x0042 | .eXact => 0x0043 | .eDetached => 0x0044 | .ePortReset => 0x0045 | .eData => 0x0050
  | .eHalted => 0x0051 | .eAborted => 0x0060 | .eCancelled => 0x0061

/-- The 16 bytes of a completion record (R164). -/
def Completion.bytes (c : Completion) : List Byte :=
  [0x01, c.opcode] ++ leBytes 2 c.tag.toNat ++ leBytes 2 c.status.code ++ leBytes 2 (flagAt c.entry 15 + c.lines)
    ++ leBytes 4 c.data.length ++ leBytes 4 c.result0.toNat

/-- The 16 bytes of an event record (R165). -/
def Event.bytes (e : Event) : List Byte :=
  [0x02, e.code] ++ leBytes 2 e.seq.toNat ++ [e.port, BitVec.ofNat 8 (bitOf e.ext)] ++ leBytes 2 e.aux.toNat
    ++ leBytes 4 e.data.toNat ++ leBytes 4 e.mf.toNat

/-- A record with its data or payload, padded to a multiple of 8 bytes (R161). -/
def Record.bytes : Record → List Byte
  | .completion c => c.bytes ++ pad8 c.data
  | .event e => e.bytes ++ pad8 e.payload

/-- NOTIFY of a command (R163). -/
def notifyOf (a : CmdArgs) : Bool := testBit a.flags 1
/-- FENCE of a command: the flag, or opcode 0x03 (R163, R175). -/
def TillEntry.fence (e : TillEntry) : Bool := testBit e.args.flags 0 || e.op == 0x03
/-- VIEWER of a command (R163). -/
def viewerOf (a : CmdArgs) : Bool := testBit a.flags 4
/-- PRIORITY of a command (R163). -/
def priorityOf (a : CmdArgs) : Nat := bitsAt a.flags.toNat 2 2

/-- The completion of a Till entry. -/
def TillEntry.completion (e : TillEntry) (st : Status) (r0 : Word) (data : List Byte) : Completion :=
  { opcode := e.op, tag := e.args.tag, status := st, entry := e.credit, lines := if e.credit then e.lines else 0,
    result0 := r0, data := data }

/-- Post a completion on a slot: after the records before it, or, while the Teller function is not configured, ahead of the
events that wait (R125, R168). [DEDUCED, log 17] -/
def Slot.addCompletion (x : Slot) (c : Completion) (notify : Bool) : Slot :=
  let x := { x with
    records :=
      if x.tellerCfg then x.records ++ [.completion c]
      else x.records.filter (fun r => !isEvent r) ++ [.completion c] ++ x.records.filter isEvent
    entryCredits := if c.entry then x.entryCredits + 1 else x.entryCredits
    lineCredits := x.lineCredits + c.lines }
  if notify then x.wakeIfArmed else x

/-- Complete an entry of a slot: out of the Till, its completion posted with what it took (R171, R172). -/
def State.finishSlot (s : State) (h : SlotId) (e : TillEntry) (st : Status) (r0 : Word) (data : List Byte) : State :=
  s.modSlot h fun x =>
    ({ x with till := x.till.filter fun y => y.args.tag != e.args.tag }).addCompletion (e.completion st r0 data) (notifyOf e.args)

/-- Write a list of words over the front of a vector. -/
def overlay {n : Nat} (v : Vector Word n) (l : List Word) : Vector Word n :=
  Vector.ofFn fun (i : Fin n) => l.getD i.val v[i.val]

/-- Complete the mailbox command: the completion is written, GO reads 0 and DONE reads 1; CREDIT reads 0 (R192, R193);
NOTIFY asserts INT_N until the first word is read (R194). -/
def State.finishMbx (s : State) (e : TillEntry) (st : Status) (r0 : Word) (data : List Byte) : State :=
  let c : Completion := { opcode := e.op, tag := e.args.tag, status := st, entry := false, lines := 0, result0 := r0, data := data }
  let b := c.bytes ++ pad8 data
  s.modTeller fun t => { t with
    mbxEntry := none, go := false, done := true, mbxRsp := overlay t.mbxRsp (wordsOf (b.length / 4) b)
    mbxNotify := t.mbxNotify || notifyOf e.args }

/-- Complete a command of any source. [DESIGN CHOICE, log 10] -/
def State.finish (s : State) (c : Caller) (e : TillEntry) (st : Status) (r0 : Word) (data : List Byte) : State :=
  match c with
  | .slot h => s.finishSlot h e st r0 data
  | .mbx => s.finishMbx e st r0 data

/-- The port that a command addresses by its port argument: the keys Port k, Endpoint k, PD k and Power k (R174). -/
def TillEntry.port (e : TillEntry) : Option PortId :=
  let o := e.op.toNat
  if (0x20 ≤ o ∧ o ≤ 0x33) ∨ (0x80 ≤ o ∧ o ≤ 0x83) ∨ (0x91 ≤ o ∧ o ≤ 0x93) then portOf (e.args.arg0.toNat % 32) else none

/-- RESULT0 and data of a transfer that ends with a status (R185); a cancelled one gives the byte count (R178). -/
def Xfer.result (x : Xfer) (st : Status) : Word × List Byte :=
  if x.op = 0x33 then
    let lens := (List.range x.count).flatMap fun i => leBytes 2 (x.lens.getD i 0)
    (toWord (if st = .eCancelled then x.moved else x.failed), if x.isIn then lens ++ x.got else lens)
  else (toWord x.moved, if x.isIn then x.got else [])

/-- RESULT0 and data of a waiting command that ends with a status: a transfer returns what it moved (R178), but one whose
result is discarded returns nothing (R114, R126, R408); a port command returns PRT_STATE (R181); PD_TX its outcome (R340).
[DESIGN CHOICE, log 10] -/
def State.endResult (s : State) (e : TillEntry) (st : Status) : Word × List Byte :=
  match e.wait with
  | .xfer x => if st = .eAborted ∨ st = .ePoweredDown then (0, []) else x.result st
  | .portOn k | .portOff k | .portReset k | .portCycle k => (s.prtState k, [])
  | .pdTx _ =>
    (match st with
      | .eXact => 1
      | .eBusy => 2
      | .eDetached => 6
      | .eNotReady => 7
      | _ => 0, [])
  | _ => (0, [])

/-- How a status ranks where two conditions end one tag (R156). -/
def Status.rank : Status → Nat
  | .eDetached => 0 | .eBabble => 1 | .ePortReset => 2 | .eAborted => 3 | _ => 4

/-- The port of a tag that a condition has ended keeps it for the microframe, in which another may outrank it (R156). -/
def State.noteEnded (s : State) (h : SlotId) (e : TillEntry) (st : Status) : State :=
  match e.port with
  | some k =>
    let now := s.glb.clock
    if st.rank = 4 then s
    else s.modPort k fun p => { p with endedTags := (p.endedTags.filter fun x => x.2.2 == now) ++ [(h, e.args.tag, now)] }
  | none => s

/-- A completion of a tag takes a status that outranks its own (R156). [DEDUCED, log 170] -/
def Record.outranked (tag : BitVec 16) (st : Status) : Record → Record
  | .completion c => .completion (if c.tag = tag ∧ c.status.rank < 4 ∧ st.rank < c.status.rank then { c with status := st } else c)
  | .event e => .event e

/-- A condition outranks those that ended tags of a port earlier in the microframe, as far as their completions are not yet
delivered (R156). [DEDUCED, log 170] -/
def State.outrank (s : State) (k : PortId) (st : Status) : State :=
  (s.ports[k.val].endedTags.filter fun x => x.2.2 == s.glb.clock).foldl (fun s x =>
    s.modSlot x.1 fun y => { y with records := y.records.map (Record.outranked x.2.1 st) }) s

/-- Complete every command of a slot's Till that satisfies `p`, in Till order, with one status. -/
def State.endSlotTags (s : State) (h : SlotId) (p : TillEntry → Bool) (st : Status) : State :=
  (s.slots[h.val].till.filter p).foldl (fun s e =>
    let r := s.endResult e st
    (s.finishSlot h e st r.1 r.2).noteEnded h e st) s

/-- Whether a command is a transfer that is on the bus. -/
def TillEntry.onBus (e : TillEntry) : Bool := match e.wait with | .xfer _ => e.point != .waiting | _ => false

/-- Transfers of a slot that are on the bus and satisfy `p` outlast their tags, which end with a status (R114, R126): they run
on as orphans of the port. [DEDUCED, log 168] -/
def State.orphan (s : State) (h : SlotId) (p : TillEntry → Bool) : State :=
  { s with orphans := s.orphans ++ s.slots[h.val].till.filter fun e => e.onBus && p e }

/-- Complete the mailbox's command if it satisfies `p`. -/
def State.endMbxTag (s : State) (p : TillEntry → Bool) (st : Status) : State :=
  match s.teller.mbxEntry with
  | some e => if p e then let r := s.endResult e st; s.finishMbx e st r.1 r.2 else s
  | none => s

/-- Complete every command in flight on the device that satisfies `p`; an orphan that does ends with it. -/
def State.endTags (s : State) (p : TillEntry → Bool) (st : Status) : State :=
  let s : State := { s with orphans := s.orphans.filter fun e => !p e }
  (allSlots.foldl (fun s h => s.endSlotTags h p st) s).endMbxTag p st

/-- Complete every command in flight that satisfies `p`, with one status and RESULT0 and no data. -/
def State.endWith (s : State) (p : TillEntry → Bool) (st : Status) (r0 : Word) : State :=
  let s := allSlots.foldl (fun s h =>
    (s.slots[h.val].till.filter p).foldl (fun s e => s.finishSlot h e st r0 []) s) s
  match s.teller.mbxEntry with
  | some e => if p e then s.finishMbx e st r0 [] else s
  | none => s

/-- Complete every command that waits on what `p` accepts. [DEDUCED, log 168] -/
def State.endWaits (s : State) (p : Wait → Bool) (st : Status) : State := s.endTags (fun e => p e.wait) st

/-- Whether a wait is a proxied transfer of a port. -/
def Wait.isXferOn (k : PortId) : Wait → Bool
  | .xfer x => x.port == k
  | _ => false
/-- Whether a wait is PD_TX on a port. -/
def Wait.isPdTx (k : PortId) : Wait → Bool
  | .pdTx j => j == k
  | _ => false
/-- Whether a wait is for a port's VBUS_ON, by PORT_POWER. -/
def Wait.isPortOn (k : PortId) : Wait → Bool
  | .portOn j => j == k
  | _ => false
/-- Whether a wait is for a port's discharge. -/
def Wait.isPortOff (k : PortId) : Wait → Bool
  | .portOff j => j == k
  | _ => false
/-- Whether a wait is a PORT_RESET of a port, in either form. -/
def Wait.isReset (k : PortId) : Wait → Bool
  | .portReset j => j == k
  | .portCycle j => j == k
  | _ => false
/-- Whether a wait is the power-cycle form of PORT_RESET. -/
def Wait.isCycle (k : PortId) : Wait → Bool
  | .portCycle j => j == k
  | _ => false

/-- Change the wait or the point of every entry in flight that satisfies `p`. -/
def State.modEntries (s : State) (p : TillEntry → Bool) (f : TillEntry → TillEntry) : State :=
  let g := fun e => if p e then f e else e
  let s : State := { s with slots := s.slots.map (fun x => { x with till := x.till.map g }), orphans := s.orphans.map g }
  s.modTeller fun t => { t with mbxEntry := t.mbxEntry.map g }

/-- Whether some entry in flight satisfies `p`. -/
def State.anyEntry (s : State) (p : TillEntry → Bool) : Bool :=
  (allSlots.any fun h => s.slots[h.val].till.any p) || (s.teller.mbxEntry.map p).getD false

end Sys2Proof.Machine
end

