-- ==== Sys2Proof/Machine/Issue.lean ====
section
/-! DEFINITION. How a command runs (file 06): the checks on entry to the Till and at dispatch (R179), keys, fences and
priority (R174 to R176, R465), credits and the result pool (R172, R173), the mailbox (R192, R193), and the one shared
operation `issue` that every opcode's meaning is built on. A meaning supplies an `OpSpec`: the opcode's row of the opcode
tables and its body, run once the checks have passed. -/
namespace Sys2Proof.Machine

/-- What a command's meaning answers. -/
abbrev Out := Host.Outcome State Fault Refusal

/-- How a command's body answers: it completes now; it completes OK now and its effect point is the next snapshot, until
which its key is held (R174, R31); or it goes on, at the point it has reached, waiting. -/
inductive Res where
  | done (st : Status) (r0 : Word) (data : List Byte) (s : State)
  | snap (r0 : Word) (s : State)
  | wait (p : CmdPoint) (w : Wait) (s : State)

/-- A command that fails with a status and changes nothing. [DEDUCED, log 117; DESIGN CHOICE, log 10] -/
def Res.fail (st : Status) (s : State) : Res := .done st 0 [] s
/-- A command that completes OK without a result. -/
def Res.ok (s : State) : Res := .done .ok 0 [] s

/-- An opcode's row of the opcode tables. `plenOk` fails to ELEN and `argOk` to ERANGE on entry to the Till; `callerOk` is the
caller requirement; `body` runs after the presence check. -/
structure OpSpec where
  code : Nat
  plenOk : CmdArgs → Bool := fun a => a.params.isEmpty
  argOk : CmdArgs → Bool
  viewer : Bool := false
  mbx : Bool := false
  recovery : Bool := false
  callerOk : State → CmdArgs → Bool := fun _ _ => true
  presence : State → CmdArgs → Bool := fun _ _ => false
  body : State → CmdArgs → Res

/-- Line credits a command takes (R172). -/
def lineCount (plen : Nat) : Nat := min 1024 (ceilDiv plen 64)

/-- The key of a command, by opcode (R174, table of keys). -/
def keyOf (op : Nat) (a : CmdArgs) : Key :=
  let k := a.arg0.toNat % 32
  let ep := bitsAt a.arg0.toNat 8 4
  if op < 0x10 then .none
  else if op ≤ 0x12 then .registers
  else if op ≤ 0x2B then .port k
  else if op = 0x30 then .endpoint k ep false
  else if op ≤ 0x33 then .endpoint k ep (ep != 0 && testBit a.arg0 15)
  else if op ≤ 0x49 then .orders
  else if op ≤ 0x56 then .mint
  else if op ≤ 0x63 then .clearance
  else if op ≤ 0x72 then .tally
  else if op ≤ 0x83 then .pd k
  else if op = 0x90 ∨ op = 0x94 then .escrow
  else if op ≤ 0x93 then .power k
  else if op ≤ 0xA3 then .ledger
  else if op ≤ 0xB1 then .purse (a.arg0.toNat % 256)
  else if op ≤ 0xC1 then .powerState
  else if op ≤ 0xD2 then .firmware
  else .vault

/-- The largest result length of a command, for the result pool of R173 and the mailbox limit of R193. [DEDUCED, log 13] -/
def maxResult (op : Nat) (a : CmdArgs) : Nat :=
  let n := a.arg1.toNat
  if op = 0x01 then a.params.length
  else if op = 0x02 then 64
  else if op = 0x10 then 4 * n
  else if 0x30 ≤ op ∧ op ≤ 0x32 then (if testBit a.arg0 15 then n else 0)
  else if op = 0x33 then 2 * (n / 65536) + (if testBit a.arg0 15 then (n / 65536) * (n % 65536) else 0)
  else if op = 0x43 then 64
  else if op = 0x55 then 112
  else if op = 0x72 then 48
  else if op = 0x94 then 224
  else if op = 0xA0 then n
  else if op = 0xA3 then 64
  else if op = 0xB1 then 8 * min n 8064 + 8 * ceilDiv (min n 8064) 64 + 8
  else 0

/-! ### Entry to the Till -/

/-- The syntax checks of R179 after the tag check; `none` where they pass. An opcode the tables do not define has no
`OpSpec`. [DEDUCED, log 13] -/
def syntaxCheck (o : Option OpSpec) (a : CmdArgs) : Option Status :=
  let mbx := a.caller == .mbx
  match o with
  | none => some .eOpcode
  | some o =>
    if mbx && !o.mbx then some .eOpcode
    else if a.params.length > 65536 || !o.plenOk a || (mbx && (a.params.length > 256 || maxResult o.code a > 256)) then
      some .eLen
    else if a.flags.toNat ≥ 32 || !o.argOk a then some .eRange
    else none

/-- Whether a tag is in flight on a slot: in the Till, or its completion not yet delivered (R169). -/
def Slot.tagInFlight (x : Slot) (tag : BitVec 16) : Bool :=
  (x.till.any fun e => e.args.tag == tag)
    || x.records.any fun r => match r with
      | .completion c => c.tag == tag && c.status != .eTag
      | .event _ => false

/-- Whether a slot's command endpoint carries commands: the Teller function is presented and configured, and the slot is
not suspended (R104, R120). [DEDUCED, log 139, 140] -/
def State.pathOpen (s : State) (h : SlotId) : Bool :=
  let x := s.slots[h.val]
  s.awake && x.vbus && x.tellerPath != 0 && x.tellerCfg && !x.suspended

/-- Whether a slot's Till has room for a command (R173). [DEDUCED, log 9] -/
def Slot.room (x : Slot) (plen : Nat) : Bool := x.entryCredits ≥ 1 && x.lineCredits ≥ lineCount plen

/-! ### Which command is free (R174 to R176, R465) -/

/-- Bytes of a slot's result pool in use: results not delivered, and what dispatched commands may still return (R173). -/
def Slot.poolUsed (x : Slot) : Nat :=
  (x.records.map fun r => match r with | .completion c => c.data.length | .event _ => 0).sum
    + ((x.till.filter fun e => e.point != .waiting).map fun e => maxResult e.op.toNat e.args).sum

/-- Whether an earlier entry no longer holds its key: it has taken effect; a MNT_HOLD that waits for the stop holds the Mint
key until it completes (R174, R186). -/
def TillEntry.keyGone (y : TillEntry) : Bool :=
  y.point == .effected && (match y.wait with | .mintStop _ => false | _ => true)

/-- Whether a waiting entry is free behind the entries before it. CANCEL is exempt from keys and fences in both
directions (R175, R178). -/
def entryFree (earlier : List TillEntry) (hold : List Key) (poolFree : Nat) (e : TillEntry) : Bool :=
  let earlier := earlier.filter fun y => y.op != 0x04
  e.point == .waiting && (e.op == 0x04 ||
    ((e.key == .none || ((earlier.all fun y => y.key != e.key || y.keyGone) && !hold.contains e.key))
      && (if e.fence then earlier.isEmpty else earlier.all fun y => !y.fence)
      && maxResult e.op.toNat e.args ≤ poolFree))

/-- The free entries of a list of entries, with their positions. -/
def freeFrom (hold : List Key) (poolFree : Nat) : List TillEntry → List TillEntry → List (Nat × TillEntry)
  | _, [] => []
  | pre, e :: rest =>
    let l := freeFrom hold poolFree (pre ++ [e]) rest
    if entryFree pre hold poolFree e then (pre.length, e) :: l else l

/-- The free entries of a slot's Till. -/
def Slot.freeEntries (x : Slot) : List (Nat × TillEntry) := freeFrom x.keyHold (524288 - x.poolUsed) [] x.till

/-- Whether the mailbox's command is free: it is a source of its own (R193). -/
def State.mbxFree (s : State) : Option TillEntry :=
  match s.teller.mbxEntry with
  | some e => if entryFree [] s.teller.mbxKeyHold 524288 e then some e else none
  | none => none

/-- Whether any command of the device is free and waiting. -/
def State.anyFree (s : State) : Bool := (allSlots.any fun h => !s.slots[h.val].freeEntries.isEmpty) || s.mbxFree.isSome

/-- A command's priority now: 3 once it has waited 1 ms in the Till (R176). [DEDUCED, log 55] -/
def State.prioNow (s : State) (e : TillEntry) : Nat := if s.glb.clock ≥ e.entered + 8 then 3 else priorityOf e.args

/-- The first entry of highest priority. [DEDUCED, log 15] -/
def State.bestOf (s : State) : List (Nat × TillEntry) → Option (Nat × TillEntry)
  | [] => none
  | x :: l =>
    match s.bestOf l with
    | none => some x
    | some y => if s.prioNow x.2 ≥ s.prioNow y.2 then some x else some y

/-- What source `i` offers for dispatch: slots 0 to 3, then the mailbox. -/
def State.offer (s : State) (i : Nat) : Option (Nat × TillEntry) :=
  if h : i < 4 then s.bestOf s.slots[i].freeEntries else s.mbxFree.map fun e => (0, e)

/-- The source Teller takes next: highest priority, then one per source in turn (R176, R465). [DEDUCED, log 15] -/
def State.pickSource (s : State) : Option (Nat × Nat × TillEntry) :=
  ((List.range 5).map fun j => (s.teller.turn + j) % 5).foldl (fun best i =>
    match s.offer i with
    | none => best
    | some x =>
      match best with
      | some y => if s.prioNow x.2 > s.prioNow y.2.2 then some (i, x) else best
      | none => some (i, x)) none

/-! ### Dispatch -/

/-- Whether an S2 or S3 entry has been committed, after which every command completes EPOWERED_DOWN (R410). -/
def State.committed (s : State) : Bool := s.nsf.entering.isSome

/-- Whether a command comes from a slot whose domain drains (R408). Register access is never refused for a domain (R424). -/
def State.callerDraining (s : State) (o : OpSpec) (c : Caller) : Bool :=
  match c with
  | .slot h => s.glb.drain == .domain (2 + h.val) && !(0x10 ≤ o.code && o.code ≤ 0x12)
  | .mbx => false

/-- The checks at dispatch that come before the body (R179, R408, R410). -/
def dispatchCheck (o : OpSpec) (a : CmdArgs) (s : State) : Option Status :=
  if s.committed then some .ePoweredDown
  else if s.glb.phase == 0xE && !o.recovery then some .eNotReady
  else if viewerOf a && !o.viewer then some .eDeed
  else if !o.callerOk s a then some .eDeed
  else if o.presence s a && !s.presenceOpen then some .ePresence
  else none

/-- A command other than SLEEP and NOP, once dispatched, ends S1 (R405). -/
def State.leaveS1 (s : State) (op : Nat) : State :=
  if s.glb.core = .s1 ∧ op ≠ 0xC1 ∧ op ≠ 0x00 then
    (s.modGlb fun g => { g with core := .s0 }).everySlotEvent 0x48 0x2 0
  else s

/-- Put an entry into its source, at a position of the Till. -/
def State.keepEntry (s : State) (c : Caller) (pos : Nat) (e : TillEntry) : State :=
  match c with
  | .slot h => s.modSlot h fun x => { x with till := x.till.take pos ++ e :: x.till.drop pos }
  | .mbx => s.modTeller fun t => { t with mbxEntry := some e }

/-- Hold a command's key until the next snapshot (R31, R174). [DEDUCED, log 8] -/
def State.holdKey (s : State) (c : Caller) (k : Key) : State :=
  match c with
  | .slot h => s.modSlot h fun x => { x with keyHold := x.keyHold ++ [k] }
  | .mbx => s.modTeller fun t => { t with mbxKeyHold := t.mbxKeyHold ++ [k] }

/-- The Draft that brings a command its parameters from its slot's pool (R397): whether its job halts there (R390). The mailbox
holds its parameters in registers (R192). -/
def State.fetchParams (s : State) (e : TillEntry) : Bool × State :=
  match e.args.caller with
  | .slot h => if e.args.params.isEmpty then (false, s) else s.haltJob (inParams h)
  | .mbx => (false, s)

/-- Whether a command ends on a check of its arguments or of register access, which come before the target's power domain
(R179). -/
def Res.refused : Res → Bool
  | .done st _ _ _ => [Status.eRange, .eLen, .eAlign, .eWidth, .ePresence, .eKey, .eLocked].contains st
  | _ => false

/-- The checks at dispatch, the fetch of the parameters, and the body. -/
def runBody (o : OpSpec) (s : State) (e : TillEntry) (pos : Nat) : State :=
  let c := e.args.caller
  match dispatchCheck o e.args s with
  | some st => s.finish c e st 0 []
  | none =>
    let x := s.fetchParams e
    let r := o.body x.2 e.args
    if x.1 then x.2.finish c e .eHalted 0 []
    else if x.2.callerDraining o c && !r.refused then x.2.finish c e .ePoweredDown 0 []
    else
      match r with
      | .done st r0 data s' => s'.finish c e st r0 data
      | .snap r0 s' => (s'.holdKey c e.key).finish c e .ok r0 []
      | .wait p w s' => s'.keepEntry c pos { e with point := p, wait := w }

/-- The state as a command finds it that was in flight before the drain that runs: nothing drains for it (R408). -/
def State.undrained (s : State) : State :=
  (s.modGlb fun g => { g with drain := .none }).modNsf fun n => { n with entering := none }

/-- The drain and the committed entry of `u`, as they run. -/
def State.drainAs (s u : State) : State :=
  (s.modGlb fun g => { g with drain := u.glb.drain }).modNsf fun n => { n with entering := u.nsf.entering }

/-- Dispatch one command: `e` is out of the Till, where it stood at `pos`. A command that was in flight when a drain began runs
on (R408); PWR_DOMAIN and SLEEP find the drain. [DEDUCED, log 166; DESIGN CHOICE, log 10, 16] -/
def runEntry (o : OpSpec) (s : State) (e : TillEntry) (pos : Nat) : State :=
  let s := s.leaveS1 o.code
  if e.early && !(0xC0 ≤ o.code && o.code ≤ 0xC1) then (runBody o s.undrained e pos).drainAs s else runBody o s e pos

/-- The Till entry of a command as it enters. -/
def mkEntry (op : Byte) (a : CmdArgs) (clock : Nat) : TillEntry :=
  { op := op, args := a, key := keyOf op.toNat a, lines := lineCount a.params.length, entered := clock, credit := true,
    point := .waiting, wait := .none }

/-- A command whose tag is bad: an ETAG completion, which ends no other tag (R170). -/
def State.rejectTag (s : State) (h : SlotId) (e : TillEntry) : State :=
  s.modSlot h fun x =>
    ({ x with entryCredits := x.entryCredits - 1, lineCredits := x.lineCredits - e.lines }).addCompletion
      (e.completion .eTag 0 []) (notifyOf e.args)

/-- Whether a command finds a hitless swap running that it cannot wait for (R190, R477). -/
def State.swapBars (s : State) (op : Byte) : Bool := s.teller.run == .swapping && 0xD0 ≤ op.toNat && op.toNat ≤ 0xD2

/-- A command enters a slot's Till (R179, first part): refused by the syntax checks, EBUSY where it is a firmware opcode and a
swap runs (R190), completed at once by a halted Teller
(R470), or accepted; an accepted command that is free while no other command of the device waits for dispatch is
dispatched at once, and otherwise waits for COMMAND_DISPATCH. [DESIGN CHOICE, log 12, 16] -/
def State.enter (s : State) (o : Option OpSpec) (op : Byte) (h : SlotId) (a : CmdArgs) : State :=
  let e := mkEntry op a s.glb.clock
  if a.tag.toNat > 511 ∨ s.slots[h.val].tagInFlight a.tag then s.rejectTag h e
  else
    let busy := s.anyFree
    let s := s.modSlot h fun x =>
      { x with entryCredits := x.entryCredits - 1, lineCredits := x.lineCredits - e.lines }
    if s.teller.run = .halted then s.finish a.caller e .eNotReady 0 []
    else
      match syntaxCheck o a, o with
      | some st, _ => s.finish a.caller e st 0 []
      | none, none => s
      | none, some o =>
        let x := s.slots[h.val]
        if s.swapBars op then s.finish a.caller e .eBusy 0 []
        else if s.teller.run = .running ∧ (op = 0x04 ∨ !busy) ∧ entryFree x.till x.keyHold (524288 - x.poolUsed) e then
          runEntry o s e x.till.length
        else s.keepEntry a.caller x.till.length e

/-- Whether Teller, or the boot ROM's recovery function, runs commands: PHASE has reached 0x4 or 0xE (R193). -/
def State.tellerStarted (s : State) : Bool := s.glb.phase.toNat ≥ 4 && s.glb.phase != 0xF && s.teller.run != .stopped

/-- The mailbox command starts: GO reads 1 and DONE 0, the TAG is not checked (R192, R193).
[DEDUCED, log 14; DESIGN CHOICE, log 12, 16] -/
def State.startMbx (s : State) (o : Option OpSpec) (op : Byte) (a : CmdArgs) : State :=
  let e := mkEntry op a s.glb.clock
  let busy := s.anyFree
  let s := s.modTeller fun t => { t with go := true, done := false }
  if !s.tellerStarted || s.teller.run = .halted then s.finishMbx e .eNotReady 0 []
  else
    match syntaxCheck o a, o with
    | some st, _ => s.finishMbx e st 0 []
    | none, none => s
    | none, some o =>
      if s.swapBars op then s.finishMbx e .eBusy 0 []
      else if s.teller.run = .running ∧ !busy ∧ entryFree [] s.teller.mbxKeyHold 524288 e then runEntry o s e 0
      else s.keepEntry .mbx 0 e

/-- The command header of R163. -/
def header (op : Byte) (a : CmdArgs) : List Byte :=
  [op, a.flags] ++ leBytes 2 a.tag.toNat ++ leBytes 4 a.params.length ++ leBytes 4 a.arg0.toNat ++ leBytes 4 a.arg1.toNat

/-- A command is written into MGMT_MBX_CMD, as far as its 272 bytes hold it (R192). [DEDUCED, log 14] -/
def State.writeMbx (s : State) (op : Byte) (a : CmdArgs) : State :=
  let b := pad8 (header op a ++ a.params.take 256)
  s.modTeller fun t => { t with mbxCmd := overlay t.mbxCmd (wordsOf (b.length / 4) b) }

/-- THE SHARED OPERATION OF EVERY OPCODE: the caller hands Teller one command. A slot's command is taken while its command
endpoint is open and the Till has room, and otherwise meets NAK (R173); the board controller writes the command into the
mailbox and GO, which does nothing while GO reads 1 (R192) or before MGMT acknowledges (R73).
[DEDUCED, log 14, 140; DESIGN CHOICE, log 16] -/
def issue (o : OpSpec) (a : CmdArgs) (s : State) : State :=
  let op : Byte := BitVec.ofNat 8 o.code
  match a.caller with
  | .slot h => if s.pathOpen h && s.slots[h.val].room a.params.length then s.enter (some o) op h a else s
  | .mbx =>
    if s.awake && s.glb.clocksOk && !s.teller.go then (s.writeMbx op a).startMbx (some o) op a else s

end Sys2Proof.Machine
end

