-- ==== Sys2Proof/Machine/PortUsb.lean ====
section
/-! DEFINITION. The USB side of a port as every family uses it: leaving ACTIVE (R143), losing the device (R132, R155), the
owner's hub change bits (R101, R118, R129), and flushing the Transaction Translator (R114, R129, R139). -/
namespace Sys2Proof.Machine

/-- The owner's USB 2.0 hub marks a change on a port. [DEDUCED, log 64] -/
def State.hubChange (s : State) (h : SlotId) (k : PortId) (f : HubChange → HubChange) : State :=
  s.modSlot h fun x => { x with hub := vmod x.hub k f }

/-- The owner's hub marks a change on a RELAY port. [DEDUCED, log 113] -/
def State.relayChange (s : State) (k : PortId) (f : HubChange → HubChange) : State :=
  match s.mode k, s.owner k with
  | .relay, some h => s.hubChange h k f
  | _, _ => s

/-- The port's Transaction Translator is flushed. -/
def Port.flushTt (p : Port) : Port := { p with ttPeriodic := [], ttBuffers := [] }

/-- A PROXY port that leaves ACTIVE holds every Mint group with a channel on it (R143). Called before the state changes. -/
def State.leaveActive (s : State) (k : PortId) : State :=
  if s.mode k = .proxy ∧ s.ports[k.val].state = .active then s.holdPort k .port else s

/-- A port without a device: identity, speed, SOFs, halted endpoints and enumeration progress go. The identity recorded
under R145 and the recorded requests stay. -/
def Port.noDevice (p : Port) : Port :=
  { p with connected := false, speed := 0, pid := 0, vid := 0, refuse := 0, sofRunning := false, haltedEps := [],
           wakeCap := false, wakeSet := false, step := .idle, attempt := 0, devDesc := [], cfgDescs := [], mps0 := 8, test := none }

/-- The waits on a port that a detach or a trip ends: proxied transfers, PORT_POWER for VBUS_ON, PORT_RESET and PORT_RESUME
(R155, R158, R184). -/
def Wait.endsOnDetach (k : PortId) (w : Wait) : Bool :=
  match w with
  | .xfer x => x.port == k
  | .portOn j => j == k
  | .portReset j => j == k
  | .portCycle j => j == k
  | .portResume j => j == k
  | _ => false

/-- As `endsOnDetach`, for a loss of VBUS or of the device that keeps the attach: PORT_POWER and the power-cycle form of
PORT_RESET go on waiting. -/
def Wait.endsOnUsbLoss (k : PortId) (w : Wait) : Bool :=
  match w with
  | .xfer x => x.port == k
  | .portReset j => j == k
  | .portResume j => j == k
  | _ => false

/-- Whether a port state has VBUS on. -/
def PortState.live : PortState → Bool
  | .off | .waitAttach | .waitPower | .cooldown => false
  | _ => true

/-- A port loses its device, or its VBUS, and comes to the state `dst` (R132, R155): the proxied tags that `which` accepts
complete with `st`, which outranks what ended tags of the port in the same microframe (R156); R143 applies; a PROXY port that had
a device or VBUS gives its owner PROXY_DETACH where `tell` holds, once a microframe (R132); the owner of a RELAY port that had one
sees C_PORT_CONNECTION. A test mode outlasts a loss of VBUS that is not a detach (R154). [DEDUCED, log 73, 170] -/
def State.loseDevice (s : State) (k : PortId) (dst : PortState) (st : Status) (tell : Bool) (which : Wait → Bool) : State :=
  let p := s.ports[k.val]
  let before := s.prtState k
  let test := if dst = .waitPower then p.test else none
  let dst := if test.isSome then .test else dst
  let s := s.leaveActive k
  let s := if p.connected then
      s.relayChange k fun c => { c with connection := true }
    else s
  let s := s.modPort k fun p =>
    { p.noDevice.flushTt with state := dst, prev := .off, slotSuspend := false, hubSuspend := false, test := test }
  let s := s.endWaits which st
  let now := s.glb.clock
  let had := st == .eDetached && (p.connected || p.state.live)
  let again := p.detachedAt == some now
  let s := if had then (s.outrank k st).modPort k fun p => { p with detachedAt := some now } else s
  if tell && had && !again && p.deed.mode == .proxy then s.portEvent k 0x06 0 before.toNat else s

/-- A port comes to a state that its power and attach give it, unless it is in a test mode (R154). -/
def Port.come (p : Port) (st : PortState) : Port := if p.test.isSome then p else { p with state := st }

/-- The state a RELAY or PROXY port without VBUS takes (R132): WAIT_POWER while attach is confirmed, else WAIT_ATTACH.
[DEDUCED, log 57] -/
def State.unpoweredState (s : State) (k : PortId) : PortState :=
  if s.mode k = .off then .off else if s.attached k then .waitPower else .waitAttach

end Sys2Proof.Machine
end

