-- ==== Sys2Proof/Machine/Power.lean ====
section
/-! DEFINITION. The port power path and Escrow as every family uses them (file 12): charges and budgets, the queue and its
grants, ramps, transitions, switching off, limits, trips, the FET thermal model, and the detach of R332 and R354. -/
namespace Sys2Proof.Machine

/-! ### Levels -/

/-- Rp current in mA (R363). -/
def rpMa : Rp → Nat
  | .ua80 => 500 | .ua180 => 1500 | .ua330 => 3000
/-- RP_NOW code of an Rp level (R350). -/
def rpCode : Rp → BitVec 2
  | .ua80 => 1 | .ua180 => 2 | .ua330 => 3
/-- Rp current in mA of an RP_NOW code. -/
def rpCodeMa (c : BitVec 2) : Nat := if c = 1 then 500 else if c = 2 then 1500 else if c = 3 then 3000 else 0

/-- Voltage of a contract in mV. -/
def Contract.mv (c : Contract) : Nat := 50 * c.volt
/-- Whether a contract is on the 5 V rail. -/
def Contract.isLow (c : Contract) : Bool := c.volt == 100
/-- Charge of a contract: its voltage times the Operating Current, in mW (R375). -/
def Contract.charge (c : Contract) : Nat := ceilDiv (c.volt * c.cur) 2
/-- Charge of the Rp current at 5 V, in mW (R375). -/
def rpCharge (r : Rp) : Nat := 5 * rpMa r

/-! ### Escrow: charges, slots, queue -/

/-- Total charges held on the 5 V rail, in mW. -/
def State.chargeL (s : State) : Nat := (s.pwr.toList.map fun w => w.chgL + w.oldL + w.inrushL).sum
/-- Total charges held on the high rail, in mW. -/
def State.chargeH (s : State) : Nat := (s.pwr.toList.map fun w => w.chgH + w.oldH + w.inrushH).sum
/-- Total charges held on the VCONN rail, in mW. -/
def State.chargeV (s : State) : Nat := (s.pwr.toList.map fun w => w.chgV).sum
/-- Ramp slots in use on a Stile (R376). -/
def State.slotsOn (s : State) (i : StileId) : Nat := ((portsOf i).filter fun k => s.pwr[k.val].slot).length
/-- Ramp slots in use on the device (R376). -/
def State.slotsDev (s : State) : Nat := (allPorts.filter fun k => s.pwr[k.val].slot).length

/-- What a 5 V ramp of a port asks of the 5 V rail: 5 V × (Rp current + IRAMP), in mW (R377). -/
def State.rampCharge (s : State) (k : PortId) : Nat :=
  rpCharge s.pd[k.val].ccRec.rp + 5 * s.pwr[k.val].gateRec.iramp

/-- Whether queued port `j` stands before queued port `k`: priority, then entry, then number (R377). -/
def State.before (s : State) (j k : PortId) : Bool :=
  let a := s.pwr[j.val]
  let b := s.pwr[k.val]
  let x := a.queued.getD 0
  let y := b.queued.getD 0
  a.priority.toNat > b.priority.toNat ||
    (a.priority == b.priority && (x < y || (x == y && j.val < k.val)))

/-- The position of a queued port: 1 = head, 0 = not queued (R381). -/
def State.qpos (s : State) (k : PortId) : Nat :=
  if s.pwr[k.val].queued.isSome then
    1 + (allPorts.filter fun j => j != k && s.pwr[j.val].queued.isSome && s.before j k).length
  else 0

/-- The queued ports in queue order. -/
def State.queue (s : State) : List PortId :=
  let q := allPorts.filter fun k => s.pwr[k.val].queued.isSome
  (List.range 24).flatMap fun i => q.filter fun k => s.qpos k == i + 1

/-- A POWER event of a port (R379). -/
def State.powerEvent (s : State) (k : PortId) (aux data : Nat) : State := s.stileEvent k 0x18 aux data none

/-- Whether a port's attached partner may be given power at all: a path is on, ramping or already queued. -/
def Pwr.busy (w : Pwr) : Bool := w.gateL || w.gateH || w.ramp != .none || w.queued.isSome

/-- PORT_POWER commands whose request has entered the queue: NOWAIT completes, the others have taken effect (R184). -/
def State.requestQueued (s : State) (k : PortId) : State :=
  let nowait := fun (e : TillEntry) => Wait.isPortOn k e.wait && testBit e.args.arg1 8
  (s.endTags nowait .ok).modEntries (fun e => Wait.isPortOn k e.wait) fun e => { e with point := .effected }

/-- A request that can never fit leaves the queue, with POWER 0xC; a PORT_POWER that waits on it completes EBUDGET (R378).
[DEDUCED, log 59] -/
def State.removeRequest (s : State) (k : PortId) : State :=
  let c := s.rampCharge k
  let s := s.modPwr k fun w => { w with queued := none, budgetWait := false, want := false }
  (s.endWaits (fun w => Wait.isPortOn k w || Wait.isCycle k w) .eBudget).powerEvent k 0xC c

/-- Whether a port's request may enter the queue: power wanted, attach confirmed, no cooldown, no Hard Reset recovery before
its last step, step 6 ended, and the Stile's domain on (R88, R344, R377, R407). -/
def State.mayQueue (s : State) (k : PortId) : Bool :=
  let w := s.pwr[k.val]
  let p := s.pd[k.val]
  s.awake && s.mode k != .off && w.want && s.attached k && !w.cooling && !w.busy
    && (p.hr == .none || p.hr == .waitPower) && s.stileOn k && (s.glb.phase == 6 || s.glb.phase == 7)

/-- A request enters the queue where R377 lets it; one that can never fit leaves it at once (R378). [DEDUCED, log 59] -/
def State.tryQueue (s : State) (k : PortId) : State :=
  if s.mayQueue k then
    let n := s.escrow.entries
    let s := s.modEscrow fun e => { e with entries := n + 1 }
    let s := s.modPwr k fun w => { w with queued := some n, budgetWait := false }
    if s.rampCharge k > s.escrow.budgetL.toNat then s.removeRequest k else s.requestQueued k
  else s

/-- Power is wanted on a port: its request is placed when attach is confirmed and any cooldown has ended (R184, R377). -/
def State.wantPower (s : State) (k : PortId) : State := (s.modPwr k fun w => { w with want := true }).tryQueue k

/-- Whether a queued request is ready (R377), and nothing bars its Stile or port from grants (R418, R429, R464). -/
def State.ready (s : State) (k : PortId) : Bool :=
  let w := s.pwr[k.val]
  let x := s.stiles[(stileOf k).val]
  w.vbusMv < 800 && !w.offPending && x.vgdOk && x.up && 4750 ≤ x.railLMv && x.railLMv ≤ 5250
    && !x.quarantined && !x.resetLine && !s.nsf.forceOff && !s.nsf.entryOff && !w.vaultBarred && x.domainOn

/-- Escrow grants one request: charges and a slot are taken and the ramp starts (R357, R375, R376). [DEDUCED, log 58, 119] -/
def State.grant (s : State) (k : PortId) : State :=
  let rp := s.pd[k.val].ccRec.rp
  s.modPwr k fun w => { w with
    queued := none, budgetWait := false, slot := true, ramp := .precharge, gateL := true, disch := false
    chgL := rpCharge rp, inrushL := 5 * w.gateRec.iramp }

/-- Escrow's grant pass over the queue, in queue order (R377). [DEDUCED, log 58] -/
def grantPass : List PortId → State → State
  | [], s => s
  | k :: l, s =>
    if !s.ready k then grantPass l s
    else if s.slotsDev ≥ s.escrow.rampsDev.toNat then s
    else if s.slotsOn (stileOf k) ≥ s.escrow.rampsStile.toNat then grantPass l s
    else if s.chargeL + s.rampCharge k > s.escrow.budgetL.toNat then
      if s.pwr[k.val].budgetWait then s
      else (s.modPwr k fun w => { w with budgetWait := true }).powerEvent k 0xB (s.rampCharge k)
    else grantPass l (s.grant k)

/-! ### VCONN -/

/-- A PD_STATE event of a port (R349). -/
def State.pdEvent (s : State) (k : PortId) (aux data : Nat) : State := s.stileEvent k 0x11 aux data none

/-- Whether R345 lets the VCONN switch of a port close but for Escrow's charge: VCONN_EN, ATTACHED_SRC with Ra on the pin
opposite Rd, and VCONN_IN within its range (R49, R56). [DEDUCED, log 110] -/
def State.vconnMay (s : State) (k : PortId) : Bool :=
  let p := s.pd[k.val]
  let v := s.stiles[(stileOf k).val].vconnMv
  p.ccRec.vconnEn && p.cc == .attachedSrc && p.partner == 2 && 4750 ≤ v && v ≤ 5500

/-- The VCONN switch closes onto the pin opposite Rd, with its charge taken (R345, R375). -/
def State.vconnClose (s : State) (k : PortId) : State :=
  (s.modPd k fun p => { p with vconnOn := true, vconnPin := p.orient == 1 }).modPwr k fun w => { w with chgV := 1000 }

/-- The VCONN switch closes where R345 lets it: the charge is taken, or, where Escrow cannot grant it now, the owner hears
that it waits. [DEDUCED, log 58, 110] -/
def State.tryVconn (s : State) (k : PortId) (tell : Bool) : State :=
  let p := s.pd[k.val]
  if s.vconnMay k && !p.vconnOn && !p.vconnTripped && !p.vconnGiven && s.pwr[k.val].vbusOn && p.hr == .none then
    if s.chargeV + 1000 ≤ s.escrow.budgetV.toNat then (s.vconnClose k).pdEvent k 0x9 1
    else if tell then s.pdEvent k 0x9 4 else s
  else s

/-- The VCONN charge of a port is returned; while the Spline link is down Escrow keeps it until the link is up (R345, R464). -/
def State.returnVconn (s : State) (k : PortId) : State :=
  if s.linkUp k then s.modPwr k fun w => { w with chgV := 0 } else s

/-- The VCONN switch opens and its charge is returned (R345). [DEDUCED, log 110] -/
def State.vconnOff (s : State) (k : PortId) : State := (s.modPd k fun p => { p with vconnOn := false }).returnVconn k

/-! ### Contracts -/

/-- A contract ends: nothing of it or of a transition to another stays; Rp shows the CC record's level (R328, R342). -/
def Pd.endContract (p : Pd) : Pd :=
  { p with contract := none, accepted := none, accepting := none, sinkTxNg := false,
           rpNow := if p.cc = .attachedSrc then rpCode p.ccRec.rp else p.rpNow }

/-- The charges a port holds while nothing changes: its contract's, or that of its Rp current while powered (R375). -/
def State.baseCharge (s : State) (k : PortId) : Nat × Nat :=
  match s.pd[k.val].contract with
  | some c => if c.isLow then (c.charge, 0) else (0, c.charge)
  | none => if s.pwr[k.val].gateL then (rpCharge s.pd[k.val].ccRec.rp, 0) else (0, 0)

/-! ### Switching off -/

/-- The power path goes off: gates, ramp and transition end, charges and slot return, limiting and VBUS_LOW clear; DISCH is
applied, or not, until VBUS is below 0.8 V (R361, R367, R373). -/
def Pwr.pathsOff (w : Pwr) (disch : Bool) : Pwr :=
  let was := w.gateL || w.gateH || w.ramp != .none || w.vbusMv ≥ 800
  { w with gateL := false, gateH := false, ramp := .none, trans := .none, vbusOn := false, limiting := false, vbusLow := false,
           disch := was && disch, offPending := w.offPending || was, slot := false,
           chgL := 0, oldL := 0, chgH := 0, oldH := 0, inrushL := 0, inrushH := 0 }

/-- The power half of a port with Escrow's charges and ramp slot as they stood in `w`. -/
def Pwr.keepCharges (x w : Pwr) : Pwr :=
  { x with chgL := w.chgL, oldL := w.oldL, chgH := w.chgH, oldH := w.oldH, inrushL := w.inrushL, inrushH := w.inrushH
           slot := w.slot }

/-- Both paths of a port go off and its contract ends. What a Stile turns off while its Spline link is down keeps its charges
with Escrow, which is on the Carcass, until the link is up (R464). -/
def State.pathsOff (s : State) (k : PortId) (disch : Bool) : State :=
  let up := s.linkUp k
  (s.modPwr k fun w => if up then w.pathsOff disch else (w.pathsOff disch).keepCharges w).modPd k Pd.endContract

/-- Whether any path of a port is on or ramping. -/
def State.powered (s : State) (k : PortId) : Bool :=
  s.pwr[k.val].gateL || s.pwr[k.val].gateH || s.pwr[k.val].ramp != .none

/-- A normal switch-off by the owner, the board controller or a mode change (R361, R373): the request is withdrawn; a
PORT_POWER with ON = 1 that still waits completes OK. While the Stile's Spline link is down it keeps its gates as they are
(R18), and the paths go off when the link is up again. [DEDUCED, log 114] -/
def State.switchOff (s : State) (k : PortId) : State :=
  let s := s.modPwr k fun w => { w with want := false, queued := none, budgetWait := false }
  if s.powered k then
    if s.linkUp k then
      ((s.pathsOff k true).endWaits (Wait.isPortOn k) .ok).loseDevice k (s.unpoweredState k) .eDetached true
        (Wait.endsOnUsbLoss k)
    else s.endWaits (Wait.isPortOn k) .ok
  else s.endWaits (Wait.isPortOn k) .ok

/-- VBUS has fallen below 0.8 V after the paths went off (R361, R184): DISCH is released; a PORT_POWER with ON = 0 that waited
completes OK; the power-cycle form of PORT_RESET places its 5 V request (R158). -/
def State.vbusGone (s : State) (k : PortId) (mv : Nat) : State :=
  let s := s.modPwr k fun w => { w with disch := false, offPending := false, vbusMv := mv }
  let s := s.endWaits (Wait.isPortOff k) .ok
  if s.anyEntry (fun e => Wait.isCycle k e.wait) && !s.pwr[k.val].want then s.wantPower k else s

/-- Paths off by a cause of a Stile or of the device that keeps the request: VGD under voltage, shutdown, FORCE_OFF, a STILE
domain off (R53, R18, R407, R418). The request joins the queue again where R377 lets it. `fromAux` is the POWER event, if
one is due. [DEDUCED, log 57, 155] -/
def State.forceOff (s : State) (k : PortId) (fromAux : Option (Nat × Nat)) : State :=
  if s.powered k then
    let s := s.pathsOff k true
    let s := s.loseDevice k (s.unpoweredState k) .eDetached true (Wait.endsOnUsbLoss k)
    let s := match fromAux with
      | some (aux, data) => (s.modPwr k fun w => { w with lastOff := BitVec.ofNat 4 aux }).powerEvent k aux data
      | none => s
    s.tryQueue k
  else s

/-! ### Current limits -/

/-- ILIM_EFF in mA (R363). [DEDUCED, log 112, 154] -/
def State.ilimEff (s : State) (k : PortId) : Nat :=
  let w := s.pwr[k.val]
  let p := s.pd[k.val]
  let g := w.gateRec
  let of := fun (c : Contract) => g.limPct * (10 * c.maxCur) / 100
  let x :=
    if w.ramp ≠ .none then g.iramp
    else if w.trans ≠ .none then ((p.accepted.map of).getD (g.limPct * rpCodeMa p.rpNow / 100)) + g.iramp
    else match p.contract with
      | some c => of c
      | none => g.limPct * rpMa p.ccRec.rp / 100
  min x (min g.ilimCap (s.fusedMa k))

/-- The fast-trip threshold in mA (R63, R363). -/
def State.fastThreshold (s : State) (k : PortId) : Nat := min (2 * s.ilimEff k) 12000

/-- The reference voltage V_c in mV (R366). -/
def State.vRef (s : State) (k : PortId) : Nat :=
  let p := s.pd[k.val]
  let now := (p.contract.map (·.mv)).getD 5000
  if s.pwr[k.val].trans ≠ .none then max now ((p.accepted.map (·.mv)).getD 5000) else now

/-! ### The FET thermal model -/

/-- Sum of a path's rises, in 1/1024 K. -/
def Foster.rise (f : Foster) : Nat := f.d1 + f.d2 + f.d3

/-- Junction temperature of a path in 1/1024 °C (R370). -/
def tjOf (tb : Int) (f : Foster) : Int := 64 * tb + f.rise

/-- Junction temperature of the hotter path, in 1/16 °C. -/
def State.tj16 (s : State) (k : PortId) : Int :=
  let w := s.pwr[k.val]
  let tb := s.stiles[(stileOf k).val].tb
  (max (tjOf tb w.fosterL) (tjOf tb w.fosterH)) / 64

/-- The model has cooled (R370): rises at most COOL_DELTA on both paths. [DEDUCED, log 113] -/
def Pwr.cooled (w : Pwr) : Bool :=
  w.fosterL.rise ≤ 1024 * w.modelRec.coolDelta && w.fosterH.rise ≤ 1024 * w.modelRec.coolDelta

/-- Partial sums of 1 − exp(−x): `fuel` terms from the one with value `term` and number `n`. [DEDUCED, log 111] -/
def expSeries : Nat → Nat → Rat → Rat → Rat
  | 0, _, _, _ => 0
  | f + 1, n, x, term => term + expSeries f (n + 1) x (-(term * x) / (n + 1))

/-- alpha of R370: 1 − exp(−10 µs ÷ TAU), by its series (20 terms; TAU is at least 10 µs). -/
def alphaOf (tauUs : Nat) : Rat := expSeries 20 1 ((10 : Rat) / tauUs) ((10 : Rat) / tauUs)

/-- Power in one path's model in W, from current in mA and voltages in mV (R370). -/
def pathPower (g : GateRec) (r : ModelRec) (iMa : Rat) (railMv vbusMv : Nat) : Rat :=
  let i : Rat := (if iMa < 0 then -iMa else iMa) / 1000
  let drop : Rat := ((railMv : Rat) - vbusMv) / 1000 - i * g.rshunt / 1000000
  i * max drop (2 * i * r.rdsHot / 1000000)

/-- One rise after a step: held to 1/1024 K, the way of rounding free (R370). [DEDUCED, log 111] -/
def riseStep (d : Nat) (p : Rat) (r tau : Nat) (up : Bool) : Nat :=
  let x : Rat := d + (p * r / 1000 * 1024 - d) * alphaOf tau
  if up then x.ceil.toNat else x.floor.toNat

/-- One model after a step. [DEDUCED, log 111] -/
def fosterStep (f : Foster) (m : ModelRec) (p : Rat) (u1 u2 u3 : Bool) : Foster :=
  { d1 := riseStep f.d1 p m.r1 m.tau1 u1, d2 := riseStep f.d2 p m.r2 m.tau2 u2, d3 := riseStep f.d3 p m.r3 m.tau3 u3 }

/-! ### Trips -/

/-- What tripped (R367, R372). -/
inductive TripKind where
  | fast (data : Nat)
  | model (kind : Nat)
  deriving DecidableEq, Repr

/-- A trip (R367): paths off, DISCH applied but for the DISCH kind, contract and EPR mode end, charges and slot return,
OVERCURRENT and COOLDOWN, the PROXY tags of the port complete EDETACHED, and the owner's request for power stays.
[DEDUCED, log 73, 147, 155] -/
def State.trip (s : State) (k : PortId) (kind : TripKind) : State :=
  let disch := kind != .model 3
  let s := s.pathsOff k disch
  let s := s.modPd k fun p => { p with eprMode := false }
  let aux := match kind with | .fast _ => 2 | .model _ => 3
  let s := s.modPwr k fun w => { w with
    disch := disch, offPending := true, overcurrent := true, cooling := true, coolLeft := 100 * w.gateRec.coolMs
    queued := none, budgetWait := false, lastOff := BitVec.ofNat 4 aux
    cntFast := match kind with | .fast _ => satAdd w.cntFast 1 | .model _ => w.cntFast
    cntModel := match kind with | .fast _ => w.cntModel | .model _ => satAdd w.cntModel 1 }
  let s := s.modGlb fun g => { g with fPorts := g.fPorts ||| BitVec.ofNat 3 (2 ^ (stileOf k).val) }
  let s := s.loseDevice k (s.unpoweredState k) .eDetached false (Wait.endsOnDetach k)
  let s := s.relayChange k fun c => { c with overCurrent := true }
  match kind with
  | .fast d => s.powerEvent k 0x2 d
  | .model n => s.powerEvent k 0x3 (n + fieldAt (sat16 (s.tj16 k)) 16)

/-! ### Detach -/

/-- A port without a partner: what R332 ends in the Stile's PD half, in the CC state `c`. [DEDUCED, log 147, 150] -/
def Pd.detached (p : Pd) (c : CcState) : Pd :=
  { p with
    cc := c, orient := 0, partner := 0, rpNow := if c = .disabled then 0 else rpCode p.ccRec.rp,
    vconnOn := false, vconnGiven := false, vconnWasOn := false, cfgSinceAttach := false,
    contract := none, accepted := none, accepting := none, eprMode := false, specRev := 0, reply := none, waitTimer := none,
    hr := .none, txId := Vector.replicate 3 0, rxId := Vector.replicate 3 none, tx := none, held := none, chunkOut := none,
    psDue := none, chunks := [], sinkTxNg := false, vconnSwap := .none, bist := .none }

/-- RESULT0 code of R340 by which the outcome of a message is told. -/
def txCode : Status → Nat
  | .eXact => 1 | .eBusy => 2 | .eDetached => 6 | .eNotReady => 7 | _ => 0

/-- The tag of PD_TX completes, or, after a deed change, the outcome of its message goes to the new owner as an event (R114,
R349). -/
def State.reportTx (s : State) (k : PortId) (x : PdTx) (st : Status) : State :=
  if x.origin != .owner then s
  else if x.orphan then s.pdEvent k 0xE (txCode st)
  else s.endWaits (Wait.isPdTx k) st

/-- The owner's message that is on the wire, waits for a Chunk Request or waits tSinkTx. -/
def Pd.ownTx (p : Pd) : List PdTx := p.tx.toList ++ p.chunkOut.toList ++ p.held.toList

/-- The detach of R332: the outcome of an owner's message, PD_TX tags complete EDETACHED, VCONN's charge returns, and
PD_STATE Detached for a port that was attached; `had` says that a contract was in force. -/
def State.pdDetach (s : State) (k : PortId) (c : CcState) (inTransition had : Bool) : State :=
  let p := s.pd[k.val]
  let s := (s.modPd k fun p => p.detached c).returnVconn k
  let s := p.ownTx.foldl (fun s x => s.reportTx k x .eDetached) s
  let s := s.endWaits (Wait.isPdTx k) .eDetached
  if p.cc == .attachedSrc then s.pdEvent k 0x2 (bitOf inTransition + 2 * bitOf had) else s

/-- A confirmed CC detach or a loss of seating (R332, R354, R362, R372): paths off, the port leaves the queue, WAIT_ATTACH.
[DEDUCED, log 155] -/
def State.detach (s : State) (k : PortId) (c : CcState) (seat : Bool) : State :=
  let w := s.pwr[k.val]
  let wasAttached := s.attached k
  let inTr := w.trans != .none
  let had := s.pd[k.val].contract.isSome
  let was := s.powered k
  let s := s.pathsOff k true
  let s := s.modPwr k fun w => { w with queued := none, budgetWait := false }
  let s := s.pdDetach k c inTr had
  let dst := if s.mode k = .off then PortState.off else .waitAttach
  let s := if wasAttached then s.loseDevice k dst .eDetached true (Wait.endsOnDetach k)
    else s.modPort k fun p => { p with state := dst }
  let s := if seat then
      let s := s.modGlb fun g => { g with fPorts := g.fPorts ||| BitVec.ofNat 3 (2 ^ (stileOf k).val) }
      let s := s.modPwr k fun w => { w with cntSeat := satAdd w.cntSeat 1, lastOff := if was then 8 else w.lastOff }
      s.powerEvent k 0x8 0
    else s
  if inTr then
    (s.modPwr k fun w => { w with lastOff := 9 }).powerEvent k 0x9
      (satU16 w.vbusMv + flagAt (w.trans == .up) 16)
  else s

/-! ### Escrow's judgement of requests (R378) -/

/-- Transition inrush of a new contract in mW: V_new × IRAMP (R375). -/
def State.inrushOf (s : State) (k : PortId) (c : Contract) : Nat := ceilDiv (c.mv * s.pwr[k.val].gateRec.iramp) 1000

/-- Whether a request changes the port's voltage. -/
def State.changesVoltage (s : State) (k : PortId) (c : Contract) : Bool :=
  ((s.pd[k.val].contract.map (·.volt)).getD 100) != c.volt

/-- Whether a request could ever fit the budget of its rail, with nothing else charged. -/
def State.couldFit (s : State) (k : PortId) (c : Contract) : Bool :=
  let inr := if s.changesVoltage k c then s.inrushOf k c else 0
  let b := if c.isLow then s.escrow.budgetL.toNat else s.escrow.budgetH.toNat
  c.charge + inr ≤ b

/-- Whether a queued request that is ready waits for a ramp slot, and not for the budget (R377, R378): no ready request at or
before its place in the queue is held back by the budget. -/
def State.waitsForSlot (s : State) (j : PortId) : Bool :=
  s.pwr[j.val].queued.isSome && s.ready j && !s.pwr[j.val].budgetWait
    && !allPorts.any fun i => s.pwr[i.val].queued.isSome && s.ready i && s.pwr[i.val].budgetWait && s.before i j

/-- Whether a request fits now. Where the voltage does not change, the charge it replaces is not counted against it.
[DEDUCED, log 156] -/
def State.fitsNow (s : State) (k : PortId) (c : Contract) : Bool :=
  let chg := s.changesVoltage k c
  let inr := if chg then s.inrushOf k c else 0
  let own := if chg then 0 else (if c.isLow then s.pwr[k.val].chgL else s.pwr[k.val].chgH)
  let total := if c.isLow then s.chargeL else s.chargeH
  let b := if c.isLow then s.escrow.budgetL.toNat else s.escrow.budgetH.toNat
  let slots := !chg ||
    (s.slotsDev < s.escrow.rampsDev.toNat && s.slotsOn (stileOf k) < s.escrow.rampsStile.toNat
      && !(portsOf (stileOf k)).any fun j =>
        s.waitsForSlot j && s.pwr[j.val].priority.toNat ≥ s.pwr[k.val].priority.toNat)
  total - own + c.charge + inr ≤ b && slots

/-- Escrow takes the charges of an accepted request (R375, R376). [DEDUCED, log 109, 156] -/
def State.takeContract (s : State) (k : PortId) (c : Contract) : State :=
  let chg := s.changesVoltage k c
  let inr := s.inrushOf k c
  s.modPwr k fun w =>
    if chg then
      { w with
        oldL := w.chgL, oldH := w.chgH, slot := true
        chgL := if c.isLow then c.charge else 0, chgH := if c.isLow then 0 else c.charge
        inrushL := if c.isLow then inr else 0, inrushH := if c.isLow then 0 else inr }
    else { w with chgL := if c.isLow then c.charge else w.chgL, chgH := if c.isLow then w.chgH else c.charge }

/-- An accepted request comes to nothing: the port holds again what it held before (R375). -/
def State.dropContract (s : State) (k : PortId) : State :=
  let b := s.baseCharge k
  s.modPwr k fun w => { w with chgL := b.1, chgH := b.2, oldL := 0, oldH := 0, inrushL := 0, inrushH := 0, slot := false }

end Sys2Proof.Machine
end

