-- ==== Sys2Proof/Machine/OrderRules.lean ====
section
/-! DEFINITION. The rules of standing orders that other blocks use as well: allowed combinations (R196, R197), bus-time cost
and the periodic budget (R199 to R202), the judging of a port's orders after enumeration (R196), and lost destinations
(R207). -/
namespace Sys2Proof.Machine

/-- All orders, rising. -/
def allOrders : List OrderId := allFin 1024

/-- A port speed under which orders are judged as high speed: high speed, or none known (R196). -/
def speedHigh (sp : BitVec 2) : Bool := sp == 3 || sp == 0

/-- Transactions of an occurrence (R197). -/
def OrderRec.txns (r : OrderRec) : Nat := max 1 (ceilDiv r.length r.maxp)

/-- Data bytes of transaction `i` of an occurrence. -/
def OrderRec.txnBytes (r : OrderRec) (i : Nat) : Nat := min r.maxp (r.length - i * r.maxp)

/-- Bus-time cost of one transaction of `l` data bytes (R199). -/
def txnCost (sp : BitVec 2) (l : Nat) : Nat :=
  let d := ceilDiv (7 * l) 6
  if speedHigh sp then 38 + d else if sp = 2 then 12 + d else 8 * (12 + d)

/-- Bus-time cost of an occurrence (R199). -/
def OrderRec.cost (sp : BitVec 2) (r : OrderRec) : Nat :=
  ((List.range r.txns).map fun i => txnCost sp (r.txnBytes i)).sum

/-- Whether an order is due at a residue (R200). -/
def OrderRec.dueAt (r : OrderRec) (n : Nat) : Bool := n % 2 ^ r.e == r.phase

/-- The combinations of class, direction and destination (R196). -/
def OrderRec.comboOk (r : OrderRec) : Bool :=
  let plain : Bool := match r.dest with | .discard | .purse | .stmt | .ledger => true | _ => false
  let kind : Bool := match r.cls with
    | .mintOut => !r.isIn && r.dest == .mintFrame
    | .feedback => r.isIn && r.dest == .template
    | .other => if r.isIn then plain else r.dest == .ledgerSrc
  kind && (!r.copyStmt || r.cls == .feedback || (r.cls == .other && r.isIn && r.dest != .stmt))

/-- The rules of R196, R197 and R201 that depend on the port's speed. -/
def OrderRec.speedOk (sp : BitVec 2) (r : OrderRec) : Bool :=
  if speedHigh sp then r.txns ≤ 3
  else r.cls == .other && r.txns == 1 && 3 ≤ r.e && r.phase % 8 == 0

/-- Sum of a quantity over the orders due at a residue. -/
def sumDue (l : List OrderRec) (n : Nat) (f : OrderRec → Nat) : Nat := ((l.filter fun r => r.dueAt n).map f).sum

/-- The limits of one microframe or frame (R200, R201): the refusal reason of R202 where one is broken. -/
def limitAt (sp : BitVec 2) (l : List OrderRec) (n : Nat) : Option Nat :=
  let c := fun (k : OrderClass) (r : OrderRec) => if r.cls = k then r.cost sp else 0
  if speedHigh sp then
    if sumDue l n (c .mintOut) > 2220 then some 3
    else if sumDue l n (c .feedback) > 2700 then some 4
    else if sumDue l n (fun r => c .feedback r + c .other r) > 3600 then some 5
    else if sumDue l n OrderRec.txns > 16 then some 6
    else none
  else
    if sumDue l n OrderRec.txns > 8 then some 6
    else if sumDue l n (OrderRec.cost sp) > 1350 then some 7
    else none

/-- The least refusal reason over all residues at which `r` is due, with `r` added to `l` (R200 to R202). [DEDUCED, log 74] -/
def budget (sp : BitVec 2) (l : List OrderRec) (r : OrderRec) : Option Nat :=
  (((List.range 256).filter r.dueAt).filterMap (limitAt sp (r :: l))).foldl
    (fun m x => match m with | none => some x | some y => some (min x y)) none

/-- The records of a port's orders that count in the budget: neither FREE nor WAITING. [DEDUCED, log 74] -/
def State.portOrders (s : State) (k : PortId) (skip : Option OrderId) : List OrderRec :=
  allOrders.filterMap fun n =>
    let o := s.orders[n.val]
    if o.state = .free ∨ o.state = .waiting ∨ some n = skip then none
    else match o.cfg with
      | some r => if r.port = k then some r else none
      | none => none

/-- Whether any order names a port. -/
def State.portHasOrder (s : State) (k : PortId) : Bool :=
  s.orders.toList.any fun o => o.state != .free && (o.cfg.map (·.port)) == some k

/-- Whether a PURSE destination is lost: not configured, or owned by a slot other than the port's owner (R207).
[DEDUCED, log 79] -/
def State.destLost (s : State) (r : OrderRec) : Bool :=
  r.dest == .purse &&
    (if h : r.dindex < 256 then s.purses[r.dindex].blocks == 0 || s.owner r.port != some s.purses[r.dindex].owner else true)

/-- The state of an order that may be issued: ACTIVE, or DEST_LOST (R207). -/
def State.issuedState (s : State) (r : OrderRec) : OrderState := if s.destLost r then .destLost else .active

/-- An order's state after owners or Purses have changed (R207). -/
def State.refreshDest (s : State) (o : Order) : Order :=
  match o.state, o.cfg with
  | .active, some r | .destLost, some r => { o with state := s.issuedState r }
  | _, _ => o

/-- The states of all orders after owners or Purses have changed (R207, R224). -/
def State.refreshOrders (s : State) : State := { s with orders := s.orders.map s.refreshDest }

/-- The orders of a port judged again at its new speed, in ascending number (R196). [DEDUCED, log 74] -/
def State.rejudge (s : State) (k : PortId) : State :=
  let sp := s.ports[k.val].speed
  (allOrders.foldl (fun (a : List OrderRec × State) n =>
    let o := a.2.orders[n.val]
    match o.cfg with
    | some r =>
      if o.state = .free ∨ r.port ≠ k then a
      else if r.comboOk ∧ r.speedOk sp ∧ budget sp a.1 r = none then
        (r :: a.1, if o.state = .waiting then a.2.modOrder n fun o => { o with state := s.issuedState r } else a.2)
      else (a.1, a.2.modOrder n fun o => { o with state := .waiting, occ := none })
    | none => a) ([], s)).2

end Sys2Proof.Machine
end

