-- ==== Sys2Proof/Machine/Pd.lean ====
section
/-! DEFINITION. The CC and PD PHY of a port's Stile, as its commands and events use it (file 11): message headers, sending
and its outcome, reply windows, requests and their verdict, contracts, Hard Reset recovery and VCONN swap. Message type
codes and header fields are those of USB PD 3.1 (R326). -/
namespace Sys2Proof.Machine

/-! ### Message headers -/

/-- The message header as a number. -/
def msgHdr (m : List Byte) : Nat := leAt m 0 2
/-- Message type. -/
def msgType (m : List Byte) : Nat := bitsAt (msgHdr m) 0 5
/-- Number of data objects. -/
def msgObjs (m : List Byte) : Nat := bitsAt (msgHdr m) 12 3
/-- Extended message. -/
def msgExt (m : List Byte) : Bool := (msgHdr m).testBit 15
/-- Class: 0 control, 1 data, 2 extended (R349). -/
def msgClass (m : List Byte) : Nat := if msgExt m then 2 else if msgObjs m = 0 then 0 else 1
/-- Specification Revision field. -/
def msgRev (m : List Byte) : Nat := bitsAt (msgHdr m) 6 2
/-- MessageID field. -/
def msgId (m : List Byte) : BitVec 3 := BitVec.ofNat 3 (bitsAt (msgHdr m) 9 3)
/-- Data size of an extended message. -/
def extSize (m : List Byte) : Nat := bitsAt (leAt m 2 2) 0 9
/-- Chunked flag of an extended message. -/
def extChunked (m : List Byte) : Bool := (leAt m 2 2).testBit 15
/-- Request Chunk flag of an extended message. -/
def extRequest (m : List Byte) : Bool := (leAt m 2 2).testBit 10
/-- Chunk number of an extended message. -/
def extChunk (m : List Byte) : Nat := bitsAt (leAt m 2 2) 11 4
/-- Data object `i` of a data message. -/
def msgObj (m : List Byte) (i : Nat) : Nat := leAt m (2 + 4 * i) 4
/-- The length that a message's header declares (R340). -/
def declaredLen (m : List Byte) : Nat := if msgExt m then 4 + extSize m else 2 + 4 * msgObjs m

/-- Whether a message is of one class and type. [PRESUMED, log 143] -/
def isMsg (m : List Byte) (cls ty : Nat) : Bool := msgClass m == cls && msgType m == ty

/-- A control message with the fields the Stile fills left 0. -/
def ctrlMsg (ty : Nat) : List Byte := leBytes 2 ty
/-- A data message of some objects. -/
def dataMsg (ty : Nat) (objs : List Nat) : List Byte := leBytes 2 (ty + 4096 * objs.length) ++ objs.flatMap (leBytes 4)

/-- Sub-type of an Extended_Control message (type 16). -/
def extCtrl (m : List Byte) : Option Nat := if isMsg m 2 16 then some (leAt m 4 1) else none
/-- Action of an EPR_Mode message (type 10): 1 Enter, 3 Enter Succeeded, 5 Exit. -/
def eprAction (m : List Byte) : Option Nat := if isMsg m 1 10 then some (bitsAt (msgObj m 0) 24 8) else none
/-- A structured VDM with command type REQ. -/
def isVdmReq (m : List Byte) : Bool :=
  isMsg m 1 15 && (msgObj m 0).testBit 15 && bitsAt (msgObj m 0) 6 2 == 0

/-- Messages that require a response under the PD specification (R336). Soft_Reset, EPR_KeepAlive and BIST are answered by
the Stile and are not among them (R337). -/
def needsReply (m : List Byte) : Bool :=
  let t := msgType m
  match msgClass m with
  | 0 => [7, 8, 9, 10, 11, 14, 17, 18, 19, 20, 21, 22, 23, 24].contains t
  | 1 => [2, 7, 8, 9].contains t || eprAction m == some 1 || isVdmReq m
  | _ => [3, 4, 6, 8, 10].contains t || extCtrl m == some 1 || extCtrl m == some 2

/-! ### Capabilities (R337, R339) -/

/-- Objects of Source_Capabilities as PD_CFG gives them; with HKIND EPR, PDO1 carries EPR Mode Capable, bit 23.
[PRESUMED, log 143] -/
def sourceCaps (r : PdRec) : List Nat :=
  if r.hkind = 1 ∨ r.hkind = 3 then [r.pdo1.toNat, r.pdoH.toNat]
  else if r.hkind = 2 then [(r.pdo1 ||| 0x00800000).toNat]
  else [r.pdo1.toNat]
/-- Data of EPR_Source_Capabilities as PD_CFG gives them: PDO1, zeros at positions 2 to 7, the high PDO at 8. -/
def eprCaps (r : PdRec) : List Nat := [r.pdo1.toNat, 0, 0, 0, 0, 0, 0, r.pdoH.toNat]
/-- EPR_Source_Capabilities (extended type 17), chunked flag set. -/
def eprCapsMsg (r : PdRec) : List Byte :=
  leBytes 2 (17 + 32768) ++ leBytes 2 (32768 + 32) ++ (eprCaps r).flatMap (leBytes 4)

/-! ### Sending (R333 to R335) -/

/-- The revision a message carries: 3.x until the partner's is known, then the lower (R334). -/
def Pd.sendRev (p : Pd) : Nat := if p.specRev = 1 then 1 else 2

/-- A message as it goes on the wire: MessageID, roles or Cable Plug, and revision written over (R334). -/
def Pd.wireBytes (p : Pd) (sop : BitVec 2) (m : List Byte) : List Byte :=
  let h := msgHdr m
  let id := if h : sop.toNat < 3 then p.txId[sop.toNat].toNat else 0
  let keep := bitsAt h 0 5 + fieldAt (bitsAt h 12 4) 12
  let roles := if sop = 0 then fieldAt 1 5 + fieldAt 1 8 else 0
  leBytes 2 (keep + roles + fieldAt p.sendRev 6 + fieldAt id 9) ++ m.drop 2

/-- Collision avoidance runs: an explicit contract is in force with a Revision 3.x partner (R335). -/
def Pd.avoids (p : Pd) : Bool := p.contract.isSome && p.specRev == 2

/-- The Rp presented: under collision avoidance 180 µA (SinkTxNG) while an exchange is open and 330 µA otherwise; else that
of the CC record (R335). -/
def Pd.showRp (p : Pd) : Pd :=
  { p with rpNow := if p.avoids then (if p.sinkTxNg then 2 else 3) else if p.cc = .attachedSrc then rpCode p.ccRec.rp else p.rpNow }

/-- The number of chunks in which a message is sent: one for every 26 data bytes of an extended message (R333). -/
def chunkCount (m : List Byte) : Nat := if msgExt m then max 1 (ceilDiv (extSize m) 26) else 1

/-- A message header with its number of data objects replaced. -/
def hdrObjs (h n : Nat) : Nat := bitsAt h 0 12 + fieldAt (n % 8) 12 + fieldAt (bitsAt h 15 1) 15

/-- Chunk `n` of a message: an unextended message is its one chunk; of an extended one, 26 data bytes at most, filled to whole
objects, behind an extended header with the chunk's number and the size of the whole (R333). [PRESUMED, log 162] -/
def chunkMsg (m : List Byte) (n : Nat) : List Byte :=
  if msgExt m then
    let d := slice m (4 + 26 * n) (min 26 (extSize m - 26 * n))
    let objs := ceilDiv (2 + d.length) 4
    leBytes 2 (hdrObjs (msgHdr m) objs) ++ leBytes 2 (extSize m + fieldAt (n % 16) 11 + fieldAt 1 15)
      ++ fitTo (4 * objs - 2) d
  else m

/-- The Chunk Request for chunk `n` of the message that a received chunk belongs to (R333). [PRESUMED, log 162] -/
def chunkRequest (m : List Byte) (n : Nat) : List Byte :=
  leBytes 2 (hdrObjs (msgHdr m) 1) ++ leBytes 2 (fieldAt 1 10 + fieldAt (n % 16) 11 + fieldAt 1 15) ++ [0, 0]

/-- The first bit of a message, or of a chunk of it, is sent: a message on SOP closes the reply window (R336). -/
def Pd.startTx (p : Pd) (x : PdTx) : Pd :=
  { p with tx := some x, wire := some (x.sop, p.wireBytes x.sop (chunkMsg x.bytes x.chunk)),
           reply := if x.sop = 0 then none else p.reply }

/-- A message of the Stile's own on an SOP type, sent at once with nRetryCount = 2. -/
def stileTx (sop : BitVec 2) (bytes : List Byte) (o : TxOrigin) (replyTo : Option (Nat × Nat)) : PdTx :=
  { bytes := bytes, sop := sop, retries := 2, origin := o, replyTo := replyTo, orphan := false }

/-- The Stile sends a message of its own on SOP. -/
def State.stileSend (s : State) (k : PortId) (bytes : List Byte) (o : TxOrigin) (replyTo : Option (Nat × Nat)) : State :=
  s.modPd k fun p => p.startTx (stileTx 0 bytes o replyTo)

/-- PS_RDY is sent, at once or as soon as the wire is free (R342, R346). -/
def State.sendPsRdy (s : State) (k : PortId) (o : TxOrigin) : State :=
  if s.pd[k.val].tx.isSome then s.modPd k fun p => { p with psDue := some o } else s.stileSend k (ctrlMsg 6) o none

/-- The wire is free: a PS_RDY that is due goes out. -/
def State.sendDue (s : State) (k : PortId) : State :=
  match s.pd[k.val].psDue with
  | some o => if s.pd[k.val].tx.isSome then s else (s.modPd k fun p => { p with psDue := none }).stileSend k (ctrlMsg 6) o none
  | none => s

/-- An exchange has ended: Rp shows SinkTxOK again (R335). -/
def Pd.endExchange (p : Pd) : Pd := { p with sinkTxNg := false }.showRp

/-! ### VCONN reservations (R346) -/

/-- A VCONN swap, or a reservation of 1 W, that comes to nothing: the charge is returned, unless the switch is closed.
[DEDUCED, log 110] -/
def State.releaseVconn (s : State) (k : PortId) : State :=
  let s := s.modPd k fun p => { p with vconnSwap := .none }
  if s.pd[k.val].vconnOn then s else s.returnVconn k

/-- What was taken for a message that will not be sent, or failed, is given back. -/
def State.unsend (s : State) (k : PortId) (x : PdTx) : State :=
  if isMsg x.bytes 0 3 && (x.replyTo == some (1, 2) || x.replyTo == some (1, 9)) then
    (s.dropContract k).modPd k fun p => { p with accepting := none }
  else if isMsg x.bytes 0 11 || (isMsg x.bytes 0 3 && x.replyTo == some (0, 11)) then s.releaseVconn k
  else s

/-- An initiation that has not started is taken back. -/
def State.dropHeld (s : State) (k : PortId) : State :=
  match s.pd[k.val].held with
  | some x => (s.modPd k fun p => { p with held := none }).unsend k x
  | none => s

/-- A message is on the wire and its GoodCRC is due. -/
def Pd.sending (p : Pd) : Bool := p.tx.isSome

/-- A message of the owner, or of the Stile, is being sent, waits for a Chunk Request, or waits tSinkTx. -/
def Pd.txBusy (p : Pd) : Bool := p.tx.isSome || p.held.isSome || p.chunkOut.isSome

/-! ### Hard Reset (R344) -/

/-- The messages of a port that a Hard Reset cuts off: a PD_TX that has not started completes ENOTREADY; one on the wire gets
no GoodCRC and completes EXACT (R344). -/
def State.cutTx (s : State) (k : PortId) : State :=
  let p := s.pd[k.val]
  let s := s.modPd k fun p => { p with tx := none, chunkOut := none, psDue := none }
  let s := (p.tx.toList ++ p.chunkOut.toList).foldl (fun s x => (s.unsend k x).reportTx k x .eXact) s
  match p.held with
  | some x => (s.dropHeld k).reportTx k x .eNotReady
  | none => s

/-- Hard Reset signalling sent or received: the recovery starts. A contract's charge returns; the charge of the Rp current
stays until the paths are off (R375). In a transition the slew stops, DISCH is released, and VBUS is held where it stands
(R373). [DEDUCED, log 147, 148] -/
def State.hardReset (s : State) (k : PortId) (aux data : Nat) : State :=
  let s := s.cutTx k
  let bare := s.pd[k.val].contract.isNone && s.pd[k.val].accepted.isNone
  let s := s.modPd k fun p =>
    { p.endContract with
      eprMode := false, reply := none, waitTimer := none, txId := Vector.replicate 3 0, rxId := Vector.replicate 3 none,
      chunks := [], vconnSwap := .none, bist := .none, hr := .waitPathsOff, vconnWasOn := p.vconnOn,
      hardResets := satAdd p.hardResets 1 }
  let up := s.linkUp k
  let s := s.modPwr k fun w =>
    let x : Pwr := { w with
      trans := .none, disch := if w.trans = .none then w.disch else false
      slot := if w.ramp = .none then false else w.slot, oldL := 0, oldH := 0,
      chgL := if bare then w.chgL else 0, chgH := 0,
      inrushL := if w.ramp = .none then 0 else w.inrushL, inrushH := 0 }
    if up then x else x.keepCharges w
  s.pdEvent k aux data

/-! ### VCONN swap (R346) -/

/-- An accepted VCONN swap: the source of VCONN waits for PS_RDY; the other end closes its switch where R345 lets it, a trip
before the swap notwithstanding, and the swap ends where it does not. [DEDUCED, log 150] -/
def State.beginVconnSwap (s : State) (k : PortId) : State :=
  if s.pd[k.val].vconnOn then s.modPd k fun p => { p with vconnSwap := .waitPsRdy }
  else if s.vconnMay k then
    (s.modPd k fun p => { p with vconnSwap := .sendPsRdy, vconnGiven := false, vconnTripped := false }).vconnClose k
  else s.releaseVconn k

/-! ### Requests and contracts (R341, R342) -/

/-- The request a Request or EPR_Request makes, judged under R341; `none` where it is not valid. -/
def Pd.judge (p : Pd) (m : List Byte) : Option Contract :=
  match p.pdRec with
  | none => none
  | some r =>
    let rdo := msgObj m 0
    let pos := bitsAt rdo 28 4
    let cur := bitsAt rdo 10 10
    let mx := bitsAt rdo 0 10
    let epr := isMsg m 1 9
    let pdo := if pos = 1 then r.pdo1.toNat else r.pdoH.toNat
    let posOk := pos = 1 ∨ (pos = 2 ∧ (r.hkind = 1 ∨ r.hkind = 3)) ∨ (pos = 8 ∧ r.hkind = 2 ∧ epr ∧ p.eprMode)
    let curOk := cur ≤ bitsAt pdo 0 10 ∧ mx ≤ bitsAt pdo 0 10
    let copyOk := !epr || msgObj m 1 == r.pdoH.toNat
    if posOk ∧ curOk ∧ copyOk then some { cur := cur, maxCur := mx, volt := bitsAt pdo 10 10, pos := pos, epr := pos == 8 }
    else none

/-- VERDICT of a request (R348). -/
def State.verdict (s : State) (k : PortId) (c : Option Contract) : Nat :=
  match c with
  | none => 3
  | some c => if !s.couldFit k c then 3 else if s.fitsNow k c then 1 else 2

/-- After the GoodCRC of an Accept to a request: tSrcTransition runs; where the voltage changes a transition begins (R342,
R359, R360). [DEDUCED, log 109] -/
def State.beginTransition (s : State) (k : PortId) (c : Contract) : State :=
  let chg := s.changesVoltage k c
  let now := (s.pd[k.val].contract.map (·.mv)).getD 5000
  let s := s.modPd k fun p => { p with accepted := some c, accepting := none }
  if chg then s.modPwr k fun w => { w with trans := if c.mv > now then .up else .down, vbusLow := false } else s

/-- The contract is in force (R342): CONTRACT event, Rp under collision avoidance. -/
def State.contractInForce (s : State) (k : PortId) : State :=
  match s.pd[k.val].accepted with
  | none => s
  | some c =>
    let s := s.modPd k fun p => { p with contract := some c, accepted := none }.endExchange
    s.pdEvent k 0x3 (c.cur % 1024 + fieldAt (c.volt % 1024) 10 + fieldAt (c.pos % 16) 20 + flagAt c.epr 24)

/-! ### Outcomes of sending -/

/-- EPR mode changes, with its event (R343, R349); with a Revision 2.0 partner EPR is not used (R334). [DEDUCED, log 147] -/
def State.setEpr (s : State) (k : PortId) (on : Bool) : State :=
  if s.pd[k.val].eprMode == on || (on && s.pd[k.val].specRev == 1) then s
  else (s.modPd k fun p => { p with eprMode := on }).pdEvent k 0xA (bitOf on)

/-- MessageID of one SOP type counted up. -/
def Pd.bumpId (p : Pd) (sop : BitVec 2) : Pd :=
  { p with txId := p.txId.mapIdx fun i v => if i = sop.toNat then v + 1 else v }

/-- What a message on SOP brings about once its GoodCRC has come (R338, R342, R343, R346). [DEDUCED, log 109] -/
def State.sentEffect (s : State) (k : PortId) (x : PdTx) : State :=
  match x.origin with
  | .psRdyContract => s.contractInForce k
  | .psRdyVconn => (s.modPd k fun p => { p with vconnSwap := .none }.endExchange).pdEvent k 0x9 1
  | .softAccept | .keepAliveAck | .chunkRequest => s
  | .auto | .owner =>
    let s := match isMsg x.bytes 0 12, x.replyTo with
      | true, some (c, t) =>
        if (c = 1 ∧ (t = 2 ∨ t = 9)) ∨ (c = 0 ∧ t = 11) then s.modPd k fun p => { p with waitTimer := some (32 * c + t, true) }
        else s
      | _, _ => s
    if isMsg x.bytes 0 3 then
      match s.pd[k.val].accepting with
      | some c => s.beginTransition k c
      | none => if x.replyTo = some (0, 11) then s.beginVconnSwap k else s
    else if isMsg x.bytes 0 11 then s.modPd k fun p => { p with vconnSwap := .asked }
    else if isMsg x.bytes 0 13 then
      let s := if s.pd[k.val].vconnSwap = .asked then s.releaseVconn k else s
      s.modPd k fun p => { p with txId := Vector.replicate 3 0, rxId := Vector.replicate 3 none }
    else match eprAction x.bytes with
      | some 3 => s.setEpr k true
      | some 5 => s.setEpr k false
      | _ => s

/-- MessageID counters after an Accept to a Soft_Reset: those of its SOP type, and with SOP those of every type (R333).
[DEDUCED, log 163] -/
def Pd.resetIds (p : Pd) (sop : BitVec 2) : Pd :=
  if sop = 0 then { p with txId := Vector.replicate 3 0, rxId := Vector.replicate 3 none }
  else { p with txId := p.txId.mapIdx fun i v => if i = sop.toNat then 0 else v
                rxId := p.rxId.mapIdx fun i v => if i = sop.toNat then none else v }

/-- The GoodCRC of a sent message has come. An extended message of which chunks are left waits for the Chunk Request of the
next (R333); a message that is whole reports its outcome and has its effect. [DEDUCED, log 109; PRESUMED, log 162] -/
def State.sent (s : State) (k : PortId) (x : PdTx) : State :=
  let s := s.modPd k fun p => { p.bumpId x.sop with tx := none }
  let s :=
    if x.chunk + 1 < chunkCount x.bytes then s.modPd k fun p => { p with chunkOut := some { x with chunk := x.chunk + 1 } }
    else
      let s := s.reportTx k x .ok
      if x.origin = .softAccept then (s.modPd k fun p => p.resetIds x.sop).pdEvent k 0x7 0
      else if x.sop ≠ 0 then s
      else s.sentEffect k x
  s.sendDue k

/-- No GoodCRC after the retries (R187, R333, R342). -/
def State.sendFailed (s : State) (k : PortId) (x : PdTx) : State :=
  let s := (s.modPd k fun p => { p with tx := none }).unsend k x
  let s := s.modPd k fun p => { p.bumpId x.sop with noGoodCrc := satAdd p.noGoodCrc 1 }
  let s := s.reportTx k x .eXact
  match x.origin with
  | .psRdyContract | .psRdyVconn => s.hardReset k 0x4 3
  | _ => s.sendDue k

/-! ### The auto-responder (R337) -/

/-- The automatic reply to the message of an open window: bytes, class and type sent. -/
def State.autoReply (s : State) (k : PortId) (w : ReplyWindow) : List Byte × Nat × Nat :=
  let p := s.pd[k.val]
  let notSupported := (ctrlMsg 16, 0, 16)
  if (w.cls = 1 ∧ (w.ty = 2 ∨ w.ty = 9)) ∨ (w.cls = 0 ∧ w.ty = 11) then (ctrlMsg 12, 0, 12)
  else if w.cls = 0 ∧ (w.ty = 9 ∨ w.ty = 10 ∨ w.ty = 19) then (ctrlMsg 4, 0, 4)
  else if w.cls = 0 ∧ w.ty = 7 then
    match p.pdRec, p.cfgSinceAttach with
    | some r, true => (dataMsg 1 (sourceCaps r), 1, 1)
    | _, _ => notSupported
  else if w.cls = 2 ∧ w.ty = 16 ∧ w.vdm = some 1 then
    match p.pdRec with
    | some r => if r.hkind = 2 ∧ p.specRev ≠ 1 then (eprCapsMsg r, 2, 17) else notSupported
    | none => notSupported
  else match w.vdm with
    | some h => if w.cls = 1 ∧ w.ty = 15 then (dataMsg 15 [(h.toNat - fieldAt (bitsAt h.toNat 6 2) 6) + fieldAt 2 6], 1, 15)
        else notSupported
    | none => notSupported

/-- The Stile answers an open reply window for the owner, with its PD_STATE event (R337). -/
def State.autoRespond (s : State) (k : PortId) : State :=
  match s.pd[k.val].reply with
  | none => s
  | some w =>
    let r := s.autoReply k w
    let s := s.stileSend k r.1 .auto (some (w.cls, w.ty))
    let s := s.modPd k fun p => { p with auto := satAdd p.auto 1 }
    s.pdEvent k 0x8 (w.ty % 32 + fieldAt w.cls 5 + fieldAt (r.2.2 % 32) 8 + fieldAt r.2.1 13)

/-! ### Receiving (R333 to R338, R348) -/

/-- Whether a port's Stile works: VGD present and its reset line released (R50, R51, R53). -/
def State.stileLive (s : State) (k : PortId) : Bool :=
  let x := s.stiles[(stileOf k).val]
  x.vgdPresent && !x.resetLine

/-- A message of an attached port is received: GoodCRC, MessageID, partner revision. Answers whether it is to be handled: a
repeat is acknowledged and discarded (but for Soft_Reset, which resets the counters), and a message that comes while the Stile
is sending is not received. [DEDUCED, log 107] -/
def State.acceptRx (s : State) (k : PortId) (sop : BitVec 2) (m : List Byte) : Bool × State :=
  let p := s.pd[k.val]
  if p.sending || sop = 3 || !s.attached k || !s.stileLive k then (false, s)
  else
    let old := if h : sop.toNat < 3 then p.rxId[sop.toNat] else none
    let s := s.modPd k fun p => { p with
      goodCrcSent := some sop
      rxId := p.rxId.mapIdx fun i v => if i = sop.toNat then some (msgId m) else v
      specRev := if sop = 0 ∧ p.specRev = 0 then (if msgRev m = 1 then 1 else if msgRev m = 2 then 2 else 0) else p.specRev }
    (old != some (msgId m) || isMsg m 0 13, s)

/-- An initiation that has not started is deferred by a message of the partner (R335, R346): PD_TX completes EBUSY. -/
def State.deferTx (s : State) (k : PortId) : State :=
  match s.pd[k.val].held with
  | some x => (s.dropHeld k).reportTx k x .eBusy
  | none => s

/-- An extended message whose next chunk the partner did not ask for, sending something else instead, is given up: PD_TX
completes EXACT. [PRESUMED, log 162] -/
def State.dropChunks (s : State) (k : PortId) (sop : BitVec 2) : State :=
  match s.pd[k.val].chunkOut with
  | some x => if x.sop = sop then ((s.modPd k fun p => { p with chunkOut := none }).unsend k x).reportTx k x .eXact else s
  | none => s

/-- A message goes to the owner as PD_RX, with its reply window where it needs an answer; on a port without an owner the
automatic reply is sent at once (R336 to R338, R341, R348). A message that needs no answer replaces an open window by none
(R336). -/
def State.deliverRx (s : State) (k : PortId) (sop : BitVec 2) (m : List Byte) : State :=
  let cls := msgClass m
  let ty := msgType m
  let due := sop = 0 ∧ needsReply m
  let isReq := isMsg m 1 2 || isMsg m 1 9
  let req := if isReq then s.pd[k.val].judge m else none
  let verdict := if sop = 0 ∧ isReq then s.verdict k req else 0
  let early := due ∧ s.pd[k.val].waitTimer = some (32 * cls + ty, true)
  let win : ReplyWindow :=
    { cls := cls, ty := ty, vdm := if isMsg m 1 15 then some (toWord (msgObj m 0)) else (extCtrl m).map toWord, request := req }
  let s := if sop = 0 then s.modPd k fun p => { p with reply := if due then some win else none } else s
  match s.owner k with
  | none => if due then s.autoRespond k else s
  | some _ =>
    s.stileEvent k 0x10 0 (sop.toNat + flagAt due 2 + flagAt early 3 + fieldAt verdict 4) (some (m.take 264))

/-- A port's own VCONN_Swap is answered (R338, R346). -/
def State.vconnAnswer (s : State) (k : PortId) (m : List Byte) : State :=
  if s.pd[k.val].vconnSwap ≠ .asked then s
  else if isMsg m 0 3 then s.beginVconnSwap k
  else if isMsg m 0 12 then (s.releaseVconn k).modPd k fun p => { p with waitTimer := some (11, false) }
  else if isMsg m 0 4 || isMsg m 0 16 then s.releaseVconn k
  else s

/-- The partner's PS_RDY that ends a VCONN swap from the port (R346): the switch opens, the charge returns. -/
def State.vconnPsRdy (s : State) (k : PortId) : State :=
  if s.pd[k.val].vconnSwap = .waitPsRdy then
    let s := (s.vconnOff k).modPd k fun p => { p with vconnSwap := .none, vconnGiven := true, reply := none }.endExchange
    s.pdEvent k 0x9 0
  else s

/-- Soft_Reset received: Accept is sent at once on its SOP type; the counters are reset after it (R333).
[DEDUCED, log 107, 163] -/
def State.softReset (s : State) (k : PortId) (sop : BitVec 2) : State :=
  s.modPd k fun p => { p with chunks := [] }.startTx (stileTx sop (ctrlMsg 3) .softAccept none)

/-- EPR_KeepAlive received in EPR mode: answered by the Stile (R343). -/
def State.keepAlive (s : State) (k : PortId) : State :=
  if s.pd[k.val].eprMode then
    s.stileSend k (leBytes 2 (16 + 32768) ++ leBytes 2 (32768 + 2) ++ [4, 0]) .keepAliveAck none
  else s

/-- A BIST message, which replaces an open window by none (R336), by its mode: 5 Carrier Mode, 8 Test Data; the Shared
Capacity modes are ignored (R326, R333). -/
def State.bistMsg (s : State) (k : PortId) (mode : Nat) : State :=
  let s := s.modPd k fun p => { p with reply := none }
  if mode = 5 then s.modPd k fun p => { p with bist := .carrier }
  else if mode = 8 then s.modPd k fun p => { p with bist := .testData }
  else s

/-- A whole message on SOP that is to be handled. -/
def State.handleSop (s : State) (k : PortId) (m : List Byte) : State :=
  let s := s.deferTx k
  if isMsg m 0 13 then s.softReset k 0
  else if isMsg m 0 6 ∧ s.pd[k.val].vconnSwap = .waitPsRdy then s.vconnPsRdy k
  else if extCtrl m = some 3 then s.keepAlive k
  else if isMsg m 1 3 then s.bistMsg k (bitsAt (msgObj m 0) 28 4)
  else
    let s := s.vconnAnswer k m
    let s := if eprAction m = some 5 then s.setEpr k false else s
    s.deliverRx k 0 m

/-- A received chunk joins the message under way, and the Stile asks for the next with a Chunk Request; the whole message,
once it is complete (R333). A chunk that is not the next one is discarded. [PRESUMED, log 162] -/
def State.reassemble (s : State) (k : PortId) (sop : BitVec 2) (m : List Byte) : Option (List Byte) × State :=
  if !msgExt m then (some m, s)
  else if !extChunked m then (none, s)
  else
    let old := if extChunk m = 0 then [] else s.pd[k.val].chunks
    let data := old ++ (m.drop 4).take 26
    if old.length ≠ 26 * extChunk m then (none, s)
    else if data.length ≥ extSize m then
      (some (m.take 4 ++ data.take (extSize m)), s.modPd k fun p => { p with chunks := [] })
    else
      (none, s.modPd k fun p =>
        { p with chunks := data }.startTx (stileTx sop (chunkRequest m (extChunk m + 1)) .chunkRequest none))

/-- Whether a message is the Chunk Request that the port waits for (R333). -/
def Pd.chunkDue (p : Pd) (sop : BitVec 2) (m : List Byte) : Option PdTx :=
  match p.chunkOut with
  | some x => if x.sop = sop ∧ msgType x.bytes = msgType m ∧ x.chunk = extChunk m then some x else none
  | none => none

/-- A message that is to be handled: a Chunk Request brings the chunk it asks for; another message ends the wait for one
(R333). -/
def State.handle (s : State) (k : PortId) (sop : BitVec 2) (m : List Byte) : State :=
  if msgExt m ∧ extRequest m then
    match s.pd[k.val].chunkDue sop m with
    | some x => s.modPd k fun p => { p with chunkOut := none }.startTx x
    | none => s
  else
    let q := (s.dropChunks k sop).reassemble k sop m
    match q.1 with
    | none => q.2
    | some m =>
      if sop = 0 then q.2.handleSop k m
      else if isMsg m 0 13 then q.2.softReset k sop
      else q.2.deliverRx k sop m

/-- A PD message comes in on a port's CC pin (R333). -/
def State.receive (s : State) (k : PortId) (sop : BitVec 2) (m : List Byte) : State :=
  let r := s.acceptRx k sop m
  if r.1 then r.2.handle k sop m else r.2

/-! ### CC connection -/

/-- Exactly one CC pin sees Rd. -/
def Pd.oneRd (p : Pd) : Bool := (p.term1 == .rd) != (p.term2 == .rd)
/-- Both pins see Ra, or both see Rd: an accessory. -/
def Pd.isAccessory (p : Pd) : Bool := (p.term1 == .ra && p.term2 == .ra) || (p.term1 == .rd && p.term2 == .rd)
/-- Some pin sees Rp. -/
def Pd.seesRp (p : Pd) : Bool := p.term1 == .rp || p.term2 == .rp

/-- What the CC pins present where no partner is attached (R330): Rp at the record's level, or Rd or nothing, which RP_NOW
reads as 0 (R350). [DEDUCED, log 149] -/
def Pd.termRp (p : Pd) : Pd :=
  match p.cc with
  | .attachedSrc => p
  | .disabled | .unattachedSnk | .attachWaitSnk | .tryWaitSnk | .sourcePartner => { p with rpNow := 0 }
  | .seatWait | .unattachedSrc | .attachWaitSrc | .trySrc | .accessory => { p with rpNow := rpCode p.ccRec.rp }

/-- The state that the connection state machine moves to without a timer after its inputs changed (R330). -/
def Pd.ccMove (p : Pd) : Pd :=
  match p.cc with
  | .unattachedSrc => if p.oneRd || p.isAccessory then { p with cc := .attachWaitSrc } else p
  | .attachWaitSrc => if p.oneRd || p.isAccessory then p else { p with cc := .unattachedSrc }
  | .unattachedSnk => if p.seesRp then { p with cc := .attachWaitSnk } else p
  | .attachWaitSnk => if p.seesRp then p else { p with cc := .unattachedSnk }
  | .tryWaitSnk => if p.seesRp then p else { p with cc := .unattachedSnk }
  | _ => p

/-- The connection state machine after its inputs changed, with what its pins then present (R330). [DEDUCED, log 149] -/
def Pd.ccStep (p : Pd) : Pd := p.ccMove.termRp

/-- A port may evaluate CC (R330): seating confirmed; leaves SEAT_WAIT for the record's role. -/
def Pd.seated (p : Pd) : Pd := { p with cc := if p.ccRec.drp then .unattachedSnk else .unattachedSrc }.ccStep

/-- A port leaves OFF mode: Rp is presented, and it waits for SEAT_WAIT's end where its seating is not confirmed (R330, R353).
[DEDUCED, log 151] -/
def State.enableCc (s : State) (k : PortId) : State :=
  if s.stileLive k then
    s.modPd k fun p =>
      if s.pwr[k.val].seatOk then p.seated else { p with cc := .seatWait, rpNow := rpCode p.ccRec.rp }
  else s

/-- The confirmed attach of R331: orientation, partner, WAIT_POWER, and the request where power is wanted. [DEDUCED, log 150] -/
def State.attach (s : State) (k : PortId) : State :=
  let p := s.pd[k.val]
  let orient : Nat := if p.term1 = .rd then 1 else 2
  let other := if p.term1 = .rd then p.term2 else p.term1
  let partner : Nat := if other = .ra then 2 else 1
  let s := s.modPd k fun p => { p with
    cc := .attachedSrc, orient := BitVec.ofNat 2 orient, partner := BitVec.ofNat 2 partner, rpNow := rpCode p.ccRec.rp
    vconnFault := false, vconnTripped := false, vconnGiven := false, cfgSinceAttach := false }
  let s := s.modPort k fun q => q.come .waitPower
  (s.pdEvent k 0x1 (orient + fieldAt partner 2)).tryQueue k

end Sys2Proof.Machine
end

