-- ==== Sys2Proof/Machine/Ports.lean ====
section
/-! DEFINITION. The meanings of the port and deed commands, of the hub class requests and of a port's USB events (files 04
and 05): modes, resets, suspend and resume, deeds, connection, Transaction Translators and test modes. An event acts where
its condition holds, and changes nothing otherwise. -/
namespace Sys2Proof.Machine

/-! ### Shared operations -/

/-- Whether a port's USB side works: its port group is on and the port has port power good (R134, R407). -/
def State.usbOn (s : State) (k : PortId) : Bool := s.portGrpUp k && s.pwr[k.val].vbusOn

/-- Port reset signalling begins (R136): nothing learnt of the device stays but its connection. -/
def Port.startReset (p : Port) (attempt : Nat) : Port :=
  { p with state := .resetting, attempt := attempt, step := .idle, sofRunning := false, speed := 0, pid := 0, vid := 0
           refuse := 0, haltedEps := [], wakeCap := false, wakeSet := false, devDesc := [], cfgDescs := [], mps0 := 8
           hubSuspend := false }

/-- A proxied port's reset ends the other tags of the port with EPORT_RESET (R155, R158) and applies R143. -/
def State.proxyReset (s : State) (k : PortId) (attempt : Nat) : State :=
  let s := s.leaveActive k
  let s := s.endWaits (Wait.endsOnUsbLoss k) .ePortReset
  s.modPort k fun p => p.startReset attempt

/-- The state of a RELAY port that is not enabled: POWERED while VBUS is on. -/
def State.idleState (s : State) (k : PortId) : PortState :=
  if s.pwr[k.val].vbusOn then .powered else s.unpoweredState k

/-- A RELAY port with PORT_ENABLE at 0 and its device still connected. -/
def State.disableRelay (s : State) (k : PortId) : State :=
  let st := s.idleState k
  s.modPort k fun p =>
    { p.noDevice with connected := p.connected, state := st, prev := .off, slotSuspend := false, hubSuspend := false }

/-- A suspended port starts to resume (R151, R123). -/
def State.startResume (s : State) (k : PortId) : State :=
  s.modPort k fun p => { p with state := .resuming, slotSuspend := false }

/-- Whether every enabled Mint channel of a port lies in a HELD group and is at rest (R150). -/
def State.heldAtRest (s : State) (k : PortId) : Bool :=
  (s.portEnabled k).all fun c =>
    match s.chanGroup c with
    | some g => s.mint.groups[g.val].state == .held && s.mint.chans[c.val].planned.atRest
    | none => true

/-! ### PORT_MODE (R129) -/

/-- The mode that ARG1 names. -/
def modeArg (a : CmdArgs) : PortMode := match a.arg1.toNat with | 0 => .off | 1 => .relay | _ => .proxy

/-- The USB and CC sides of a port that goes OFF (R129, R330, R332). [DEDUCED, log 72] -/
def State.toOff (s : State) (k : PortId) : State :=
  let s := s.modPort k fun p =>
    { p.noDevice.flushTt with state := .off, prev := .off, slotSuspend := false, hubSuspend := false
                              deed := { p.deed with mode := .off } }
  let s := if s.linkUp k || !s.stileLive k then
      s.pdDetach k .disabled (s.pwr[k.val].trans != .none) s.pd[k.val].contract.isSome else s
  s.switchOff k

/-- The effects of an accepted change of mode (R129). [DEDUCED, log 72] -/
def State.changeMode (s : State) (k : PortId) (m : PortMode) : State :=
  let old := s.mode k
  let s := if old = .proxy ∨ m = .off then s.endTags (fun e => e.port == some k) .eAborted else s
  let s := s.leaveActive k
  match m with
  | .off => s.toOff k
  | .relay | .proxy =>
    let s := s.modPort k fun p => { p.flushTt with deed := { p.deed with mode := m }, test := none, led := .off }
    if old = .off then
      let s := s.modPort k fun p => { p with state := .waitAttach }
      (s.modPwr k fun w => { w with want := true, priority := 0 }).enableCc k
    else
      let s := match s.owner k with
        | some h => s.hubChange h k fun c => { c with connection := true }
        | none => s
      if m = .proxy ∧ s.ports[k.val].connected ∧ s.usbOn k then
        s.modPort k fun p => p.startReset 1
      else s.disableRelay k

/-- The body of PORT_MODE. [DEDUCED, log 72] -/
def portModeBody (s : State) (a : CmdArgs) : Res :=
  let k := portArg a
  let m := modeArg a
  if s.portDown k then .fail .ePoweredDown s
  else if s.mode k = m then .done .ok (s.prtDeed k) [] s
  else if s.mode k = .proxy && (s.portHasOrder k || !(s.portEnabled k).isEmpty) then .fail .eBusy s
  else
    let s := s.changeMode k m
    .done .ok (s.prtDeed k) [] s

/-- PORT_MODE (R129). -/
def opPortMode : OpSpec :=
  { code := 0x20, argOk := fun a => arg0Port a && a.arg1.toNat < 3, callerOk := ownerOfArg, body := portModeBody }
/-- PORT_MODE changes a port's mode (R129). -/
def execPortMode (a : CmdArgs) (s : State) : Out := .next (issue opPortMode a s)

/-! ### PORT_RESET (R158) -/

/-- The paths go off for a power cycle (R158): no detach; the port's other tags end EPORT_RESET; no power is wanted until VBUS is
below 0.8 V. -/
def State.cyclePaths (s : State) (k : PortId) : State :=
  let s := s.pathsOff k true
  let s := s.loseDevice k (s.unpoweredState k) .ePortReset false (Wait.endsOnUsbLoss k)
  s.modPwr k fun w => { w with want := false, queued := none, budgetWait := false }

/-- The power-cycle form: paths off, and a 5 V request once VBUS is below 0.8 V. -/
def portCycleBody (s : State) (k : PortId) : Res :=
  let s := s.leaveActive k
  let s := if s.mode k = .proxy then s.endWaits (Wait.endsOnUsbLoss k) .ePortReset else s
  if s.powered k ∧ !s.linkUp k then
    .wait .dispatched (.portCycle k) (s.modPwr k fun w => { w with want := false, queued := none, budgetWait := false })
  else if s.powered k ∨ s.pwr[k.val].offPending then
    .wait .effected (.portCycle k) (s.cyclePaths k)
  else
    let s := s.wantPower k
    if s.pwr[k.val].want then .wait .effected (.portCycle k) s else .done .eBudget (s.prtState k) [] s

/-- The body of PORT_RESET. -/
def portResetBody (s : State) (a : CmdArgs) : Res :=
  let k := portArg a
  if s.portDown k then .fail .ePoweredDown s
  else if s.mode k = .off then .fail .eNotReady s
  else if s.ports[k.val].detachedAt = some s.glb.clock then .done .eDetached (s.prtState k) [] s
  else if testBit a.arg1 0 then portCycleBody s k
  else if !s.usbOn k || !s.ports[k.val].connected || s.ports[k.val].test.isSome then .fail .eNotReady s
  else if s.mode k = .relay then .wait .effected (.portReset k) (s.modPort k fun p => p.startReset 0)
  else .wait .effected (.portReset k) (s.proxyReset k 1)

/-- PORT_RESET (R158). -/
def opPortReset : OpSpec :=
  { code := 0x22, argOk := fun a => arg0Port a && a.arg1.toNat < 2, callerOk := ownerOfArg, body := portResetBody }
/-- PORT_RESET resets a port, optionally by power cycle (R158). -/
def execPortReset (a : CmdArgs) (s : State) : Out := .next (issue opPortReset a s)

/-! ### Suspend and resume (R150, R151) -/

/-- An enabled port is selectively suspended: on a PROXY port whose device can wake, its DEVICE_REMOTE_WAKEUP is set first; no
SOF, STATE reads SUSPENDED (R150). [DEDUCED, log 171] -/
def State.suspendPort (s : State) (k : PortId) : State :=
  s.modPort k fun p => { p with
    prev := p.state, state := .suspended, sofRunning := false
    wakeSet := p.wakeSet || (p.deed.mode == .proxy && p.wakeCap) }

/-- A PROXY port flagged while its owner slot was suspended becomes suspended where it comes to rest (R121).
[DEDUCED, log 171] -/
def State.followSlot (s : State) (k : PortId) : State :=
  let p := s.ports[k.val]
  if p.slotSuspend ∧ p.deed.mode = .proxy ∧ (p.state = .active ∨ p.state = .addressed) then s.suspendPort k else s

/-- An enabled RELAY port follows its owner's suspended USB 2.0 hub (R120). [DEDUCED, log 66, 171] -/
def State.followHub (s : State) (k : PortId) : State :=
  match s.mode k, s.owner k with
  | .relay, some h =>
    if s.slots[h.val].hub2Susp ∧ s.ports[k.val].state = .active then
      (s.suspendPort k).modPort k fun p => { p with hubSuspend := true }
    else s
  | _, _ => s

/-- The body of PORT_SUSPEND. -/
def portSuspendBody (s : State) (a : CmdArgs) : Res :=
  let k := portArg a
  let st := s.shownState k
  if s.portDown k then .fail .ePoweredDown s
  else match s.mode k with
    | .off => .fail .eNotReady s
    | .relay => .ok (if st = .active then s.suspendPort k else s)
    | .proxy =>
      if st = .suspended then .ok s
      else if (st == .addressed || st == .active) && s.heldAtRest k then .ok (s.suspendPort k)
      else .fail .eBusy s

/-- PORT_SUSPEND (R150). -/
def opPortSuspend : OpSpec :=
  { code := 0x23, argOk := fun a => arg0Port a && arg1Zero a, callerOk := ownerOfArg, body := portSuspendBody }
/-- PORT_SUSPEND selectively suspends a port (R150). -/
def execPortSuspend (a : CmdArgs) (s : State) : Out := .next (issue opPortSuspend a s)

/-- The body of PORT_RESUME. -/
def portResumeBody (s : State) (a : CmdArgs) : Res :=
  let k := portArg a
  if s.portDown k then .fail .ePoweredDown s
  else if s.mode k = .off then .fail .eNotReady s
  else if s.shownState k = .suspended then .wait .effected (.portResume k) (s.startResume k)
  else .ok s

/-- PORT_RESUME (R151). -/
def opPortResume : OpSpec :=
  { code := 0x24, argOk := fun a => arg0Port a && arg1Zero a, callerOk := ownerOfArg, body := portResumeBody }
/-- PORT_RESUME drives resume signalling on a suspended port (R151). -/
def execPortResume (a : CmdArgs) (s : State) : Out := .next (issue opPortResume a s)

/-- 20 ms of resume signalling end: the port returns to its previous state, and the engine clears DEVICE_REMOTE_WAKEUP (R151,
R122); a RELAY port whose hub is suspended follows it again (R120). -/
def execResumeSignallingEnd (k : PortId) (s : State) : Out :=
  .next (
    if s.ports[k.val].state = .resuming then
      let selective := !s.ports[k.val].hubSuspend
      let s := s.modPort k fun p =>
        { p with state := p.prev, prev := .off, hubSuspend := false, wakeSet := p.wakeSet && !p.wakeCap }
      let s := if selective then s.relayChange k fun c => { c with suspend := true } else s
      ((s.endWaits (fun w => w == .portResume k) .ok).followSlot k).followHub k
    else s)

/-! ### Deeds (R110 to R117) -/

/-- The tags of a slot that address a port, and the PD message already started for it (R114, step 1). [DEDUCED, log 61] -/
def State.abortOwner (s : State) (h : SlotId) (k : PortId) : State :=
  let mine := s.slots[h.val].till.any fun e => Wait.isPdTx k e.wait
  let mark := fun (x : PdTx) => if x.origin = .owner then { x with orphan := true } else x
  let s := if mine then
      (s.modPd k fun p => { p with tx := p.tx.map mark, chunkOut := p.chunkOut.map mark }).dropHeld k
    else s
  (s.orphan h fun e => e.port == some k).endSlotTags h (fun e => e.port == some k) .eAborted

/-- A change of OWNER, with its effects in the order of R114. -/
def State.changeOwner (s : State) (k : PortId) (new : Option SlotId) : State :=
  let old := s.owner k
  let s := match old with
    | some h => s.abortOwner h k
    | none => s
  let s := s.modPort k fun p => { p with deed := { p.deed with owner := new, gen := p.deed.gen + 1 } }
  let mark := fun (s : State) (h : Option SlotId) => match h with
    | some h => s.hubChange h k fun c => { c with connection := true }
    | none => s
  let s := if s.mode k = .relay then
      (mark (mark s old) new |>.modPort k Port.flushTt).disableRelay k
    else s
  let s := if s.mode k = .proxy then s.holdPort k .deed else s
  let d := s.ports[k.val].deed
  let s := match old with
    | some h => s.slotEvent h 0x01 (some k) d.gen.toNat (s.prtDeed k).toNat
    | none => s
  let s := match new with
    | some h => s.slotEvent h 0x02 (some k) d.gen.toNat (s.prtDeed k).toNat
    | none => s
  s.refreshOrders

/-- A deed operation on a port whose power domain is up, answering with the new PRT_DEED (R112). -/
def deedDone (s : State) (k : PortId) (f : State → State) : Res :=
  if s.portDown k then .fail .ePoweredDown s
  else
    let s := f s
    .done .ok (s.prtDeed k) [] s

/-- DEED_RELEASE (R111, R112): the owner, or MGMT while the presence window is open. -/
def opDeedRelease : OpSpec :=
  { code := 0x28, mbx := true, argOk := fun a => arg0Port a && arg1Zero a
    callerOk := fun s a => a.caller == .mbx || ownerOfArg s a, presence := fun _ a => a.caller == .mbx
    body := fun s a => deedDone s (portArg a) fun s =>
      if (s.owner (portArg a)).isSome then s.changeOwner (portArg a) none else s }
/-- DEED_RELEASE gives up a port's ownership (R111). -/
def execDeedRelease (a : CmdArgs) (s : State) : Out := .next (issue opDeedRelease a s)

/-- DEED_CLAIM (R111, R112): the port must have no owner. -/
def opDeedClaim : OpSpec :=
  { code := 0x29, argOk := fun a => arg0Port a && arg1Zero a
    callerOk := fun s a => (s.owner (portArg a)).isNone && (callerSlot a.caller).isSome
    body := fun s a => deedDone s (portArg a) fun s => s.changeOwner (portArg a) (callerSlot a.caller) }
/-- DEED_CLAIM takes ownership of an unowned port (R112). -/
def execDeedClaim (a : CmdArgs) (s : State) : Out := .next (issue opDeedClaim a s)

/-- DEED_SEIZE (R111, R112): needs the presence window; the owner's own seize changes nothing. -/
def opDeedSeize : OpSpec :=
  { code := 0x2A, argOk := fun a => arg0Port a && arg1Zero a, presence := fun _ _ => true
    body := fun s a => deedDone s (portArg a) fun s =>
      if s.owner (portArg a) = callerSlot a.caller then s else s.changeOwner (portArg a) (callerSlot a.caller) }
/-- DEED_SEIZE takes ownership of a port from any owner (R112). -/
def execDeedSeize (a : CmdArgs) (s : State) : Out := .next (issue opDeedSeize a s)

/-- DEED_VIEW (R111): the mask replaces VIEWERS, but for the owner's own bit (R112). [DESIGN CHOICE, log 177] -/
def opDeedView : OpSpec :=
  { code := 0x2B, argOk := fun a => arg0Port a && a.arg1.toNat < 16, callerOk := ownerOfArg
    body := fun s a => deedDone s (portArg a) fun s =>
      s.modPort (portArg a) fun p =>
        let own := match p.deed.owner with | some h => BitVec.ofNat 4 (2 ^ h.val) | none => 0
        { p with deed := { p.deed with viewers := (BitVec.ofNat 4 a.arg1.toNat &&& ~~~own) ||| (p.deed.viewers &&& own) } } }
/-- DEED_VIEW replaces a port's viewer mask (R111). -/
def execDeedView (a : CmdArgs) (s : State) : Out := .next (issue opDeedView a s)

/-! ### Hub class requests (R102, R118, R119) -/

/-- Whether a slot's USB 2.0 hub can take a request: the slot presents its hubs and the hub is not suspended. -/
def State.hubUp (s : State) (h : SlotId) : Bool :=
  let x := s.slots[h.val]
  s.awake && x.presented && x.vbus && x.domainOn && !x.hub2Susp && s.glb.phase != 0xE

/-- The hub answers a request. -/
def State.reply (s : State) (h : SlotId) (r : CtlReply) : State := s.modSlot h fun x => { x with ctl := r }

/-- A port that the slot owns in RELAY mode, the only kind of port a hub request changes (R102, R119). -/
def State.ownRelay (s : State) (h : SlotId) (k : PortId) : Bool := s.owns h k && s.mode k == .relay

/-- A hub class request: on an owned RELAY port it acts; everywhere else it completes and changes nothing (R119). -/
def State.hubRequest (s : State) (h : SlotId) (k : PortId) (f : State → State) : State :=
  if s.hubUp h then (if s.ownRelay h k then f s else s).reply h .ack else s

/-- SetPortFeature(PORT_POWER) (R102, R103). -/
def execSetPortPower (h : SlotId) (k : PortId) (s : State) : Out := .next (s.hubRequest h k fun s => s.wantPower k)

/-- ClearPortFeature(PORT_POWER) (R102, R154, R361). -/
def execClearPortPower (h : SlotId) (k : PortId) (s : State) : Out :=
  .next (s.hubRequest h k fun s =>
    let st := s.idleState k
    let s := if s.ports[k.val].test.isSome then s.modPort k fun p => { p with test := none, state := st } else s
    s.switchOff k)

/-- SetPortFeature(PORT_RESET) (R102). -/
def execSetPortReset (h : SlotId) (k : PortId) (s : State) : Out :=
  .next (s.hubRequest h k fun s =>
    if s.usbOn k ∧ s.ports[k.val].connected ∧ s.ports[k.val].test.isNone then s.modPort k fun p => p.startReset 0 else s)

/-- SetPortFeature(PORT_SUSPEND) (R102, R153). -/
def execSetPortSuspend (h : SlotId) (k : PortId) (s : State) : Out :=
  .next (s.hubRequest h k fun s => if s.shownState k = .active then s.suspendPort k else s)

/-- ClearPortFeature(PORT_SUSPEND) (R102, R153). -/
def execClearPortSuspend (h : SlotId) (k : PortId) (s : State) : Out :=
  .next (s.hubRequest h k fun s => if s.shownState k = .suspended then s.startResume k else s)

/-- SetPortFeature(PORT_INDICATOR) drives Pnn_LED_N (R102). -/
def execSetPortIndicator (h : SlotId) (k : PortId) (m : LedMode) (s : State) : Out :=
  .next (s.hubRequest h k fun s => s.modPort k fun p => { p with led := m })

/-- wPortStatus as the slot sees the port (R118); bit places are those of the USB 2.0 specification. [PRESUMED, log 143] -/
def State.portStatusWord (s : State) (h : SlotId) (k : PortId) : Nat :=
  let p := s.ports[k.val]
  let power := flagAt (s.powered k) 8
  if !s.owns h k then 0
  else match s.mode k with
    | .off => 0
    | .proxy => power
    | .relay =>
      let conn := p.connected && s.usbOn k
      let susp := p.state == .suspended || p.state == .resuming
      flagAt conn 0 + flagAt (conn && (p.state == .active || susp)) 1 + flagAt susp 2 + flagAt s.pwr[k.val].overcurrent 3
        + flagAt (p.state == .resetting) 4 + power + flagAt (p.speed == 1) 9 + flagAt (p.speed == 3) 10
        + flagAt p.test.isSome 11 + flagAt (p.led != .off) 12

/-- wPortChange of a hub port. -/
def HubChange.word (c : HubChange) : Nat :=
  flagAt c.connection 0 + flagAt c.enable 1 + flagAt c.suspend 2 + flagAt c.overCurrent 3 + flagAt c.reset 4

/-- GetPortStatus: wPortStatus, then wPortChange (R102, R118). -/
def execGetPortStatus (h : SlotId) (k : PortId) (s : State) : Out :=
  .next (
    if s.hubUp h then
      s.reply h (.data (leBytes 2 (s.portStatusWord h k) ++ leBytes 2 s.slots[h.val].hub[k.val].word))
    else s)

/-- SetPortFeature(PORT_TEST) (R154): an owned RELAY port that is unpowered, disabled or suspended; a STALL otherwise on an
owned port. -/
def execSetPortTest (h : SlotId) (k : PortId) (m : TestMode) (s : State) : Out :=
  .next (
    if !s.hubUp h then s
    else if !s.owns h k then s.reply h .ack
    else
      let p := s.ports[k.val]
      let idle := !s.pwr[k.val].vbusOn || p.state == .disabled || p.state == .suspended
      if s.mode k = .relay ∧ idle then
        (s.modPort k fun p => { p with state := .test, test := some m, prev := .off }).reply h .ack
      else s.reply h .stall)

/-! ### Transaction Translators (R137 to R139) -/

/-- CLEAR_TT_BUFFER on an owned RELAY port (R139). -/
def execClearTtBuffer (h : SlotId) (k : PortId) (key : BitVec 16) (s : State) : Out :=
  .next (s.hubRequest h k fun s => s.modPort k fun p => { p with ttBuffers := p.ttBuffers.filter (· != key) })

/-- RESET_TT on an owned RELAY port (R139). -/
def execResetTt (h : SlotId) (k : PortId) (s : State) : Out := .next (s.hubRequest h k fun s => s.modPort k Port.flushTt)

/-- A TT request that is answered with a STALL on a port the slot owns, and completes on any other (R119, R139). -/
def State.ttStall (s : State) (h : SlotId) (k : PortId) : State :=
  if s.hubUp h then s.reply h (if s.owns h k then .stall else .ack) else s

/-- GET_TT_STATE (R139). -/
def execGetTtState (h : SlotId) (k : PortId) (s : State) : Out := .next (s.ttStall h k)

/-- STOP_TT (R139). -/
def execStopTt (h : SlotId) (k : PortId) (s : State) : Out := .next (s.ttStall h k)

/-- A PORT_ERROR event of a port (R155, R157). -/
def State.portError (s : State) (k : PortId) (aux : Nat) : State := s.portEvent k 0x08 aux (s.prtErr k).toNat

/-- Whether a second has passed since a time of the microframe clock. -/
def secondPassed (now : Nat) (last : Option Nat) : Bool := match last with | some t => now ≥ t + 8000 | none => true

/-- Whether a port's TT carries splits: a RELAY port of a slot, with power good (R115). -/
def State.ttUp (s : State) (k : PortId) : Bool := s.mode k == .relay && (s.owner k).isSome && s.usbOn k

/-- A periodic start-split that the TT has no room for (R138, R155). -/
def State.ttOverflow (s : State) (k : PortId) : State :=
  let now := s.glb.clock
  let last := s.ports[k.val].lastTtEvent
  let s := s.modPort k fun p => { p with errTtOvf := satAdd p.errTtOvf 1, ttReply := .none }
  if secondPassed now last then (s.modPort k fun p => { p with lastTtEvent := some now }).portError k 2 else s

/-- A start-split added to the periodic slots of a TT: one of a transaction that has a slot adds its bytes there (R137).
[DEDUCED, log 169] -/
def Port.addPeriodic (p : Port) (isoOut : Bool) (key : BitVec 16) (bytes now : Nat) : Port :=
  if p.ttPeriodic.any fun x => x.key == key then
    { p with ttPeriodic := p.ttPeriodic.map (fun x => if x.key = key then { x with bytes := x.bytes + bytes } else x) }
  else { p with ttPeriodic := p.ttPeriodic ++ [{ key := key, bytes := bytes, isoOut := isoOut, born := now }] }

/-- A start-split reaches a port's TT (R137, R138). -/
def execTtStartSplit (k : PortId) (periodic isoOut : Bool) (key : BitVec 16) (bytes : Nat) (s : State) : Out :=
  .next (
    let p := s.ports[k.val]
    if !s.ttUp k then s
    else if periodic then
      let room := (p.ttPeriodic.any fun x => x.key == key) || p.ttPeriodic.length < 16
      if room ∧ (p.ttPeriodic.map (·.bytes)).sum + bytes ≤ 4096 then
        s.modPort k fun p => { p.addPeriodic isoOut key bytes s.glb.clock with ttReply := .none }
      else s.ttOverflow k
    else if p.ttBuffers.contains key then s.modPort k fun p => { p with ttReply := .ack }
    else if p.ttBuffers.length < 4 then
      s.modPort k fun p => { p with ttBuffers := p.ttBuffers ++ [key], ttReply := .ack }
    else s.modPort k fun p => { p with ttReply := .nak })

/-- The slot of an isochronous OUT, which has no complete-split, is free once the frame after its first start-split has passed
(R137). [DEDUCED, log 169] -/
def Port.freeIsoOut (now : Nat) (p : Port) : Port :=
  { p with ttPeriodic := p.ttPeriodic.filter fun x => !x.isoOut || decide (now < x.born + 8) }

/-- A complete-split reaches a port's TT (R138, R155): the last of a transaction frees its slot or buffer (R137). What a
non-periodic one without a buffer is answered is free. [DEDUCED, log 68, 169] -/
def execTtCompleteSplit (k : PortId) (periodic : Bool) (key : BitVec 16) (r : TtResult) (s : State) : Out :=
  .next (
    let p := s.ports[k.val]
    let held := if periodic then p.ttPeriodic.any fun x => x.key == key else p.ttBuffers.contains key
    let drop := fun (p : Port) =>
      if periodic then { p with ttPeriodic := p.ttPeriodic.filter fun x => x.key != key }
      else { p with ttBuffers := p.ttBuffers.filter (· != key) }
    if !s.ttUp k then s
    else if held then
      match r with
      | .part l => s.modPort k fun p => { p with ttReply := .data l }
      | .notYet => s.modPort k fun p => { p with ttReply := .nyet }
      | .ready l => s.modPort k fun p => { drop p with ttReply := .data l }
      | .err => s.modPort k fun p => { drop p with ttReply := .err, errXact := satAdd p.errXact 1 }
    else if periodic then s.modPort k fun p => { p with ttReply := .err }
    else
      let f := s.freeBelow 4
      f.2.modPort k fun p => { p with
        ttReply := if f.1 = 0 then .nak else if f.1 = 1 then .nyet else if f.1 = 2 then .err else .noAnswer })

/-- A non-periodic TT result not collected within 8 ms is discarded, and its buffer freed (R138). -/
def execTtResultDiscard (k : PortId) (key : BitVec 16) (s : State) : Out :=
  .next (s.modPort k fun p => { p with ttBuffers := p.ttBuffers.filter (· != key) })

/-! ### Connection, reset and errors (R134 to R136, R155) -/

/-- A device pull-up is seen on a powered port (R134, R135). -/
def execUsbConnect (k : PortId) (_dplus : Bool) (s : State) : Out :=
  .next (
    if s.usbOn k ∧ s.shownState k = .powered ∧ !s.ports[k.val].connected then
      let s := s.modPort k fun p => { p with connected := true }
      if s.mode k = .proxy then s.modPort k fun p => { p with state := .connectDebounce }
      else s.relayChange k fun c => { c with connection := true }
    else s)

/-- A device disconnects while VBUS stays on (R132, R134, R155). -/
def execUsbDisconnect (k : PortId) (s : State) : Out :=
  .next (
    if s.usbOn k ∧ s.ports[k.val].connected ∧ s.ports[k.val].test.isNone then
      s.loseDevice k .powered .eDetached true (Wait.endsOnUsbLoss k)
    else s)

/-- The 100 ms connect debounce of a PROXY port completes (R135): enumeration starts with a port reset (R140). -/
def execConnectDebounceEnd (k : PortId) (s : State) : Out :=
  .next (if s.ports[k.val].state = .connectDebounce ∧ s.usbOn k then s.modPort k fun p => p.startReset 1 else s)

/-- Port reset signalling ends with the speed decided (R136): RELAY → ACTIVE, PROXY → ENUMERATING. -/
def execPortResetEnd (k : PortId) (chirp dplus : Bool) (s : State) : Out :=
  .next (
    if s.ports[k.val].state = .resetting ∧ s.usbOn k then
      let s := s.modPort k fun p => { p with speed := if chirp then 3 else if dplus then 2 else 1 }
      if s.mode k = .proxy then s.modPort k fun p => { p with state := .enumerating, step := .device8 }
      else
        let s := s.modPort k fun p => { p with state := .active }
        let s := s.relayChange k fun c => { c with reset := true }
        (s.endWaits (fun w => w == .portReset k) .ok).followHub k
    else s)

/-- No pull-up within 1 s of port power good after a power-cycle reset (R158): the command completes, showing POWERED. -/
def execPowerCycleNoConnect (k : PortId) (s : State) : Out :=
  .next (
    if s.mode k = .proxy ∧ s.usbOn k ∧ s.ports[k.val].state = .powered then s.endWaits (Wait.isCycle k) .ok else s)

/-! ### Remote wake (R123, R124, R152) -/

/-- A SLOT_WAKE event for a port's owner (R123). -/
def State.slotWake (s : State) (k : PortId) (relay : Bool) : State := s.portEvent k 0x03 (bitOf relay) 0

/-- A device on a RELAY port signals remote wake (R123, R124, R153): a selectively suspended port resumes; a suspended hub with
remote wake enabled drives resume upstream; a port that resumes already takes it as that resume; SLOT_WAKE records it. -/
def execRelayRemoteWake (k : PortId) (s : State) : Out :=
  .next (
    if s.mode k = .relay ∧ s.usbOn k then
      let st := s.ports[k.val].state
      if st = .suspended ∨ st = .resuming then
        let follows := s.ports[k.val].hubSuspend
        let s := if st = .suspended ∧ !follows then s.startResume k else s
        let s := match s.owner k with
          | some h => s.modSlot h fun x => if x.hub2Susp && x.wakeHub2 then { x with hubWake := true } else x
          | none => s
        s.slotWake k true
      else s
    else s)

end Sys2Proof.Machine
end

