-- ==== Sys2Proof/Machine/Proxy.lean ====
section
/-! DEFINITION. The port host engine (file 05, "Proxy enumeration" and "Errors"; R185): proxy enumeration with its refusals
and restore, the transfer opcodes and their transactions, babble, and remote wake on proxied ports. Descriptor and request
layouts are those of the USB 2.0 specification. -/
namespace Sys2Proof.Machine

/-! ### Descriptors -/

/-- A descriptor set cut into its descriptors; `none` where it does not parse. `fuel` bounds their number. -/
def descriptors : Nat → List Byte → Option (List (List Byte))
  | 0, _ => none
  | f + 1, l =>
    match l with
    | [] => some []
    | n :: _ =>
      if n.toNat < 2 ∨ l.length < n.toNat then none
      else (descriptors f (l.drop n.toNat)).map fun r => l.take n.toNat :: r

/-- The descriptors of a configuration. -/
def configDescs (l : List Byte) : Option (List (List Byte)) := descriptors (l.length + 1) l

/-- bDescriptorType of a descriptor. -/
def descType (d : List Byte) : Nat := leAt d 1 1

/-- Whether a configuration has an interface of hub class. -/
def hasHubInterface (ds : List (List Byte)) : Bool := ds.any fun d => descType d == 4 && leAt d 5 1 == 9

/-- A standard SET_CONFIGURATION request. -/
def isSetConfig (p : List Byte) : Bool := leAt p 0 1 == 0x00 && leAt p 1 1 == 9
/-- A standard SET_INTERFACE request. -/
def isSetInterface (p : List Byte) : Bool := leAt p 0 1 == 0x01 && leAt p 1 1 == 11
/-- A standard SET_ADDRESS request (R141). -/
def isSetAddress (p : List Byte) : Bool := leAt p 0 1 == 0x00 && leAt p 1 1 == 5
/-- A standard CLEAR_FEATURE(ENDPOINT_HALT) request (R206). -/
def isClearHalt (p : List Byte) : Bool := leAt p 0 1 == 0x02 && leAt p 1 1 == 1 && leAt p 2 2 == 0

/-- The configuration in use: that of the last SET_CONFIGURATION recorded (R145). -/
def Port.configValue (p : Port) : Option Nat := (p.recorded.reverse.find? isSetConfig).map fun r => leAt r 2 1

/-- The descriptors of the configuration in use. -/
def Port.config (p : Port) : List (List Byte) :=
  match p.configValue with
  | none => []
  | some v =>
    match p.cfgDescs.find? fun l => leAt l 5 1 == v with
    | some l => (configDescs l).getD []
    | none => []

/-- The alternate setting of an interface in use: the last SET_INTERFACE after the last SET_CONFIGURATION, else 0. -/
def Port.altSetting (p : Port) (i : Nat) : Nat :=
  match (p.recorded.reverse.takeWhile fun r => !isSetConfig r).find? fun r => isSetInterface r && leAt r 4 2 == i with
  | some r => leAt r 2 2
  | none => 0

/-- The endpoint descriptors of the settings in use: `on` says whether the interface setting read last is in use. -/
def Port.endpointsFrom (p : Port) : Bool → List (List Byte) → List (List Byte)
  | _, [] => []
  | on, d :: l =>
    if descType d = 4 then p.endpointsFrom (p.altSetting (leAt d 2 1) == leAt d 3 1) l
    else if descType d = 5 ∧ on then d :: p.endpointsFrom on l
    else p.endpointsFrom on l

/-- The descriptor of an endpoint in the settings in use (R185); a control endpoint serves both directions. -/
def Port.endpoint (p : Port) (ep : Nat) (isIn : Bool) : Option (List Byte) :=
  (p.endpointsFrom false p.config).find? fun d =>
    leAt d 2 1 % 16 == ep && (bitsAt (leAt d 3 1) 0 2 == 0 || (leAt d 2 1).testBit 7 == isIn)

/-- Maximum packet size of an endpoint: bMaxPacketSize0, or wMaxPacketSize (R185). -/
def Port.maxPacket (p : Port) (ep : Nat) (isIn : Bool) : Nat :=
  if ep = 0 then p.mps0.toNat
  else match p.endpoint ep isIn with
    | some d => bitsAt (leAt d 4 2) 0 11
    | none => 0

/-- WAKE_CAP: the configuration in use declares remote-wake support (R133). -/
def Port.readWakeCap (p : Port) : Bool :=
  match p.configValue with
  | none => false
  | some v =>
    match p.cfgDescs.find? fun l => leAt l 5 1 == v with
    | some l => (leAt l 7 1).testBit 5
    | none => false

/-- The identity of an enumerated device (R145). -/
def Port.newIdentity (p : Port) (serial : List Byte) : Identity :=
  { vid := BitVec.ofNat 16 (leAt p.devDesc 8 2), pid := BitVec.ofNat 16 (leAt p.devDesc 10 2)
    bcd := BitVec.ofNat 16 (leAt p.devDesc 12 2), serial := serial, cfgCrcs := p.cfgDescs.map crc32c }

/-! ### Bus time (R29, R203, R204) -/

/-- Whether the standing orders of a port's microframe have ended, so that one-shot periodic transfers may run (R204). -/
def State.ordersOver (s : State) (k : PortId) : Bool :=
  s.orders.toList.all fun o => match o.occ with | some c => c.cfg.port != k | none => true

/-- Whether non-periodic traffic may run on a port: its orders have ended, and on a high-speed port the time from t = 100 µs has
come, by which the Statements are assembled (R29). [DEDUCED, log 174] -/
def State.freeTime (s : State) (k : PortId) : Bool := s.ordersOver k && (s.ports[k.val].speed != 3 || s.glb.assembled)

/-! ### Enumeration (R140 to R145) -/

/-- A refusal (R142). [DEDUCED, log 141] -/
def State.refuse (s : State) (k : PortId) (reason : Nat) : State :=
  let s := s.modPort k fun p =>
    { p with state := .refused, refuse := BitVec.ofNat 4 reason, step := .idle, sofRunning := false, slotSuspend := false }
  let s := s.portEvent k 0x07 reason (s.prtDev k).toNat
  s.endWaits (Wait.isReset k) .ok

/-- A failed attempt: another port reset, or the refusal after the third (R140). [DEDUCED, log 141] -/
def State.enumFail (s : State) (k : PortId) (reason : Nat) : State :=
  if s.ports[k.val].attempt ≥ 3 then s.refuse k reason
  else s.modPort k fun p => p.startReset (p.attempt + 1)

/-- The end of a successful enumeration: ADDRESSED, or ACTIVE once the configuration is restored; PRT_DEV, PROXY_ATTACH, the
judging of the port's orders, and the end of a PORT_RESET (R141, R145, R158, R196); a port flagged under R121 is then
suspended. -/
def State.enumDone (s : State) (k : PortId) (restored changed : Bool) : State :=
  let s := s.modPort k fun p => { p with
    state := if restored then .active else .addressed, step := .idle, identChanged := changed, wakeCap := p.readWakeCap
    vid := BitVec.ofNat 16 (leAt p.devDesc 8 2), pid := BitVec.ofNat 16 (leAt p.devDesc 10 2) }
  let s := s.rejudge k
  let s := s.portEvent k 0x05 (bitOf restored + 2 * bitOf changed) (s.prtDev k).toNat
  (s.endWaits (Wait.isReset k) .ok).followSlot k

/-- The identity is compared with that of the device before it (R145). -/
def State.compareIdentity (s : State) (k : PortId) (serial : List Byte) : State :=
  let p := s.ports[k.val]
  let new := p.newIdentity serial
  match p.identity with
  | none => (s.modPort k fun p => { p with identity := some new }).enumDone k false false
  | some old =>
    if old = new then
      if p.recorded.isEmpty then s.enumDone k false false
      else s.modPort k fun p => { p with step := .replay p.recorded }
    else (s.modPort k fun p => { p with identity := some new, recorded := [] }).enumDone k false true

/-- The step after configuration `c` of the device (R140). -/
def State.nextConfig (s : State) (k : PortId) (c : Nat) : State :=
  let d := s.ports[k.val].devDesc
  if c < leAt d 17 1 then s.modPort k fun p => { p with step := .config9 c }
  else if leAt d 16 1 ≠ 0 then s.modPort k fun p => { p with step := .string0 }
  else s.compareIdentity k []

/-- What a request of enumeration brings when it completes with data (empty for one without a data stage). -/
def State.enumData (s : State) (k : PortId) (l : List Byte) : State :=
  match s.ports[k.val].step with
  | .idle => s
  | .device8 =>
    if l.length < 8 ∨ descType l ≠ 1 ∨ leAt l 7 1 = 0 then s.enumFail k 3
    else s.modPort k fun p => { p with mps0 := BitVec.ofNat 8 (leAt l 7 1), step := .setAddress }
  | .setAddress => s.modPort k fun p => { p with step := .device18 }
  | .device18 =>
    if l.length < 18 ∨ descType l ≠ 1 then s.enumFail k 3
    else if leAt l 4 1 = 9 then s.refuse k 1
    else (s.modPort k fun p => { p with devDesc := l.take 18, cfgDescs := [] }).nextConfig k 0
  | .config9 c =>
    let len := leAt l 2 2
    if l.length < 9 ∨ descType l ≠ 2 ∨ len < 9 then s.enumFail k 3
    else if len > 4096 then s.refuse k 4
    else s.modPort k fun p => { p with step := .configAll c len }
  | .configAll c len =>
    match configDescs l with
    | some ds =>
      if l.length ≠ len ∨ descType l ≠ 2 then s.enumFail k 3
      else if hasHubInterface ds then s.refuse k 1
      else (s.modPort k fun p => { p with cfgDescs := p.cfgDescs ++ [l] }).nextConfig k (c + 1)
    | none => s.enumFail k 3
  | .string0 =>
    if l.length < 4 ∨ descType l ≠ 3 then s.enumFail k 3
    else s.modPort k fun p => { p with langId := BitVec.ofNat 16 (leAt l 2 2), step := .serial }
  | .serial => if l.length < 2 ∨ descType l ≠ 3 then s.enumFail k 3 else s.compareIdentity k (l.drop 2)
  | .replay rest =>
    match rest.drop 1 with
    | [] => s.enumDone k true false
    | more => s.modPort k fun p => { p with step := .replay more }

/-- A request of enumeration fails: the attempt fails, or, in a replay, the port stays ADDRESSED with its records cleared.
[DEDUCED, log 141] -/
def State.enumBad (s : State) (k : PortId) (reason : Nat) : State :=
  match s.ports[k.val].step with
  | .idle => s
  | .replay _ => (s.modPort k fun p => { p with recorded := [] }).enumDone k false false
  | _ => s.enumFail k reason

/-- Babble during enumeration fails the attempt (R140), and is reported (R155). [DEDUCED, log 73] -/
def State.enumBabble (s : State) (k : PortId) : State := (s.portError k 1).enumBad k 5

/-- A standard request of proxy enumeration completes or fails (R140). A NAK ends no request. [DEDUCED, log 141] -/
def execEnumRequestDone (k : PortId) (r : XactResult) (s : State) : Out :=
  .next (
    if s.ports[k.val].state = .enumerating ∧ s.usbOn k ∧ s.freeTime k then
      match r with
      | .data l => s.enumData k l
      | .ack => s.enumData k []
      | .nak => s
      | .stall => s.enumBad k 6
      | .error => (s.modPort k fun p => { p with errXact := satAdd p.errXact 3 }).enumBad k 2
      | .babble => (s.modPort k fun p => { p with errBabble := satAdd p.errBabble 1 }).enumBabble k
    else s)

/-- A standard request of proxy enumeration is not complete within 500 ms (R140). -/
def execEnumRequestTimeout (k : PortId) (s : State) : Out :=
  .next (if s.ports[k.val].state = .enumerating ∧ s.usbOn k then s.enumBad k 2 else s)

/-! ### Babble and remote wake (R152, R155) -/

/-- Babble on a port (R155): PROXY: the tags of the port complete EPORT_RESET, R143, DISABLED, PORT_ERROR; RELAY: PORT_ENABLE 0
with its change, DISABLED. During enumeration it fails the attempt (R140). [DEDUCED, log 71] -/
def State.babble (s : State) (k : PortId) : State :=
  let s := s.modPort k fun p => { p with errBabble := satAdd p.errBabble 1 }
  if s.mode k = .proxy then
    if s.ports[k.val].state = .enumerating then s.enumBabble k
    else
      let s := s.leaveActive k
      let s := s.endWaits (Wait.endsOnUsbLoss k) .ePortReset
      let s := s.modPort k fun p =>
        { p with state := .disabled, prev := .off, sofRunning := false, slotSuspend := false, refuse := 0 }
      (s.outrank k .eBabble).portError k 1
  else
    let s := s.modPort k fun p => { p with state := .disabled, prev := .off }
    s.relayChange k fun c => { c with enable := true }

/-- Babble on a port disables it (R155). [DEDUCED, log 71] -/
def execPortBabble (k : PortId) (s : State) : Out :=
  .next (if s.usbOn k ∧ s.mode k ≠ .off ∧ s.ports[k.val].connected ∧ s.ports[k.val].test.isNone then s.babble k else s)

/-- A device on a PROXY port signals remote wake (R123, R152): a suspended port resumes; a port that resumes already takes it
as that resume; on any other port it is babble. -/
def execProxyRemoteWake (k : PortId) (s : State) : Out :=
  .next (
    if s.mode k = .proxy ∧ s.usbOn k ∧ s.ports[k.val].connected then
      match s.ports[k.val].state with
      | .suspended => (s.startResume k).slotWake k false
      | .resuming => s.slotWake k false
      | _ => s.babble k
    else s)

/-! ### Transfer opcodes (R185) -/

/-- ARG0 of a transfer: port, endpoint and IN in range, the other bits 0. -/
def xferArg0Ok (a : CmdArgs) : Bool :=
  bitsAt a.arg0.toNat 0 5 < 24 && bitsAt a.arg0.toNat 5 3 == 0 && bitsAt a.arg0.toNat 12 3 == 0
/-- IN of a transfer. -/
def xferIn (a : CmdArgs) : Bool := testBit a.arg0 15
/-- Endpoint number of a transfer. -/
def xferEp (a : CmdArgs) : Nat := bitsAt a.arg0.toNat 8 4
/-- SIZE of ISO_XFER. [DEDUCED, log 70] -/
def isoSize (a : CmdArgs) : Nat := a.arg1.toNat % 65536
/-- COUNT of ISO_XFER. [DEDUCED, log 70] -/
def isoCount (a : CmdArgs) : Nat := a.arg1.toNat / 65536

/-- The ERANGE checks of CTRL_XFER (R185). -/
def ctrlArgOk (a : CmdArgs) : Bool :=
  let p := a.params
  let w := leAt p 6 2
  let d := (leAt p 0 1).testBit 7
  xferArg0Ok a && 8 ≤ p.length && p.length == (if d || w == 0 then 8 else 8 + w) && xferIn a == d && a.arg1.toNat == w
    && !isSetAddress p
/-- The ERANGE checks of BULK_XFER and INT_XFER (R185). -/
def bulkArgOk (a : CmdArgs) : Bool :=
  xferArg0Ok a && a.arg1.toNat ≤ 65536 && a.params.length == (if xferIn a then 0 else a.arg1.toNat)
/-- The ERANGE checks of ISO_XFER (R185). -/
def isoArgOk (a : CmdArgs) : Bool :=
  let z := isoCount a * isoSize a
  xferArg0Ok a && 1 ≤ isoSize a && isoSize a ≤ 3072 && 1 ≤ isoCount a && isoCount a ≤ 64
    && (if xferIn a then a.params.length == 0 && 2 * isoCount a + z ≤ 65536 else a.params.length == z && z ≤ 65536)

/-- A transfer as it starts. [DEDUCED, log 70] -/
def mkXfer (op : Nat) (a : CmdArgs) : Xfer :=
  { op := BitVec.ofNat 8 op, port := portArg a, ep := BitVec.ofNat 4 (xferEp a), isIn := xferIn a
    length := if op = 0x33 then isoCount a * isoSize a else a.arg1.toNat
    setup := if op = 0x30 then a.params.take 8 else []
    outData := if op = 0x30 then a.params.drop 8 else a.params
    got := [], moved := 0, tries := 0, size := if op = 0x33 then isoSize a else 0
    count := if op = 0x33 then isoCount a else 0, done := 0, failed := 0, lens := [] }

/-- The address byte of an endpoint, for its halt. -/
def epByte (ep : Nat) (isIn : Bool) : Byte := BitVec.ofNat 8 (ep + flagAt isIn 7)

/-- The body of the transfer opcodes: the port must be ACTIVE and PROXY, or ADDRESSED for CTRL_XFER, and its settings must
contain the endpoint; a halted endpoint answers ESTALL (R155). [DEDUCED, log 69, 70] -/
def xferBody (op : Nat) (s : State) (a : CmdArgs) : Res :=
  let k := portArg a
  let p := s.ports[k.val]
  let ep := xferEp a
  let st := s.shownState k
  let ctrl := op = 0x30
  let known := (ep = 0 ∧ ctrl) ∨ (ep ≠ 0 ∧ (p.endpoint ep (xferIn a)).isSome)
  if s.portDown k then .fail .ePoweredDown s
  else if s.mode k ≠ .proxy ∨ !(st = .active ∨ (ctrl ∧ st = .addressed)) ∨ !known then .fail .eNotReady s
  else if !ctrl && p.haltedEps.contains (epByte ep (xferIn a)) then .fail .eStall s
  else if (op = 0x31 ∨ op = 0x32) ∧ xferIn a ∧ a.arg1 = 0 then .ok s
  else .wait .dispatched (.xfer (mkXfer op a)) s

/-- CTRL_XFER (R185). -/
def opCtrlXfer : OpSpec :=
  { code := 0x30, plenOk := fun _ => true, argOk := ctrlArgOk, callerOk := ownerOfArg, body := xferBody 0x30 }
/-- CTRL_XFER runs a control transfer on a proxied port (R185). -/
def execCtrlXfer (a : CmdArgs) (s : State) : Out := .next (issue opCtrlXfer a s)
/-- BULK_XFER (R185). -/
def opBulkXfer : OpSpec :=
  { code := 0x31, plenOk := fun _ => true, argOk := bulkArgOk, callerOk := ownerOfArg, body := xferBody 0x31 }
/-- BULK_XFER runs a bulk transfer on a proxied port (R185). -/
def execBulkXfer (a : CmdArgs) (s : State) : Out := .next (issue opBulkXfer a s)
/-- INT_XFER (R185). -/
def opIntXfer : OpSpec :=
  { code := 0x32, plenOk := fun _ => true, argOk := bulkArgOk, callerOk := ownerOfArg, body := xferBody 0x32 }
/-- INT_XFER runs an interrupt transfer in periodic time (R185). -/
def execIntXfer (a : CmdArgs) (s : State) : Out := .next (issue opIntXfer a s)
/-- ISO_XFER (R185). -/
def opIsoXfer : OpSpec :=
  { code := 0x33, plenOk := fun _ => true, argOk := isoArgOk, callerOk := ownerOfArg, body := xferBody 0x33 }
/-- ISO_XFER runs COUNT isochronous microframes (R185). -/
def execIsoXfer (a : CmdArgs) (s : State) : Out := .next (issue opIsoXfer a s)

/-! ### Transactions of transfers -/

/-- What a transaction makes of its transfer: it goes on, or it ends with a status. -/
inductive XferStep where
  | more (x : Xfer)
  | over (x : Xfer) (st : Status)

/-- The direction of the transaction a transfer is at. The stage of a control transfer is in `done`: 0 setup, 1 data, 2
status. -/
def Xfer.expects (x : Xfer) : Bool :=
  if x.op = 0x30 then
    match x.done with
    | 0 => false
    | 1 => x.isIn
    | _ => !x.isIn || x.length == 0
  else x.isIn

/-- A failed try: the third in a row ends the transfer (R155); an isochronous microframe counts as failed and goes on. -/
def Xfer.bad (x : Xfer) : XferStep :=
  if x.op = 0x33 then
    let y : Xfer := { x with done := x.done + 1, failed := x.failed + 1, lens := x.lens ++ [0] }
    if y.done ≥ y.count then .over y .ok else .more y
  else if x.tries ≥ 2 then .over x .eXact
  else .more { x with tries := x.tries + 1 }

/-- The transaction of a transfer moved data or was acknowledged; `mps` is the endpoint's maximum packet size. -/
def Xfer.good (x : Xfer) (mps : Nat) (l : List Byte) : XferStep :=
  let x := { x with tries := 0 }
  if x.op = 0x33 then
    let got := l.take x.size
    let n := if x.isIn then got.length else x.size
    let y : Xfer := { x with done := x.done + 1, got := x.got ++ got, lens := x.lens ++ [n], moved := x.moved + n }
    if y.done ≥ y.count then .over y .ok else .more y
  else
    let n := if x.isIn then min l.length (x.length - x.moved) else min mps (x.length - x.moved)
    let y : Xfer := { x with moved := x.moved + n, got := if x.isIn then x.got ++ l.take n else x.got }
    let ends := y.moved ≥ x.length || (x.isIn && l.length < mps)
    if x.op = 0x30 then
      match x.done with
      | 0 => .more { x with done := if x.length = 0 then 2 else 1 }
      | 1 => .more (if ends then { y with done := 2 } else y)
      | _ => .over x .ok
    else if ends then .over y .ok
    else .more y

/-- What one transaction's result makes of its transfer. [DEDUCED, log 70] -/
def Xfer.step (x : Xfer) (mps : Nat) (r : XactResult) : XferStep :=
  match r with
  | .data l => x.good mps l
  | .ack => x.good mps []
  | .nak => if x.op = 0x33 then x.bad else .more { x with tries := 0 }
  | .stall => if x.op = 0x33 then x.bad else .over x .eStall
  | .error => x.bad
  | .babble => .over x .eBabble

/-- The transfer in flight on an endpoint of a port. -/
def TillEntry.xferOn (k : PortId) (ep : BitVec 4) (isIn : Bool) (e : TillEntry) : Option Xfer :=
  match e.wait with
  | .xfer x => if x.port = k ∧ x.ep = ep ∧ (x.op = 0x30 ∨ x.isIn = isIn) then some x else none
  | _ => none

/-- The entry whose transfer is in flight on an endpoint of a port: one whose tag has ended first (R114, R126). -/
def State.findXfer (s : State) (k : PortId) (ep : BitVec 4) (isIn : Bool) : Option (TillEntry × Xfer) :=
  ((s.orphans ++ allSlots.flatMap fun h => s.slots[h.val].till).filterMap fun e =>
    (e.xferOn k ep isIn).map fun x => (e, x)).head?

/-- A HALTED order of an endpoint leaves HALTED when the owner clears the endpoint's halt (R206). -/
def State.clearHalt (s : State) (k : PortId) (epb : Byte) : State :=
  let s := s.modPort k fun p => { p with haltedEps := p.haltedEps.filter (· != epb) }
  { s with orders := s.orders.map fun o =>
      match o.state, o.cfg with
      | .halted, some r =>
        if r.port = k ∧ epByte r.ep.toNat r.isIn = epb then { o with state := s.issuedState r } else o
      | _, _ => o }

/-- What a completed control transfer brings about (R141, R145, R206). -/
def State.ctrlDone (s : State) (k : PortId) (setup : List Byte) : State :=
  if isSetConfig setup then
    if leAt setup 2 1 = 0 then
      let s := s.leaveActive k
      s.modPort k fun p => { p with recorded := [], wakeCap := false, state := .addressed }
    else s.modPort k fun p =>
      let p : Port := { p with recorded := p.recorded ++ [setup], state := .active }
      { p with wakeCap := p.readWakeCap }
  else if isSetInterface setup then s.modPort k fun p => { p with recorded := p.recorded ++ [setup] }
  else if isClearHalt setup then s.clearHalt k (BitVec.ofNat 8 (leAt setup 4 1))
  else s

/-- A transfer ends: its port effects, then its completion, which one whose tag has ended has not (R114, R126).
[DEDUCED, log 69, 71, 168] -/
def State.endXfer (s : State) (k : PortId) (e : TillEntry) (x : Xfer) (st : Status) : State :=
  let s := match st with
    | .ok => if x.op = 0x30 then s.ctrlDone k x.setup else s
    | .eStall =>
      if x.op = 0x30 then s
      else s.modPort k fun p => { p with haltedEps := p.haltedEps ++ [epByte x.ep.toNat x.isIn] }
    | _ => s
  let r := x.result st
  let s : State :=
    if s.orphans.contains e then { s with orphans := s.orphans.filter (· != e) } else s.finish e.args.caller e st r.1 r.2
  if st = .eBabble then s.babble k else s

/-- A transaction of a proxied transfer ends (R185, R155), in the time that R29 and R204 give its kind. The transactions of
one isochronous microframe end together. -/
def execXferTransactionDone (k : PortId) (ep : BitVec 4) (isIn : Bool) (r : XactResult) (s : State) : Out :=
  .next (
    match s.findXfer k ep isIn with
    | none => s
    | some (e, x) =>
      if x.expects ≠ isIn ∨ !s.usbOn k ∨ !(if x.op = 0x30 ∨ x.op = 0x31 then s.freeTime k else s.ordersOver k) then s
      else
        let mps := s.ports[k.val].maxPacket x.ep.toNat x.isIn
        let s := if r = .error then s.modPort k fun p => { p with errXact := satAdd p.errXact 1 } else s
        match x.step mps r with
        | .more y => s.modEntries (fun f => f == e) fun f => { f with wait := .xfer y }
        | .over y st => s.endXfer k e y st)

/-- TIMEOUT_MS expires: the transfer ends ENAK_TIMEOUT with what it has moved (R185). -/
def execXferTimeout (k : PortId) (ep : BitVec 4) (isIn : Bool) (s : State) : Out :=
  .next (
    match s.findXfer k ep isIn with
    | none => s
    | some (e, x) => if bitsAt e.args.arg0.toNat 16 16 = 0 then s else s.endXfer k e x .eNakTimeout)

end Sys2Proof.Machine
end

