-- ==== Sys2Proof/Machine/Undo.lean ====
section
/-! DEFINITION. Ending a slot's commands without their effect (R114, R125, R178, R408): what a dispatched command whose effect
point has not come must take back, and the reset of a slot's Till with its credits. -/
namespace Sys2Proof.Machine

/-- A dispatched command whose effect point has not come is taken back: its operation never takes effect (R125, R178). A
transfer already on the bus runs to its end there, with nothing of its result kept (R126). [DEDUCED, log 11, 61] -/
def State.undo (s : State) (e : TillEntry) : State :=
  if e.point ≠ .dispatched then s
  else match e.wait with
    | .portOn k => s.modPwr k fun w => { w with want := false }
    | .portOff k | .portCycle k => s.modPwr k fun w => { w with want := true }
    | .pdTx k => s.dropHeld k
    | .soDelete n => s.modOrder n fun o => { o with deleting := false }
    | _ => s

/-- Every command of a slot whose effect point has not come ends with a status, its operation taken back. [DEDUCED, log 61] -/
def State.abandonSlot (s : State) (h : SlotId) (st : Status) : State :=
  let l := s.slots[h.val].till.filter fun e => e.point != .effected
  let s := l.foldl State.undo s
  s.endSlotTags h (fun e => e.point != .effected) st

/-- What a completion returns once a bus reset has restored the credits (R172). [DEDUCED, log 17, 62] -/
def Record.noCredit : Record → Record
  | .completion c => .completion { c with entry := false, lines := 0 }
  | .event e => .event e

/-- The Till of a slot is emptied as a bus reset empties it (R125, R168): the credits are full again, completions held return
none, tags that have not taken effect complete EABORTED, and the completions go first. Tags that have taken effect complete
with their own status later. The queue of endpoint 0x82 is empty (R221). [DEDUCED, log 17, 62] -/
def State.resetTags (s : State) (h : SlotId) : State :=
  let s := s.modSlot h fun x => { x with
    tellerCfg := false, till := x.till.map fun e => { e with credit := false }, records := x.records.map Record.noCredit
    statements := [] }
  let s := (s.orphan h fun e => e.op == 0x30).abandonSlot h .eAborted
  s.modSlot h fun x => { x with
    entryCredits := 512, lineCredits := 8192
    records := x.records.filter (fun r => !isEvent r) ++ x.records.filter isEvent }

end Sys2Proof.Machine
end

