-- ==== Sys2Proof/Machine/Descriptors.lean ====
section
/-! DEFINITION. What the functions of a slot report of themselves (file 04, R96 to R101, R104): device, configuration, string, BOS
and hub descriptors, and hub status, in the layouts of the USB specifications. Bytes that the spec does not give are free. -/
namespace Sys2Proof.Machine

/-- A descriptor of `len` bytes: those given, by their offset, and the others free. [DESIGN CHOICE, log 167] -/
def descOf (product ty len : Nat) (l : List (Nat × Nat)) : List Byte :=
  (List.range len).map fun i =>
    match l.find? fun x => x.1 == i with
    | some x => BitVec.ofNat 8 x.2
    | none => Config.descriptorByte product ty i

/-- The product number of a function (R96). -/
def Slot.product (x : Slot) (f : SlotFunction) : Nat :=
  match f with
  | .ssHub => 0x2428
  | .hub2 => 0x2429
  | .teller => if x.tellerPath = 3 then 0x242B else 0x242A

/-- Whether a function is on the SuperSpeed side. -/
def Slot.onSs (x : Slot) (f : SlotFunction) : Bool :=
  match f with
  | .ssHub => true
  | .hub2 => false
  | .teller => x.tellerPath == 1

/-- The index of the serial-number string (R98). -/
def serialIndex : Nat := Config.serialIndex.val + 1

/-- The device descriptor (R96, R98). A hub says so in its class, and the multi-TT hub in its protocol (R101). -/
def Slot.deviceDesc (x : Slot) (f : SlotFunction) : List Byte :=
  let p := x.product f
  descOf p 1 18 ([(0, 18), (1, 1), (8, 0xB1), (9, 0x32), (10, p % 256), (11, p / 256), (12, 0xB0), (13, 0), (16, serialIndex), (17, 1)]
    ++ match f with | .ssHub => [(4, 9)] | .hub2 => [(4, 9), (6, 2)] | .teller => [])

/-- An interface descriptor. -/
def interfaceDesc (p alt eps cls : Nat) : List Byte :=
  descOf p (0x0400 + alt) 9 [(0, 9), (1, 4), (2, 0), (3, alt), (4, eps), (5, cls)]

/-- A bulk endpoint of the Teller function (R104): 1,024 bytes and bursts of 16 on SuperSpeedPlus, without streams; 512 bytes at
high speed. -/
def Slot.bulkDesc (x : Slot) (p addr : Nat) : List Byte :=
  let head := [(0, 7), (1, 5), (2, addr), (3, 2)]
  if x.tellerPath = 1 then
    descOf p (0x0500 + addr) 7 (head ++ [(4, 0), (5, 4)]) ++ descOf p (0x3000 + addr) 6 [(0, 6), (1, 0x30), (2, 15), (3, 0), (4, 0), (5, 0)]
  else descOf p (0x0500 + addr) 7 (if x.hs then head ++ [(4, 0), (5, 2)] else head)

/-- The status-change endpoint of a hub. -/
def hubEndpointDesc (p : Nat) (ss : Bool) : List Byte :=
  descOf p 0x0500 7 [(0, 7), (1, 5), (3, 3)] ++ if ss then descOf p 0x3000 6 [(0, 6), (1, 0x30)] else []

/-- What follows the header of a function's one configuration (R101, R104). -/
def Slot.configBody (x : Slot) (f : SlotFunction) : List Byte :=
  let p := x.product f
  match f with
  | .ssHub => interfaceDesc p 0 1 9 ++ hubEndpointDesc p true
  | .hub2 => interfaceDesc p 0 1 9 ++ hubEndpointDesc p false ++ interfaceDesc p 1 1 9 ++ hubEndpointDesc p false
  | .teller => interfaceDesc p 0 3 0xFF ++ x.bulkDesc p 0x01 ++ x.bulkDesc p 0x81 ++ x.bulkDesc p 0x82

/-- The configuration descriptor with what belongs to it (R99, R104): self-powered, remote wake, no current from the bus. -/
def Slot.configDesc (x : Slot) (f : SlotFunction) : List Byte :=
  let b := x.configBody f
  let n := 9 + b.length
  descOf (x.product f) 2 9 [(0, 9), (1, 2), (2, n % 256), (3, n / 256), (4, 1), (5, 1), (7, 0xE0), (8, 0)] ++ b

/-- A hexadecimal digit, as its character code. -/
def hexDigit (n : Nat) : Byte := BitVec.ofNat 8 (if n < 10 then 48 + n else 55 + n)

/-- The serial number of the part, 48 bits (R437). -/
def State.serialNumber (s : State) : Nat := ofLe s.serial

/-- The characters of a slot's serial-number string: twelve digits, a hyphen and the slot's name (R98). -/
def State.serialText (s : State) (h : SlotId) : List Byte :=
  ((List.range 12).map fun i => hexDigit (bitsAt s.serialNumber (4 * (11 - i)) 4)) ++ [0x2D, 0x48, BitVec.ofNat 8 (48 + h.val)]

/-- A string descriptor (R98): the serial number's; every other string is free. -/
def State.stringDesc (s : State) (h : SlotId) (p i : Nat) : List Byte :=
  if i = serialIndex then
    let t := (s.serialText h).flatMap fun c => [c, 0]
    [BitVec.ofNat 8 (2 + t.length), 3] ++ t
  else
    let n := 2 + 2 * ((Config.descriptorByte p (0x0300 + i) 0).toNat % 127)
    descOf p (0x0300 + i) n [(0, n), (1, 3)]

/-- The capabilities of a BOS descriptor: the USB 2.0 extension, without Link Power Management (R101); on SuperSpeed the link's
capabilities, with the hub's exit latencies (R100); and the Container ID, which the serial number gives (R98). -/
def State.capabilities (s : State) (p : Nat) (f : SlotFunction) (ss : Bool) : List (List Byte) :=
  let exits := if f = .ssHub then [(7, 2), (8, 80), (9, 0)] else []
  [[7, 0x10, 2, 0, 0, 0, 0]]
    ++ (if ss then [descOf p 0x1003 10 ([(0, 10), (1, 0x10), (2, 3)] ++ exits), descOf p 0x100A 20 [(0, 20), (1, 0x10), (2, 0x0A)]] else [])
    ++ [[20, 0x10, 4, 0] ++ (List.range 16).map (Config.containerByte s.serialNumber)]

/-- The BOS descriptor. -/
def State.bosDesc (s : State) (p : Nat) (f : SlotFunction) (ss : Bool) : List Byte :=
  let l := s.capabilities p f ss
  let n := 5 + l.flatten.length
  [5, 0x0F] ++ leBytes 2 n ++ [BitVec.ofNat 8 l.length] ++ l.flatten

/-- What GET_DESCRIPTOR returns for a type and an index; none where there is no such descriptor. -/
def State.descriptor (s : State) (h : SlotId) (f : SlotFunction) (ty i : Nat) : Option (List Byte) :=
  let x := s.slots[h.val]
  let p := x.product f
  match ty with
  | 1 => some (x.deviceDesc f)
  | 2 => if i = 0 then some (x.configDesc f) else none
  | 3 => some (s.stringDesc h p i)
  | 0x0F => some (s.bosDesc p f (x.onSs f))
  | _ => none

/-- The hub descriptor of the USB 2.0 hub (R101) and of the SuperSpeedPlus hub (R99). -/
def hubDesc (f : SlotFunction) : Option (List Byte) :=
  match f with
  | .hub2 => some ([15, 0x29, 25, 0x8D, 0x00, 50, 0] ++ [0, 0, 0, 0x02] ++ List.replicate 4 0xFF)
  | .ssHub => some (descOf 0x2428 0x2A 12 [(0, 12), (1, 0x2A), (2, 1), (3, 0x16), (4, 0), (6, 0), (10, 0x02), (11, 0)])
  | .teller => none

/-- What GET_STATUS of a function returns: self-powered, and the features the host has enabled. -/
def Slot.deviceStatus (x : Slot) (f : SlotFunction) : List Byte :=
  match f with
  | .ssHub => leBytes 2 (1 + flagAt x.u1En 2 + flagAt x.u2En 3)
  | .hub2 => leBytes 2 (1 + flagAt x.wakeHub2 1)
  | .teller => leBytes 2 (1 + flagAt x.wakeTeller 1)

/-- Status and change of hub port 25 (R97, R105, R106): the Teller function is connected there while TELLER_PATH is 0b10.
[DESIGN CHOICE, log 167] -/
def Slot.port25 (x : Slot) : List Byte :=
  let on := x.tellerPath == 2
  leBytes 2 (flagAt on 0 + flagAt (on && x.tellerAddr != 0) 1 + flagAt true 8 + flagAt (on && x.hs) 10) ++ leBytes 2 (bitOf x.port25Change)

/-- A change bit of a hub port cleared. -/
def HubChange.clear (c : HubChange) (f : HubFeature) : HubChange :=
  match f with
  | .cConnection => { c with connection := false }
  | .cEnable => { c with enable := false }
  | .cSuspend => { c with suspend := false }
  | .cOverCurrent => { c with overCurrent := false }
  | .cReset => { c with reset := false }
  | .enable => c

/-- ClearPortFeature of a change bit, or of PORT_ENABLE (R101, R131): a change bit is the slot's own and clears on every port; an
enabled relayed port of the slot becomes DISABLED. [DESIGN CHOICE, log 167] -/
def State.clearFeature (s : State) (h : SlotId) (k : Option PortId) (f : HubFeature) : State :=
  match k with
  | none => if f = .cConnection then s.modSlot h fun x => { x with port25Change := false } else s
  | some k =>
    let st := s.ports[k.val].state
    if f ≠ .enable then s.hubChange h k fun c => c.clear f
    else if s.ownRelay h k ∧ (st = .active ∨ st = .suspended ∨ st = .resuming) then
      s.modPort k fun p => { p with state := .disabled, prev := .off, hubSuspend := false }
    else s

/-- The answer to a request that reads what a function is (R96 to R101, R104): data, or a STALL. [DESIGN CHOICE, log 167] -/
def State.describe (s : State) (h : SlotId) (f : SlotFunction) (r : StdRequest) : CtlReply :=
  let x := s.slots[h.val]
  let give := fun (o : Option (List Byte)) => match o with | some l => CtlReply.data l | none => .stall
  match r with
  | .getStatus => .data (x.deviceStatus f)
  | .getDescriptor ty i => give (s.descriptor h f ty.toNat i.toNat)
  | .getHubDescriptor => give (hubDesc f)
  | .getHubStatus => if f = .teller then .stall else .data [0, 0, 0, 0]
  | .getPort25Status => if f = .hub2 then .data x.port25 else .stall
  | _ => .stall

end Sys2Proof.Machine
end

