-- ==== Sys2Proof/Machine/Slots.lean ====
section
/-! DEFINITION. The meanings of the upstream events of the host slots (file 04): presence of VBUS and of a link, bus resets,
suspend and resume, a host's standard requests, and the timestamp of upstream SOFs. -/
namespace Sys2Proof.Machine

/-! ### Suspend and resume (R120 to R122) -/

/-- A slot becomes suspended (R121): every Mint group with a channel on one of its PROXY ports is held; its PROXY ports
without an enabled channel are selectively suspended, one that is on its way to ADDRESSED or ACTIVE once it gets there. -/
def State.suspendSlot (s : State) (h : SlotId) : State :=
  if s.slots[h.val].suspended then s
  else
    let s := s.modSlot h fun x => { x with suspended := true }
    let mine := allPorts.filter fun k => s.owns h k && s.mode k == .proxy
    let s := mine.foldl (fun s k => s.holdPort k .suspend) s
    mine.foldl (fun s k =>
      if !(s.portEnabled k).isEmpty then s
      else match s.shownState k with
        | .active | .addressed => ((s.leaveActive k).suspendPort k).modPort k fun p => { p with slotSuspend := true }
        | .connectDebounce | .resetting | .enumerating | .resuming => s.modPort k fun p => { p with slotSuspend := true }
        | _ => s) s

/-- The device leaves S1, with its event (R405). -/
def State.exitS1 (s : State) : State :=
  if s.glb.core = .s1 then (s.modGlb fun g => { g with core := .s0 }).everySlotEvent 0x48 0x2 0 else s

/-- A suspended slot resumes (R122): its own upstream resume signalling ends (R124), resume signalling starts on the ports it
suspended, and the device leaves S1 (R405). -/
def State.resumeSlot (s : State) (h : SlotId) : State :=
  if s.slots[h.val].suspended then
    let s := s.modSlot h fun x => { x with suspended := false, wakeSignal := false }
    let s := allPorts.foldl (fun s k =>
      if s.owns h k ∧ s.ports[k.val].slotSuspend then
        if s.ports[k.val].state = .suspended then s.startResume k else s.modPort k fun p => { p with slotSuspend := false }
      else s) s
    s.exitS1
  else s

/-- The relayed ports of a slot follow the suspend of its USB 2.0 hub (R120). [DEDUCED, log 66] -/
def State.suspendHub2 (s : State) (h : SlotId) : State :=
  let s := s.modSlot h fun x => { x with hub2Susp := true }
  allPorts.foldl (fun s k =>
    if s.ownRelay h k ∧ s.shownState k = .active then
      (s.suspendPort k).modPort k fun p => { p with hubSuspend := true }
    else s) s

/-- The USB 2.0 hub leaves suspend and its relayed ports with it (R120): resume signalling runs on them (R131), and the hub drives
no resume upstream any more (R124). [DEDUCED, log 66] -/
def State.resumeHub2 (s : State) (h : SlotId) : State :=
  let s := s.modSlot h fun x => { x with hub2Susp := false, hubWake := false }
  allPorts.foldl (fun s k =>
    let p : Port := s.ports[k.val]
    if s.ownRelay h k ∧ p.hubSuspend ∧ p.state = .suspended then s.modPort k fun p => { p with state := .resuming } else s) s

/-! ### Presenting a slot (R86, R105, R106) -/

/-- The Teller function moves to USB 2.0 hub port 25 (R105, R106); a suspend that its old path carried ends or begins with
the hub's (R120). -/
def State.toPort25 (s : State) (h : SlotId) : State :=
  let s := s.modSlot h fun x => { x with
    tellerPath := 2, port25Change := true, ssTerm := false, ssSpeed := 0, ssLink := 0, tellerCfg := false, tellerAddr := 0
    wakeTeller := false }
  if s.slots[h.val].hub2Susp then s.suspendSlot h else s.resumeSlot h

/-- PWR_DOMAIN for a slot that waits for it to be presented completes OK, with its event (R407, R419). -/
def State.domainPresented (s : State) (h : SlotId) : State :=
  let waits := fun e : TillEntry => e.wait == .domainOn (h.val + 2)
  if s.anyEntry waits then (s.endWith waits .ok 0).everySlotEvent 0x48 0x6 (h.val + 2) else s

/-- A slot with VBUS and its domain on presents its SuperSpeed termination and its USB 2.0 pull-up (R86), or the recovery
function in PHASE 0xE (R83, R96). Where its SuperSpeed PLL failed, Teller is on port 25 at once (R105). A committed entry that
has withdrawn the slots presents none (R410). -/
def State.presentSlot (s : State) (h : SlotId) : State :=
  let x := s.slots[h.val]
  if x.vbus ∧ x.domainOn ∧ !x.presented ∧ !s.nsf.entryOff then
    if s.glb.phase = 0xE then
      (((s.modSlot h fun x => { x with presented := true, tellerPath := 3 }).resumeHub2 h).resumeSlot h).domainPresented h
    else if s.hubSide then
      let s := (s.modSlot h fun x => { x with presented := true, ssTerm := x.ssPll, tellerPath := 0 }).resumeHub2 h
      (if x.ssPll then s else s.toPort25 h).domainPresented h
    else s
  else s

/-- VBUS rises on a slot (R86, R107); the host's Rp is seen on one CC pin, which turns the USB 3.2 mux (R45). -/
def execSlotVbusRise (h : SlotId) (cc : BitVec 2) (s : State) : Out :=
  .next ((s.modSlot h fun x => { x with vbus := true, orient := if cc = 3 then 0 else cc }).presentSlot h)

/-- A slot's links and functions go: no termination, no pull-up, no address, no configuration, not reachable. -/
def Slot.withdrawn (x : Slot) : Slot :=
  { x with presented := false, ssTerm := false, ssSpeed := 0, ssLink := 0, hub2Susp := true, hs := false, tellerPath := 0
           tellerCfg := false, tellerAddr := 0, hub2Addr := 0, ssHubAddr := 0, ssHubCfg := false, hub2Cfg := false
           wakeHub2 := false, wakeTeller := false, wakeSignal := false, hubWake := false, u1En := false
           u2En := false, ctl := .none }

/-- A slot's hub and functions are withdrawn: its relayed ports and its Teller function are suspended (R120, R407). -/
def State.withdrawSlot (s : State) (h : SlotId) : State :=
  ((s.suspendHub2 h).modSlot h Slot.withdrawn).suspendSlot h

/-- A slot loses VBUS: treated as suspend (R120); records and tags stay until the reset that the host owes (R168). -/
def execSlotVbusLoss (h : SlotId) (s : State) : Out :=
  .next (
    let was := s.slots[h.val].presented
    let s := s.modSlot h fun x => { x with vbus := false, orient := 0 }
    if was then s.withdrawSlot h else s)

/-- 100 ms after VBUS the SuperSpeed link has not reached U0 (R105). -/
def execSsTrainingTimeout (h : SlotId) (s : State) : Out :=
  .next (
    let x := s.slots[h.val]
    if x.presented ∧ x.ssTerm ∧ x.tellerPath = 0 then s.toPort25 h else s)

/-- The slot's SuperSpeed link reaches U0: Teller appears on SuperSpeedPlus hub port 1, and port 25 reports a disconnect where
Teller leaves it (R105, R106). -/
def execSsLinkTrained (h : SlotId) (gen2 : Bool) (s : State) : Out :=
  .next (
    let x := s.slots[h.val]
    if x.presented ∧ x.ssTerm ∧ x.ssSpeed = 0 then
      let moves := x.tellerPath = 2
      let s := s.modSlot h fun x => { x with
        ssSpeed := if gen2 then 2 else 1, ssLink := 0, tellerPath := 1
        port25Change := x.port25Change || moves
        tellerCfg := x.tellerCfg && !moves
        tellerAddr := if moves then 0 else x.tellerAddr
        wakeTeller := x.wakeTeller && !moves }
      s.resumeSlot h
    else s)

/-- A trained SuperSpeed link fails: the tags end as after a bus reset and Teller moves to port 25 (R106). -/
def execSsLinkFailure (h : SlotId) (s : State) : Out :=
  .next (
    if s.slots[h.val].tellerPath = 1 then
      let s := s.resetTags h
      let s := s.modSlot h fun x => { x with ssHubAddr := 0, ssHubCfg := false, u1En := false, u2En := false }
      s.toPort25 h
    else s)

/-! ### Bus resets (R120, R125) -/

/-- A relayed port of a slot that is reset: PORT_ENABLE 0, C_PORT_CONNECTION where a device is connected, a test mode ends
(R125, R154). [DEDUCED, log 64] -/
def State.resetRelay (s : State) (h : SlotId) (k : PortId) : State :=
  if s.ownRelay h k then
    let s := if s.ports[k.val].connected then s.hubChange h k fun c => { c with connection := true } else s
    let test := s.ports[k.val].test.isSome
    let st := s.ports[k.val].state
    if test ∨ st = .active ∨ st = .suspended ∨ st = .resuming ∨ st = .resetting then s.disableRelay k else s
  else s

/-- What every bus reset on a slot does, whatever its kind (R125): the Till, the credits and the queue of 0x82, DROPPED
(R215), a control transfer in progress, and the relayed ports. -/
def State.slotReset (s : State) (h : SlotId) : State :=
  let s := s.resetTags h
  let s := s.modSlot h fun x => { x with ctl := .none, dropped := 0, dropBefore := false }
  allPorts.foldl (fun s k => s.resetRelay h k) s

/-- A bus reset on a slot (R125) ends the suspend where R120 says so. The negotiated speed after a USB 2.0 reset is free.
[DEDUCED, log 65; DESIGN CHOICE, log 63] -/
def execSlotBusReset (h : SlotId) (kind : BusReset) (s : State) : Out :=
  .next (
    let x := s.slots[h.val]
    let cfg := x.tellerCfg
    if !x.presented then s
    else match kind with
      | .usb2 =>
        let onHub2 := x.tellerPath = 2 ∨ x.tellerPath = 3
        let s := s.slotReset h
        let f := s.freeBit
        let s := f.2.modSlot h fun x => { x with
          hub2Addr := 0, hub2Cfg := false, wakeHub2 := false, hub2Susp := false, hubWake := false, hs := f.1
          tellerCfg := if onHub2 then false else cfg
          tellerAddr := if onHub2 then 0 else x.tellerAddr
          wakeTeller := x.wakeTeller && !onHub2 }
        if onHub2 then s.resumeSlot h else s
      | .hot | .warm =>
        if x.ssSpeed = 0 ∧ kind = .hot then s
        else
          let onSs := x.tellerPath = 1
          let s := s.slotReset h
          let s := s.modSlot h fun x => { x with
            ssHubAddr := 0, ssHubCfg := false, u1En := false, u2En := false
            ssTerm := if kind = .warm then x.ssPll else x.ssTerm
            ssLink := if kind = .warm then 0 else x.ssLink
            tellerCfg := if onSs then false else cfg
            tellerAddr := if onSs then 0 else x.tellerAddr
            wakeTeller := x.wakeTeller && !onSs }
          if kind = .warm ∧ onSs then s.resumeSlot h else s)

/-! ### Suspend and resume events -/

/-- The part of a slot's personality that carries Teller becomes suspended (R120, R121). -/
def execSlotSuspend (h : SlotId) (s : State) : Out :=
  .next (
    let x := s.slots[h.val]
    if !x.presented then s
    else if x.tellerPath = 1 then (s.modSlot h fun x => { x with ssLink := 3 }).suspendSlot h
    else if x.tellerPath = 2 ∨ x.tellerPath = 3 then (s.suspendHub2 h).suspendSlot h
    else s.suspendSlot h)

/-- A suspended slot resumes (R122). -/
def execSlotResume (h : SlotId) (s : State) : Out :=
  .next (
    let x := s.slots[h.val]
    if !x.presented ∨ !x.suspended then s
    else if x.tellerPath = 1 then (s.modSlot h fun x => { x with ssLink := 0 }).resumeSlot h
    else if x.tellerPath = 2 ∨ x.tellerPath = 3 then (s.resumeHub2 h).resumeSlot h
    else s)

/-- The slot's USB 2.0 hub becomes suspended while Teller is on SuperSpeed (R120). -/
def execUsb2HubSuspend (h : SlotId) (s : State) : Out :=
  .next (
    let x := s.slots[h.val]
    if x.presented ∧ x.tellerPath ≠ 2 ∧ x.tellerPath ≠ 3 ∧ !x.hub2Susp then s.suspendHub2 h else s)

/-- The slot's USB 2.0 hub leaves suspend, while the slot may stay suspended (R120). -/
def execUsb2HubResume (h : SlotId) (s : State) : Out :=
  .next (
    let x := s.slots[h.val]
    if x.presented ∧ x.tellerPath ≠ 2 ∧ x.tellerPath ≠ 3 ∧ x.hub2Susp then s.resumeHub2 h else s)

/-- The upstream SuperSpeed link enters or leaves U1 or U2 (R100, R107), entered where the host has enabled it; the hub asks for
it itself (`own`) only while its slot has no subscription and no command in the Till. U3 has rows of its own. -/
def execUpstreamLinkU1U2 (h : SlotId) (st : BitVec 2) (own : Bool) (s : State) : Out :=
  .next (
    let x := s.slots[h.val]
    let may := st = 0 ∨ (st = 1 ∧ x.u1En = true) ∨ (st = 2 ∧ x.u2En = true)
    let barred := own && st != 0 && (x.subscribed || x.nextSubscribed || !x.till.isEmpty)
    if x.ssSpeed ≠ 0 ∧ x.ssLink ≠ 3 ∧ may ∧ !barred then s.modSlot h fun x => { x with ssLink := st } else s)

/-- An upstream SOF is received, or an ITP while TELLER_PATH is 0b01, and timestamped (R239, R251). [DESIGN CHOICE, log 31] -/
def execUpstreamSof (h : SlotId) (ts : Dword) (itp : Bool) (s : State) : Out :=
  .next (
    let x := s.slots[h.val]
    if x.presented ∧ (!itp ∨ x.tellerPath = 1) then s.modSlot h fun x => { x with usofTs := ts } else s)

/-! ### Standard requests (R104, R107, R108) -/

/-- NSF_WAKE_LAST, and NSF_PB_LO of a record (R420). -/
def PassbookRec.word (r : PassbookRec) : Word :=
  toWord (fieldAt r.more.toNat 24 + fieldAt r.detail.toNat 16 + fieldAt r.fromState.toNat 8 + flagAt r.aborted 7 + r.code.toNat)

/-- NSF_WAKE_LAST: entry 0 of the Passbook (R413). -/
def Nightsafe.wakeLast (n : Nightsafe) : Word := match n.passbook with | r :: _ => r.word | [] => 0

/-- The Teller function becomes configured: a PRESENCE event where TAMPER is still set (R434), and the POWER_STATE event of a
wake (R412). -/
def State.configured (s : State) (h : SlotId) : State :=
  let s := s.modSlot h fun x => { x with tellerCfg := true, used := true }
  let s := if s.nsf.tamper then s.slotEvent h 0x40 none 0x3 s.nsf.tamperSec.toNat else s
  if testBit s.nsf.wakeDue h.val then
    let s := s.slotEvent h 0x48 none 0xA s.nsf.wakeLast.toNat
    s.modNsf fun n => { n with wakeDue := n.wakeDue &&& ~~~ BitVec.ofNat 4 (2 ^ h.val) }
  else s

/-- Whether a function of a slot can take a request of its host: it is presented on its path and not suspended.
[DEDUCED, log 67] -/
def State.functionUp (s : State) (h : SlotId) (f : SlotFunction) : Bool :=
  let x := s.slots[h.val]
  s.awake && x.presented && match f with
    | .ssHub => x.ssSpeed != 0 && x.ssLink != 3
    | .hub2 => !x.hub2Susp && x.tellerPath != 3
    | .teller => x.tellerPath != 0 && !x.suspended

/-- SET_ADDRESS on a function. [PRESUMED, log 143] -/
def Slot.setAddress (x : Slot) (f : SlotFunction) (a : BitVec 7) : Slot :=
  match f with
  | .ssHub => { x with ssHubAddr := a }
  | .hub2 => { x with hub2Addr := a }
  | .teller => { x with tellerAddr := a }

/-- SET_CONFIGURATION on a function: each has one configuration, number 1 (R104). -/
def State.setConfiguration (s : State) (h : SlotId) (f : SlotFunction) (on : Bool) : State :=
  match f with
  | .ssHub => s.modSlot h fun x => { x with ssHubCfg := on }
  | .hub2 => s.modSlot h fun x => { x with hub2Cfg := on }
  | .teller =>
    if on = s.slots[h.val].tellerCfg then s
    else if on then s.configured h
    else s.modSlot h fun x => { x with tellerCfg := false }

/-- The device's remote-wake enable on a function. The SuperSpeedPlus hub's own enable arms nothing of R107.
[DEDUCED, log 67] -/
def Slot.setWake (x : Slot) (f : SlotFunction) (on : Bool) : Slot :=
  match f with
  | .ssHub => x
  | .hub2 => { x with wakeHub2 := on }
  | .teller => { x with wakeTeller := on }

/-- A host's request on endpoint 0 of a slot function (R96 to R101, R104): a configuration value other than 0 and 1, a feature
that the function has not, and every vendor request get a STALL. [DEDUCED, log 67; DESIGN CHOICE, log 167] -/
def execStandardRequest (h : SlotId) (f : SlotFunction) (r : StdRequest) (s : State) : Out :=
  .next (
    if !s.functionUp h f then s
    else match r with
      | .setAddress a => (s.modSlot h fun x => x.setAddress f a).reply h .ack
      | .setConfiguration v =>
        if v.toNat > 1 then s.reply h .stall else (s.setConfiguration h f (v == 1)).reply h .ack
      | .remoteWake on => (s.modSlot h fun x => x.setWake f on).reply h .ack
      | .u1Enable on => if f = .ssHub then (s.modSlot h fun x => { x with u1En := on }).reply h .ack else s.reply h .stall
      | .u2Enable on => if f = .ssHub then (s.modSlot h fun x => { x with u2En := on }).reply h .ack else s.reply h .stall
      | .clearPortFeature k ft => if f = .hub2 then (s.clearFeature h k ft).reply h .ack else s.reply h .stall
      | _ => s.reply h (s.describe h f r))

end Sys2Proof.Machine
end

