-- ==== Sys2Proof/Machine/Ledger.lean ====
section
/-! DEFINITION. The Ledger's commands (file 13): LDG_RD, LDG_WR, PLANE_CFG, INLAY_QUERY, PLANE_VISIT, the two test modes, the
self-test, and the image payload. -/
namespace Sys2Proof.Machine

/-! ### Opcodes -/

/-- The body of LDG_RD (R188). -/
def ldgRdBody (s : State) (a : CmdArgs) : Res :=
  let addr := a.arg0.toNat
  let len := a.arg1.toNat
  if addr % 8 ≠ 0 ∨ len % 8 ≠ 0 then .fail .eAlign s
  else
    let x := s.readLedger .draft addr len
    let r := x.1
    match r.bad, r.corrected, r.unwritten with
    | some i, _, _ => .done .eData (toWord i) r.data x.2
    | none, some i, _ => .done .okCorrected (toWord i) r.data x.2
    | none, none, some i => .done .okUnwritten (toWord i) r.data x.2
    | none, none, none => .done .ok 0 r.data x.2

/-- LDG_RD (R188). -/
def opLdgRd : OpSpec :=
  { code := 0xA0, argOk := fun a => 8 ≤ a.arg1.toNat && a.arg1.toNat ≤ 65536 && a.arg0.toNat + a.arg1.toNat ≤ 0x800000
    body := ldgRdBody }
/-- LDG_RD reads Ledger bytes (R188). -/
def execLdgRd (a : CmdArgs) (s : State) : Out := .next (issue opLdgRd a s)

/-- The body of LDG_WR (R188, R385): the host region only. -/
def ldgWrBody (s : State) (a : CmdArgs) : Res :=
  let addr := a.arg0.toNat
  if addr % 8 ≠ 0 ∨ a.params.length % 8 ≠ 0 then .fail .eAlign s
  else .ok (s.writeLedger addr a.params)

/-- LDG_WR (R385). -/
def opLdgWr : OpSpec :=
  { code := 0xA1, plenOk := fun a => 8 ≤ a.params.length && a.params.length ≤ 65536
    argOk := fun a => arg1Zero a && 0x300000 ≤ a.arg0.toNat && a.arg0.toNat + a.params.length ≤ 0x400000
    body := ldgWrBody }
/-- LDG_WR writes host-region Ledger lines (R385). -/
def execLdgWr (a : CmdArgs) (s : State) : Out := .next (issue opLdgWr a s)

/-- PLANE_CFG (R392). -/
def opPlaneCfg : OpSpec :=
  { code := 0xA2, argOk := fun a => 1 ≤ a.arg0.toNat && a.arg0.toNat ≤ 4096 && arg1Zero a
    body := fun s a => .ok (s.modLdg fun g => { g with rate := BitVec.ofNat 13 a.arg0.toNat }) }
/-- PLANE_CFG sets Plane's visit rate (R392). -/
def execPlaneCfg (a : CmdArgs) (s : State) : Out := .next (issue opPlaneCfg a s)

/-- An Inlay entry as LDG_INLAY shows it (R401). -/
def InlayEntry.hi (e : InlayEntry) : Word :=
  toWord (2 ^ 31 + flagAt e.runtime 30 + fieldAt e.spare 17 + e.line)

/-- The 8 entries of INLAY_QUERY; a free entry reads 0 (R396). -/
def Ledger.inlayBytes (g : Ledger) : List Byte :=
  (List.range 8).flatMap fun i =>
    match g.inlay[i]? with
    | some e => leBytes 4 e.n.toNat ++ leBytes 4 e.hi.toNat
    | none => List.replicate 8 0

/-- INLAY_QUERY (R396). -/
def opInlayQuery : OpSpec :=
  { code := 0xA3, mbx := true, argOk := fun a => arg0Zero a && arg1Zero a
    body := fun s _ => .done .ok 0 s.ldg.inlayBytes s }
/-- INLAY_QUERY returns the 8 Inlay entries (R396). -/
def execInlayQuery (a : CmdArgs) (s : State) : Out := .next (issue opInlayQuery a s)

/-! ### Plane (R392, R393) -/

/-- Plane rewrites a line from corrected data and reads it again. -/
def State.planeRewrite (s : State) (line : Nat) (l : List Byte) : State := (s.storeLine line l 0).verifyLine line l

/-- Plane's visit to one line (R393, R396); `served` where it comes from the SUSPECT queue. The sweep serves a SUSPECT line
that found the queue full (R393). [DEDUCED, log 146] -/
def State.planeLine (s : State) (line : Nat) (served : Bool) : State :=
  let s := if s.ldg.isWritten line then (s.inlayCheck line).2 else s
  let fails := s.ldg.diff line != 0
  let again := s.ldg.suspect.contains line
  if !s.ldg.isWritten line || !(fails || again) then s
  else match classOf line with
    | .plain => if fails && !served then s.noteUncorrectable line .plane else s
    | .recompute =>
      if fails then
        let src := s.cleanSource line
        match src.1 with
        | some d => (src.2.noteCorrected line .plane).planeRewrite line d
        | none => src.2.noteUncorrectable line .plane
      else s.planeRewrite line (s.ldg.stored line)
    | .refetch | .mirror =>
      if fails then
        match s.readLine .plane line with
        | (.corrected, d, s) => s.planeRewrite line d
        | (_, _, s) => s
      else s.planeRewrite line (s.ldg.stored line)

/-- One visit of Plane: a queued SUSPECT line first, else the sweep's next line (R392, R393). -/
def State.planeVisit (s : State) : State :=
  match s.ldg.queue with
  | line :: rest => (s.modLdg fun g => { g with queue := rest }).planeLine line true
  | [] =>
    let k := s.ldg.visit.toNat
    let s := s.modLdg fun g =>
      if k = 131071 then { g with visit := 0, passes := satAdd g.passes 1, ovfEvent := false }
      else { g with visit := g.visit + 1 }
    s.planeLine (0x4000 * (k % 8) + k / 8) false

/-- PLANE_VISIT (R392): from the end of step 5 on (R77). -/
def execPlaneVisit (s : State) : Out := .next (if s.hubSide then s.planeVisit else s)

/-! ### Test modes (R398, R399) -/

/-- The stored data and check word of the line under test, after Inlay (R396, R398); free, or the producer's, where the hardware
keeps them at a place the spec does not give. [DESIGN CHOICE, log 54] -/
def State.testStored (s : State) : List Byte × Word × State :=
  let line := s.ldg.testAddr.toNat
  let s := (s.inlayCheck line).2
  if s.ldg.isWritten line || !s.maybeWritten line then (s.ldg.stored line, s.ldg.checkWord line, s)
  else
    let d := s.openLine line
    (d.2.1, lineCrc line d.2.1, d.2.2)

/-- LOAD copies a line into the test registers (R398). -/
def State.testLoad (s : State) : State :=
  let line := s.ldg.testAddr.toNat
  let x := s.testStored
  x.2.2.modLdg fun g => { g with
    testData := Vector.ofFn fun i => toWord (leAt x.1 (4 * i.val) 4), testCheck := x.2.1, testCalc := lineCrc line x.1 }

/-- A test store (R398): the line is written as it stands, recorded as injected, and LDG_INJ names it; a flip armed for the line
acts on it, as on any initiator's write (R399). [DEDUCED, log 123, 124, 145] -/
def State.testStore (s : State) (data : List Byte) (chk : Word) : State :=
  let line := s.ldg.testAddr.toNat
  let armed := s.ldg.flip != 0 && s.ldg.flipAddr.toNat == line
  s.modLdg fun g => { (g.put line data (lineCrc line data ^^^ (if armed then chk ^^^ g.flip else chk))) with
    injected := insertRising line g.injected, inj := some (BitVec.ofNat 17 line), flip := if armed then 0 else g.flip }

/-- The test data registers as 64 bytes. -/
def Ledger.testBytes (g : Ledger) : List Byte := bytesOfWords g.testData.toList

/-- The operation that LDG_TEST_CTRL.OP names (R398, R401). -/
def State.testOp (s : State) (op : Nat) : State :=
  if op = 1 then s.testLoad
  else if op = 2 then let x := s.testStored; x.2.2.testStore s.ldg.testBytes x.2.1
  else if op = 3 then let x := s.testStored; x.2.2.testStore x.1 s.ldg.testCheck
  else if op = 4 then ((s.inlayCheck s.ldg.testAddr.toNat).2).testStore s.ldg.testBytes s.ldg.testCheck
  else s

/-! ### Self-test (R76, R77, R414) -/

/-- What the self-test makes of one failing line: an entry, or nothing where none can be made. -/
def Ledger.selfTestLine (g : Ledger) (line : Nat) : Option Ledger :=
  if g.inlay.length ≥ 8 then none
  else (g.freeSpare (bankOf line)).map fun x =>
    { g with inlay := g.inlay ++ [{ runtime := false, spare := x % 8, line := line, n := 0 }]
             usedSpares := insertRising x g.usedSpares }

/-- The self-test of the failing lines in order: whether every one got an entry. -/
def Ledger.selfTestLines : List Nat → Ledger → Bool × Ledger
  | [], g => (true, g)
  | line :: l, g =>
    match g.selfTestLine line with
    | some g => Ledger.selfTestLines l g
    | none => (false, g)

/-- The self-test over the banks that `tests` accepts: failing spares withdrawn, failing lines given entries. -/
def Ledger.selfTest (g : Ledger) (badLines badSpares : List Nat) (tests : Nat → Bool) : Bool × Ledger :=
  let lines := (badLines.filter fun x => tests (bankOf x) ∧ x < 131072).foldl (fun l x => insertRising x l) []
  let spares := (badSpares.filter fun x => tests (x / 8) ∧ x < 64).foldl (fun l x => insertRising x l) g.badSpares
  Ledger.selfTestLines lines
    { g with badLines := lines.foldl (fun l x => insertRising x l) g.badLines, badSpares := spares
             usedSpares := spares.foldl (fun l x => insertRising x l) g.usedSpares }

/-- The Ledger with bank 0 alone kept, as S2 keeps it (R414). [DEDUCED, log 127] -/
def Ledger.bank0 (g : Ledger) : Ledger :=
  { mem := g.mem.filter fun c => decide (c.1 < 0x100000), written := g.written.filter fun x => decide (x < 0x4000)
    chk := g.chk.filter fun c => decide (c.1 < 0x4000), payloadLines := g.payloadLines, payload := g.payload
    refetchSlot := g.refetchSlot, overwritten := g.overwritten.filter fun x => decide (x < 0x4000)
    inlay := g.inlay.filter fun e => decide (e.line < 0x4000)
    usedSpares := g.usedSpares.filter fun x => decide (x < 8)
    badLines := g.badLines.filter fun x => decide (x < 0x4000), badSpares := g.badSpares.filter fun x => decide (x < 8) }

/-- The Ledger with all of bank 0 discarded (R414): its lines unwritten, its entries, spares and payload gone. -/
def Ledger.dropBank0 (g : Ledger) : Ledger :=
  let above := fun (l : List Nat) => l.filter fun x => decide (0x4000 ≤ x)
  { g with
    mem := g.mem.filter fun c => decide (0x100000 ≤ c.1), written := above g.written
    chk := g.chk.filter fun c => decide (0x4000 ≤ c.1), payloadLines := 0, overwritten := []
    inlay := g.inlay.filter fun e => decide (0x4000 ≤ e.line)
    usedSpares := g.usedSpares.filter fun x => decide (8 ≤ x), badLines := above g.badLines
    badSpares := g.badSpares.filter fun x => decide (8 ≤ x)
    announced := above g.announced, suspect := above g.suspect, reported := above g.reported, queue := above g.queue
    injected := above g.injected, noRemap := above g.noRemap }

/-- The image payload is loaded into the REFETCH region, at most bank 0; lines beyond it are unwritten (R80, R387, R475). A flip
armed for one of its lines acts (R399). [DEDUCED, log 127] -/
def Ledger.loadPayload (g : Ledger) (slot : Bool) (length payload : Nat) : Ledger :=
  let n := min 0x4000 (ceilDiv length 64)
  let line := g.flipAddr.toNat
  let armed := g.flip != 0 && decide (line < n)
  { g with
    payloadLines := n, payload := payload, refetchSlot := slot, overwritten := []
    mem := g.mem.filter fun c => decide (0x100000 ≤ c.1), written := g.written.filter fun x => decide (0x4000 ≤ x)
    chk := (if armed then [(line, g.flip)] else []) ++ g.chk.filter fun c => decide (0x4000 ≤ c.1)
    flip := if armed then 0 else g.flip, announced := g.announced.filter fun x => decide (0x4000 ≤ x), suspect := g.suspect.filter fun x => decide (0x4000 ≤ x)
    reported := g.reported.filter fun x => decide (0x4000 ≤ x), queue := g.queue.filter fun x => decide (0x4000 ≤ x)
    injected := (if armed then [line] else []) ++ g.injected.filter fun x => decide (0x4000 ≤ x) }

end Sys2Proof.Machine
end

