-- ==== Sys2Proof/Machine/Reset.lean ====
section
/-! DEFINITION. What a reset of the Carcass loses and keeps (R51, R52, R93, R94): the shared operation of POR_N, RESET_N, the
supply monitor, clock loss, loss of VSVC, and the entry into S2 and S3. -/
namespace Sys2Proof.Machine

/-- A port's power half while its Stile's reset line is asserted (R51, R52, R94): paths off with DISCH until VBUS is below
0.8 V; models, warnings and a running cooldown stay while VGD is present; records return to their defaults with the Deeds;
nothing else is kept. [DEDUCED, log 50] -/
def Pwr.stileReset (w : Pwr) (disch : Bool) : Pwr :=
  let off := w.pathsOff disch
  { seatA := w.seatA, seatB := w.seatB, vbusMv := w.vbusMv, offPending := off.offPending, disch := off.disch
    cooling := w.cooling, coolLeft := w.coolLeft, overcurrent := w.cooling
    fosterL := w.fosterL, fosterH := w.fosterH, warnL := w.warnL, warnH := w.warnH, hot := w.hot }

/-- A port's CC and PD half while the reset line is asserted: CC at high impedance, attach, contract and records lost. The wake
enable stays with the Stile through S2 and S3 (R411). -/
def Pd.stileReset (p : Pd) (keepWake : Bool) : Pd :=
  { term1 := p.term1, term2 := p.term2, ccRec := { wake := keepWake && p.ccRec.wake } }

/-- A port's CC half in S2 and S3: where its Stile has VGD and its record had WAKE = 1, Rp of 80 µA is presented (R50, R411). -/
def Pd.asleep (p : Pd) (vgd : Bool) : Pd := let q := p.stileReset true; { q with rpNow := if vgd && q.ccRec.wake then 1 else 0 }

/-- A Stile while its reset line is asserted: VGD, rails and T_B stay, its link and its events go. -/
def Stile.lineReset (x : Stile) : Stile :=
  { vgdOk := x.vgdOk, vgdPresent := x.vgdPresent, resetLine := true, railLMv := x.railLMv, railHMv := x.railHMv, tb := x.tb }

/-- A Carcass reset (R93, R94): everything returns to its reset value but Nightsafe, the Vault, what the Stiles keep, the VBUS
levels of the slots, the straps until they are sampled again, and the model's own counters. `held` says that the reset lasts.
[DEDUCED, log 44; DESIGN CHOICE, log 21] -/
def State.carcassReset (s : State) (cause : BitVec 3) (held sleep : Bool) : State :=
  { glb := { resetCause := cause, held := held, fv := s.glb.fv, cascadeEn := s.glb.cascadeEn, bootSlot := s.glb.bootSlot }
    slots := s.slots.map fun x => { vbus := x.vbus, orient := x.orient }
    pd := Vector.ofFn fun k =>
      if sleep then s.pd[k.val].asleep s.stiles[(stileOf k).val].vgdPresent else s.pd[k.val].stileReset false
    pwr := s.pwr.map fun w => w.stileReset (!sleep)
    stiles := s.stiles.map Stile.lineReset
    vault := s.vault.map fun r => { r with copyBad := false }
    nsf := { s.nsf with sleepReq := none, entering := none, entryTicks := 0, entryOff := false, retained := none }
    pending := s.pending }

/-- Bring-up step 1 begins (R60, R72): the straps are sampled where a pin has risen, the Vault is read, and the Stiles' reset
lines are released. -/
def State.startUp (s : State) (straps : Option (Bool × Bool)) : State :=
  let s := s.modGlb fun g => { g with
    core := .s0, held := false, phase := 1
    bootSlot := (straps.map (·.1)).getD g.bootSlot, cascadeEn := (straps.map (·.2)).getD g.cascadeEn }
  { s with
    stiles := s.stiles.map fun x => { x with resetLine := false }
    pd := s.pd.map fun p => { p with rpNow := 0 } }

end Sys2Proof.Machine
end

