-- ==== Sys2Proof/Machine/Nightsafe.lean ====
section
/-! DEFINITION. Nightsafe and the power states (file 14), physical presence and the seal (R433 to R436, R482): the tick, posted
writes, the ADC with its rules, T_B, the Passbook and the wake sources, SLEEP, PWR_DOMAIN and draining. -/
namespace Sys2Proof.Machine

/-! ### Presence and the seal (R433, R434, R436, R482) -/

/-- A PRESENCE event to every slot (R436). -/
def State.presenceEvent (s : State) (aux data : Nat) : State := s.everySlotEvent 0x40 aux data

/-- TAMPER clears (R434). -/
def State.clearTamper (s : State) : State :=
  if s.nsf.tamper then (s.modNsf fun n => { n with tamper := false }).presenceEvent 0x4 0 else s

/-- CAB_KEY_N reads low after its debounce (R433): the window opens or restarts, if a debounced high came before. TAMPER clears
at the opening where the seal reads closed (R434). -/
def execCabKeyDebounced (s : State) : Out :=
  .next (
    if !s.nsf.running then s
    else
      let opens := s.nsf.keyArmed
      let s := s.modNsf fun n => { n with keyLow := true, keyArmed := false }
      if opens then
        let s := (s.modNsf fun n => { n with presence := 120 * 32768 }).presenceEvent 0x1 120
        if s.nsf.sealOpen then s else s.clearTamper
      else s)

/-- CAB_KEY_N reads high after its debounce (R433). -/
def execCabKeyRelease (s : State) : Out :=
  .next (if s.nsf.running then s.modNsf fun n => { n with keyLow := false, keyArmed := true } else s)

/-- The presence window closes 120 s after it opened (R433). -/
def execPresenceWindowExpiry (s : State) : Out :=
  .next (if s.nsf.presence = 0 then s else (s.modNsf fun n => { n with presence := 0 }).presenceEvent 0x2 0)

/-- A write of 1 to GLB_PRESENCE.CLOSE (R433). -/
def State.closePresence (s : State) : State :=
  if s.nsf.presence = 0 then s else (s.modNsf fun n => { n with presence := 0 }).presenceEvent 0x2 1

/-- The seal is declared open: TAMPER latches (R434). -/
def State.sealOpens (s : State) : State :=
  let s := s.modNsf fun n => { n with sealOpen := true, sealCount := 0 }
  if s.nsf.tamper then s
  else (s.modNsf fun n => { n with tamper := true, tamperSec := n.rtcSec }).presenceEvent 0x3 s.nsf.rtcSec.toNat

/-- The seal is declared closed: TAMPER clears while a window is open (R434). -/
def State.sealCloses (s : State) : State :=
  let s := s.modNsf fun n => { n with sealOpen := false, sealCount := 0 }
  if s.nsf.presence = 0 then s else s.clearTamper

/-- One bit of the seal loop (R482): two consecutive bits against the present verdict turn it. The driven bit is free.
[DESIGN CHOICE, log 52] -/
def execSealBit (r : SealReturn) (s : State) : Out :=
  .next (
    if !s.nsf.running then s
    else
      let f := s.freeBit
      let s := f.2.modNsf fun n => { n with sealBit := f.1 }
      let isMatch := match r with | .loop => true | .stuck level => level == f.1
      let against := isMatch == s.nsf.sealOpen
      if !against then s.modNsf fun n => { n with sealCount := 0 }
      else if s.nsf.sealCount = 0 then s.modNsf fun n => { n with sealCount := 1 }
      else if s.nsf.sealOpen then s.sealCloses
      else s.sealOpens)

/-! ### POWER_STATE events and FORCE_OFF (R418, R419) -/

/-- A POWER_STATE event to every slot (R419). -/
def State.powerStateEvent (s : State) (aux data : Nat) : State := s.everySlotEvent 0x48 aux data

/-- The FORCE_OFF latch is set by a rule (R418): every port's paths go off and Escrow grants nothing. -/
def State.latchForceOff (s : State) (r : Nat) : State :=
  let s := s.modNsf fun n => { n with forceOff := true, forcedBy := n.forcedBy ||| BitVec.ofNat 16 (2 ^ r) }
  (allPorts.foldl (fun s k => s.forceOff k none) s).powerStateEvent 0x8 r

/-- The rules that are active (R420). -/
def Nightsafe.activeBits (n : Nightsafe) : BitVec 16 :=
  BitVec.ofNat 16 ((allFin 16).map fun r => if n.rules[r.val].active then 2 ^ r.val else 0).sum

/-- A write of 1 to FORCE_OFF takes effect (R418): the latch clears unless a rule that set it is still active. -/
def State.tryClearForceOff (s : State) : State :=
  if s.nsf.forceOff ∧ s.nsf.forcedBy &&& s.nsf.activeBits = 0 then
    (s.modNsf fun n => { n with forceOff := false, forcedBy := 0 }).powerStateEvent 0x9 0
  else s

/-! ### Rules and the ADC (R416 to R418) -/

/-- EN of a rule. -/
def NsfRule.en (r : NsfRule) : Bool := testBit r.cfg 31
/-- DEBOUNCE of a rule in samples; 0 means 16. -/
def NsfRule.debounce (r : NsfRule) : Nat := let d := bitsAt r.act.toNat 8 4; if d = 0 then 16 else d
/-- LOG of a rule. -/
def NsfRule.log (r : NsfRule) : Bool := testBit r.act 0
/-- WAKE of a rule. -/
def NsfRule.wakes (r : NsfRule) : Bool := testBit r.act 1
/-- PORTS_OFF of a rule. -/
def NsfRule.portsOff (r : NsfRule) : Bool := testBit r.act 2

/-- Whether a sample counts towards a rule's next change: beyond THRESH for a rule that is not active, back past THRESH by HYST
for one that is (R418). -/
def NsfRule.counts (r : NsfRule) (v : Nat) : Bool :=
  let t := bitsAt r.cfg.toNat 12 12
  let h := bitsAt r.cfg.toNat 0 12
  match testBit r.cfg 30, r.active with
  | false, false => v > t
  | false, true => v + h ≤ t
  | true, false => v < t
  | true, true => v ≥ t + h

/-- A rule is evaluated on a filtered value: whether it changes, and the rule after it. [DEDUCED, log 48] -/
def NsfRule.evaluate (r : NsfRule) (v : Nat) : Bool × NsfRule :=
  if r.counts v then
    if r.count + 1 ≥ r.debounce then (true, { r with active := !r.active, count := 0 })
    else (false, { r with count := r.count + 1 })
  else (false, { r with count := 0 })

/-- The actions of a rule that has become active (R418). -/
def State.ruleActs (s : State) (r : Fin 16) (v : Nat) : State :=
  let x := s.nsf.rules[r.val]
  let s := if x.log then
      let s := s.modNsf fun n => { n with hit := n.hit ||| BitVec.ofNat 16 (2 ^ r.val) }
      s.powerStateEvent 0x7 (r.val + fieldAt v 16)
    else s
  if x.portsOff then s.latchForceOff r.val else s

/-- The rules of an input, after a sample of it. [DEDUCED, log 48] -/
def State.runRules (s : State) (i : Fin 16) : State :=
  let v := s.nsf.ain[i.val].y / 1024
  (allFin 16).foldl (fun s r =>
    let x : NsfRule := s.nsf.rules[r.val]
    if x.en ∧ bitsAt x.cfg.toNat 24 4 = i.val then
      let e := x.evaluate v
      let s := s.modNsf fun n => { n with rules := vmod n.rules r fun _ => e.2 }
      if e.1 && e.2.active then s.ruleActs r v else s
    else s) s

/-- EN of an ADC input. -/
def AdcInput.en (a : AdcInput) : Bool := testBit a.cfg 31

/-- The input that is converted next: the next enabled one in ascending order after the last (R416). -/
def Nightsafe.nextInput (n : Nightsafe) : Option (Fin 16) :=
  ((List.range 16).map fun j => finOf 16 (by decide) (n.lastIn + 1 + j)).find? fun i => n.ain[i.val].en

/-- A sample taken into an input's filter (R416): the first loads it; the way of rounding to 10 fraction bits is free.
[DEDUCED, log 53] -/
def AdcInput.sample (a : AdcInput) (x : BitVec 12) (up : Bool) : AdcInput :=
  let k := min 10 (bitsAt a.cfg.toNat 24 4)
  let d : Int := 1024 * (x.toNat : Int) - a.y
  let p : Int := 2 ^ k
  let q : Int := if up then -((-d) / p) else d / p
  { a with raw := x, primed := true, y := if a.primed then ((a.y : Int) + q).toNat else 1024 * x.toNat }

/-- The Nightsafe ADC converts the next enabled input (R416), and the rules on it are judged (R418). [DEDUCED, log 53] -/
def execAdcSample (x : BitVec 12) (s : State) : Out :=
  .next (
    if !s.nsf.running then s
    else match s.nsf.nextInput with
      | none => s
      | some i =>
        let f := s.freeBit
        let s := f.2.modNsf fun n => { n with lastIn := i.val, ain := vmod n.ain i fun a => a.sample x f.1 }
        s.runRules i)

/-- Partial sum of atanh z: `fuel` terms from number `n`, with z to its power in `p`. -/
def atanhSeries : Nat → Nat → Rat → Rat → Rat
  | 0, _, _, _ => 0
  | f + 1, n, z2, p => p / n + atanhSeries f (n + 2) z2 (p * z2)

/-- ln of a positive rational: halved or doubled into [1, 2), at most `fuel` times, then its series. [DEDUCED, log 53] -/
def lnRat : Nat → Rat → Rat
  | 0, _ => 0
  | f + 1, x =>
    let ln2 := 2 * atanhSeries 20 1 (1 / 9) (1 / 3)
    if x ≥ 2 then ln2 + lnRat f (x / 2)
    else if x < 1 then lnRat f (2 * x) - ln2
    else
      let z := (x - 1) / (x + 1)
      2 * atanhSeries 20 1 (z * z) z

/-- T_B in 1/16 °C from a filtered value and B of the NTC (R417, R371); 85 °C where the reading is out of range. The way of
rounding is free, and so is the whole temperature where B is 0, for which the formula has no value. [DEDUCED, log 53] -/
def ntcTemp (y b : Nat) (up : Bool) (open_ : Nat) : Int :=
  if y = 0 ∨ y ≥ 4095 * 1024 then 1360
  else if b = 0 then open_ - 640
  else
    let ratio : Rat := (y : Rat) / (4096 * 1024 - y)
    let inv : Rat := 100 / 29815 + lnRat 24 ratio / b
    if inv ≤ 0 then 1360
    else
      let t := 1 / inv - 27315 / 100
      if t < -40 ∨ t > 150 then 1360
      else if up then (16 * t).ceil else (16 * t).floor

/-- The input that supplies T_B: the lowest-numbered external one with BOARD_T (R417). -/
def Nightsafe.boardInput (n : Nightsafe) : Option AdcInput :=
  ((allFin 16).find? fun i => decide (i.val < 12) && testBit n.ain[i.val].cfg 30).map fun i => n.ain[i.val]

/-- The Carcass forwards T_B to every Stile whose link is up (R371). [DEDUCED, log 53] -/
def execBoardTempUpdate (s : State) : Out :=
  .next (
    if !s.awake then s
    else
      let f := s.freeBit
      let g := f.2.freeBelow 3041
      let t := match s.nsf.boardInput with
        | some a => ntcTemp a.y (bitsAt a.cfg.toNat 0 16) f.1 g.1
        | none => 1360
      { g.2 with stiles := g.2.stiles.map fun x => if x.up && x.vgdPresent then { x with tb := t } else x })

/-! ### Registers of the Nightsafe domain (R36, R420, R429) -/

/-- A write to a register of the Nightsafe domain takes effect (R36): address and value. ACTIVE goes with EN of its rule.
[DEDUCED, log 47, 48] -/
def State.applyNsf (s : State) (addr : Nat) (v : Word) : State :=
  if addr = 0xA0004 then s.modNsf fun n => { n with wakeEn := v.setWidth 8 }
  else if addr = 0xA0014 then s.tryClearForceOff
  else if addr = 0xA0018 then s.modNsf fun n => { n with rtcSec := v }
  else if addr = 0xA0020 then s.modNsf fun n => { n with alarm := v }
  else if 0xA0100 ≤ addr ∧ addr < 0xA0140 then
    s.modNsf fun n => { n with ain := vmod n.ain (finOf 16 (by decide) ((addr - 0xA0100) / 4)) fun a =>
      { a with cfg := v, primed := a.primed && a.en && testBit v 31 } }
  else if 0xA0200 ≤ addr ∧ addr < 0xA0280 then
    let i : Fin 16 := finOf 16 (by decide) ((addr - 0xA0200) / 8)
    if addr % 8 = 0 then
      s.modNsf fun n => { n with rules := vmod n.rules i fun r =>
        { r with cfg := v, active := r.active && testBit v 31, count := if testBit v 31 then r.count else 0 } }
    else s.modNsf fun n => { n with rules := vmod n.rules i fun r => { r with act := v.setWidth 12 &&& 0xF07 } }
  else s

/-- The value a Nightsafe register takes where its parity fails: its reset value (R429, R420). [DEDUCED, log 138] -/
def nsfResetValue (addr : Nat) : Word :=
  if addr = 0xA0004 then 0xFF else if 0xA0100 ≤ addr ∧ addr < 0xA0140 then 0x04000D6B else 0

/-- A parity error in a register (R429): GLB_FAULT.PARITY and GLB_PARITY_ADDR. [DEDUCED, log 131] -/
def State.noteParity (s : State) (addr : Nat) : State :=
  s.modGlb fun g => { g with fParity := true, parityAddr := some (BitVec.ofNat 20 addr)
                             parityBad := g.parityBad.filter (· != addr) }

/-- A parity error in a Nightsafe register (R429): its reset value acts; a rule that had EN and PORTS_OFF latches FORCE_OFF.
[DEDUCED, log 138] -/
def State.nsfParity (s : State) (addr : Nat) : State :=
  let i : Fin 16 := finOf 16 (by decide) ((addr - 0xA0200) / 8)
  let r := s.nsf.rules[i.val]
  let forces := 0xA0200 ≤ addr ∧ addr < 0xA0280 ∧ r.en = true ∧ r.portsOff = true
  let s := s.noteParity addr
  let s := if addr = 0xA0014 then s.modNsf fun n => { n with hit := 0 } else s.applyNsf addr (nsfResetValue addr)
  if forces then s.latchForceOff i.val else s

/-- Posted writes that take effect at a tick (R36): each at the first or the second tick after it, which of them is free; never
out of order. [DEDUCED, log 47] -/
def State.applyPosted : List PostedWrite → State → State
  | [], s => s.modNsf fun n => { n with posted := [] }
  | w :: l, s =>
    let f := s.freeBit
    if w.ticks ≥ 1 || f.1 then State.applyPosted l (f.2.applyNsf w.addr w.val)
    else f.2.modNsf fun n => { n with posted := (w :: l).map fun x => { x with ticks := x.ticks + 1 } }

/-- The RTC counts one tick (R420). -/
def Nightsafe.countRtc (n : Nightsafe) : Nightsafe :=
  if n.rtcSub = 32767 then { n with rtcSub := 0, rtcSec := n.rtcSec + 1 } else { n with rtcSub := n.rtcSub + 1 }

/-- The RS copies of a tick (R36, R424). [DEDUCED, log 51] -/
def Nightsafe.copyRs (n : Nightsafe) : Nightsafe :=
  { n with
    rsForceOff := n.forceOff, rsPbCount := n.passbook.length, rsSub := n.rtcSub, rsTamper := n.tamper
    rsSealOpen := n.sealOpen, rsKey := n.keyLow, rsPresence := n.presence, rsPassbook := n.passbook
    rsActive := n.activeBits, rsAin := n.ain.map fun a => (a.raw, a.y) }

/-! ### The Passbook (R413) -/

/-- Codes of wake sources. -/
def wakeNum : WakeCode → Nat
  | .mgmt => 1 | .wakeN => 2 | .cabKey => 3 | .rule => 4 | .rtc => 5 | .vbus => 6 | .seat => 7 | .cc => 8

/-- A record is written as entry 0; the ring keeps 8 (R413). -/
def Nightsafe.record (n : Nightsafe) (r : PassbookRec) : Nightsafe := { n with passbook := (r :: n.passbook).take 8 }

/-! ### Entering S2 and S3 (R409, R410) -/

/-- The retention record of R414: the image slot that runs, with what its header says. [DEDUCED, log 27] -/
def State.retention (s : State) : Option (Bool × ImageInfo) :=
  (if s.glb.image then s.fw.slotB else s.fw.slotA).map fun i => (s.glb.image, i)

/-- The last part of a committed entry (R410, steps 6 and 7): retention in S2, the Carcass into its internal reset, RAIL_EN low.
[DEDUCED, log 50; DESIGN CHOICE, log 21] -/
def State.fallAsleep (s : State) (level : BitVec 2) : State :=
  let keep := s.retention
  let ldg := s.ldg.bank0
  let s := s.carcassReset 1 true true
  let s := s.modNsf fun n => { n with railEn := false, asleep := some level }
  if level = 2 then
    match keep with
    | some r => ({ s with ldg := ldg } : State).modNsf fun n => { n with retained := some r }
    | none => s
  else s.modNsf fun n => { n with retained := none }

/-- The tags of a slot end as at a bus reset, and it is withdrawn (R407). -/
def State.slotOff (s : State) (h : SlotId) : State := (s.resetTags h).withdrawSlot h

/-- The paths and VCONN of a Stile's ports go off with their requests kept (R407, R410); a Stile whose link is down holds its
gates until the link is up, or its holdover ends (R18, R464). -/
def State.stileOff (s : State) (i : StileId) : State :=
  (portsOf i).foldl (fun s k =>
    let s := s.modPwr k fun w => { w with queued := none, budgetWait := false }
    if s.stiles[i.val].up then (s.forceOff k none).vconnOff k else s) s

/-- Steps 4 and 5 of a committed entry (R410): Statements stop, every slot is withdrawn, every port's paths go off.
[DESIGN CHOICE, log 21] -/
def State.entryOff (s : State) : State :=
  let s := s.modNsf fun n => { n with entryOff := true }
  let s := allSlots.foldl State.slotOff s
  [0, 1, 2].foldl State.stileOff s

/-- A committed entry whose SLEEP has completed (R410): once that completion and the records before it are delivered, or 1 ms
(33 ticks) has passed, slots and ports go off; once no port is still discharging, the device sleeps.
[DEDUCED, log 19; DESIGN CHOICE, log 21] -/
def State.entryTick (s : State) : State :=
  match s.nsf.entering, s.glb.drain with
  | some l, .none =>
    if s.nsf.entryOff then
      if s.pwr.toList.any fun w => w.disch then s else s.fallAsleep l
    else if s.slots.toList.all (fun x => x.owed == 0) || s.nsf.entryTicks ≥ 33 then s.entryOff
    else s.modNsf fun n => { n with entryTicks := n.entryTicks + 1 }
  | _, _ => s

/-- One Nightsafe tick (R403): posted writes, the RTC, the presence window's count, parity checks, the RS copies, and what a
committed entry waits for. [DESIGN CHOICE, log 7] -/
def execNightsafeCycle (s : State) : Out :=
  .next (
    if !s.nsf.running then s
    else
      let s := State.applyPosted s.nsf.posted s
      let s := s.modNsf fun n => { n.countRtc with presence := if n.presence > 1 then n.presence - 1 else n.presence }
      let bad := s.glb.parityBad.filter fun a => decide (0xA0000 ≤ a ∧ a < 0xB0000)
      let s := bad.foldl State.nsfParity s
      (s.modNsf Nightsafe.copyRs).entryTick)

/-- The lowest source of a mask of pending sources, bit c − 1 for code c. -/
def lowestSource (p : BitVec 8) : Nat := ((List.range 8).find? fun i => testBit p i).getD 0

/-- Whether an entry in flight, of a slot or of the mailbox, belongs to the draining work (R408). -/
def drainingEntry (d : Drain) (h : Option SlotId) (e : TillEntry) : Bool :=
  match d with
  | .none => false
  | .sleep => e.wait != .sleep
  | .domain n =>
    if n < 6 then h.map (fun x => x.val + 2) == some n
    else match e.port with
      | some k => if n < 12 then portGrpOf k + 6 == n else (stileOf k).val + 12 == n
      | none => false

/-- A drain starts (R408): a tag of its work that still waits in the Till is in flight and runs on. [DEDUCED, log 166] -/
def State.startDrain (s : State) (d : Drain) : State :=
  let mark := fun (h : Option SlotId) (e : TillEntry) => { e with early := drainingEntry d h e && e.point == .waiting }
  let s := s.modGlb fun g => { g with drain := d, drained := 0 }
  let s := allSlots.foldl (fun s h => s.modSlot h fun x => { x with till := x.till.map (mark (some h)) }) s
  s.modTeller fun t => { t with mbxEntry := t.mbxEntry.map (mark none) }

/-- The decision tick of a SLEEP request (R409): aborted where an enabled source is pending, else committed. -/
def execSleepDecision (pending : BitVec 8) (detail : Byte) (s : State) : Out :=
  .next (
    match s.nsf.sleepReq with
    | none => s
    | some level =>
      let p := pending &&& s.nsf.wakeEn
      if p = 0 then
        let s := s.modNsf fun n => { n with sleepReq := none, entering := some level, entryTicks := 0 }
        (s.startDrain .sleep).powerStateEvent 0x3 level.toNat
      else
        let i := lowestSource p
        let r : PassbookRec :=
          { more := p &&& ~~~ BitVec.ofNat 8 (2 ^ i), detail := detail, fromState := 0, aborted := true
            code := BitVec.ofNat 7 (i + 1), sec := s.nsf.rtcSec }
        let s := s.modNsf fun n => ({ n with sleepReq := none } : Nightsafe).record r
        let code := 0x80 + i + 1
        (s.endWith (fun e => e.wait == .sleep) .eBusy (toWord code)).powerStateEvent 0x4 code)

/-! ### Waking (R412) -/

/-- DETAIL of a wake source: 0 where the source has none. -/
def wakeDetail (x : WakeCode × Byte) : WakeCode × Byte :=
  match x.1 with
  | .mgmt | .wakeN | .cabKey | .rtc => (x.1, 0)
  | .rule | .vbus | .seat | .cc => x

/-- The lowest-coded of the sources pending at one tick, with its DETAIL (R413). -/
def lowestWake : List (WakeCode × Byte) → Option (WakeCode × Byte)
  | [] => none
  | x :: l =>
    match lowestWake l with
    | some y => some (if wakeNum y.1 < wakeNum x.1 then y else x)
    | none => some x

/-- MORE of a record: the sources pending beside the recorded one, bit c − 1 for code c (R413, R420). -/
def moreWakes (w : WakeCode) (l : List (WakeCode × Byte)) : Byte :=
  l.foldl (fun m x => if x.1 = w then m else m ||| BitVec.ofNat 8 (2 ^ (wakeNum x.1 - 1))) 0

/-- A wake from S2 or S3 by the sources pending at one tick: RAIL_EN rises, the Passbook records it (R412, R413).
[DEDUCED, log 157] -/
def State.wake (s : State) (level : BitVec 2) (l : List (WakeCode × Byte)) : State :=
  match lowestWake l with
  | none => s
  | some w => s.modNsf fun n =>
    ({ n with railEn := true, asleep := none, latched := [], wakeDue := 0xF } : Nightsafe).record
      { more := moreWakes w.1 l, detail := w.2, fromState := level.setWidth 4, aborted := false
        code := BitVec.ofNat 7 (wakeNum w.1), sec := n.rtcSec }

/-- Whether a port is enabled for wake, with VGD present to watch it (R411). -/
def State.wakePort (s : State) (detail : Byte) : Bool :=
  match portOf detail.toNat with
  | some k => s.pd[k.val].ccRec.wake && s.stiles[(stileOf k).val].vgdPresent
  | none => false

/-- Whether a source that the state decides can occur now: a rule that is active with WAKE, the alarm reached, a port enabled
for wake. The others come from outside. [DEDUCED, log 49] -/
def State.wakeOccurs (s : State) (w : WakeCode) (detail : Byte) : Bool :=
  match w with
  | .rule => let r := s.nsf.rules[(finOf 16 (by decide) detail.toNat : Fin 16).val]; r.en && r.active && r.wakes
  | .rtc => s.nsf.alarm != 0 && s.nsf.rtcSec == s.nsf.alarm
  | .seat | .cc => s.wakePort detail
  | .mgmt | .wakeN | .cabKey | .vbus => true

/-- The sources of a list that are enabled and occur. [DEDUCED, log 49] -/
def State.enabledWakes (s : State) (l : List (WakeCode × Byte)) : List (WakeCode × Byte) :=
  (l.filter fun x => testBit s.nsf.wakeEn (wakeNum x.1 - 1) && s.wakeOccurs x.1 x.2).map wakeDetail

/-- Sources of wake occur within one tick: the enabled ones wake the device (R412), or between the decision tick and RAIL_EN
going low are latched (R410). -/
def State.wakesOccur (s : State) (l : List (WakeCode × Byte)) : State :=
  let l := s.enabledWakes l
  if !s.nsf.running then s
  else match s.nsf.asleep with
    | some level => s.wake level l
    | none => if s.nsf.entering.isSome then s.modNsf fun n => { n with latched := n.latched ++ l } else s

/-- Wake sources occur within one tick (R410, R412, R413). [DEDUCED, log 157] -/
def execWakeSource (l : List (WakeCode × Byte)) (s : State) : Out := .next (s.wakesOccur l)

/-- The wakes latched during entry fire once RAIL_EN has been low for 10 ms (R410). [DEDUCED, log 157] -/
def execLatchedWake (s : State) : Out :=
  .next (
    match s.nsf.asleep with
    | some level => s.wake level s.nsf.latched
    | none => s)

/-- The crystal has run stably for 1 s (R71). -/
def execXt32Switch (s : State) : Out := .next (if s.nsf.running then s.modNsf fun n => { n with crystal := true } else s)

/-- The lowest slot of a mask of Hn_VBUS_DET levels. -/
def lowestSlot (v : BitVec 4) : Nat := ((List.range 4).find? fun i => testBit v i).getD 0

/-- VSVC enters its range (R71): Nightsafe starts, MGMT_ADDR is sampled, RAIL_EN rises; a cold start from an upstream VBUS goes
into the Passbook (R91, R413). A key that already reads low is no debounced low (R433). -/
def execVsvcRise (mgmtAddr : BitVec 3) (vbusDet : BitVec 4) (keyLow : Bool) (s : State) : Out :=
  .next (
    if s.nsf.running then s
    else
      let n : Nightsafe := { running := true, mgmtAddr := mgmtAddr, railEn := true, keyLow := keyLow, keyArmed := !keyLow }
      let n := if vbusDet = 0 then n
        else n.record { more := 0, detail := BitVec.ofNat 8 (lowestSlot vbusDet), fromState := 0xF, aborted := false
                        code := 6, sec := 0 }
      { s with nsf := n, slots := Vector.ofFn fun h => { s.slots[h.val] with vbus := testBit vbusDet h.val } })

/-! ### SLEEP (R405, R406, R409) -/

/-- Whether SLEEP with level 2 or 3 is refused EBUSY (R406). FW_STAGE, FW_COMMIT and OTP_WRITE end within their step. -/
def State.sleepBusy (s : State) : Bool :=
  (s.mint.groups.toList.any fun g => g.state == .armed || g.state == .running || g.state == .holding)
    || s.anyEntry (fun e => e.wait == .swap) || s.glb.drain != .none || s.nsf.sleepReq.isSome

/-- The body of SLEEP. -/
def sleepBody (s : State) (a : CmdArgs) : Res :=
  if a.arg0 = 1 then
    if s.glb.core = .s1 then .ok s
    else .ok ((s.modGlb fun g => { g with core := .s1 }).powerStateEvent 0x1 0)
  else if s.sleepBusy then .fail .eBusy s
  else .wait .effected .sleep (s.modNsf fun n => { n with sleepReq := some (BitVec.ofNat 2 a.arg0.toNat) })

/-- SLEEP (R404 to R409). -/
def opSleep : OpSpec :=
  { code := 0xC1, mbx := true, argOk := fun a => 1 ≤ a.arg0.toNat && a.arg0.toNat ≤ 3 && arg1Zero a, body := sleepBody }
/-- SLEEP enters S1, or requests S2 or S3 (R409). -/
def execSleep (a : CmdArgs) (s : State) : Out := .next (issue opSleep a s)

/-! ### Power domains and draining (R407, R408) -/

/-- The effects of a domain that goes off (R407). -/
def State.domainGoesOff (s : State) (d : Nat) : State :=
  if h : d < 2 then s
  else if h : d < 6 then
    let i : SlotId := ⟨d - 2, by omega⟩
    let s := s.slotOff i
    (s.modSlot i fun x => { x with domainOn := false }).endWith (fun e => e.wait == .domainOn d) .ePoweredDown 0
  else if d < 12 then
    let s := s.modGlb fun g => { g with portGrpOn := g.portGrpOn &&& ~~~ BitVec.ofNat 6 (2 ^ (d - 6)) }
    (allPorts.filter fun k => portGrpOf k == d - 6).foldl (fun s k =>
      if s.mode k = .off then s
      else s.loseDevice k (if s.pwr[k.val].vbusOn then .powered else s.unpoweredState k) .ePoweredDown false
        (Wait.endsOnUsbLoss k)) s
  else if h : d < 15 then
    let i : StileId := ⟨d - 12, by omega⟩
    (s.modStile i fun x => { x with domainOn := false, quarantineOff := x.quarantineOff || x.quarantined }).stileOff i
  else s

/-- A domain goes on (R407, R464). [DEDUCED, log 20] -/
def State.domainGoesOn (s : State) (d : Nat) : State :=
  if h : d < 2 then s
  else if h : d < 6 then
    let i : SlotId := ⟨d - 2, by omega⟩
    (s.modSlot i fun x => { x with domainOn := true }).presentSlot i
  else if d < 12 then
    s.modGlb fun g => { g with portGrpOn := g.portGrpOn ||| BitVec.ofNat 6 (2 ^ (d - 6)) }
  else if h : d < 15 then
    let i : StileId := ⟨d - 12, by omega⟩
    let s := s.modStile i fun x => { x with
      domainOn := true, quarantined := x.quarantined && !x.quarantineOff, quarantineOff := false
      downTimes := if x.quarantined && x.quarantineOff then [] else x.downTimes }
    (portsOf i).foldl State.tryQueue s
  else s

/-- Whether a domain is a slot's, and the slot is not presented (R407). [DEDUCED, log 20] -/
def slotHidden (s : State) (d : Nat) : Bool :=
  if h : d < 6 then if g : 2 ≤ d then !(s.slots[d - 2]'(by omega)).presented else false else false

/-- The body of PWR_DOMAIN. A domain cannot start to drain while another drain runs. [DEDUCED, log 20] -/
def pwrDomainBody (s : State) (a : CmdArgs) : Res :=
  let d := a.arg0.toNat
  let on := testBit a.arg1 0
  if s.domainOn d = on then .ok s
  else if on then
    let s := s.domainGoesOn d
    if slotHidden s d then .wait .effected (.domainOn d) s else .ok (s.powerStateEvent 0x6 d)
  else if (callerSlot a.caller).map (fun h => h.val + 2) = some d then .fail .eBusy s
  else if s.glb.drain ≠ .none then .fail .eBusy s
  else .wait .effected .drain (s.startDrain (.domain d))

/-- PWR_DOMAIN (R407). -/
def opPwrDomain : OpSpec :=
  { code := 0xC0, mbx := true, argOk := fun a => 2 ≤ a.arg0.toNat && a.arg0.toNat ≤ 14 && a.arg1.toNat < 2
    body := pwrDomainBody }
/-- PWR_DOMAIN switches a domain off after its drain, or on (R407). -/
def execPwrDomain (a : CmdArgs) (s : State) : Out := .next (issue opPwrDomain a s)

/-- Whether an entry counts for the drain that runs: a tag in flight since before it, or one that has been dispatched since
(R408). -/
def State.drains (s : State) (h : Option SlotId) (e : TillEntry) : Bool :=
  drainingEntry s.glb.drain h e && (e.early || e.point != .waiting)

/-- The commands of the draining work still in flight. [DEDUCED, log 166] -/
def State.draining (s : State) : List (Option SlotId × TillEntry) :=
  (allSlots.flatMap fun h => (s.slots[h.val].till.filter (s.drains (some h))).map fun e => (some h, e))
    ++ (match s.teller.mbxEntry with
      | some e => if s.drains none e then [(none, e)] else []
      | none => [])

/-- The drain is over: the domain goes off and PWR_DOMAIN completes (R408), or SLEEP completes and the entry goes on (R410).
[DEDUCED, log 19] -/
def State.drainOver (s : State) : State :=
  match s.glb.drain with
  | .none => s
  | .domain d =>
    let n := s.glb.drained
    let s := (s.modGlb fun g => { g with drain := .none, drained := 0 }).domainGoesOff d
    (s.endWith (fun e => e.wait == .drain) .ok (toWord n)).powerStateEvent 0x5 (d + fieldAt n 16)
  | .sleep =>
    let s := s.modGlb fun g => { g with drain := .none, drained := 0 }
    let s := s.endWith (fun e => e.wait == .sleep) .ok 0
    { s with slots := s.slots.map fun x => { x with owed := x.records.length } }

/-- No tag of the draining work remains (R408). -/
def execDrainEnd (s : State) : Out :=
  .next (if s.glb.drain = .none ∨ !s.draining.isEmpty then s else s.drainOver)

/-- DRAIN expires: the remaining tags complete EPOWERED_DOWN, their results discarded (R408). [DESIGN CHOICE, log 6] -/
def execDrainTimeout (s : State) : Out :=
  .next (
    if s.glb.drain = .none then s
    else
      let l := s.draining
      let s := l.foldl (fun s p =>
        let s := s.undo p.2
        s.finish (match p.1 with | some h => .slot h | none => .mbx) p.2 .ePoweredDown 0 []) s
      (s.modGlb fun g => { g with drained := l.length }).drainOver)

end Sys2Proof.Machine
end

