-- ==== Sys2Proof/Machine/Vault.lean ====
section
/-! DEFINITION. OTP_WRITE and VAULT_LOCK (R437 to R441). -/
namespace Sys2Proof.Machine

/-- A row of the Vault programmed with what it holds afterwards. [DEDUCED, log 134; DESIGN CHOICE, log 60] -/
def State.programRow (s : State) (r : Nat) (v : Word) : State :=
  if h : r < 128 then
    { s with vault := vmod s.vault ⟨r, h⟩ fun x => { x with val := v, programmed := true } }
  else s

/-- Rows OTP_WRITE may name at all (R440): not Olrumas's, not the lock marks, not row 0x2F. [DEDUCED, log 135] -/
def otpRowOk (r : Nat) : Bool := 0x10 ≤ r && r ≤ 0x7F && !(0x2C ≤ r && r ≤ 0x2F)

/-- Whether the lock level closes a row to OTP_WRITE (R441). -/
def otpClosed (level r : Nat) : Bool :=
  if 0x18 ≤ r ∧ r < 0x20 then false
  else if r < 0x2C then level ≥ 1
  else level ≥ 3

/-- The body of OTP_WRITE (R440). Whether the read-back differs, and what the row then holds, is free.
[DESIGN CHOICE, log 60] -/
def otpWriteBody (s : State) (a : CmdArgs) : Res :=
  let r := a.arg0.toNat
  let v := toWord (ofLe a.params)
  if 0x18 ≤ r ∧ r < 0x20 ∧ v.toNat ≤ s.floor then .fail .eRange s
  else if s.vaultProgrammed r ∨ otpClosed s.lockLevel r then .fail .eLocked s
  else
    let f := s.freeBit
    let w := f.2.freeBytes 4
    let held := if f.1 then toWord (ofLe w.1) else v
    let s := (w.2.programRow r held).presenceEvent 0x6 (r + flagAt (held != v) 8)
    if held = v then .ok s else .fail .eData s

/-- OTP_WRITE (R440). -/
def opOtpWrite : OpSpec :=
  { code := 0xE0, mbx := true, plenOk := fun a => a.params.length == 4
    argOk := fun a => otpRowOk a.arg0.toNat && ofLe a.params != 0 && arg1Zero a
    presence := fun _ _ => true, body := otpWriteBody }
/-- OTP_WRITE programs one Vault row and reads it back (R440). -/
def execOtpWrite (a : CmdArgs) (s : State) : Out := .next (issue opOtpWrite a s)

/-- The body of VAULT_LOCK (R441): the mark rows that are still blank are programmed; a programmed row never changes.
[DEDUCED, log 135] -/
def vaultLockBody (s : State) (a : CmdArgs) : Res :=
  let n := a.arg0.toNat
  if n < s.lockLevel then .fail .eLocked s
  else if n = s.lockLevel then .ok s
  else if s.keyPartial then .fail .eNotReady s
  else
    let s := (List.range n).foldl (fun s i =>
      if s.vaultProgrammed (0x2C + i) then s else s.programRow (0x2C + i) (toWord (0x4C4B0000 + i + 1))) s
    .ok (s.presenceEvent 0x5 n)

/-- VAULT_LOCK (R441). -/
def opVaultLock : OpSpec :=
  { code := 0xE1, mbx := true, argOk := fun a => 1 ≤ a.arg0.toNat && a.arg0.toNat ≤ 3 && arg1Zero a
    presence := fun _ _ => true, body := vaultLockBody }
/-- VAULT_LOCK raises the Vault lock level (R441). -/
def execVaultLock (a : CmdArgs) (s : State) : Out := .next (issue opVaultLock a s)

end Sys2Proof.Machine
end

