-- ==== Sys2Proof/Machine/Boot.lean ====
section
/-! DEFINITION. Bring-up (file 03), the resets (R93, R94, R58, R467), firmware images and the hitless swap (R474 to R477), and
Teller restarts (R469, R470, R473). -/
namespace Sys2Proof.Machine

/-! ### Resets -/

/-- POR_N goes low (R93, R94). A Carcass that is held in reset already, or asleep, is not reset again. [DEDUCED, log 45] -/
def execPorNLow (s : State) : Out := .next (if s.glb.held then s else s.carcassReset 1 true false)

/-- RESET_N has been low for at least 10 µs; with its rising edge the straps are sampled and start-up runs again from step 1
(R60, R74, R93). [DEDUCED, log 45] -/
def execResetNLow (bootSlot cascadeEn : Bool) (s : State) : Out :=
  .next (if s.glb.held then s else (s.carcassReset 2 false false).startUp (some (bootSlot, cascadeEn)))

/-- A Carcass supply leaves its range without POR_N (R57, R93). [DEDUCED, log 45] -/
def execSupplyMonitorReset (s : State) : Out := .next (if s.glb.held then s else s.carcassReset 3 true false)

/-- The 25 MHz reference or the system PLL is lost (R467): a reset by the supply monitor's cause, start-up at once. No strap
pin rises, so the straps keep their values (R60). [DEDUCED, log 44] -/
def execClockLoss (s : State) : Out :=
  .next (
    if s.glb.held ∨ !s.glb.clocksOk then s
    else ((s.carcassReset 3 false false).modNsf fun n => { n with clockFail := true }).startUp none)

/-- VSVC falls below 2.7 V: a full power-on reset, Nightsafe lost (R58). -/
def execVsvcLoss (s : State) : Out :=
  .next (
    if !s.nsf.running then s
    else
      let s := s.carcassReset 0 true false
      { s with nsf := {}, slots := s.slots.map fun x => { x with vbus := false } })

/-- POR_N rises: start-up begins (R70, R72). In S2 and S3 the Carcass stays in its reset until a wake has raised RAIL_EN.
[DEDUCED, log 45] -/
def execPowerGood (bootSlot cascadeEn : Bool) (s : State) : Out :=
  .next (
    if s.glb.held ∧ s.nsf.running ∧ s.nsf.railEn ∧ s.nsf.asleep = none then s.startUp (some (bootSlot, cascadeEn)) else s)

/-- A Stile's reset line is asserted (R51): its paths go off with DISCH, CC is at high impedance, its link is down. -/
def execStileResetLine (i : StileId) (s : State) : Out :=
  .next (
    let s := s.modStile i fun x => { x with resetLine := true, up := false, retraining := false, holdover := false, kept := [] }
    (portsOf i).foldl (fun s k =>
      let s := s.pathsOff k true
      let s := s.modPwr k fun w => { w with queued := none, budgetWait := false, chgV := 0, seatOk := false }
      let s := s.modPd k fun p => p.detached .disabled
      let s := s.endWaits (Wait.isPdTx k) .eDetached
      s.loseDevice k (s.unpoweredState k) .eDetached true (Wait.endsOnDetach k)) s)

/-! ### Clocks and the Ledger (R72, R73, R75, R76) -/

/-- Bring-up step 2 ends (R72): MGMT acknowledges, Tally starts at 0 in SLEW, and a clock loss kept by Nightsafe shows (R467). -/
def execClocksStable (ssLocked : BitVec 4) (s : State) : Out :=
  .next (
    if s.awake ∧ s.glb.phase = 1 ∧ !s.glb.clocksOk ∧ !s.glb.fClock then
      let s := s.modGlb fun g => { g with clocksOk := true, phase := 2, pllRetry := false, fClock := s.nsf.clockFail }
      let s := s.modNsf fun n => { n with clockFail := false }
      let s := s.modTally fun t => { t with running := true }
      { s with slots := Vector.ofFn fun h =>
          { s.slots[h.val] with ssPll := s.slots[h.val].ssPll && testBit ssLocked h.val } }
    else s)

/-- A clock source is not stable within its bound (R75): the system clocks get a second attempt and then stop start-up in PHASE
0x1; a slot's SuperSpeed PLL costs that slot its SuperSpeed side. -/
def execPllLockTimeout (w : PllWhich) (s : State) : Out :=
  .next (
    if s.awake ∧ s.glb.phase = 1 ∧ !s.glb.clocksOk then
      match w with
      | .system =>
        if s.glb.pllRetry then s.modGlb fun g => { g with fClock := true } else s.modGlb fun g => { g with pllRetry := true }
      | .ss h => s.modSlot h fun x => { x with ssPll := false }
    else s)

/-- A self-test leaves its Ledger (R76): PHASE 0x3 goes on, or PHASE 0xF halts, with the entries counted. -/
def State.tested (s : State) (ok : Bool) (g : Ledger) : State :=
  ({ s with ldg := g } : State).modGlb fun x => { x with
    phase := if ok then 3 else 0xF, inlayBoot := BitVec.ofNat 4 g.inlay.length }

/-- The Ledger self-test ends (R76, R77): entries for the failing lines, or PHASE 0xF. Bank 0 retained in S2 is not tested
(R414). -/
def execLedgerSelfTestEnd (badLines badSpares : List Nat) (s : State) : Out :=
  .next (
    if s.awake ∧ s.glb.phase = 2 then
      let g : Ledger := if s.nsf.retained.isSome then s.ldg else {}
      let r := g.selfTest badLines badSpares fun b => s.nsf.retained.isNone || decide (0 < b)
      s.tested r.1 r.2
    else s)

/-! ### Images (R79 to R84) -/

/-- The checks of R81 on an image, from its signature on: the reason code, 0 where it passes. -/
def State.imageTail (s : State) (i : ImageInfo) : Nat :=
  if s.keyFused ∧ i.keyHash ≠ s.keyHash then 4
  else if !i.signatureOk then 5
  else if !i.listsB0 then 6
  else if i.version.toNat < s.floor then 7
  else if i.timesOut then 8
  else 0

/-- The checks of R81 on an image slot. [DEDUCED, log 26] -/
def State.imageFail (s : State) (sfdpOk : Bool) (i : ImageInfo) : Nat :=
  if !sfdpOk then 1
  else if !i.headerOk then 2
  else if i.length = 0 ∨ i.length > 0x100000 then 3
  else s.imageTail i

/-- A reason recorded for an image slot. [DEDUCED, log 26] -/
def State.recordFail (s : State) (slot : Bool) (c : Nat) : State :=
  s.modGlb fun g => if slot then { g with failB := BitVec.ofNat 4 c } else { g with failA := BitVec.ofNat 4 c }

/-- The Rp level a port advertises at start-up (R84, R85): the profile's, lowered to what the fused limit admits.
[DEDUCED, log 29] -/
def State.fusedRp (s : State) (k : PortId) (r : Rp) : Rp :=
  let fits := fun (r : Rp) => decide (rpMa r ≤ s.fusedMa k) && decide (5 * rpMa r ≤ s.fusedMw k)
  match r with
  | .ua330 => if fits .ua330 then .ua330 else if fits .ua180 then .ua180 else .ua80
  | .ua180 => if fits .ua180 then .ua180 else .ua80
  | .ua80 => .ua80

/-- One port's entry of the boot profile (R84): its Deed, Rp and priority; power is wanted from the start (R377).
[DEDUCED, log 29] -/
def State.applyPort (s : State) (k : PortId) (e : ProfilePort) : State :=
  let s := s.modPwr k fun w => { w with priority := e.priority, want := e.mode != .off }
  let s := s.modPd k fun p => { p with ccRec := { rp := s.fusedRp k e.rp } }
  let s := s.modPort k fun p => { p with
    deed := { owner := if e.mode = .off then none else some e.owner, mode := e.mode, viewers := e.viewers, gen := 0 }
    state := if e.mode = .off then .off else .waitAttach }
  if e.mode = .off then s else s.enableCc k

/-- The boot profile is applied at the end of step 5 (R84, R374); a port past its list is OFF. -/
def State.applyProfile (s : State) : State :=
  let p := s.fw.profile
  let s := s.modEscrow fun e => { e with budgetL := toWord (1000 * p.budgetW) }
  allPorts.foldl (fun s k =>
    s.applyPort k ((p.ports[k.val]?).getD { mode := .off, owner := 0, viewers := 0, rp := .ua80, priority := 0 })) s

/-- Step 6 ends (R72, R87): ports whose attach is confirmed join the Escrow queue (R88). -/
def State.endStep6 (s : State) : State :=
  if s.glb.phase = 5 then
    let s := s.modGlb fun g => { g with phase := 6 }
    allPorts.foldl State.tryQueue s
  else s

/-- Steps 4 and 5 end with an image (R72, R81, R84, R86, R87): Teller runs, the profile is applied, the slots are presented,
Dovetail training starts where CASCADE_EN is 1. [DEDUCED, log 56] -/
def State.runImage (s : State) (slot : Bool) (i : ImageInfo) : State :=
  let s := s.modGlb fun g => { g with image := slot, unsealed := !s.keyFused, phase := 5, dvt := if g.cascadeEn then 1 else 0 }
  let s : State := { s with fw := { s.fw with version := i.version, format := i.tableFormat, profile := i.profile } }
  let s := s.modTeller fun t => { t with run := .running }
  let s := s.applyProfile
  let s := allSlots.foldl State.presentSlot s
  if s.glb.cascadeEn then s.modDvt fun d => { d with training := true }
  else s.endStep6

/-- Both image slots are rejected (R83): PHASE 0xE, with the slot that FW_STAGE writes in IMAGE. -/
def State.enterRecovery (s : State) : State :=
  let s := s.modGlb fun g => { g with phase := 0xE, image := g.bootSlot }
  let s := s.modTeller fun t => { t with run := .running }
  allSlots.foldl State.presentSlot s

/-- The boot ROM tries the slots in the order of R81. A flash without SFDP, or too small, stops both slots with the reason at
the first. [DEDUCED, log 26] -/
def State.tryImages (s : State) (f : FlashView) : State :=
  let first := s.glb.bootSlot
  let pick := fun (b : Bool) => if b then f.b else f.a
  let load := fun (s : State) (b : Bool) =>
    (s.modLdg fun g => g.loadPayload b (pick b).length (pick b).payload).runImage b (pick b)
  let c1 := s.imageFail f.sfdpOk (pick first)
  if c1 = 0 then load s first
  else
    let s := s.recordFail first c1
    if c1 = 1 then s.enterRecovery
    else
      let c2 := s.imageFail f.sfdpOk (pick (!first))
      if c2 = 0 then load s (!first) else (s.recordFail (!first) c2).enterRecovery

/-- Lines of the retained payload that fail their check are corrected from flash as they are hashed (R414, R388).
[DEDUCED, log 27] -/
def State.rehashRetained (s : State) : State :=
  (s.ldg.chk.filter fun c => s.ldg.isPayload c.1).foldl (fun s c => (s.readLine .fabric c.1).2.2) s

/-- A retained bank 0 is discarded and self-tested, with the failing lines and spares that the test finds in it; step 4 then runs
from the flash (R414). -/
def State.discardRetained (s : State) (f : FlashView) (badLines badSpares : List Nat) : State :=
  let r := s.ldg.dropBank0.selfTest badLines badSpares fun b => b == 0
  if r.1 then (s.tested r.1 r.2).tryImages f else s.tested r.1 r.2

/-- Step 4 (R81, R414): the retained image of S2 first, then the slots of the flash. The header and the signature of the
retained image's slot are read from flash, and the signature is that of the retained payload. The failing lines and spares are
those of bank 0, where it is discarded. [DEDUCED, log 27, 56] -/
def execImageCheckEnd (f : FlashView) (badLines badSpares : List Nat) (s : State) : Out :=
  .next (
    if s.awake ∧ s.glb.phase = 3 then
      let kept := s.nsf.retained
      let s := s.modNsf fun n => { n with retained := none }
      let s : State := { s with fw := { s.fw with sfdpOk := f.sfdpOk, slotA := some f.a, slotB := some f.b } }
      match kept with
      | some (slot, old) =>
        let now := if slot then f.b else f.a
        let s := s.rehashRetained
        let same := now.length == old.length && now.payload == old.payload
        if s.imageTail { now with signatureOk := now.signatureOk && same } = 0 then s.runImage slot now
        else s.discardRetained f badLines badSpares
      | none => s.tryImages f
    else s)

/-- Whether a seated device of a port is on its way to a confirmed attach: SEAT is in debounce, or a sink shows on one CC pin and
its attach is not yet confirmed (R72 step 7, R88). A Stile whose link is down is not waited for (R78). -/
def State.attaching (s : State) (k : PortId) : Bool :=
  let w := s.pwr[k.val]
  let p := s.pd[k.val]
  s.linkUp k && w.seatA && w.seatB && !s.attached k && (!w.seatOk || (p.term1 == .rd) != (p.term2 == .rd))

/-- Hub side ready (R88): PHASE reaches 0x7. [DEDUCED, log 28] -/
def State.checkReady (s : State) : State :=
  let slotsOk := s.slots.toList.all fun x => !x.vbus || x.presented || !x.domainOn
  let portsOk := allPorts.all fun k =>
    s.mode k == .off || (!s.attached k && !s.attaching k) || !s.pwr[k.val].seatOk || (s.pwr[k.val].vbusOn && s.ports[k.val].connected)
  if s.glb.phase = 6 && slotsOk && portsOk then s.modGlb fun g => { g with phase := 7 } else s

/-! ### Staging and committing (R190, R474) -/

/-- The 4 KiB sectors a piece covers. -/
def sectorsOf (off len : Nat) : List Nat := (List.range (ceilDiv len 4096)).map fun i => off / 4096 + i

/-- A piece written over erased sectors; MGMT's 256-byte pieces erase where their offset is a multiple of 4,096 (R190, R193). -/
def stagePiece (mbx : Bool) (off : Nat) (l : List Byte) (p : List (Nat × List Byte)) : List (Nat × List Byte) :=
  let gone := if mbx ∧ off % 4096 ≠ 0 then [] else sectorsOf off l.length
  p.filter (fun x => !gone.contains (x.1 / 4096)) ++ [(off, l)]

/-- A slot's piece of 64 KiB cut into sectors, so that a later erase of one leaves the others. -/
def pieces4k : Nat → Nat → List Byte → List (Nat × List Byte)
  | 0, _, _ => []
  | f + 1, off, l => if l.isEmpty then [] else (off, l.take 4096) :: pieces4k f (off + 4096) (l.drop 4096)

/-- The image slot that is not running; in recovery the one that IMAGE names (R190, R83). -/
def State.targetSlot (s : State) : Bool := if s.glb.phase = 0xE then s.glb.image else !s.glb.image

/-- The body of FW_STAGE (R190). [DEDUCED, log 23] -/
def fwStageBody (s : State) (a : CmdArgs) : Res :=
  if s.anyEntry (fun e => e.wait == .swap) then .fail .eBusy s
  else
    let mbx := a.caller == .mbx
    let l := if mbx then [(a.arg0.toNat, a.params)] else pieces4k 17 a.arg0.toNat a.params
    .ok { s with fw := { s.fw with
      pieces := l.foldl (fun p x => stagePiece mbx x.1 x.2 p) s.fw.pieces, staged := true, committed := false } }

/-- FW_STAGE (R190, R193): offsets and lengths in sectors, or 256-byte pieces over MGMT, within the 4 MiB of an image slot. -/
def opFwStage : OpSpec :=
  { code := 0xD0, mbx := true, recovery := true
    plenOk := fun a => if a.caller == .mbx then a.params.length == 256
      else 4096 ≤ a.params.length && a.params.length ≤ 65536 && a.params.length % 4096 == 0
    argOk := fun a => a.arg0.toNat % (if a.caller == .mbx then 256 else 4096) == 0
      && a.arg0.toNat + a.params.length ≤ 0x400000 && arg1Zero a
    body := fwStageBody }
/-- FW_STAGE writes image data into the slot that is not running (R190). -/
def execFwStage (a : CmdArgs) (s : State) : Out := .next (issue opFwStage a s)

/-- An image put into an image slot's record. [DEDUCED, log 23] -/
def State.setImage (s : State) (slot : Bool) (i : ImageInfo) : State :=
  { s with fw := if slot then { s.fw with slotB := some i } else { s.fw with slotA := some i } }

/-- The body of FW_COMMIT (R190, R474). [DEDUCED, log 23; DESIGN CHOICE, log 25] -/
def fwCommitBody (s : State) (_a : CmdArgs) : Res :=
  if s.anyEntry (fun e => e.wait == .swap) then .fail .eBusy s
  else if !s.fw.staged then .fail .eNotReady s
  else
    let i := Config.stagedImage s.fw.pieces
    let c := s.imageFail s.fw.sfdpOk i
    let s := s.setImage s.targetSlot i
    if c ≠ 0 then .done .eData (toWord c) [] s
    else .ok { s with fw := { s.fw with staged := false, committed := true } }

/-- FW_COMMIT (R190). -/
def opFwCommit : OpSpec :=
  { code := 0xD1, mbx := true, recovery := true, argOk := fun a => arg0Zero a && arg1Zero a, body := fwCommitBody }
/-- FW_COMMIT verifies the staged image under the boot checks (R190). -/
def execFwCommit (a : CmdArgs) (s : State) : Out := .next (issue opFwCommit a s)

/-! ### The hitless swap (R127, R475, R476) -/

/-- What the image slot that is not running holds now: what was staged into it, or what was found there. -/
def State.otherImage (s : State) : Option ImageInfo :=
  if s.fw.staged then some (Config.stagedImage s.fw.pieces) else if s.glb.image then s.fw.slotA else s.fw.slotB

/-- Whether the running tables can be handed over to an image (R474): their format lies in the range it accepts.
[DEDUCED, log 24] -/
def State.formatOk (s : State) (i : ImageInfo) : Bool := i.oldestFormat ≤ s.fw.format && s.fw.format ≤ i.tableFormat

/-- The body of FW_SWAP (R190, R474, R475): the command hold starts. [DEDUCED, log 24] -/
def fwSwapBody (s : State) (_a : CmdArgs) : Res :=
  if s.anyEntry (fun e => e.wait == .swap) then .fail .eBusy s
  else match s.otherImage with
    | some i =>
      if s.fw.committed && s.formatOk i then .wait .effected .swap (s.modTeller fun t => { t with run := .swapping })
      else .fail .eNotReady s
    | none => .fail .eNotReady s

/-- FW_SWAP (R475). -/
def opFwSwap : OpSpec :=
  { code := 0xD2, mbx := true, argOk := fun a => arg0Zero a && arg1Zero a, body := fwSwapBody }
/-- FW_SWAP runs the hitless swap to the committed image (R475). -/
def execFwSwap (a : CmdArgs) (s : State) : Out := .next (issue opFwSwap a s)

/-- FW_SWAPPED to every slot (R166), after the events that were held (R473). [DEDUCED, log 22] -/
def State.fwSwapped (s : State) : State :=
  (s.postHeld).everySlotEvent 0x04 (bitOf s.glb.image) s.fw.version.toNat

/-- A swap rolls back (R476): the old image goes on. -/
def State.rollBack (s : State) : State :=
  let s := s.modTeller fun t => { t with run := .running }
  let s := s.modGlb fun g => { g with fFirmware := true }
  let s : State := { s with fw := { s.fw with committed := false } }
  s.fwSwapped.endWith (fun e => e.wait == .swap) .eNotReady 0

/-- The new image is ready (R475, step 4): IMAGE, the REFETCH source, FW_SWAPPED, and the completion of FW_SWAP.
[DEDUCED, log 22] -/
def execSwapReady (s : State) : Out :=
  .next (
    if s.teller.run = .swapping then
      match s.otherImage with
      | some i =>
        let new := !s.glb.image
        let s := (s.setImage new i).modGlb fun g => { g with image := new }
        let s : State := { s with fw := { s.fw with
          version := i.version, format := i.tableFormat, pieces := [], staged := false, committed := false } }
        let s := s.modLdg fun g => g.loadPayload new i.length i.payload
        let s := s.modTeller fun t => { t with run := .running }
        s.fwSwapped.endWith (fun e => e.wait == .swap) .ok 0
      | none => s.rollBack
    else s)

/-- A swap not ready by 12 ms, or faulting first (R476). -/
def execSwapRollback (s : State) : Out := .next (if s.teller.run = .swapping then s.rollBack else s)

/-! ### Teller restarts and firmware faults (R469, R470) -/

/-- Every tag in flight completes EABORTED; what has not taken effect never does (R94, R469, R470). -/
def State.abortAll (s : State) : State :=
  let l := (s.slots.toList.flatMap fun x => x.till) ++ s.teller.mbxEntry.toList
  (l.foldl State.undo s).endWith (fun _ => true) .eAborted 0

/-- Teller is halted (R470). [DESIGN CHOICE, log 12] -/
def State.haltTeller (s : State) : State := (s.abortAll.modTeller fun t => { t with run := .halted }).postHeld

/-- A firmware fault (R470): the hitless swap to the other image slot where that passes R81 and no fault came within 60 s, else
Teller halts. -/
def State.firmwareFault (s : State) : State :=
  let now := s.glb.clock
  let again := match s.teller.lastFault with | some t => decide (now < t + 480000) | none => false
  let s := s.modGlb fun g => { g with fFirmware := true }
  let s := s.modTeller fun t => { t with lastFault := some now }
  match s.otherImage with
  | some i =>
    if !again && s.imageFail s.fw.sfdpOk i == 0 then s.modTeller fun t => { t with run := .swapping } else s.haltTeller
  | none => s.haltTeller

/-- The unlock key re-arms in every source (R94, R430). -/
def State.rearmKeys (s : State) : State :=
  let s : State := { s with slots := s.slots.map fun x => { x with unlocked := false } }
  s.modGlb fun g => { g with mgmtUnlocked := false }

/-- A Teller restart begins (R94, R469); the third within 10 s is a firmware fault (R470). -/
def State.restartTeller (s : State) : State :=
  let now := s.glb.clock
  let recent := s.teller.restarts.filter fun t => decide (now < t + 80000)
  let s := s.abortAll.rearmKeys
  let s := s.modGlb fun g => { g with fFirmware := true }
  let s := s.modTeller fun t => { t with run := .restarting, restarts := recent ++ [now] }
  if recent.length ≥ 2 then s.firmwareFault else s

/-- A Teller core fails to report for 8 ms, or traps (R469): a restart; during a swap it is a rollback (R476, R477). -/
def execTellerWatchdogExpiry (s : State) : Out :=
  .next (
    if s.teller.run = .swapping then s.rollBack
    else if s.teller.run = .running ∧ s.hubSide then s.restartTeller
    else s)

/-- The code is read again from the REFETCH region, its failing lines with it (R388, R390): whether one is uncorrectable. -/
def State.refetchCode (s : State) : Bool × State :=
  ((s.ldg.chk.map (·.1)).filter fun l => decide (l < s.ldg.payloadLines)).foldl (fun a l =>
    let x := a.2.readLine .fetch l
    (a.1 || x.1 == .bad, x.2.2)) (false, s)

/-- A Teller restart ends: the code has been refetched, where a line that is still uncorrectable is a firmware fault (R470); held
events are posted, and commands are dispatched again (R469, R473). -/
def execTellerRestartEnd (s : State) : Out :=
  .next (
    if s.teller.run = .restarting then
      let x := s.refetchCode
      if x.1 then x.2.firmwareFault else (x.2.modTeller fun t => { t with run := .running }).postHeld
    else s)

/-- Lines that Teller itself reads and that fail: its code, and the tables that firmware keeps (R383). -/
def State.tellerLines (s : State) : List Nat :=
  (s.ldg.chk.map (·.1)).filter fun l =>
    decide (l < s.ldg.payloadLines) || (decide (0x4000 ≤ l ∧ l < 0x6000) && !keptTable l)

/-- Teller reads a failing line of its own (R388, R390): an uncorrectable fetch traps, and Teller restarts; an uncorrectable table
is a firmware fault. -/
def State.tellerRead (s : State) (line : Nat) : State :=
  if s.teller.run ≠ .running then s
  else
    let x := s.readLine (if line < 0x4000 then .fetch else .fabric) line
    if x.1 ≠ .bad then x.2.2
    else if line < 0x4000 then x.2.2.restartTeller
    else x.2.2.firmwareFault

/-- Within a microframe Teller may meet any of its failing lines: which is free. Without one nothing happens.
[DESIGN CHOICE, log 122] -/
def State.tellerReads (s : State) : State :=
  if s.hubSide then
    s.tellerLines.foldl (fun s l =>
      let f := s.freeBit
      if f.1 then f.2.tellerRead l else f.2) s
  else s

end Sys2Proof.Machine
end

