-- ==== Sys2Proof/Machine/Spline.lean ====
section
/-! DEFINITION. The Spline links of the Stiles (R16 to R20, R445, R464). -/
namespace Sys2Proof.Machine

/-- The charges and the slot of a port that is not powered are returned; VCONN's stays where its switch is closed, or a swap
holds it (R464). -/
def State.returnCharges (s : State) (k : PortId) : State :=
  if s.powered k then s
  else
    let keep := s.pd[k.val].vconnOn || s.pd[k.val].vconnSwap != .none
    s.modPwr k fun w => { w.keepCharges {} with chgV := if keep then w.chgV else 0 }

/-- A Stile that has lost its link for good shuts one of its ports (R18, R372, R464): both paths off, with DISCH until VBUS is
below 0.8 V, on every port; a port that was on gives POWER 0xD with the link as its cause; a port that is not OFF comes to
WAIT_ATTACH, its attach lost, and its request for power stays. The Stile does it itself: the event is kept, and Escrow's
charges stay, until the link is up. [DEDUCED, log 57, 164] -/
def State.shutPort (s : State) (k : PortId) : State :=
  let was := s.powered k
  let inTr := s.pwr[k.val].trans != .none
  let had := s.pd[k.val].contract.isSome
  let s := s.pathsOff k true
  let off := s.mode k = .off
  let s := s.modPwr k fun w => { w with queued := none, budgetWait := false, lastOff := if was then 0xD else w.lastOff }
  let s := if s.attached k then
      (s.pdDetach k (if off then .disabled else if s.pwr[k.val].seatOk then .unattachedSrc else .seatWait) inTr had).modPd k
        Pd.ccStep
    else s
  let s := s.loseDevice k (if off then .off else .waitAttach) .eDetached true (Wait.endsOnUsbLoss k)
  if was then s.powerEvent k 0xD 1 else s

/-- A Stile that has lost its link for good shuts its ports (R18, R464). [DEDUCED, log 164] -/
def State.shutStile (s : State) (i : StileId) : State := (portsOf i).foldl State.shutPort s

/-- A link is declared down (R17, R18): the Stile holds its ports; the fourth time within 10 s quarantines it (R464).
[DEDUCED, log 114] -/
def State.linkGoesDown (s : State) (i : StileId) : State :=
  let now := s.glb.clock
  let recent := (s.stiles[i.val].downTimes.filter fun t => decide (now < t + 80000)) ++ [now]
  let s := s.modStile i fun x => { x with
    up := false, retraining := true, holdover := true, down := satAdd x.down 1, replayAt := none, failedRetries := 0
    downTimes := recent }
  if recent.length ≥ 4 then
    (s.modStile i fun x => { x with quarantined := true, shutdown := true, holdover := false }).shutStile i
  else s

/-- Whether a flit of 96 bits fails its CRC: 10 bytes of header and payload, then their CRC-16 (R16, R17). The initial value
of the CRC is Config's. [DESIGN CHOICE, log 165] -/
def flitFails (l : List Byte) : Bool := l.length != 12 || leAt l 10 2 != crc16 Config.flitCrcInit (l.take 10)

/-- A flit fails its CRC, or its acknowledgement is missing: it is sent again from its place in the replay buffer, which is
counted (R17). `again` says that it is the retransmission that failed: after 16 of the same flit in a row the link is down.
A failure of another flit, or a first failure, starts a new count. [DEDUCED, log 142] -/
def execSplineFlitError (i : StileId) (place : BitVec 3) (seen : Option (List Byte)) (again : Bool) (s : State) : Out :=
  .next (
    let x := s.stiles[i.val]
    if x.up && (seen.map flitFails).getD true then
      let same := again && x.replayAt == some place
      if same && x.failedRetries ≥ 15 then s.linkGoesDown i
      else s.modStile i fun x => { x with
        retry := satAdd x.retry 1, replayAt := some place, failedRetries := if same then x.failedRetries + 1 else 0 }
    else s)

/-- Retransmissions of the flit under way that are left before the link is down: 16 of a flit that fails afresh (R17). -/
def Stile.retriesLeft (x : Stile) : Nat := if x.replayAt.isSome then 15 - x.failedRetries else 16

/-- 16 consecutive failed retransmissions declare the link down (R17): the row stands for those that the flit under way has
left. [DEDUCED, log 142] -/
def execSplineLinkDown (i : StileId) (s : State) : Out :=
  .next (
    if s.stiles[i.val].up then (s.modStile i fun x => { x with retry := satAdd x.retry x.retriesLeft }).linkGoesDown i else s)

/-- The link has been down for 100 ms: the Stile shuts its ports (R18). -/
def execSplineHoldoverExpiry (i : StileId) (s : State) : Out :=
  .next (
    if s.stiles[i.val].holdover then
      (s.modStile i fun x => { x with holdover := false, shutdown := true }).shutStile i
    else s)

/-- A port of a Stile whose link is up again (R464): the charges of a port that the Stile turned off are returned, what was
asked of it during the outage is done (a domain that went off, an entry into sleep, a switch-off), and a port
that has none gets its CC side (R78). [DEDUCED, log 114] -/
def State.resyncPort (s : State) (k : PortId) : State :=
  let s := s.returnCharges k
  let s := if s.stileOn k && !s.nsf.entryOff then s else (s.forceOff k none).vconnOff k
  if s.mode k = .off then
    if s.powered k || s.pd[k.val].cc != .disabled then s.toOff k else s
  else
    let s :=
      if !s.powered k || s.pwr[k.val].want then s
      else if s.anyEntry (fun e => Wait.isCycle k e.wait) then
        (s.cyclePaths k).modEntries (fun e => Wait.isCycle k e.wait) fun e => { e with point := .effected }
      else s.switchOff k
    let s := if s.pd[k.val].cc = .disabled then s.enableCc k else s
    s.tryQueue k

/-- The link trains (R17, R78, R464): VGD must be in range and the reset line released. Kept events are delivered, then the
ports are brought into line, before any grant. -/
def execSplineLinkUp (i : StileId) (s : State) : Out :=
  .next (
    let x := s.stiles[i.val]
    if s.awake && s.glb.clocksOk && !s.glb.held && x.vgdOk && !x.up then
      let s := s.modStile i fun x => { x with
        up := true, retraining := false, holdover := false, shutdown := false, resetLine := false
        replayAt := none, failedRetries := 0 }
      (portsOf i).foldl State.resyncPort (s.deliverKept i)
    else s)

end Sys2Proof.Machine
end

