-- ==== Sys2Proof/Machine/Tally.lean ====
section
/-! DEFINITION. Tally, MSYNC and Dovetail (file 08): measurements and discipline modes (R242 to R246), relabels (R241), the rows
TLY_SET, TLY_MODE and TLY_QUERY, the MSYNC pins (R249, R250), the Dovetail frames (R252 to R259), and Tally's part of a
microframe boundary. -/
namespace Sys2Proof.Machine

/-! ### Time (R237, R238, R244) -/

/-- A microframe in 1/256 ns. -/
def mfUnits : Int := 32000000

/-- 2 to the 40: RATE's unit is its inverse (R261). -/
def rateUnit : Int := 1099511627776

/-- The timestamp of the current microframe's SOF target: T at the boundary in the format of R238. -/
def Tally.sofTime (t : Tally) : Dword := t.t <<< 8

/-- A difference of timestamps reduced into −half < e ≤ half of a microframe (R244); `m` is the microframe in the unit used.
[DEDUCED, log 38] -/
def reduceBy (m d : Int) : Int :=
  let r := d % m
  if 2 * r > m then r - m else r

/-- A timestamp near a target, at most `w` away (R239, R35): a free value. [DESIGN CHOICE, log 31] -/
def State.stampNear (s : State) (x : Dword) (w : Nat) : Dword × State :=
  let r := s.freeBelow (2 * w + 1)
  (x + BitVec.ofInt 64 ((r.1 : Int) - w), r.2)

/-- T at the present moment: T of the boundary and a free part of the microframe (R237). [DESIGN CHOICE, log 30] -/
def State.tNow (s : State) : Dword × State :=
  let r := s.freeBelow 125000
  (s.tally.t + BitVec.ofNat 64 r.1, r.2)

/-! ### The reference (R243) -/

/-- Whether the device follows Dovetail: position 1 or 2. -/
def State.followsDvt (s : State) : Bool := s.dvt.chainPos == 1 || s.dvt.chainPos == 2
/-- Whether the device follows MSYNC_IN. -/
def State.followsMsync (s : State) : Bool := !s.followsDvt && testBit s.tally.msiSnap 31
/-- Whether the device has a reference. -/
def State.hasRef (s : State) : Bool := s.followsDvt || s.followsMsync

/-- A TALLY event (R263). -/
def State.tallyEvent (s : State) (aux data : Nat) : State := s.everySlotEvent 0x30 aux data

/-- A signed number as an event's DATA. -/
def dataOf (x : Int) : Nat := (x % 4294967296).toNat

/-- The sum of RATE over the microframes kept. [DESIGN CHOICE, log 37] -/
def Tally.rateSum (t : Tally) : Int := t.rates.foldl (fun a r => a + r.toInt) 0

/-- Effective FREE in holdover: RATE goes to its mean over the last second (R242, R245); the rounding of the mean is free.
[DESIGN CHOICE, log 37] -/
def State.enterHoldover (s : State) : State :=
  let n : Nat := s.tally.rates.length
  let r := s.freeBit
  let floor := s.tally.rateSum / (n : Int)
  let mean := if s.tally.rateSum % (n : Int) ≠ 0 ∧ r.1 then floor + 1 else floor
  (r.2.modTally fun t => { t with mode := .free, holdTo := if n = 0 then none else some mean }).tallyEvent 0x3
    (bitOf s.followsDvt)

/-- The reference is lost (R245): holdover after a lock since reset; otherwise Tally runs at the RATE it has.
[DEDUCED, log 36] -/
def State.refLost (s : State) : State :=
  let s := s.modTally fun t => { t with refOk := false, good := 0, bad := 0, acquired := false }
  if s.tally.req = .locked then
    if s.tally.everLocked then (if s.tally.mode = .free then s else s.enterHoldover)
    else s.modTally fun t => { t with mode := .slew }
  else s

/-- An expected measurement is missing; the fourth in a row loses the reference (R245). -/
def State.measureMissing (s : State) : State :=
  let s := s.modTally fun t => { t with missing := satAdd t.missing 1 }
  if s.tally.missing = 4 then s.refLost else s

/-- Acquisition begins (R244, R248): effective SLEW from the current RATE. -/
def Tally.acquire (t : Tally) : Tally :=
  { t with mode := .slew, good := 0, bad := 0, acquired := false, target := 0, holdTo := none }

/-- The choice of reference has changed (R243): its measurements start anew. [DEDUCED, log 36] -/
def State.refChanged (s : State) : State :=
  let s := s.modTally fun t => { t with refOk := false, missing := 0, good := 0, bad := 0 }
  if !s.hasRef then s.refLost
  else if s.tally.req = .locked then s.modTally Tally.acquire
  else s

/-- A reference measurement gives the phase error e, in 1/256 ns (R244, R245). [DEDUCED, log 33, 34] -/
def State.measure (s : State) (e : Int) : State :=
  let s := s.modTally fun t => { t with refOk := true, missing := 0 }
  let near := decide (-2560 ≤ e ∧ e ≤ 2560)
  let outlier := decide (e < -256000 ∨ 256000 < e)
  let phased := s.modTally fun t => { t with phase := BitVec.ofInt 32 e, err := e * rateUnit, bad := 0 }
  if s.tally.req ≠ .locked then phased
  else match s.tally.mode with
    | .free => phased.modTally fun t => { t.acquire with good := bitOf near }
    | .slew =>
      let s := phased.modTally fun t => { t with good := if near then t.good + 1 else 0 }
      if s.tally.good ≥ 64 then
        (s.modTally fun t => { t with mode := .locked, everLocked := true, acquired := true, good := 0 }).tallyEvent 0x1
          s.tally.phase.toNat
      else s
    | .locked =>
      if outlier then
        let s := s.modTally fun t => { t with outliers := satAdd t.outliers 1, bad := t.bad + 1 }
        if s.tally.bad ≥ 4 then (s.modTally Tally.acquire).tallyEvent 0x2 (dataOf (roundDiv e 256)) else s
      else phased

/-! ### TLY_SET, TLY_MODE, TLY_QUERY (R247, R248, R262) -/

/-- TLY_SET's body (R247). [DEDUCED, log 38] -/
def tlySetBody (s : State) (a : CmdArgs) : Res :=
  if s.tally.req = .locked ∧ s.followsDvt then .fail .eNotReady s
  else
    let r := s.tNow
    let d : Int := (leAt a.params 0 8 : Int) - (r.1.toNat : Int)
    let rest := reduceBy 125000 d
    .ok (r.2.modTally fun t => { t with
      relabelT := (d - rest) / 125000
      target := if t.req = .slew then 256 * rest * rateUnit else t.target })

/-- TLY_SET's row. -/
def opTlySet : OpSpec :=
  { code := 0x70, plenOk := fun a => a.params.length == 8, argOk := fun a => arg0Zero a && arg1Zero a, body := tlySetBody }
/-- TLY_SET relabels T by whole microframes and hands the residual to the requested mode (R247). -/
def execTlySet (a : CmdArgs) (s : State) : Out := .next (issue opTlySet a s)

/-- The mode a code of TLY_MODE names (R242). -/
def tallyModeOf (c : Nat) : TallyMode := if c = 0 then .locked else if c = 1 then .slew else .free
/-- The code of a mode (R242). -/
def TallyMode.code : TallyMode → Nat
  | .locked => 0 | .slew => 1 | .free => 2

/-- TLY_MODE's row: the mode changes at the next boundary (R248). -/
def opTlyMode : OpSpec :=
  { code := 0x71, argOk := fun a => a.arg0.toNat < 3 && arg1Zero a
    body := fun s a => .snap 0 (s.modTally fun t => { t with nextReq := some (tallyModeOf a.arg0.toNat) }) }
/-- TLY_MODE sets Tally's requested mode at the next boundary (R248). -/
def execTlyMode (a : CmdArgs) (s : State) : Out := .next (issue opTlyMode a s)

/-- TLY_STATUS (R261). -/
def State.tlyStatus (s : State) : Word :=
  let t := s.tally
  toWord (fieldAt t.outliers.toNat 16 + fieldAt t.missing.toNat 8 + flagAt t.everLocked 6 + flagAt t.refOk 5
    + flagAt s.followsDvt 4 + fieldAt t.req.code 2 + t.mode.code)

/-- LINK_IN of TLY_DVT_STATUS (R261). -/
def Dovetail.linkCode (d : Dovetail) : Nat := if !d.linkIn then 0 else if d.trained then 2 else 1

/-- TLY_DVT_STATUS (R261). -/
def Dovetail.status (d : Dovetail) : Word :=
  toWord (fieldAt d.ringDelay.toNat 16 + fieldAt d.ringSize.toNat 10 + flagAt d.conflict 9 + flagAt d.bypass 8
    + fieldAt d.chainPos.toNat 2 + d.linkCode)

/-- TLY_DVT_CNT (R261), read without clearing. -/
def Dovetail.cnt (d : Dovetail) : Word :=
  toWord (fieldAt d.codeErr.toNat 24 + fieldAt d.crcErr.toNat 16 + fieldAt d.holdRx.toNat 8 + d.holdTx.toNat)

/-- The 48 bytes of TLY_QUERY (R262). -/
def State.tlyBytes (s : State) (now : Dword) : List Byte :=
  leBytes 8 now.toNat ++ leBytes 8 s.tally.n.toNat ++ leBytes 4 s.tlyStatus.toNat ++ leBytes 4 s.tally.phase.toNat
    ++ leBytes 4 s.tally.rate.toNat ++ leBytes 4 s.dvt.status.toNat ++ leBytes 8 s.tally.sofTime.toNat
    ++ leBytes 8 s.tally.msiTs.toNat

/-- TLY_QUERY's row. -/
def opTlyQuery : OpSpec :=
  { code := 0x72, mbx := true, argOk := fun a => arg0Zero a && arg1Zero a
    body := fun s _ => let r := s.tNow; .done .ok 0 (s.tlyBytes r.1) r.2 }
/-- TLY_QUERY returns 48 bytes of Tally state (R262). -/
def execTlyQuery (a : CmdArgs) (s : State) : Out := .next (issue opTlyQuery a s)

/-! ### MSYNC (R249, R250) -/

/-- PERIOD_MF of TLY_MSI_CFG or TLY_MSO_CFG; 0 means 8,192 (R261). -/
def msPeriod (w : Word) : Nat := let p := bitsAt w.toNat 17 12; let p := p + 4096 * bitOf (testBit w 29); if p = 0 then 8192 else p
/-- IN_OFFSET or OUT_OFFSET in ns (R261). -/
def msOffset (w : Word) : Nat := bitsAt w.toNat 0 17

/-- Whether an edge counts as an expected one: PERIOD_MF counted from the first accepted edge (R249). `c` is the count of
microframe boundaries of the edge's microframe. [DESIGN CHOICE, log 35] -/
def Tally.edgeDue (t : Tally) (c : Int) : Bool :=
  match t.msiFirst with
  | none => true
  | some f => (c - f) % (msPeriod t.msiSnap : Int) == 0

/-- An edge on MSYNC_IN (R249), of a pulse `widthNs` long: accepted while acquiring whatever its time, otherwise where it is
within ±1 µs of an expected time; one further away, in a microframe in which one is due, is an outlier (R245). [DEDUCED, log
33; DESIGN CHOICE, log 35] -/
def execMsyncInEdge (rising : Bool) (ts : Dword) (widthNs : Nat) (s : State) : Out :=
  .next (
    let t := s.tally
    let falling := testBit t.msiSnap 30
    if !t.running || !testBit t.msiSnap 31 || rising == falling || widthNs < 50 then s
    else
      let d := (ts - t.sofTime).toInt - 256 * (msOffset t.msiSnap : Int)
      let e := reduceBy mfUnits d
      let j := (d - e) / mfUnits
      let c := (s.glb.clock : Int) + j
      let near := decide (-256000 ≤ e ∧ e ≤ 256000)
      let locked := t.mode == TallyMode.locked && t.req == TallyMode.locked
      let accept := !locked || (near && t.edgeDue c)
      let s := if accept then s.modTally fun t => { t with
          msiTs := ts, msiN := (t.n + BitVec.ofInt 64 j).setWidth 32
          msiFirst := match t.msiFirst with | some f => some f | none => some c.toNat } else s
      if s.followsMsync && (accept || (!near && t.edgeDue c)) then s.measure e else s)

/-- An expected MSYNC_IN edge does not arrive (R249). -/
def execMsyncInMissing (s : State) : Out :=
  .next (if s.tally.running && s.followsMsync && s.tally.msiFirst.isSome then s.measureMissing else s)

/-- MSYNC_OUT drives its pulse (R250): its target time, width and level, and the timestamp of its launch.
[DESIGN CHOICE, log 31] -/
def execMsyncOutPulse (s : State) : Out :=
  .next (
    let t := s.tally
    if t.running && testBit t.msoSnap 31 && t.n.toNat % msPeriod t.msoSnap == 0 then
      let at_ := t.t + BitVec.ofNat 64 (msOffset t.msoSnap)
      let r := s.stampNear (at_ <<< 8) 384
      r.2.modTally fun t => { t with msoPulse := some (at_, max 100 t.widSnap.toNat, !testBit t.msoSnap 30), msoTs := r.1 }
    else s)

/-! ### Dovetail frames (R252, R481) -/

/-- The device's MGMT address. -/
def State.mgmtAddress (s : State) : BitVec 7 := BitVec.ofNat 7 (0x38 + s.nsf.mgmtAddr.toNat)

/-- A frame's bytes with their CRC-16, low byte first. -/
def withCrc16 (l : List Byte) : List Byte := l ++ leBytes 2 (crc16 0xFFFF l)

/-- A TRAIN frame, without its control characters. -/
def trainFrame (origin : BitVec 7) (hop : Byte) : List Byte := withCrc16 [0x02, origin.setWidth 8, hop]

/-- A SYNC frame, without its control characters. -/
def syncFrame (pos : Nat) (mode : TallyMode) (launch n : Dword) : List Byte :=
  withCrc16 ([0x01, BitVec.ofNat 8 (fieldAt mode.code 2 + pos)] ++ leBytes 8 launch.toNat ++ leBytes 8 n.toNat)

/-- A HOLD frame, without its control character. -/
def holdFrame (origin : BitVec 2) (cause : Nat) (seq : Byte) : List Byte :=
  let a : Byte := BitVec.ofNat 8 (fieldAt cause 2 + origin.toNat)
  [a, seq, BitVec.ofNat 8 (crc8 [a, seq])]

/-- Whether a frame of `n` body bytes has its CRC-16. -/
def crc16Ok (n : Nat) (l : List Byte) : Bool := l.length == n + 2 && leAt l n 2 == crc16 0xFFFF (l.take n)

/-- Whether Dovetail runs: CASCADE_EN is 1 and step 5 has ended (R87). -/
def State.dvtRuns (s : State) : Bool :=
  s.awake && s.glb.cascadeEn && 5 ≤ s.glb.phase.toNat && s.glb.phase.toNat ≤ 7

/-- What a frame on DOVE_IN shows of the link: valid characters, and the invalid ones, which are counted (R253, R261).
[DESIGN CHOICE, log 40] -/
def State.hearLink (s : State) (f : DoveFrame) : State :=
  s.modDvt fun d => { d with linkIn := true, codeErr := satAdd d.codeErr f.invalid }

/-- A frame is discarded and counted (R253). -/
def State.badFrame (s : State) : State := s.modDvt fun d => { d with crcErr := satAdd d.crcErr 1 }

/-- The device is trained (R254, R87). [DEDUCED, log 39] -/
def State.dvtTrained (s : State) (size pos : Nat) : State :=
  let before := s.followsDvt
  let s := s.modDvt fun d => { d with
    trained := true, training := false, chainPos := BitVec.ofNat 2 pos, bypass := false, syncMissing := 0, syncSeen := true }
  let s := s.modGlb fun g => { g with dvt := 2 }
  let s := if s.followsDvt || before then s.refChanged else s
  (s.tallyEvent 0x4 (fieldAt size 2 + pos)).endStep6

/-- The origin with the lowest address among those heard, the device itself at hop count −1 among them: the position that it
gives the device (R254). [DEDUCED, log 39] -/
def positionOf (own : BitVec 7) (heard : List (BitVec 7 × Nat)) : Nat :=
  (heard.foldl (fun (best : BitVec 7 × Nat) (x : BitVec 7 × Nat) => if x.1.toNat < best.1.toNat then (x.1, x.2 + 1) else best)
    (own, 0)).2

/-- Two devices of the ring report the same MGMT address (R255): no device trains. CONFLICT stays set, and bars training,
until valid characters return after a loss, or a reset. [DEDUCED, log 39; DESIGN CHOICE, log 178] -/
def State.dvtConflict (s : State) : State :=
  if s.dvt.conflict then s
  else (s.modDvt fun d => { d with conflict := true, rounds := 0 }).tallyEvent 0x8 s.mgmtAddress.toNat

/-- The device's own TRAIN frame has come round: one round ends (R254, R255). A trained device takes the new ring size and
delay and keeps its position. [DEDUCED, log 39; DESIGN CHOICE, log 178] -/
def State.ringClosed (s : State) (hop : Nat) (delayNs : BitVec 16) : State :=
  let d := s.dvt
  let size := hop + 1
  let pos := positionOf s.mgmtAddress d.heard
  let n := d.heard.length
  let s := s.modDvt fun d => { d with ringDelay := delayNs, ringSize := if size ≤ 3 then BitVec.ofNat 2 size else 0, heard := [] }
  if d.trained then s
  else if n + 1 > size then s.dvtConflict
  else if n + 1 < size ∨ d.conflict then s.modDvt fun d => { d with rounds := 0 }
  else
    let r := if d.candidate = (size, pos) then d.rounds + 1 else 1
    let s := s.modDvt fun d => { d with rounds := r, candidate := (size, pos) }
    if r < 16 then s
    else if pos ≥ 3 then s.modDvt fun d => { d with bypass := true, chainPos := 3 }
    else if size > 3 then s
    else s.dvtTrained size pos

/-- A TRAIN frame of another device is noted: the device's own address, or one origin at two hop counts in one round, is a
duplicate address (R255). [DEDUCED, log 39] -/
def State.hearOrigin (s : State) (o : BitVec 7) (hop : Nat) : State :=
  if s.dvt.trained then (if s.dvt.heard.any (fun x => x.1 == o) then s else s.modDvt fun d => { d with heard := d.heard ++ [(o, hop)] })
  else if o = s.mgmtAddress then s.dvtConflict
  else match s.dvt.heard.find? (fun x => x.1 == o) with
    | some x => if x.2 = hop then s else s.dvtConflict
    | none => s.modDvt fun d => { d with heard := d.heard ++ [(o, hop)] }

/-- A TRAIN frame is received (R254): repeated in bypass, the end of a round where the device itself has sent it, or else
forwarded with its hop count incremented. A frame that is broken, or whose CRC or TYPE is wrong, is discarded and counted
(R253). [DESIGN CHOICE, log 178] -/
def execDovetailTrainReceived (f : DoveFrame) (delayNs : BitVec 16) (s : State) : Out :=
  .next (
    if !s.dvtRuns then s
    else if s.dvt.bypass then s.modDvt fun d => { d with linkIn := true, sent := [f.bytes] }
    else
      let s := s.hearLink f
      if f.broken || !crc16Ok 3 f.bytes || leAt f.bytes 0 1 != 2 then s.badFrame
      else
        let o : BitVec 7 := BitVec.ofNat 7 (leAt f.bytes 1 1)
        let hop := leAt f.bytes 2 1
        if f.own && o == s.mgmtAddress then s.ringClosed hop delayNs
        else (s.hearOrigin o hop).modDvt fun d => { d with sent := [trainFrame o (BitVec.ofNat 8 (hop + 1))] })

/-- The ring does not close within 50 ms (R255, R87): step 6 ends untrained, and the device keeps listening. -/
def execDovetailTrainTimeout (s : State) : Out :=
  .next (
    if s.dvtRuns && s.glb.phase == 5 && !s.dvt.trained then (s.modGlb fun g => { g with dvt := 3 }).endStep6 else s)

/-- A trained device launches its SYNC frame at t = 62.5 µs (R256). [DESIGN CHOICE, log 31] -/
def execDovetailSyncLaunch (s : State) : Out :=
  .next (
    if s.dvtRuns && s.tally.running && s.dvt.trained then
      let r := s.stampNear (s.tally.sofTime + 16000000) 64
      r.2.modDvt fun d => { d with sent := [syncFrame d.chainPos.toNat s.tally.mode r.1 s.tally.n] }
    else s)

/-- The internal delay of the part in 1/256 ns (R437). -/
def State.dvtDelay (s : State) : Nat := s.vaultRow 3

/-- A follower takes a SYNC frame as a measurement (R256): T and N are relabelled from the next boundary where they differ.
[DEDUCED, log 38] -/
def State.syncMeasure (s : State) (launch ns arrival : Dword) : State :=
  let own := arrival - BitVec.ofNat 64 (s.dvtDelay + s.dvt.cableSnap.toNat)
  let d := (own - launch).toInt
  let e := reduceBy mfUnits d
  let whole := (d - e) / mfUnits
  let j := roundDiv ((own - s.tally.sofTime).toInt - e - 16000000) 32000000
  let dn := (ns - (s.tally.n + BitVec.ofInt 64 j)).toInt
  let s := s.modTally fun t => { t with relabelT := -whole, relabelN := dn }
  (s.modDvt fun d => { d with syncSeen := true, syncMissing := 0 }).measure e

/-- A SYNC frame is received (R256); one that is broken, or whose CRC or TYPE is wrong, is discarded and counted (R253).
[DESIGN CHOICE, log 178] -/
def execDovetailSyncReceived (f : DoveFrame) (arrival : Dword) (s : State) : Out :=
  .next (
    if !s.dvtRuns then s
    else if s.dvt.bypass then s.modDvt fun d => { d with linkIn := true, sent := [f.bytes] }
    else
      let s := s.hearLink f
      if f.broken || !crc16Ok 18 f.bytes || leAt f.bytes 0 1 != 1 then s.badFrame
      else if s.dvt.trained && s.followsDvt && s.tally.running then
        s.syncMeasure (BitVec.ofNat 64 (leAt f.bytes 2 8)) (BitVec.ofNat 64 (leAt f.bytes 10 8)) arrival
      else s)

/-! ### Holds over Dovetail (R257, R259, R32) -/

/-- The groups of a mask, rising. -/
def groupsOf (m : BitVec 16) : List GroupId := allGroups.filter fun g => testBit m g.val

/-- A hold raised on this device is broadcast (R257): three copies with the next sequence number, behind the frames `before`
that the same command has sent. Cause 0 Clearance, 1 Mint. [DEDUCED, log 42] -/
def State.sendHold (s : State) (cause : Nat) (before : List (List Byte)) : State :=
  if s.dvtRuns && s.dvt.trained then
    s.modDvt fun d =>
      let f := holdFrame d.chainPos cause d.seq
      { d with sent := before ++ [f, f, f], seq := d.seq + 1, holdTx := satAdd d.holdTx 1 }
  else s

/-- Valid characters return on DOVE_IN and the device retrains; it keeps its position until then, and sends no SYNC and no
HOLD frame (R259). [DESIGN CHOICE, log 178] -/
def execDoveInReturn (s : State) : Out :=
  .next (
    if s.dvtRuns && !s.dvt.linkIn then
      s.modDvt fun d => { d with
        linkIn := true, trained := false, training := true, bypass := false, conflict := false, rounds := 0, heard := [] }
    else s)

/-! ### Tally at a microframe boundary (R237, R240 to R242, R245, R248) -/

/-- Whether RATE gives a microframe within 125,000 ns ± 50 ns (R240). -/
def rateOk (r : Int) : Bool := 125000 * r ≤ 50 * (rateUnit + r) && -(125000 * r) ≤ 50 * (rateUnit + r)

/-- Whether two rates in a row give microframes that differ by at most 0.125 ns (R240). -/
def rateStepOk (a b : Int) : Bool :=
  let lim := (rateUnit + a) * (rateUnit + b)
  1000000 * rateUnit * (a - b) ≤ lim && 1000000 * rateUnit * (b - a) ≤ lim

/-- The highest RATE that may follow a RATE (R240): its microframe is at most 0.125 ns and 1 ppm shorter, and within 50 ns. -/
def rateUp (a : Int) : Int :=
  min (50 * rateUnit / 124950) (a + (rateUnit + a) ^ 2 / (1000000 * rateUnit - rateUnit - a))

/-- The lowest RATE that may follow a RATE (R240). -/
def rateDown (a : Int) : Int :=
  max (-(50 * rateUnit / 125050)) (a - (rateUnit + a) ^ 2 / (1000000 * rateUnit + rateUnit + a))

/-- A RATE brought within the steps of R240. [DESIGN CHOICE, log 32] -/
def limitRate (old want : Int) : Int := max (rateDown old) (min (rateUp old) want)

/-- The loop's bandwidth: hertz, and what divides them (R246). -/
def State.bandwidth (s : State) : Nat × Nat := if s.followsDvt then (100, 1) else (20, msPeriod s.tally.msiSnap)

/-- RATE as the loop of R246 sets it on a phase error, within R240: the loop's terms are Config's. [DESIGN CHOICE, log 32] -/
def State.loopStep (s : State) (err : Int) : State :=
  let b := s.bandwidth
  let old := s.tally.rate.toInt
  let new := limitRate old (Config.loopRate s.glb.fv b.1 b.2 err old)
  (s.modTally fun t => { t with rate := BitVec.ofInt 32 new }).modGlb fun g => { g with fv := g.fv + 1 }

/-- RATE drives a phase error to zero as fast as R240 allows (R244): by its largest step while the error is beyond 16 µs,
which is more than RATE needs to come back to 0, and then by the loop. [DESIGN CHOICE, log 172] -/
def State.pull (s : State) (err : Int) : State :=
  let far := 16000 * 256 * rateUnit
  if err > far then s.modTally fun t => { t with rate := BitVec.ofInt 32 (rateDown t.rate.toInt) }
  else if err < -far then s.modTally fun t => { t with rate := BitVec.ofInt 32 (rateUp t.rate.toInt) }
  else s.loopStep err

/-- What is left of the residual of a TLY_SET after one microframe at RATE; once it is passed, RATE stays as it is (R242).
[DESIGN CHOICE, log 172] -/
def Tally.targetLeft (t : Tally) : Int :=
  let left := t.target - mfUnits * t.rate.toInt
  if (t.target > 0 && left > 0) || (t.target < 0 && left < 0) then left else 0

/-- RATE at a boundary, by the effective mode (R242). [DESIGN CHOICE, log 32, 37] -/
def State.discipline (s : State) : State :=
  match s.tally.mode with
  | .locked => s.loopStep s.tally.err
  | .slew =>
    if s.tally.req = .slew then
      let s := s.modTally fun t => { t with target := t.targetLeft }
      if s.tally.target = 0 then s else s.pull (-s.tally.target)
    else if s.tally.refOk then s.pull s.tally.err
    else s
  | .free =>
    match s.tally.holdTo with
    | none => s
    | some m =>
      let old := s.tally.rate.toInt
      let new := limitRate old m
      s.modTally fun t => { t with rate := BitVec.ofInt 32 new, holdTo := if new = m then none else some m }

/-- The mode asked for takes effect (R248). -/
def State.applyMode (s : State) : State :=
  match s.tally.nextReq with
  | none => s
  | some m =>
    let old := s.tally.req
    let s := s.modTally fun t => { t with nextReq := none, req := m }
    if m = old then s
    else match m with
      | .slew => s.modTally fun t => { t.acquire with mode := .slew }
      | .free => s.modTally fun t => { t.acquire with mode := .free }
      | .locked =>
        if !s.tally.refOk && s.tally.everLocked then s.enterHoldover else s.modTally Tally.acquire

/-- What is labelled with microframe numbers keeps its physical microframe under a relabel of N (R241). -/
def Mint.relabel (m : Mint) (d : Int) : Mint :=
  let f : Dword → Dword := fun x => x + BitVec.ofInt 64 d
  { m with
    groups := m.groups.map fun g => { g with armed := g.armed.map f, armedRun := g.armedRun.map f }
    chans := m.chans.map fun c => { c with
      pending := c.pending.map fun x => { x with k := f x.k, due := f x.due }
      sample := c.sample.map fun x => { x with k := f x.k, due := f x.due }
      past := c.past.map fun x => (f x.1, x.2) }
    sentN := f m.sentN }

/-- The relabels due at a boundary, with their events (R241, R263). [DEDUCED, log 38] -/
def State.applyRelabels (s : State) : State :=
  let rt := s.tally.relabelT
  let rn := s.tally.relabelN
  let s := s.modTally fun t => { t with
    t := t.t + BitVec.ofInt 64 (125000 * rt), n := t.n + BitVec.ofInt 64 rn, relabelT := 0, relabelN := 0 }
  let s : State := if rn = 0 then s else { s with mint := s.mint.relabel rn }
  let s := if rt = 0 then s else s.tallyEvent 0x7 (dataOf rt)
  if rn = 0 then s else s.tallyEvent 0x6 (dataOf rn)

/-- Tally's and Dovetail's registers as the snapshot takes them (R31, R261). -/
def State.tallySnapshot (s : State) : State :=
  let before := s.followsMsync
  let s := s.modTally fun t => { t with
    msiSnap := t.msiCfg, msoSnap := t.msoCfg, widSnap := t.msoWid
    msiFirst := if testBit t.msiCfg 31 then t.msiFirst else none }
  let s := s.modDvt fun d => { d with holdSnap := d.holdGroups, lossSnap := d.lossHold, cableSnap := d.cable }
  if s.followsMsync == before then s else s.refChanged

/-- A follower's SYNC frame that did not come counts as missing (R256, R245). [DEDUCED, log 41] -/
def State.syncCheck (s : State) : State :=
  if s.followsDvt && s.dvt.trained && s.dvt.linkIn then
    let seen := s.dvt.syncSeen
    let s := s.modDvt fun d => { d with syncSeen := false, syncMissing := if seen then 0 else d.syncMissing + 1 }
    if seen then s else s.measureMissing
  else s

/-- The device sends its TRAIN frame (R254); a device in bypass sends none of its own (R255). -/
def State.trainSend (s : State) : State :=
  if s.dvtRuns && !s.dvt.bypass then s.modDvt fun d => { d with sent := [trainFrame s.mgmtAddress 0] } else s

/-- Tally's part of a microframe boundary (R237): T and N count, relabels and mode changes act, RATE is set for the microframe
that begins. -/
def State.tallyBoundary (s : State) : State :=
  let s := s.modTally fun t => { t with t := t.t + 125000, n := t.n + 1, err := t.err + mfUnits * t.rate.toInt, rates := (t.rate :: t.rates).take 8000 }
  s.applyRelabels.tallySnapshot.applyMode.syncCheck.discipline.trainSend

end Sys2Proof.Machine
end

