-- ==== Sys2Proof/Machine/MintCalc.lean ====
section
/-! DEFINITION. Mint's arithmetic: number formats (R264, R265), segments (R271, R272), the stop profile (R294), and the next
setpoint of a channel's queue (R274, R293). Numbers are in the LSBs of their formats unless a comment says otherwise. -/
namespace Sys2Proof.Machine

/-! ### Formats (R264, R265, R272) -/

/-- A signed 64-bit number modulo 2^64 (R265). -/
def wrap64 (x : Int) : Int :=
  let r := x % 18446744073709551616
  if r ≥ 9223372036854775808 then r - 18446744073709551616 else r

/-- A signed 64-bit number held at the ends of its range (R265). -/
def sat64 (x : Int) : Int := max (-9223372036854775808) (min 9223372036854775807 x)

/-- Whether a number is outside the signed 64-bit range. -/
def outside64 (x : Int) : Bool := sat64 x != x

/-- A sum with `k` more fraction bits than its output format, rounded once with halves towards +∞ (R272). -/
def roundShift (x : Int) (k : Nat) : Int := (x + 2 ^ (k - 1)) / 2 ^ k

/-! ### Segments (R271): exact sums in 2^-80 -/

/-- Δ(τ) of a segment. -/
def Segment.delta80 (g : Segment) (t : Int) : Int :=
  g.c1 * 2 ^ 40 * t + g.c2 * 2 ^ 32 * t ^ 2 + g.c3 * 2 ^ 24 * t ^ 3 + g.c4 * 2 ^ 8 * t ^ 4 + g.c5 * t ^ 5
/-- V(τ) of a segment. -/
def Segment.v80 (g : Segment) (t : Int) : Int :=
  g.c1 * 2 ^ 40 + 2 * g.c2 * 2 ^ 32 * t + 3 * g.c3 * 2 ^ 24 * t ^ 2 + 4 * g.c4 * 2 ^ 8 * t ^ 3 + 5 * g.c5 * t ^ 4
/-- A(τ) of a segment. -/
def Segment.a80 (g : Segment) (t : Int) : Int :=
  2 * g.c2 * 2 ^ 32 + 6 * g.c3 * 2 ^ 24 * t + 12 * g.c4 * 2 ^ 8 * t ^ 2 + 20 * g.c5 * t ^ 3
/-- J(τ) ÷ 6 of a segment. -/
def Segment.j80 (g : Segment) (t : Int) : Int := g.c3 * 2 ^ 24 + 4 * g.c4 * 2 ^ 8 * t + 10 * g.c5 * t ^ 2

/-- The setpoint of a segment at τ from a base position (R271, R272). Velocity, acceleration and jerk saturate (R265). -/
def Segment.setpoint (g : Segment) (base : Int) (tau : Nat) : Setpoint :=
  let t : Int := tau
  let v := roundShift (g.v80 t) 40
  let a := roundShift (g.a80 t) 32
  let a2 := roundShift (g.a80 t) 33
  let a3 := roundShift (g.j80 t) 24
  let j := roundShift (6 * g.j80 t) 24
  { p := wrap64 (base + roundShift (g.delta80 t) 48), v := sat64 v, a := sat64 a, a2 := sat64 a2, a3 := sat64 a3
    atRest := g.v80 t == 0 && g.a80 t == 0, stag := g.tag, moving := true, stopping := false
    saturated := outside64 v || outside64 a || outside64 j }

/-- A channel at rest at a position. -/
def restAt (p : Int) : Setpoint := { p := p }

/-! ### The stop profile (R294) -/

/-- A duration rounded down to 2^-16 microframe; a negative one counts as none. -/
def floorDur (t : Rat) : Rat := if t ≤ 0 then 0 else ((t * 65536).floor : Rat) / 65536

/-- A square root in Q16.48, rounded towards 0. -/
def sqrt48 (x : Rat) : Rat := if x ≤ 0 then 0 else (isqrt (x * 2 ^ 96).floor.toNat : Rat) / 2 ^ 48

/-- The absolute value of a rational. -/
def absRat (x : Rat) : Rat := if x < 0 then -x else x

/-- The phases of the second branch of R294: towards ap, at ap, and back to zero acceleration. -/
def stopPhases (v a j am : Rat) : List StopPhase :=
  let ap0 := -am
  let t20 := (v + (a + ap0) * absRat (a - ap0) / (2 * j) - ap0 * ap0 / (2 * j)) / am
  let ap := if t20 < 0 then -(sqrt48 (j * v + a * a / 2)) else ap0
  let t2 := if t20 < 0 then 0 else t20
  [⟨floorDur (absRat (a - ap) / j), if ap > a then j else -j⟩, ⟨floorDur t2, 0⟩, ⟨floorDur (absRat ap / j), j⟩]

/-- The stop profile from a setpoint under a channel's STOP_J and STOP_A (R294). [DEDUCED, log 98] -/
def stopProfile (r : ChanRec) (x : Setpoint) : StopProfile :=
  let v0 : Rat := (x.v : Rat) / 2 ^ 40
  let a0 : Rat := (x.a : Rat) / 2 ^ 48
  let j : Rat := (r.stopJ : Rat) / 2 ^ 56
  let am : Rat := (r.stopA : Rat) / 2 ^ 48
  let dir : Int := if v0 > 0 ∨ (v0 = 0 ∧ a0 ≥ 0) then 1 else -1
  let v := (dir : Rat) * v0
  let a := (dir : Rat) * a0
  if v0 = 0 ∧ a0 = 0 then { p0 := x.p }
  else if a < 0 ∧ a * a / (2 * j) ≥ v then
    if v = 0 then { p0 := x.p, dir := dir, v := v, a := a, phases := [], jerkExceeded := true }
    else
      let j1 := a * a / (2 * v)
      { p0 := x.p, dir := dir, v := v, a := a, phases := [⟨floorDur (-a / j1), j1⟩], jerkExceeded := decide (j1 > j) }
  else { p0 := x.p, dir := dir, v := v, a := a, phases := stopPhases v a j am }

/-- Distance, speed, acceleration and jerk along a profile at time `k`, and whether it has not ended, from a state at the start
of its phases. -/
def walkStop : List StopPhase → Rat → Rat → Rat → Rat → Rat × Rat × Rat × Rat × Bool
  | [], _, d, _, _ => (d, 0, 0, 0, false)
  | ph :: l, k, d, v, a =>
    let at_ := fun (t : Rat) => (d + v * t + a * t * t / 2 + ph.jerk * t * t * t / 6, v + a * t + ph.jerk * t * t / 2, a + ph.jerk * t)
    if k < ph.dur then
      let x := at_ k
      (x.1, x.2.1, x.2.2, ph.jerk, true)
    else
      let x := at_ ph.dur
      walkStop l (k - ph.dur) x.1 x.2.1 x.2.2

/-- The setpoint of a stop profile at whole microframe `k` (R294, R272). -/
def StopProfile.setpoint (f : StopProfile) (k : Nat) : Setpoint :=
  let x := walkStop f.phases k 0 f.v f.a
  let s : Rat := f.dir
  let v := roundRat (s * x.2.1 * 2 ^ 40)
  let a := roundRat (s * x.2.2.1 * 2 ^ 48)
  let a2 := roundRat (s * x.2.2.1 / 2 * 2 ^ 48)
  let a3 := roundRat (s * x.2.2.2.1 / 6 * 2 ^ 56)
  let j := roundRat (s * x.2.2.2.1 * 2 ^ 56)
  let run := x.2.2.2.2
  { p := wrap64 (f.p0 + roundRat (s * x.1 * 2 ^ 32)), v := sat64 v, a := sat64 a, a2 := sat64 a2, a3 := sat64 a3
    atRest := !run, stag := 0, moving := false, stopping := run
    saturated := outside64 v || outside64 a || outside64 j }

/-! ### The queue (R273, R274, R293) -/

/-- What the queue of a channel in a RUNNING group gives for the next microframe: a setpoint, with the channel after it and the
TAG of a MARK segment that begins; or nothing to begin while moving; or a segment rejected for its velocity step. -/
inductive NextStep where
  | go (c : Chan) (mark : Option Byte)
  | underrun
  | segJump

/-- The exact end velocity and acceleration of the segment that has ended; 0 from rest. -/
def Chan.ends (c : Chan) : Int × Int :=
  match c.run with
  | some g => (g.seg.v80 g.seg.dur, g.seg.a80 g.seg.dur)
  | none => (0, 0)

/-- A segment begins, or the channel rests, or neither (R274, R293); `start` holds for a start of the group. -/
def Chan.begin (c : Chan) (r : ChanRec) (start : Bool) : NextStep :=
  let v := c.ends.1
  let still := c.ends.1 == 0 && c.ends.2 == 0
  let rest := fun (w : Bool) =>
    if still then NextStep.go { c with run := none, planned := restAt c.planned.p, waiting := w } none else NextStep.underrun
  match c.queue with
  | [] => rest false
  | h :: q =>
    if r.vjump ≠ 18446744073709551615 ∧ (h.c1 * 2 ^ 40 - v).natAbs > r.vjump * 2 ^ 40 then .segJump
    else if h.wait && !start then rest true
    else
      .go { c with
        run := some ⟨h, c.planned.p, 1⟩, queue := q, planned := h.setpoint c.planned.p 1, waiting := false
        freeing := if h.dur = 1 then 1 else 0 } (if h.mark then some h.tag else none)

/-- The next setpoint of a channel in a RUNNING group (R271, R274, R293). -/
def Chan.next (c : Chan) (r : ChanRec) (start : Bool) : NextStep :=
  match c.run with
  | some g =>
    if g.tau < g.seg.dur then
      .go { c with
        run := some { g with tau := g.tau + 1 }, planned := g.seg.setpoint g.base (g.tau + 1), waiting := false
        freeing := if g.tau + 1 = g.seg.dur then 1 else 0 } none
    else c.begin r start
  | none => c.begin r start

/-- The entry of the queue whose segment is to begin at the next setpoint, if any (R273). -/
def Chan.headEntry (c : Chan) : Option Nat :=
  let ended := match c.run with | some g => decide (g.seg.dur ≤ g.tau) | none => true
  if ended && !c.queue.isEmpty then some (c.tail + 32 - c.queue.length) else none

/-- Entries of the queue in use (R273): queued, running, and ended but not yet freed. -/
def Chan.inUse (c : Chan) : Nat :=
  c.queue.length + (match c.run with | some g => bitOf (decide (g.tau < g.seg.dur)) | none => 0) + c.freeing

end Sys2Proof.Machine
end

