-- ==== Sys2Proof/Machine/Mint.lean ====
section
/-! DEFINITION. Mint (file 09): holds and group states (R285, R290 to R292), the rows of the MNT_ opcodes, feedback templates
(R278 to R281), and Mint's work at the snapshot and in the evaluation of a microframe (R296, R298). -/
namespace Sys2Proof.Machine

/-! ### Records -/

/-- All feedback templates. -/
def allTempl : List TemplId := allFin 64

/-- A 64-byte channel record (R266). -/
def chanRecOf (l : List Byte) : ChanRec :=
  let f : Byte := BitVec.ofNat 8 (leAt l 0 1)
  { enable := testBit f 0, seed := testBit f 1, bcast := testBit f 4, fmtPos := testBit f 5
    port := finOf 24 (by decide) (leAt l 1 1), group := finOf 16 (by decide) (leAt l 2 1)
    feLag := leAt l 3 1, missLimit := leAt l 4 1, startPos := sleAt l 8 8, feLimit := leAt l 16 8, vmax := leAt l 24 8
    amax := leAt l 32 8, vjump := leAt l 40 8, stopA := leAt l 48 8, stopJ := leAt l 56 8, raw := l }

/-- The fixed checks of a channel record (R266, R267). [DEDUCED, log 96] -/
def chanRecOk (l : List Byte) : Bool :=
  leAt l 0 1 < 64 && leAt l 1 1 < 24 && leAt l 2 1 < 16 && leAt l 3 1 ≤ 7 && zeroAt l 5 3 && leAt l 48 8 != 0 && leAt l 56 8 != 0

/-- A 48-byte segment record (R270). -/
def segmentOf (l : List Byte) : Segment :=
  let f : Byte := BitVec.ofNat 8 (leAt l 4 1)
  { dur := leAt l 0 4, wait := testBit f 0, mark := testBit f 1, tag := BitVec.ofNat 8 (leAt l 5 1)
    c1 := sleAt l 8 8, c2 := sleAt l 16 8, c3 := sleAt l 24 8, c4 := sleAt l 32 8, c5 := sleAt l 40 8 }
/-- The fixed checks of a segment record (R270). -/
def segmentOk (l : List Byte) : Bool :=
  1 ≤ leAt l 0 4 && leAt l 0 4 < 1048576 && leAt l 4 1 < 4 && zeroAt l 6 2
/-- The 48 bytes of a segment in its queue entry (R270). -/
def Segment.bytes (g : Segment) : List Byte :=
  leBytes 4 g.dur ++ [BitVec.ofNat 8 (flagAt g.mark 1 + bitOf g.wait), g.tag, 0, 0] ++ leBytesInt 8 g.c1 ++ leBytesInt 8 g.c2
    ++ leBytesInt 8 g.c3 ++ leBytesInt 8 g.c4 ++ leBytesInt 8 g.c5
/-- The `n` segment records of a parameter string. -/
def segmentBytes (n : Nat) (l : List Byte) : List (List Byte) := (List.range n).map fun i => slice l (48 * i) 48

/-- An 8-byte template instruction (R278). -/
def templInstrOf (l : List Byte) : TemplInstr :=
  let m := leAt l 5 1
  { op := leAt l 0 1, ch := BitVec.ofNat 8 (leAt l 1 1), off := leAt l 2 2, width := leAt l 4 1, frac := m % 64
    signed := decide (bitsAt m 6 1 = 1), invert := decide (bitsAt m 7 1 = 1), arg := BitVec.ofNat 16 (leAt l 6 2) }
/-- The fixed checks of a template instruction (R278). -/
def TemplInstr.ok (i : TemplInstr) : Bool :=
  let ch := i.ch.toNat
  1 ≤ i.op && i.op ≤ 4
    && (if i.op = 1 then ch < 128 else if i.op = 2 then ch < 128 || ch == 255 else ch == 255)
    && (i.width == 2 || i.width == 4 || (i.op != 4 && (i.width == 1 || i.width == 8)))
    && i.frac ≤ 32 && (i.op == 2 || i.arg == 0)
/-- The 8 bytes of a template instruction (R278). -/
def TemplInstr.bytes (i : TemplInstr) : List Byte :=
  [BitVec.ofNat 8 i.op, i.ch] ++ leBytes 2 i.off ++ [BitVec.ofNat 8 i.width, BitVec.ofNat 8 (flagAt i.invert 7 + flagAt i.signed 6 + i.frac)]
    ++ leBytes 2 i.arg.toNat
/-- The bytes of a template in its table (R278, R383). -/
def programBytes (p : List TemplInstr) : List Byte := leBytes 8 p.length ++ p.flatMap TemplInstr.bytes
/-- The program of a template's parameter string (R278). -/
def programOf (l : List Byte) : List TemplInstr := (List.range (leAt l 0 1)).map fun i => templInstrOf (slice l (8 + 8 * i) 8)

/-- The channels of a template program: those named by its POS and STATUS instructions, rising (R279). -/
def templChans (p : List TemplInstr) : List ChanId :=
  allChans.filter fun c => p.any fun i => (i.op == 1 || i.op == 2) && i.ch.toNat == c.val
/-- Whether every channel of a program has exactly one POS instruction (R279). -/
def programOk (p : List TemplInstr) : Bool :=
  p.all TemplInstr.ok && (templChans p).all fun c => (p.filter fun i => i.op == 1 && i.ch.toNat == c.val).length == 1

/-! ### Orders and templates, as Mint sees them -/

/-- Whether an order is a MINT_OUT order that covers a channel (R267). -/
def OrderRec.covers (r : OrderRec) (c : ChanId) : Bool :=
  r.cls == .mintOut && r.firstCh ≤ c.val && c.val < r.firstCh + r.nch
/-- The MINT_OUT orders of a port that cover a channel. -/
def State.coveringOn (s : State) (c : ChanId) (k : PortId) : List OrderRec :=
  s.orders.toList.filterMap fun o =>
    if o.state = .free then none
    else match o.cfg with
      | some r => if r.covers c && r.port == k then some r else none
      | none => none
/-- Bytes of a channel's entry in a Mint frame (R275). -/
def entrySize (r : Option ChanRec) : Nat := match r with | some r => if r.fmtPos then 16 else 40 | none => 40
/-- The frame size of a range of channels, where channel `c` has the record `r` (R275, R212). -/
def State.frameSize (s : State) (first n : Nat) (c : Option (ChanId × ChanRec)) : Nat :=
  32 + ((allChans.filter fun x => first ≤ x.val && x.val < first + n).map fun x =>
    match c with
    | some (y, r) => if x = y then entrySize (some r) else entrySize s.mint.chans[x.val].cfg
    | none => entrySize s.mint.chans[x.val].cfg).sum

/-- The program of a template once every accepted command has taken effect (R31). -/
def State.templAfter (s : State) (t : TemplId) : List TemplInstr :=
  s.mint.pend.foldl (fun p o => match o with | .template u q => if u = t then q else p | _ => p) s.mint.templates[t.val].prog
/-- The order that names a template, if any (R280). -/
def State.feedbackOrder (s : State) (t : TemplId) : Option (OrderId × OrderRec) :=
  allOrders.findSome? fun n =>
    let o := s.orders[n.val]
    match o.cfg with
    | some r => if o.state ≠ .free ∧ r.cls = .feedback ∧ r.dindex = t.val then some (n, r) else none
    | none => none
/-- Whether a channel's move to a port would leave the port of the FEEDBACK order of its template (R280). -/
def State.leavesFeedback (s : State) (c : ChanId) (k : PortId) : Bool :=
  allTempl.any fun t => (templChans s.mint.templates[t.val].prog).contains c
    && (match s.feedbackOrder t with | some (_, r) => r.port != k | none => false)

/-! ### Events and holds (R290 to R292, R302) -/

/-- A MINT event to the owners of the ports that carry some channels (R302). -/
def State.mintEvent (s : State) (cs : List ChanId) (aux data : Nat) : State := s.slotsEvent (s.ownersOf cs) 0x20 aux data

/-- A group changes its state; HELD is reported (R292, R300). -/
def State.setGroup (s : State) (g : GroupId) (st : GroupState) : State :=
  if s.mint.groups[g.val].state = st then s
  else
    let s := s.modGroup g fun x => { x with state := st, changed := s.nLow }
    if st = .held then s.mintEvent (s.groupChans g) 0x2 g.val else s

/-- Whether a group has an enabled BCAST channel (R291). [DEDUCED, log 43] -/
def State.groupBcast (s : State) (g : GroupId) : Bool :=
  (s.groupEnabled g).any fun c => (s.mint.chans[c.val].cfg.map (·.bcast)).getD false

/-- A hold that Mint raises for a channel, broadcast where the group has a BCAST channel (R291). `more` keeps the frames that
the same command has sent already. [DEDUCED, log 43, 99] -/
def State.mintHold (s : State) (c : ChanId) (why : Cause) (more : Bool) : State :=
  match s.chanGroup c with
  | none => s
  | some g =>
    let s := s.raiseHold g why (some c)
    if s.groupBcast g then s.sendHold 1 (if more then s.dvt.sent else []) else s

/-- A stop profile is followed from the setpoint it starts from; one that exceeds the jerk limit is reported (R294).
[DEDUCED, log 98] -/
def State.followStop (s : State) (c : ChanId) (k : Nat) : State :=
  let f := s.mint.chans[c.val].standby
  let s := s.modChan c fun x => { x with stop := some (f, k) }
  if f.jerkExceeded then s.mintEvent [c] 0x7 c.val else s

/-- Whether a channel of a HOLDING group is at rest: its last setpoint of the microframe `computed` is. -/
def Chan.stopped? (c : Chan) : Bool := !c.history || c.stopped.atRest

/-- A HOLDING group whose channels are all at rest becomes HELD (R292). -/
def State.checkHeld (s : State) (g : GroupId) : State :=
  if s.mint.groups[g.val].state = .holding ∧ (s.groupEnabled g).all (fun c => s.mint.chans[c.val].stopped?) then s.setGroup g .held
  else s

/-- The causes added to a group in this microframe are reported, in one event (R290, R302). [DEDUCED, log 176] -/
def State.reportHold (s : State) (g : GroupId) : State :=
  let x := s.mint.groups[g.val]
  if x.added = 0 then s
  else
    (s.modGroup g fun x => { x with added := 0, addedBy := none }).mintEvent (s.groupChans g) 0x1
      (g.val + (match x.addedBy with | some c => fieldAt c.val 8 + 0x8000 | none => 0) + fieldAt x.added.toNat 16)

/-- A hold takes effect on a group (R290, R292). `early` is a Dovetail hold before t = 3 µs, which selects the standby profile
for this microframe's frames (R32, R296). [DEDUCED, log 99, 176] -/
def State.applyHold (s : State) (g : GroupId) (bits : BitVec 16) (who : Option ChanId) (early : Bool) : State :=
  let added := bits &&& ~~~ s.mint.groups[g.val].cause
  let s := s.modGroup g fun x => { x with
    cause := x.cause ||| bits, early := x.early || early, added := x.added ||| added
    addedBy := if added = 0 then x.addedBy else match x.addedBy with | some c => some c | none => who }
  match s.mint.groups[g.val].state with
  | .idle | .armed => (s.modGroup g fun x => { x with armed := none }).setGroup g .held
  | .running =>
    let s := s.modGroup g fun x => { x with armedRun := none }
    let s := s.setGroup g .holding
    let s := (s.groupEnabled g).foldl (fun s c =>
      let x : Chan := s.mint.chans[c.val]
      if early then (if x.history ∧ x.stop = none ∧ !x.last.atRest then s.followStop c 1 else s)
      else
        let s := if x.history ∧ x.stop = none ∧ !x.last.atRest then s.followStop c 0 else s
        s.modChan c fun x => { x with stopped := match x.stop with | some (f, k) => f.setpoint k | none => restAt x.last.p }) s
    s.checkHeld g
  | .holding | .held => s

/-- MNT_HOLD commands with WAIT_STOP complete once every group they held is at rest (R292, R186). -/
def State.endStopWaits (s : State) : State :=
  let mask : BitVec 16 := BitVec.ofNat 16 ((allGroups.map fun g =>
    let x := s.mint.groups[g.val]
    if x.state = .held ∧ x.pend = 0 then 2 ^ g.val else 0).sum)
  let s := s.modEntries (fun e => match e.wait with | .mintStop _ => true | _ => false) fun e =>
    { e with wait := match e.wait with | .mintStop m => .mintStop (m &&& ~~~ mask) | w => w }
  s.endWith (fun e => e.wait == .mintStop 0) .ok 0

/-! ### Channel states and reports (R285, R300, R303) -/

/-- Codes of group states (R285). -/
def GroupState.code : GroupState → Nat
  | .idle => 0 | .armed => 1 | .running => 2 | .holding => 3 | .held => 4

/-- The state of a configured channel in a group state, as a code of R285. -/
def Chan.stateIn (c : Chan) (r : ChanRec) (g : GroupState) : Nat :=
  if !r.enable then 0
  else if !c.history then (if g = .armed ∧ r.seed ∧ c.seedPos = none then 8 else 1)
  else match g with
    | .idle | .armed => 2
    | .holding | .held => if c.stopped.atRest then 7 else 6
    | .running => if c.stop.isSome then (if c.stopped.atRest then 7 else 6) else if c.planned.moving then 3 else if c.waiting then 5 else 4
/-- The state of a channel (R285). -/
def State.chanState (s : State) (c : ChanId) : Nat :=
  let x := s.mint.chans[c.val]
  match x.cfg with
  | none => 0
  | some r => x.stateIn r s.mint.groups[r.group.val].state

/-- Segments accepted for a channel and waiting for the snapshot. -/
def State.pendSegs (s : State) (c : ChanId) : Nat :=
  (s.mint.pend.map fun o => match o with | .segments d l => if d = c then l.length else 0 | _ => 0).sum
/-- Free queue entries of a channel (R273). -/
def State.queueFree (s : State) (c : ChanId) : Nat := 32 - (s.mint.chans[c.val].inUse + s.pendSegs c)

/-- The 48 bytes of a channel's MINT_CH data (R300). [DEDUCED, log 90] -/
def State.mintChBytes (s : State) (c : ChanId) : List Byte :=
  let x := s.mint.chans[c.val]
  let sp := if x.history then x.last else {}
  leBytesInt 8 sp.p ++ leBytesInt 8 sp.v ++ leBytesInt 8 sp.a ++ leBytesInt 8 ((x.sample.map (·.pos)).getD 0)
    ++ leBytesInt 8 (x.fe.getD 0)
    ++ [BitVec.ofNat 8 (s.chanState c), BitVec.ofNat 8 (s.queueFree c), sp.stag,
        BitVec.ofNat 8 (flagAt x.feOver 3 + flagAt (x.used && (x.sample.map (·.late)).getD false) 2 + flagAt x.used 1
          + bitOf x.history)]
    ++ leBytes 4 ((x.sample.map (·.k.toNat)).getD 0)

/-- The 8 bytes of a group's MINT_GRP data (R300). -/
def State.mintGrpBytes (s : State) (g : GroupId) : List Byte :=
  let x := s.mint.groups[g.val]
  [BitVec.ofNat 8 x.state.code, BitVec.ofNat 8 (s.groupEnabled g).length] ++ leBytes 2 x.cause.toNat ++ leBytes 4 x.changed.toNat

/-- MNT_GSTATE (R303). -/
def State.mntGstate (s : State) (g : GroupId) : Word :=
  let x := s.mint.groups[g.val]
  toWord (fieldAt x.cause.toNat 16 + fieldAt (s.groupEnabled g).length 8 + flagAt (s.groupBcast g) 3 + x.state.code)
/-- MNT_CSTATE (R303). -/
def State.mntCstate (s : State) (c : ChanId) : Word :=
  let x := s.mint.chans[c.val]
  let at_ := match x.cfg with | some r => flagAt r.enable 30 + fieldAt r.port.val 16 + fieldAt r.group.val 12 | none => 0
  toWord (flagAt x.history 31 + fieldAt (s.queueFree c) 24 + at_ + fieldAt (min 15 x.miss) 8 + s.chanState c)
/-- MNT_TSTATE (R303). -/
def State.mntTstate (s : State) (t : TemplId) : Word :=
  let x := s.mint.templates[t.val]
  let use_ := match s.feedbackOrder t with | some (n, _) => flagAt true 30 + fieldAt n.val 16 | none => 0
  toWord (flagAt (!x.prog.isEmpty) 31 + use_ + fieldAt x.invalid.toNat 8 + x.prog.length)
/-- MNT_LOAD (R303). [DEDUCED, log 103] -/
def State.mntLoad (s : State) : Word := toWord (fieldAt s.mint.peak.toNat 16 + s.mint.load.toNat)

/-! ### MNT_CFG, MNT_SEG, MNT_QUERY (R266 to R270, R301) -/

/-- ARG0 is a channel number. -/
def arg0Chan (a : CmdArgs) : Bool := a.arg0.toNat < 128
/-- The channel that ARG0 names. -/
def chanArg (a : CmdArgs) : ChanId := finOf 128 (by decide) a.arg0.toNat
/-- The ports that carry some channels (R186). -/
def State.portsOfChans (s : State) (cs : List ChanId) : List PortId := cs.filterMap s.chanPort
/-- The caller owns the ports that carry some channels (R186). -/
def State.ownsChans (s : State) (c : Caller) (cs : List ChanId) : Bool := s.ownsAll c (s.portsOfChans cs)

/-- Whether a group is ARMED, RUNNING or HOLDING. -/
def State.groupBusy (s : State) (g : GroupId) : Bool :=
  match s.mint.groups[g.val].state with | .armed | .running | .holding => true | _ => false
/-- Whether a group is HELD. -/
def State.groupHeld (s : State) (g : GroupId) : Bool := s.mint.groups[g.val].state == .held

/-- The queue of a command's effect at the next snapshot. -/
def State.pendMint (s : State) (o : MintOp) : State := { s with mint := { s.mint with pend := s.mint.pend ++ [o] } }

/-- MNT_CFG's body: the refusals of R267 in its order. [DEDUCED, log 96] -/
def mntCfgBody (s : State) (a : CmdArgs) : Res :=
  let c := chanArg a
  let r := chanRecOf a.params
  let f : Byte := BitVec.ofNat 8 (leAt a.params 0 1)
  let cover := s.coveringOn c r.port
  let short := cover.any fun o => o.length < s.frameSize o.firstCh o.nch (some (c, r))
  let old := s.chanGroup c
  let moves := old.isSome && old != some r.group
  if r.enable && s.mode r.port != .proxy then .fail .eNotReady s
  else if (r.enable && (cover.length != 1 || short)) || s.leavesFeedback c r.port then .fail .eRange s
  else if (old.map s.groupBusy).getD false || s.groupBusy r.group then .fail .eBusy s
  else if moves && ((old.map s.groupHeld).getD false || s.groupHeld r.group) then .fail .eBusy s
  else .snap 0 (s.pendMint (.config c r (testBit f 2) (testBit f 3)))

/-- MNT_CFG's row. -/
def opMntCfg : OpSpec :=
  { code := 0x50, plenOk := fun a => a.params.length == 64, argOk := fun a => arg0Chan a && arg1Zero a && chanRecOk a.params
    callerOk := fun s a => s.ownsAll a.caller [(chanRecOf a.params).port] && s.ownsChans a.caller [chanArg a]
    body := mntCfgBody }
/-- MNT_CFG writes a channel record, in force from the next snapshot (R267, R268). -/
def execMntCfg (a : CmdArgs) (s : State) : Out := .next (issue opMntCfg a s)

/-- MNT_SEG's body (R270, R186). -/
def mntSegBody (s : State) (a : CmdArgs) : Res :=
  let c := chanArg a
  let n := a.params.length / 48
  let heldOrHolding := match (s.chanGroup c).map fun g => s.mint.groups[g.val].state with
    | some .holding | some .held => true
    | _ => false
  if !s.chanEnabled c || heldOrHolding then .fail .eNotReady s
  else if n > s.queueFree c then .fail .eBusy s
  else .done .ok (toWord (s.queueFree c - n)) [] (s.pendMint (.segments c ((segmentBytes n a.params).map segmentOf)))

/-- MNT_SEG's row. -/
def opMntSeg : OpSpec :=
  { code := 0x51
    plenOk := fun a => a.params.length % 48 == 0 && 48 ≤ a.params.length && a.params.length ≤ 1536
    argOk := fun a => arg0Chan a && arg1Zero a && (segmentBytes (a.params.length / 48) a.params).all segmentOk
    callerOk := fun s a => s.ownsChans a.caller [chanArg a]
    body := mntSegBody }
/-- MNT_SEG queues 1 to 32 segments on a channel (R270). -/
def execMntSeg (a : CmdArgs) (s : State) : Out := .next (issue opMntSeg a s)

/-- Owner, or with VIEWER = 1 owner or viewer, of some ports (R116). -/
def ownerOrViewer (s : State) (a : CmdArgs) (ks : List PortId) : Bool :=
  if viewerOf a then (match a.caller with | .slot h => ks.all (s.mayRead h) | .mbx => false) else s.ownsAll a.caller ks

/-- MNT_QUERY's row: the record in force and the MINT_CH data of the last snapshot (R301). -/
def opMntQuery : OpSpec :=
  { code := 0x55, viewer := true, argOk := fun a => arg0Chan a && arg1Zero a
    callerOk := fun s a => ownerOrViewer s a (s.portsOfChans [chanArg a])
    body := fun s a =>
      let x := s.mint.chans[(chanArg a).val]
      .done .ok 0 (fitTo 64 ((x.cfg.map (·.raw)).getD []) ++ fitTo 48 x.data48) s }
/-- MNT_QUERY returns a channel's record and data (R301). -/
def execMntQuery (a : CmdArgs) (s : State) : Out := .next (issue opMntQuery a s)

/-! ### MNT_START, MNT_HOLD, MNT_RELEASE (R286, R288, R290, R295) -/

/-- ARG0 is a group mask. -/
def arg0Groups (a : CmdArgs) : Bool := a.arg0.toNat < 65536
/-- The groups that ARG0 names. -/
def groupsArg (a : CmdArgs) : List GroupId := groupsOf (a.arg0.setWidth 16)
/-- The caller owns the ports of every channel of the groups that ARG0 names (R186). -/
def ownsGroups (s : State) (a : CmdArgs) : Bool := s.ownsChans a.caller ((groupsArg a).flatMap s.groupChans)

/-- MNT_START's body (R286, R288). -/
def mntStartBody (s : State) (a : CmdArgs) : Res :=
  let gs := groupsArg a
  let next : Dword := s.tally.n + 1
  let ahead : Int := if a.arg1 = 0 then 0 else (a.arg1 - next.setWidth 32).toInt
  let st := fun (g : GroupId) => s.mint.groups[g.val].state
  if ahead < 0 ∨ ahead ≥ 8000000 then .fail .eRange s
  else if gs.any fun g => (s.groupEnabled g).isEmpty || st g == .holding || st g == .held then .fail .eNotReady s
  else if gs.any fun g => st g == .armed || (st g == .running && s.mint.groups[g.val].armedRun.isSome) then .fail .eBusy s
  else
    let ns : Dword := next + BitVec.ofInt 64 ahead
    let s := gs.foldl (fun s g =>
      if s.mint.groups[g.val].state = .running then s.modGroup g fun x => { x with armedRun := some ns }
      else (s.modGroup g fun x => { x with armed := some ns }).setGroup g .armed) s
    .done .ok (ns.setWidth 32) [] s

/-- MNT_START's row. -/
def opMntStart : OpSpec :=
  { code := 0x52, argOk := fun a => arg0Groups a && !arg0Zero a, callerOk := ownsGroups, body := mntStartBody }
/-- MNT_START arms a start of groups (R286). -/
def execMntStart (a : CmdArgs) (s : State) : Out := .next (issue opMntStart a s)

/-- MNT_HOLD's body: the HOST cause is raised; with WAIT_STOP the command waits for the groups to be at rest (R290, R292).
[DEDUCED, log 99] -/
def mntHoldBody (s : State) (a : CmdArgs) : Res :=
  let s := (groupsArg a).foldl (fun s g => s.raiseHold g .host none) s
  if testBit a.arg1 0 ∧ a.arg0 ≠ 0 then .wait .effected (.mintStop (a.arg0.setWidth 16)) s else .ok s

/-- MNT_HOLD's row. -/
def opMntHold : OpSpec :=
  { code := 0x53, argOk := fun a => arg0Groups a && a.arg1.toNat < 2, callerOk := ownsGroups, body := mntHoldBody }
/-- MNT_HOLD raises a HOST hold on groups (R290). -/
def execMntHold (a : CmdArgs) (s : State) : Out := .next (issue opMntHold a s)

/-- MNT_RELEASE's body (R295). -/
def mntReleaseBody (s : State) (a : CmdArgs) : Res :=
  let gs := groupsArg a
  let inactive := fun (g : GroupId) =>
    s.groupHeld g && !(s.portsOfChans (s.groupEnabled g)).all s.isActive
  if gs.any fun g => s.mint.groups[g.val].state == .holding || inactive g then .fail .eNotReady s
  else .snap 0 (gs.foldl (fun s g => if s.groupHeld g then s.modGroup g fun x => { x with release := true } else s) s)

/-- MNT_RELEASE's row. -/
def opMntRelease : OpSpec :=
  { code := 0x54, argOk := fun a => arg0Groups a && arg1Zero a, callerOk := ownsGroups, body := mntReleaseBody }
/-- MNT_RELEASE returns HELD groups to IDLE at the next snapshot (R295). -/
def execMntRelease (a : CmdArgs) (s : State) : Out := .next (issue opMntRelease a s)

/-! ### MNT_FBTEMPLATE and packets (R278, R279, R281) -/

/-- The template that ARG0 names. -/
def templArg (a : CmdArgs) : TemplId := finOf 64 (by decide) a.arg0.toNat

/-- MNT_FBTEMPLATE's body (R279). -/
def mntFbtemplateBody (s : State) (a : CmdArgs) : Res :=
  let t := templArg a
  let p := programOf a.params
  let old := s.mint.templates[t.val].prog
  let taken := allTempl.any fun u => u != t && (templChans (s.templAfter u)).any fun c => (templChans p).contains c
  let live := (templChans old).any s.chanEnabled
  if taken then .fail .eRange s
  else if p.isEmpty && ((s.feedbackOrder t).isSome || live) then .fail .eBusy s
  else if live && templChans p != templChans old then .fail .eBusy s
  else .snap 0 (s.pendMint (.template t p))

/-- MNT_FBTEMPLATE's row. -/
def opMntFbtemplate : OpSpec :=
  { code := 0x56
    plenOk := fun a => 8 ≤ a.params.length && a.params.length == 8 + 8 * leAt a.params 0 1
    argOk := fun a => a.arg0.toNat < 64 && arg1Zero a && leAt a.params 0 1 ≤ 32 && zeroAt a.params 1 7 && programOk (programOf a.params)
    callerOk := fun s a =>
      s.ownsChans a.caller (templChans s.mint.templates[(templArg a).val].prog ++ templChans (programOf a.params))
    body := mntFbtemplateBody }
/-- MNT_FBTEMPLATE loads or unloads a feedback template (R278). -/
def execMntFbtemplate (a : CmdArgs) (s : State) : Out := .next (issue opMntFbtemplate a s)

/-- Why a packet is invalid, as the event's code: 1 short, 2 CHECK, 3 SEQ (R281, R302); SEQ fields of the packet, in order.
[DEDUCED, log 102] -/
def judgePacket (l : List Byte) (seqs : List Nat) : List TemplInstr → Nat → Option Nat
  | [], _ => none
  | i :: rest, n =>
    if i.op = 4 then
      let body := l.take i.off
      let want := if i.width = 4 then (crc32c body).toNat else crc16 0xFFFF body
      if leAt l i.off i.width = want then judgePacket l seqs rest n else some 2
    else if i.op = 3 then
      if seqs[n]? = some (leAt l i.off i.width) then some 3 else judgePacket l seqs rest (n + 1)
    else judgePacket l seqs rest n

/-- Whether a packet is valid for a template (R281). [DEDUCED, log 102] -/
def Template.judge (t : Template) (l : List Byte) : Option Nat :=
  if t.prog.any fun i => l.length < i.off + i.width then some 1 else judgePacket l t.seqs t.prog 0

/-- The position a POS field gives, extended to the value nearest the previous one where it is narrower than 32 integer bits
(R278). -/
def posField (i : TemplInstr) (raw : Nat) (prev : Option Int) : Int :=
  let v0 : Int := (raw : Int) * 2 ^ (32 - i.frac)
  if 8 * i.width ≥ 32 + i.frac then wrap64 v0
  else
    let m : Int := 2 ^ (8 * i.width + 32 - i.frac)
    match prev with
    | some p =>
      let d := (v0 - p) % m
      wrap64 (if 2 * d ≤ m then p + d else p + d - m)
    | none => if i.signed && 2 * v0 ≥ m then v0 - m else v0

/-- Whether a packet shows a drive fault for a channel (R278): INVERT inverts all 16 bits, also where the field has one byte.
[DESIGN CHOICE, log 179] -/
def faultOf (p : List TemplInstr) (l : List Byte) (c : ChanId) : Bool :=
  p.any fun i => i.op == 2 && (i.ch.toNat == c.val || i.ch.toNat == 255)
    && (let w : BitVec 16 := BitVec.ofNat 16 (leAt l i.off i.width)
        ((if i.invert then ~~~ w else w) &&& i.arg) != 0)

/-- A valid packet gives each channel of the template one sample (R281, R282). The position before it that a narrow field is
extended from stays through ENABLE = 0, RESEED and a reload of the template. [DESIGN CHOICE, log 179] -/
def State.takeSamples (s : State) (t : TemplId) (late : Bool) (l : List Byte) : State :=
  let p := s.mint.templates[t.val].prog
  let k := s.tally.n
  (p.filter fun i => i.op == 1).foldl (fun s i =>
    let c : ChanId := finOf 128 (by decide) i.ch.toNat
    s.modChan c fun x =>
      let pos := posField i (leAt l i.off i.width) x.actual
      { x with
        actual := some pos
        pending := x.pending ++ [⟨pos, k, if late then k + 2 else k + 1, faultOf p l c, late⟩] }) s

/-- A FEEDBACK occurrence that ended OK or LATE delivers its packet to a template (R281). -/
def State.feedbackPacket (s : State) (t : TemplId) (late : Bool) (l : List Byte) : State :=
  let x := s.mint.templates[t.val]
  match x.judge l with
  | none =>
    (s.takeSamples t late l).modTemplate t fun x => { x with
      seqs := (x.prog.filter fun i => i.op == 3).map fun i => leAt l i.off i.width }
  | some why =>
    let due := match x.lastEvent with | some c => decide (s.glb.clock ≥ c + 8000) | none => true
    let s := s.modTemplate t fun x => { x with
      invalid := satAdd x.invalid 1, lastEvent := if due then some s.glb.clock else x.lastEvent }
    if due then s.mintEvent (templChans x.prog) 0x8 (t.val + fieldAt why 8) else s

/-! ### The snapshot (R31, R268, R282, R283, R296, R298) -/

/-- A channel loses its history (R268, R289). -/
def Chan.forget (c : Chan) : Chan :=
  { c with history := false, run := none, stop := none, standby := {}, planned := {}, stopped := {}, last := {}, waiting := false
           seedPos := none, miss := 0, missDue := false }

/-- An accepted channel record takes effect (R268). [DEDUCED, log 96, 175] -/
def Chan.configure (c : Chan) (r : ChanRec) (reseed flush : Bool) : Chan :=
  let was := (c.cfg.map (·.enable)).getD false
  let moved := match c.cfg with | some o => o.port != r.port | none => false
  let c := { c with cfg := some r, shifted := c.shifted || (was && (moved || reseed)) }
  let c := if !r.enable || reseed then c.forget else if !was then { c with seedPos := none } else c
  if !r.enable || flush then { c with queue := [], run := none, freeing := 0 } else c

/-- One accepted command takes effect at the snapshot (R31); channel records in force, queued segments and template programs
stand in their tables (R383). -/
def State.applyMintOp (s : State) (o : MintOp) : State :=
  match o with
  | .config c r reseed flush => (s.modChan c fun x => x.configure r reseed flush).writeChanRecord c r.raw
  | .segments c l => l.foldl (fun s g =>
      (s.writeSegment c s.mint.chans[c.val].tail g.bytes).modChan c fun x => { x with
        queue := x.queue ++ [g], tail := (x.tail + 1) % 32 }) s
  | .template t p => (s.modTemplate t fun x => { x with prog := p, seqs := [] }).writeTemplate t (programBytes p)

/-- At the boundary the setpoint sent last takes effect, and the reports of the last microframe are over (R30, R282). -/
def Chan.takeEffect (c : Chan) (n : Dword) : Chan :=
  let valid := c.history && (c.cfg.map (·.enable)).getD false
  { c with effect := c.last, past := ((n, if valid then some c.last.p else none) :: c.past).take 12
           freeing := 0, used := false, lateFb := false, shifted := false }

/-- The setpoint that took effect at the SOF of a microframe; none where it had VALID = 0 (R282). -/
def Chan.setpointAt (c : Chan) (j : Dword) : Option Int := (c.past.find? fun x => x.1 == j).bind (·.2)

/-- Mint uses one sample of a channel (R282). -/
def State.useSample (s : State) (c : ChanId) (x : Sample) : State :=
  match s.mint.chans[c.val].cfg with
  | none => s
  | some r =>
    let fe := (s.mint.chans[c.val].setpointAt (x.k - BitVec.ofNat 64 r.feLag)).map fun p => wrap64 (p - x.pos)
    let tooFar := r.feLimit != 0 && (match fe with | some e => decide (e.natAbs > r.feLimit) | none => false)
    let s := s.modChan c fun y => { y with
      sample := some x, used := true, lateFb := y.lateFb || x.late, seedPos := some x.pos, fe := fe, feOver := tooFar, miss := 0 }
    let s := if tooFar then s.mintHold c .fe true else s
    if x.fault then s.mintHold c .drive true else s

/-- The samples of an enabled channel that are due, in order of their microframe, and its missing count (R282, R283): a count
that is already at or beyond a limit set later raises no hold. [DESIGN CHOICE, log 179] -/
def State.channelSamples (s : State) (c : ChanId) : State :=
  let x := s.mint.chans[c.val]
  let n := s.tally.n
  let due := x.pending.filter fun y => decide ((n - y.due).toInt ≥ 0)
  let s := s.modChan c fun y => { y with pending := y.pending.filter fun z => decide ((n - z.due).toInt < 0) }
  if !s.chanEnabled c then s
  else
    let s := due.foldl (fun s y => s.useSample c y) s
    let x := s.mint.chans[c.val]
    let active := ((s.chanPort c).map s.isActive).getD false
    if x.used || !x.history || !active then s
    else s.modChan c fun y => { y with
      miss := y.miss + 1, missDue := y.missDue || (y.cfg.map fun r => r.missLimit != 0 && y.miss + 1 == r.missLimit).getD false }

/-- The FEEDBACK hold of a channel whose missing count has reached its limit is raised (R283). [DEDUCED, log 101] -/
def State.raiseMissing (s : State) (c : ChanId) (more : Bool) : State :=
  if s.mint.chans[c.val].missDue then (s.modChan c fun x => { x with missDue := false }).mintHold c .feedback more else s

/-- FEEDBACK_MISSING (R283): a channel's missing count has reached MISS_LIMIT. [DEDUCED, log 101] -/
def execFeedbackMissing (c : ChanId) (s : State) : Out := .next (s.raiseMissing c false)

/-- A group without an enabled channel is IDLE, or HELD if a hold was raised on it (R285). -/
def State.emptyGroup (s : State) (g : GroupId) : State :=
  if (s.groupEnabled g).isEmpty then
    match s.mint.groups[g.val].state with
    | .armed | .running => (s.modGroup g fun x => { x with armed := none, armedRun := none }).setGroup g .idle
    | .holding => s.setGroup g .held
    | _ => s
  else s

/-- A release takes effect (R295). -/
def State.releaseGroup (s : State) (g : GroupId) : State :=
  let x := s.mint.groups[g.val]
  let s := s.modGroup g fun x => { x with release := false }
  if !x.release || x.state != .held then s
  else
    let s := s.modGroup g fun x => { x with cause := 0 }
    let s := (s.groupChans g).foldl (fun s c => s.modChan c fun y => { y with
      queue := [], run := none, stop := none, freeing := 0, waiting := false, last := restAt y.last.p, planned := restAt y.last.p
      stopped := restAt y.last.p, standby := { p0 := y.last.p } }) s
    s.setGroup g .idle

/-- The seeded channels of a group that hold its start (R289). -/
def State.seedWait (s : State) (g : GroupId) : List ChanId :=
  (s.groupEnabled g).filter fun c =>
    let x := s.mint.chans[c.val]
    !x.history && (x.cfg.map (·.seed)).getD false && x.seedPos.isNone

/-- A channel takes its start state (R289). -/
def Chan.startState (c : Chan) : Chan :=
  if c.history then c
  else
    let p := match c.cfg with
      | some r => if r.seed then c.seedPos.getD 0 else r.startPos
      | none => 0
    { c with history := true, last := restAt p, planned := restAt p, stopped := restAt p, standby := { p0 := p }, run := none, stop := none }

/-- An abandoned start (R287). [DEDUCED, log 100] -/
def State.abandonStart (s : State) (g : GroupId) : State :=
  let c := match s.seedWait g with | x :: _ => x.val | [] => 0
  ((s.modGroup g fun x => { x with armed := none }).setGroup g .idle).mintEvent (s.groupChans g) 0x4 (g.val + fieldAt c 8)

/-- Microframes from N_s to now, negative before it. -/
def State.since (s : State) (ns : Dword) : Int := (s.tally.n - ns).toInt

/-- A late start is reported (R287). -/
def State.lateStart (s : State) (g : GroupId) (late : Int) : State :=
  if late > 0 then s.mintEvent (s.groupChans g) 0x3 (g.val + fieldAt (min late.toNat 65535) 16) else s

/-- Whether a start that fires now begins the WAIT segment at a channel's queue head: the channel is at rest (R288). -/
def Chan.waits (c : Chan) : Bool :=
  !c.planned.moving && c.stop.isNone && (match c.queue with | g :: _ => g.wait | [] => false)

/-- The firing of a group's armed start (R287, R288), and the channels it starts. A group that is held at the same snapshot
takes no start state (R296). [DEDUCED, log 100] -/
def State.fireStart (s : State) (g : GroupId) (heldToo : Bool) : State × List ChanId :=
  let x := s.mint.groups[g.val]
  match x.state with
  | .armed =>
    match x.armed with
    | none => (s, [])
    | some ns =>
      let late := s.since ns
      if late < 0 then (s, [])
      else if late > 800 then (s.abandonStart g, [])
      else if !(s.seedWait g).isEmpty then (s, [])
      else
        let s := ((s.modGroup g fun x => { x with armed := none }).setGroup g .running).lateStart g late
        if heldToo then (s, [])
        else ((s.groupEnabled g).foldl (fun s c => s.modChan c Chan.startState) s, s.groupEnabled g)
  | .running =>
    match x.armedRun with
    | none => (s, [])
    | some ns =>
      let late := s.since ns
      if late < 0 then (s, [])
      else
        let s := (s.modGroup g fun x => { x with armedRun := none }).lateStart g late
        (s, (s.groupEnabled g).filter fun c => s.mint.chans[c.val].waits)
  | _ => (s, [])

/-- MNT_START_ABANDON (R287): a start that has not fired 800 microframes after N_s. [DEDUCED, log 100] -/
def execMntStartAbandon (g : GroupId) (s : State) : Out :=
  .next (
    let x := s.mint.groups[g.val]
    match x.state, x.armed with
    | .armed, some ns => if s.since ns ≥ 800 then s.abandonStart g else s
    | _, _ => s)

/-- What reaches one group at a snapshot, in the order of R296. -/
def State.meetGroup (s : State) (g : GroupId) (pend : BitVec 16 × Option ChanId) : State × List ChanId :=
  let r := (s.releaseGroup g).fireStart g (pend.1 != 0)
  if pend.1 = 0 then r else (r.1.applyHold g pend.1 pend.2 false, [])

/-! ### The evaluation (R298) -/

/-- A planned setpoint is checked against VMAX and AMAX and for saturation (R284, R265). [DEDUCED, log 97] -/
def ChanRec.overLimit (r : ChanRec) (x : Setpoint) : Bool :=
  x.saturated || (r.vmax != 0 && decide (x.v.natAbs > r.vmax)) || (r.amax != 0 && decide (x.a.natAbs > r.amax))

/-- A channel whose queue gives nothing while it moves, or a rejected segment: it follows its standby profile (R293). -/
def State.failNext (s : State) (c : ChanId) (why : Cause) : State :=
  let s := (s.mintHold c why true).followStop c 1
  let p := s.mint.chans[c.val].standby.setpoint 1
  let s := s.modChan c fun x => { x with planned := p, stopped := p, waiting := false }
  if p.saturated then s.mintHold c .limit true else s

/-- What Mint reads of a channel for its next setpoint (R390): whether its record and its history can be used, and the channel
as its queue then stands: it ends before an entry that is uncorrectable. -/
def State.readChannel (s : State) (c : ChanId) : Bool × Chan × State :=
  let x := s.mint.chans[c.val]
  let r := s.checkRecord (0x130000 + 64 * c.val) 64
  let h := if r.2.ldg.diff (historyLine c) = 0 then (true, r.2) else r.2.checkRecord (64 * historyLine c) 64
  if !(r.1 && h.1) then (false, x, h.2)
  else match x.headEntry with
    | none => (true, x, h.2)
    | some e =>
      let q := h.2.checkRecord (entryAddr c e) 48
      (true, if q.1 then x else { x with queue := [] }, q.2)

/-- The planned and the stopped setpoint of one channel for the next microframe (R298). A channel record that is uncorrectable
as Mint reads it holds the group with the UNDERRUN cause (R390). [DEDUCED, log 97] -/
def State.evaluate (s : State) (c : ChanId) (start : Bool) : State :=
  let x := s.mint.chans[c.val]
  match x.cfg with
  | none => s
  | some r =>
    if !r.enable || !x.history then s
    else match s.mint.groups[r.group.val].state, x.stop with
      | .holding, some (f, k) | .running, some (f, k) =>
        let p := f.setpoint (k + 1)
        let s := s.modChan c fun y => { y with stop := some (f, k + 1), planned := p, stopped := p }
        if p.saturated then s.mintHold c .limit true else s
      | .running, none =>
        let rd := s.readChannel c
        let s := rd.2.2
        if !rd.1 then s.failNext c .underrun
        else
          match rd.2.1.next r start with
          | .go y mark =>
            let stopped := x.standby.setpoint 1
            let queue := if rd.2.1.queue.isEmpty then x.queue else y.queue
            let s := s.modChan c fun _ => { y with stopped := stopped, queue := queue }
            let s := match mark with | some t => s.mintEvent [c] 0x6 (c.val + fieldAt t.toNat 8) | none => s
            if r.overLimit y.planned || stopped.saturated then s.mintHold c .limit true else s
          | .underrun => (s.failNext c .underrun).mintEvent [c] 0x5 c.val
          | .segJump => s.failNext c .segJump
      | _, _ => s.modChan c fun y => { y with planned := restAt y.last.p, stopped := restAt y.last.p }

/-- Channels that Mint evaluates: enabled, with history. [DEDUCED, log 103] -/
def State.served (s : State) : List ChanId :=
  allChans.filter fun c => s.chanEnabled c && s.mint.chans[c.val].history

/-- Mint at a microframe boundary (R298): the snapshot, the samples, the groups and the evaluation. [DEDUCED, log 103] -/
def State.mintBoundary (s : State) : State :=
  let s := allChans.foldl (fun s c => s.raiseMissing c true) s
  let s := allGroups.foldl State.reportHold s
  let n := s.tally.n
  let s : State := { s with mint := { s.mint with chans := s.mint.chans.map fun c => c.takeEffect n, sent := false } }
  let pends := allGroups.map fun g => (s.mint.groups[g.val].pend, s.mint.groups[g.val].raiser)
  let ops := s.mint.pend
  let s : State := { s with mint := { s.mint with
    pend := [], groups := s.mint.groups.map fun g => { g with pend := 0, raiser := none, early := false } } }
  let s := ops.foldl State.applyMintOp s
  let s := allChans.foldl State.channelSamples s
  let s := allGroups.foldl State.emptyGroup s
  let r := (allGroups.zip pends).foldl (fun (a : State × List ChanId) gp =>
    let b := a.1.meetGroup gp.1 gp.2
    (b.1, a.2 ++ b.2)) (s, [])
  let s := allChans.foldl (fun s c => s.evaluate c (r.2.contains c)) r.1
  let s := allGroups.foldl State.checkHeld s
  let load : BitVec 16 := BitVec.ofNat 16 (8 * s.served.length)
  let s : State := { s with mint := { s.mint with
    load := load, peak := if load.toNat > s.mint.peak.toNat then load else s.mint.peak
    groups := s.mint.groups.map fun g => { g with snap := g.state, snapStart := if g.state = .running then g.armedRun else g.armed } } }
  let s : State := { s with mint := { s.mint with
    chans := Vector.ofFn fun c => { s.mint.chans[c.val] with data48 := s.mintChBytes c }
    groups := Vector.ofFn fun g => { s.mint.groups[g.val] with data8 := s.mintGrpBytes g } } }
  s.endStopWaits

end Sys2Proof.Machine
end

