-- ==== Sys2Proof/Machine/Holds.lean ====
section
/-! DEFINITION. Holds that come over Dovetail (R257, R259, R32): a received HOLD frame and the loss of DOVE_IN. -/
namespace Sys2Proof.Machine

/-- The groups of HOLD_GROUPS are held; a received hold before t = 3 µs takes effect in this microframe's Mint frames (R32,
R296). -/
def State.holdListed (s : State) (c : Cause) : State :=
  if c = .dovetail ∧ !s.mint.sent then
    ((groupsOf s.dvt.holdSnap).foldl (fun s g => s.applyHold g (BitVec.ofNat 16 (2 ^ c.bit)) none true) s).endStopWaits
  else (groupsOf s.dvt.holdSnap).foldl (fun s g => s.raiseHold g c none) s

/-- A HOLD frame is received (R257): the first valid copy is applied and forwarded; the device's own ends here.
[DEDUCED, log 42, 43] -/
def execDovetailHoldReceived (f : DoveFrame) (s : State) : Out :=
  .next (
    let frame := f.bytes
    if !s.dvtRuns then s
    else if s.dvt.bypass then s.modDvt fun d => { d with linkIn := true, sent := [frame] }
    else
      let s := s.hearLink f
      if f.broken ∨ frame.length ≠ 3 ∨ leAt frame 2 1 ≠ crc8 (frame.take 2) then s.badFrame
      else if !s.dvt.trained then s
      else
        let o : BitVec 2 := BitVec.ofNat 2 (leAt frame 0 1)
        let q : Byte := BitVec.ofNat 8 (leAt frame 1 1)
        let now := s.glb.clock
        if o = s.dvt.chainPos ∨ s.dvt.seen.any (fun x => x.1 == o && x.2.1 == q && decide (now < x.2.2 + 8)) then s
        else
          let s := s.modDvt fun d => { d with
            seen := (o, q, now) :: d.seen.filter fun x => decide (now < x.2.2 + 8)
            holdRx := satAdd d.holdRx 1, holdTx := satAdd d.holdTx 1, sent := [frame, frame, frame] }
          s.holdListed .dovetail)

/-- Loss of DOVE_IN is declared (R259): a follower loses its reference, and HOLD_GROUPS are held where LOSS_HOLD is 1. The invalid
characters that came after the last frame are counted. [DESIGN CHOICE, log 40] -/
def execDoveInLoss (invalid : Nat) (s : State) : Out :=
  .next (
    if s.dvtRuns && s.dvt.linkIn then
      let s := s.modDvt fun d => { d with
        linkIn := false, ringSize := 0, heard := [], rounds := 0, codeErr := satAdd d.codeErr invalid }
      let s := if s.followsDvt then s.refLost else s
      let s := if s.dvt.lossSnap then s.holdListed .link else s
      s.tallyEvent 0x5 s.dvt.cnt.toNat
    else s)

end Sys2Proof.Machine
end

