-- ==== Sys2Proof/Machine/Clearance.lean ====
section
/-! DEFINITION. Clearance (file 10): positions and prediction (R305, R314), distances (R309), the rows of the CLR_ opcodes, the
resolution of bodies, and the pipeline slots with their decisions (R316, R317). -/
namespace Sys2Proof.Machine

/-- All bodies, rising. -/
def allBodies : List BodyId := allFin 8
/-- All pairs, rising. -/
def allPairs : List PairId := allFin 28

/-! ### Pairs (file 10, "Pairs") -/

/-- The pair index of bodies a < b. -/
def pairIndex (a b : Nat) : Nat := a * (15 - a) / 2 + b - a - 1
/-- The bodies of a pair. -/
def pairBodies (p : PairId) : BodyId × BodyId :=
  ((allBodies.flatMap fun a => allBodies.map fun b => (a, b)).find? fun x =>
    decide (x.1.val < x.2.val) && pairIndex x.1.val x.2.val == p.val).getD (0, 1)
/-- The pairs of a mask, rising. -/
def pairsOf (m : BitVec 28) : List PairId := allPairs.filter fun p => testBit m p.val
/-- Whether a body belongs to a pair. -/
def inPair (b : BodyId) (p : PairId) : Bool := (pairBodies p).1 == b || (pairBodies p).2 == b
/-- A mask of the pairs that satisfy a condition. -/
def pairMask (f : PairId → Bool) : BitVec 28 := BitVec.ofNat 28 ((allPairs.map fun p => if f p then 2 ^ p.val else 0).sum)

/-! ### Records (R306, R311) -/

/-- An 80-byte body record (R306). -/
def bodyRecOf (l : List Byte) : BodyRec :=
  { capsule := leAt l 0 1 == 1
    chans := (List.range (leAt l 1 1)).map fun i => finOf 128 (by decide) (leAt l (2 + i) 1)
    vmax := leAt l 8 4, offset := (sleAt l 16 4, sleAt l 20 4, sleAt l 24 4)
    coef := (List.range (leAt l 1 1)).map fun j => (sleAt l (28 + 12 * j) 4, sleAt l (32 + 12 * j) 4, sleAt l (36 + 12 * j) 4)
    extent := if leAt l 0 1 = 1 then (sleAt l 64 4, sleAt l 68 4, sleAt l 72 4) else (leAt l 64 4, leAt l 68 4, leAt l 72 4)
    radius := leAt l 76 4 }

/-- The fixed checks of a body record (R306). -/
def bodyRecOk (l : List Byte) : Bool :=
  let n := leAt l 1 1
  let ch := (List.range n).map fun i => leAt l (2 + i) 1
  leAt l 0 1 < 2 && n < 4 && ch.all (· < 128) && ch.Nodup && zeroAt l (2 + n) (3 - n) && zeroAt l 5 3 && leAt l 8 4 != 0
    && zeroAt l 12 4 && zeroAt l (28 + 12 * n) (36 - 12 * n)
    && (leAt l 0 1 == 1 || (leAt l 64 4 < 2147483648 && leAt l 68 4 < 2147483648 && leAt l 72 4 < 2147483648 && leAt l 76 4 == 0))

/-- A 16-byte pair record (R311). -/
def pairRecOf (l : List Byte) : PairRec :=
  { clear := leAt l 0 4, warn := leAt l 4 4, look := leAt l 8 1, bcast := leAt l 9 1 == 1, holdGroups := BitVec.ofNat 16 (leAt l 10 2) }
/-- The fixed checks of a pair record (R311). -/
def pairRecOk (l : List Byte) : Bool :=
  (leAt l 4 4 == 0 || leAt l 0 4 ≤ leAt l 4 4) && 1 ≤ leAt l 8 1 && leAt l 8 1 ≤ 32 && leAt l 9 1 < 2 && zeroAt l 12 4

/-! ### Prediction (R314, R315) -/

/-- The start position of a channel without history (R289). -/
def Chan.startPos (c : Chan) : Int :=
  match c.cfg with
  | some r => if r.seed then c.seedPos.getD 0 else r.startPos
  | none => 0

/-- Setpoints computed in the microframes from `m` after the current one, `fuel` of them; `armed` holds while the channel waits
for the start of its group at `fire`. -/
def predictFrom (r : ChanRec) (fire : Option Int) (armed : Bool) : Nat → Int → Chan → List Int
  | 0, _, _ => []
  | n + 1, m, x =>
    if armed && (match fire with | some f => decide (m < f) | none => true) then
      x.last.p :: predictFrom r fire armed n (m + 1) x
    else
      match x.stop with
      | some (f, k) =>
        (f.setpoint (k + 1)).p :: predictFrom r fire armed n (m + 1) { x with stop := some (f, k + 1) }
      | none =>
        match x.next r (fire == some m && (armed || x.waits)) with
        | .go y _ => y.planned.p :: predictFrom r fire armed n (m + 1) y
        | .underrun | .segJump =>
          let f := stopProfile r x.planned
          (f.setpoint 1).p :: predictFrom r fire armed n (m + 1) { x with stop := some (f, 1) }

/-- A channel's positions at steps 0 to `steps` of the current microframe, once its setpoint has been sent (R314).
[DEDUCED, log 105] -/
def State.predict (s : State) (c : ChanId) (steps : Nat) : List Int :=
  let x := s.mint.chans[c.val]
  let now := (x.setpointAt s.tally.n).getD x.startPos
  let sent := if x.history then x.last.p else x.startPos
  match x.cfg with
  | none => List.replicate (steps + 1) sent
  | some r =>
    let g := s.mint.groups[r.group.val]
    let fire := g.snapStart.map fun ns => max 1 (ns - s.tally.n).toInt
    let rest := List.replicate (steps - 1) sent
    let later :=
      if !r.enable then rest
      else if g.early then (if x.stop.isSome then predictFrom r none false (steps - 1) 1 x else rest)
      else match g.snap with
        | .running => if x.history then predictFrom r fire false (steps - 1) 1 x else rest
        | .holding => if x.history && x.stop.isSome then predictFrom r none false (steps - 1) 1 x else rest
        | .armed => predictFrom r fire true (steps - 1) 1 x.startState
        | _ => rest
    (now :: sent :: later).take (steps + 1)

/-- One coordinate of a body (R305). -/
def coordOf (off : Int) (terms : List (Int × Int)) : Int :=
  (off * 2 ^ 56 + (terms.map fun t => t.1 * t.2).sum + 2 ^ 55) / 2 ^ 56

/-- A body's position from its channels' positions (R305). -/
def BodyRec.place (b : BodyRec) (ps : List Int) : Int × Int × Int :=
  (coordOf b.offset.1 ((b.coef.map (·.1)).zip ps), coordOf b.offset.2.1 ((b.coef.map (·.2.1)).zip ps),
   coordOf b.offset.2.2 ((b.coef.map (·.2.2)).zip ps))

/-- A body's positions at steps 0 to `steps` (R305, R314). -/
def State.bodyPath (s : State) (b : BodyRec) (steps : Nat) : List (Int × Int × Int) :=
  let cols := b.chans.map fun c => s.predict c steps
  (List.range (steps + 1)).map fun i => b.place (cols.map fun l => l.getD i 0)

/-- Whether a position is outside the signed 32-bit range (R305). -/
def outOfRange (p : Int × Int × Int) : Bool :=
  [p.1, p.2.1, p.2.2].any fun x => decide (x < -2147483648 ∨ x > 2147483647)

/-- Whether a channel leaves its bodies unresolved (R308). [DEDUCED, log 175] -/
def State.chanUnresolved (s : State) (c : ChanId) : Bool :=
  let x := s.mint.chans[c.val]
  match x.cfg with
  | none => true
  | some r => !r.enable || x.shifted || (!x.history && r.seed && x.seedPos.isNone)

/-! ### Distance (R309) -/

/-- Sum of the products of two vectors. -/
def dot (a b : Int × Int × Int) : Int := a.1 * b.1 + a.2.1 * b.2.1 + a.2.2 * b.2.2
/-- Difference of two vectors. -/
def vsub (a b : Int × Int × Int) : Int × Int × Int := (a.1 - b.1, a.2.1 - b.2.1, a.2.2 - b.2.2)
/-- Sum of two vectors. -/
def vadd (a b : Int × Int × Int) : Int × Int × Int := (a.1 + b.1, a.2.1 + b.2.1, a.2.2 + b.2.2)

/-- Squared distance of a point from a segment, as a fraction rounded down. -/
def pointSeg (p q d : Int × Int × Int) : Int :=
  let w := vsub p q
  let t := dot w d
  let dd := dot d d
  if t ≤ 0 then dot w w
  else if t ≥ dd then let e := vsub w d; dot e e
  else (dot w w * dd - t * t) / dd

/-- Squared least distance of two segments, rounded down: at an end of one of them, or between two inner points. -/
def segSeg (p u q v : Int × Int × Int) : Int :=
  let ends := min (min (pointSeg p q v) (pointSeg (vadd p u) q v)) (min (pointSeg q p u) (pointSeg (vadd q v) p u))
  let w := vsub p q
  let a := dot u u
  let b := dot u v
  let c := dot v v
  let d := dot u w
  let e := dot v w
  let den := a * c - b * b
  let sn := b * e - c * d
  let tn := a * e - b * d
  if den > 0 ∧ 0 < sn ∧ sn < den ∧ 0 < tn ∧ tn < den then
    let n : Int × Int × Int :=
      (u.2.1 * v.2.2 - u.2.2 * v.2.1, u.2.2 * v.1 - u.1 * v.2.2, u.1 * v.2.1 - u.2.1 * v.1)
    min ends (dot w n * dot w n / den)
  else ends

/-- Twice the centre and twice the half-extents of the box of a body, or of the box that encloses a capsule. -/
def BodyRec.box2 (b : BodyRec) (p : Int × Int × Int) : (Int × Int × Int) × (Int × Int × Int) :=
  let e := b.extent
  if b.capsule then
    let r : Int := 2 * b.radius
    ((2 * p.1 + e.1, 2 * p.2.1 + e.2.1, 2 * p.2.2 + e.2.2), (e.1.natAbs + r, e.2.1.natAbs + r, e.2.2.natAbs + r))
  else ((2 * p.1, 2 * p.2.1, 2 * p.2.2), (2 * e.1, 2 * e.2.1, 2 * e.2.2))

/-- The distance of two boxes given by twice their centres and half-extents, rounded down (R309). -/
def boxDist (a b : (Int × Int × Int) × (Int × Int × Int)) : Int :=
  let g := fun (x y hx hy : Int) => ((x - y).natAbs : Int) - (hx + hy)
  let gx := g a.1.1 b.1.1 a.2.1 b.2.1
  let gy := g a.1.2.1 b.1.2.1 a.2.2.1 b.2.2.1
  let gz := g a.1.2.2 b.1.2.2 a.2.2.2 b.2.2.2
  if gx > 0 ∨ gy > 0 ∨ gz > 0 then
    let q := fun (x : Int) => (max x 0) * (max x 0)
    (isqrt ((q gx + q gy + q gz).toNat / 4) : Nat)
  else (max gx (max gy gz)) / 2

/-- The signed distance of two bodies at two positions (R309). -/
def bodyDist (a b : BodyRec) (p q : Int × Int × Int) : Int :=
  if a.capsule ∧ b.capsule then (isqrt (segSeg p a.extent q b.extent).toNat : Int) - a.radius - b.radius
  else boxDist (a.box2 p) (b.box2 q)

/-! ### The opcodes (R306, R307, R311, R321) -/

/-- The record of a body once every accepted command has taken effect (R31). -/
def State.bodyAfter (s : State) (b : BodyId) : Option BodyRec :=
  s.clr.pend.foldl (fun x o => match o with | .body c r => if c = b then r else x | _ => x) s.clr.bodies[b.val].cfg
/-- The record of a pair once every accepted command has taken effect (R31). -/
def State.pairAfter (s : State) (p : PairId) : Option PairRec :=
  s.clr.pend.foldl (fun x o => match o with | .pair q r => if q = p then r else x | _ => x) s.clr.pairs[p.val].cfg
/-- The channels of a body record. -/
def bodyChans (r : Option BodyRec) : List ChanId := (r.map (·.chans)).getD []
/-- The channels of the bodies of some pairs, as records stand or will stand (R186). -/
def State.pairChans (s : State) (ps : List PairId) : List ChanId :=
  ps.flatMap fun p => bodyChans (s.bodyAfter (pairBodies p).1) ++ bodyChans (s.bodyAfter (pairBodies p).2)
/-- The queue of a command's effect at the next snapshot. -/
def State.pendClr (s : State) (o : ClrOp) : State := { s with clr := { s.clr with pend := s.clr.pend ++ [o] } }

/-- The body that ARG0 names. -/
def bodyArg (a : CmdArgs) : BodyId := finOf 8 (by decide) a.arg0.toNat

/-- CLR_BODY's body (R307). -/
def clrBodyBody (s : State) (a : CmdArgs) : Res :=
  let b := bodyArg a
  let r := if a.params.isEmpty then none else some (bodyRecOf a.params)
  if (bodyChans r).any fun c => s.mint.chans[c.val].cfg.isNone then .fail .eNotReady s
  else if allPairs.any fun p => s.clr.pairs[p.val].armedNow && inPair b p then .fail .eBusy s
  else .snap 0 (s.pendClr (.body b r))

/-- CLR_BODY's row. -/
def opClrBody : OpSpec :=
  { code := 0x60, plenOk := fun a => a.params.isEmpty || a.params.length == 80
    argOk := fun a => a.arg0.toNat < 8 && arg1Zero a && (a.params.isEmpty || bodyRecOk a.params)
    callerOk := fun s a => s.ownsChans a.caller (bodyChans (s.bodyAfter (bodyArg a))
      ++ if a.params.isEmpty then [] else (bodyRecOf a.params).chans)
    body := clrBodyBody }
/-- CLR_BODY defines or removes a body (R306, R307). -/
def execClrBody (a : CmdArgs) (s : State) : Out := .next (issue opClrBody a s)

/-- The pair that ARG0 names by its two bodies (R311). -/
def pairArg (a : CmdArgs) : PairId :=
  finOf 28 (by decide) (pairIndex (bitsAt a.arg0.toNat 0 3) (bitsAt a.arg0.toNat 8 3))

/-- CLR_PAIR's row (R311). -/
def opClrPair : OpSpec :=
  { code := 0x61, plenOk := fun a => a.params.isEmpty || a.params.length == 16
    argOk := fun a =>
      let x := bitsAt a.arg0.toNat 0 3
      let y := bitsAt a.arg0.toNat 8 3
      a.arg0.toNat == x + 256 * y && x < y && arg1Zero a && (a.params.isEmpty || pairRecOk a.params)
    callerOk := fun s a => s.ownsChans a.caller (s.pairChans [pairArg a])
    body := fun s a =>
      if s.clr.pairs[(pairArg a).val].armedNow then .fail .eBusy s
      else .snap 0 (s.pendClr (.pair (pairArg a) (if a.params.isEmpty then none else some (pairRecOf a.params)))) }
/-- CLR_PAIR loads or unloads a pair record (R311). -/
def execClrPair (a : CmdArgs) (s : State) : Out := .next (issue opClrPair a s)

/-- ARG0 is a pair mask that is not 0. -/
def arg0Pairs (a : CmdArgs) : Bool := a.arg0.toNat < 268435456 && !arg0Zero a
/-- The pair mask of ARG0. -/
def pairMaskArg (a : CmdArgs) : BitVec 28 := a.arg0.setWidth 28
/-- The caller owns the ports of every channel of the bodies of the pairs named (R186). -/
def ownsPairs (s : State) (a : CmdArgs) : Bool := s.ownsChans a.caller (s.pairChans (pairsOf (pairMaskArg a)))

/-- Whether a body may not be armed: not defined, or unresolved (R321, R308). -/
def State.bodyUnfit (s : State) (b : BodyId) : Bool :=
  match s.bodyAfter b with
  | none => true
  | some r => (s.clr.bodies[b.val].unresolved && s.clr.bodies[b.val].cfg == some r) || r.chans.any s.chanUnresolved
      || outOfRange (r.place (r.chans.map fun c => (s.predict c 0).headD 0))

/-- CLR_ARM's body (R321). [DEDUCED, log 106] -/
def clrArmBody (s : State) (a : CmdArgs) : Res :=
  let ps := pairsOf (pairMaskArg a)
  if ps.any fun p => (s.pairAfter p).isNone || s.bodyUnfit (pairBodies p).1 || s.bodyUnfit (pairBodies p).2 then .fail .eNotReady s
  else
    let s := ps.foldl (fun s p => s.modPair p fun x => { x with armedNow := true }) s
    .snap 0 (s.pendClr (.arm (pairMaskArg a)))

/-- CLR_ARM's row. -/
def opClrArm : OpSpec :=
  { code := 0x62, argOk := fun a => arg0Pairs a && arg1Zero a, callerOk := ownsPairs, body := clrArmBody }
/-- CLR_ARM arms the pairs of a mask (R321). -/
def execClrArm (a : CmdArgs) (s : State) : Out := .next (issue opClrArm a s)

/-- CLR_DISARM's row: presence is needed for pairs that are armed (R186, R321). -/
def opClrDisarm : OpSpec :=
  { code := 0x63, argOk := fun a => arg0Pairs a && arg1Zero a, callerOk := ownsPairs
    presence := fun s a => (pairsOf (pairMaskArg a)).any fun p => s.clr.pairs[p.val].armedNow
    body := fun s a => .snap 0 (s.pendClr (.disarm (pairMaskArg a))) }
/-- CLR_DISARM disarms pairs (R321). -/
def execClrDisarm (a : CmdArgs) (s : State) : Out := .next (issue opClrDisarm a s)

/-! ### The snapshot (R31, R310, R321) -/

/-- A CLEARANCE event to the owners of the ports that carry some channels (R324). -/
def State.clrEvent (s : State) (cs : List ChanId) (aux data : Nat) : State := s.slotsEvent (s.ownersOf cs) 0x28 aux data

/-- The channels of the bodies in force of some pairs. -/
def State.pairChansNow (s : State) (ps : List PairId) : List ChanId :=
  ps.flatMap fun p => bodyChans s.clr.bodies[(pairBodies p).1.val].cfg ++ bodyChans s.clr.bodies[(pairBodies p).2.val].cfg

/-- A body becomes young (R310). -/
def Body.makeYoung (b : Body) : Body := { b with young := 4 }

/-- A pair as it reads once disarmed (R323, R325). -/
def Pair.disarmed (p : Pair) : Pair :=
  { p with armed := false, state := .disarmed, minD := 0, minStep := 0, first := 0, inside := false, unres := false
           youngA := false, youngB := false, runMin := none, runFirst := 0 }

/-- One accepted Clearance command takes effect (R31). -/
def State.applyClrOp (s : State) (o : ClrOp) : State :=
  match o with
  | .body b r => s.modBody b fun _ => { cfg := r, young := if r.isSome then 4 else 0 }
  | .pair p r => s.modPair p fun x => { x with cfg := r }
  | .arm m =>
    let ps := (pairsOf m).filter fun p => !s.clr.pairs[p.val].armed
    let s := ps.foldl (fun s p =>
      ((s.modPair p fun x => { x with armed := true }).modBody (pairBodies p).1 Body.makeYoung).modBody (pairBodies p).2
        Body.makeYoung) s
    if ps.isEmpty then s else s.clrEvent (s.pairChansNow ps) 0x5 (pairMask fun p => ps.contains p).toNat
  | .disarm m =>
    let ps := (pairsOf m).filter fun p => s.clr.pairs[p.val].armed
    let s := ps.foldl (fun s p => s.modPair p Pair.disarmed) s
    if ps.isEmpty then s else s.clrEvent (s.pairChansNow ps) 0x6 (pairMask fun p => ps.contains p).toNat

/-- Clearance at a microframe boundary: the snapshot (R31). -/
def State.clrBoundary (s : State) : State :=
  let ops := s.clr.pend
  let s : State := { s with clr := { s.clr with pend := [], holdSent := false, open_ := false } }
  let s := ops.foldl State.applyClrOp s
  let s := if ops.isEmpty then s else s.ownWrites inClrRecords
  { s with clr := { s.clr with
    pairs := s.clr.pairs.map fun p => { p with armedNow := p.armed }
    bodies := s.clr.bodies.map fun b => { b with inflated := decide (b.young > 0) } } }

/-! ### Resolution (R308, R310, R316), before the first slot -/

/-- Whether a pair is armed and both its bodies are defined. -/
def State.pairRuns (s : State) (p : PairId) : Bool :=
  s.clr.pairs[p.val].armed && s.clr.pairs[p.val].cfg.isSome && s.clr.bodies[(pairBodies p).1.val].cfg.isSome
    && s.clr.bodies[(pairBodies p).2.val].cfg.isSome

/-- The longest lookahead of the armed pairs of a body; none where no armed pair has it. -/
def State.bodyLook (s : State) (b : BodyId) : Option Nat :=
  ((allPairs.filter fun p => s.pairRuns p && inPair b p).filterMap fun p => s.clr.pairs[p.val].cfg.map (·.look)).foldl
    (fun m x => some (max x (m.getD 0))) none

/-- A body is resolved for the microframe (R308, R305, R310); one of an armed pair that becomes unresolved is reported (R324).
[DEDUCED, log 105] -/
def State.resolveBody (lost : Option BodyId) (s : State) (b : BodyId) : State :=
  let x := s.clr.bodies[b.val]
  match x.cfg with
  | none => s
  | some r =>
    let look := s.bodyLook b
    let un := lost == some b || r.chans.any s.chanUnresolved
    let path := if un then [] else s.bodyPath r (look.getD 0)
    let rng := path.any outOfRange
    let bad := un || rng
    let hist := r.chans.filter fun c => s.mint.chans[c.val].history
    let young := if (hist.any fun c => !x.hist.contains c) || (x.unresolved && !bad) then 4 else x.young
    let s := s.modBody b fun x => { x with
      unresolved := bad, range := rng, hist := hist, path := path, young := young, inflated := decide (young > 0) }
    if bad && !x.unresolved && look.isSome then s.clrEvent r.chans 0x4 (b.val + flagAt rng 8) else s

/-- The inflation of a body (R310). -/
def Body.delta (b : Body) : Int := if b.inflated then 2 * ((b.cfg.map (·.vmax)).getD 0 : Nat) else 0

/-- The distance of a pair at a step, with inflation (R309, R310). -/
def State.pairDist (s : State) (p : PairId) (i : Nat) : Int :=
  let a := s.clr.bodies[(pairBodies p).1.val]
  let b := s.clr.bodies[(pairBodies p).2.val]
  match a.cfg, b.cfg with
  | some ra, some rb => bodyDist ra rb (a.path.getD i (0, 0, 0)) (b.path.getD i (0, 0, 0)) - a.delta - b.delta
  | _, _ => 0

/-- Whether a body of a pair is unresolved. -/
def State.pairUnres (s : State) (p : PairId) : Bool :=
  s.clr.bodies[(pairBodies p).1.val].unresolved || s.clr.bodies[(pairBodies p).2.val].unresolved

/-- Clearance reads its records (R390): the body whose record, or whose pair's record, is uncorrectable; which one it is is
free, since the spec does not give the records' places. [DESIGN CHOICE, log 122] -/
def State.lostBody (s : State) : Option BodyId × State :=
  let x := s.ownReads .fabric inClrRecords
  match x.1 with
  | none => (none, x.2)
  | some _ => let f := x.2.freeBelow 8; (some (finOf 8 (by decide) f.1), f.2)

/-- Bodies are resolved and d_0 of every armed pair is fixed, at t = 3 µs (R317). [DEDUCED, log 105] -/
def State.clrPrepare (s : State) : State :=
  let l := s.lostBody
  let s := allBodies.foldl (State.resolveBody l.1) l.2
  let s := allPairs.foldl (fun s p =>
    if s.pairRuns p then
      let d := if s.pairUnres p then 0 else s.pairDist p 0
      s.modPair p fun x => { x with d0 := d, runMin := none, runFirst := 0 }
    else s) s
  { s with clr := { s.clr with open_ := true } }

/-! ### The slots (R316 to R318, R324) -/

/-- A pair is found VIOLATED at a step: the holds of R318, the Dovetail frame, and the event of a new episode.
[DEDUCED, log 106] -/
def State.violate (s : State) (p : PairId) (r : PairRec) (step : Nat) (inside unres : Bool) : State :=
  let fresh := !s.clr.pairs[p.val].episode
  let s := s.modPair p fun x => { x with runFirst := step, episode := true }
  let s := (groupsOf r.holdGroups).foldl (fun s g => s.raiseHold g .clearance none) s
  let s : State :=
    if r.holdGroups ≠ 0 ∨ r.bcast then { s with clr := { s.clr with trips := s.clr.trips ||| BitVec.ofNat 28 (2 ^ p.val) } } else s
  let s : State :=
    if r.bcast && s.dvtRuns && s.dvt.trained && !s.clr.holdSent then
      let s := s.sendHold 0 []
      { s with clr := { s.clr with holdSent := true } }
    else s
  if fresh then
    s.clrEvent (s.pairChansNow [p]) 0x1
      (p.val + fieldAt step 8 + flagAt inside 14 + flagAt unres 15 + fieldAt r.holdGroups.toNat 16)
  else s

/-- One slot: the distance of a pair at one step, judged (R316, R317). -/
def State.runSlot (s : State) (p : PairId) (step : Nat) : State :=
  let x := s.clr.pairs[p.val]
  match x.cfg with
  | none => s
  | some r =>
    if !s.pairRuns p || step > r.look || x.runFirst != 0 then s
    else if s.pairUnres p then
      (s.modPair p fun x => { x with runMin := some (-2147483648, 1) }).violate p r 1 false true
    else
      let d := s.pairDist p step
      let inside := decide (x.d0 < r.clear)
      let least := match x.runMin with | some m => if d < m.1 then some (d, step) else some m | none => some (d, step)
      let s := s.modPair p fun x => { x with runMin := least }
      if (if inside then d < x.d0 else d < r.clear) then s.violate p r step inside false else s

/-- The decision of an armed pair, once its slots have ended (R316, R323). [DEDUCED, log 106] -/
def State.decide_ (s : State) (p : PairId) : State :=
  let x := s.clr.pairs[p.val]
  match x.cfg with
  | none => s
  | some r =>
    if !s.pairRuns p then s
    else
      let un := s.pairUnres p
      let m := x.runMin.getD (0, 0)
      let st : PairState :=
        if x.runFirst ≠ 0 then .violated else if r.warn ≠ 0 ∧ m.1 < r.warn then .warn else .clear
      let a := s.clr.bodies[(pairBodies p).1.val]
      let b := s.clr.bodies[(pairBodies p).2.val]
      let now := s.glb.clock
      let due := match x.lastWarn with | some c => decide (now ≥ c + 8000) | none => true
      let warned := st == .warn && due
      let ended := x.episode && st != .violated
      let s := s.modPair p fun x => { x with
        state := st, minD := m.1, minStep := m.2, first := x.runFirst, inside := !un && decide (x.d0 < r.clear), unres := un
        youngA := a.inflated, youngB := b.inflated, episode := x.episode && st == .violated
        lastWarn := if warned then some now else x.lastWarn }
      let s := if ended then s.clrEvent (s.pairChansNow [p]) 0x3 p.val else s
      if warned then s.clrEvent (s.pairChansNow [p]) 0x2 (p.val + fieldAt m.2 8) else s

/-- The last slot has ended: decisions are recorded and young counts fall (R317, R310). [DEDUCED, log 105] -/
def State.clrFinish (s : State) : State :=
  let s := allPairs.foldl State.decide_ s
  let seen := fun (b : BodyId) => allPairs.any fun p => s.pairRuns p && inPair b p
  let s := allBodies.foldl (fun s b => if seen b then s.modBody b fun x => { x with young := x.young - 1 } else s) s
  { s with clr := { s.clr with
    open_ := false, viol := pairMask fun p => s.clr.pairs[p.val].state == PairState.violated && s.clr.pairs[p.val].armed } }

/-- CLEARANCE_SLOT (R317): slot s takes step s ÷ 28 + 1 of pair s mod 28; the last one ends the microframe's evaluation.
[DESIGN CHOICE, log 7] -/
def execClearanceSlot (i : Fin 896) (s : State) : Out :=
  .next (
    if !s.clr.open_ then s
    else
      let s := s.runSlot (finOf 28 (by decide) i.val) (i.val / 28 + 1)
      if i.val = 895 then s.clrFinish else s)

/-- YOUNG_COUNT_EXPIRY (R310): a body whose count has reached 0 is no longer inflated. -/
def execYoungCountExpiry (b : BodyId) (s : State) : Out :=
  .next (if s.clr.bodies[b.val].young = 0 then s.modBody b fun x => { x with inflated := false } else s)

/-! ### Reports (R323, R325) -/

/-- Codes of pair decisions (R323). -/
def PairState.code : PairState → Nat
  | .disarmed => 0 | .clear => 1 | .warn => 2 | .violated => 3

/-- CLR_ARMED (R325). -/
def Clearance.armedWord (c : Clearance) : Word := (pairMask fun p => c.pairs[p.val].armed).setWidth 32

/-- The 232 bytes of the CLEARANCE element (R323). -/
def Clearance.bytes (c : Clearance) : List Byte :=
  leBytes 4 c.armedWord.toNat ++ leBytes 4 c.viol.toNat ++ allPairs.flatMap fun p =>
    let x := c.pairs[p.val]
    leBytesInt 4 x.minD ++ [BitVec.ofNat 8 x.minStep, BitVec.ofNat 8 x.state.code, BitVec.ofNat 8 x.first,
      BitVec.ofNat 8 (flagAt x.unres 3 + flagAt x.youngB 2 + flagAt x.youngA 1 + bitOf x.inside)]

/-- A mask of the bodies that satisfy a condition. -/
def bodyMask (f : BodyId → Bool) : Nat := (allBodies.map fun b => if f b then 2 ^ b.val else 0).sum

/-- CLR_BODIES (R325). -/
def Clearance.bodiesWord (c : Clearance) : Word :=
  toWord (fieldAt (bodyMask fun b => c.bodies[b.val].range) 16 + fieldAt (bodyMask fun b => c.bodies[b.val].unresolved) 8
    + bodyMask fun b => c.bodies[b.val].cfg.isSome)
/-- CLR_BSTATE (R325). -/
def Body.word (b : Body) : Word :=
  let rec_ := match b.cfg with | some r => fieldAt r.chans.length 4 + flagAt r.capsule 1 + 1 | none => 0
  toWord (fieldAt b.young 8 + flagAt b.range 3 + flagAt b.unresolved 2 + rec_)
/-- CLR_PSTATE (R325). -/
def Pair.word (p : Pair) : Word :=
  toWord (fieldAt p.first 16 + fieldAt p.minStep 8 + flagAt p.inside 5 + flagAt p.cfg.isSome 4 + p.state.code)
/-- CLR_PDIST (R325). -/
def Pair.dist (p : Pair) : Word := BitVec.ofInt 32 p.minD

end Sys2Proof.Machine
end

