-- ==== Sys2Proof/Machine/MintSend.lean ====
section
/-! DEFINITION. MINT_SEND (R298): at t = 3 µs Mint chooses the setpoints, packs the Mint frames (R275 to R277) and computes the
standby profiles (R294); Clearance resolves its bodies for the slots that follow (R317). -/
namespace Sys2Proof.Machine

/-- Tally's target length of the next microframe in 1/256 ns (R275): what RATE gives where RATE stays, and otherwise free within
the step that R240 allows. [DESIGN CHOICE, log 32] -/
def State.periodNext (s : State) : Nat × State :=
  let d := rateUnit + s.tally.rate.toInt
  let p := (mfUnits * rateUnit / d).toNat
  let steady : Bool := match s.tally.mode with
    | .locked => false
    | .slew => !((s.tally.req = .slew && s.tally.target != 0) || (s.tally.req = .locked && s.tally.refOk))
    | .free => s.tally.holdTo.isNone
  if steady then
    if mfUnits * rateUnit % d = 0 then (p, s) else let r := s.freeBelow 2; (p + r.1, r.2)
  else let r := s.freeBelow 67; (p + r.1 - 33, r.2)

/-- EFLAGS of an entry with VALID = 1 (R275). [DEDUCED, log 99] -/
def eflags (st : Nat) (late : Bool) : Byte :=
  BitVec.ofNat 8 (1 + flagAt (st == 3) 1 + flagAt (st == 6) 2 + flagAt (st == 7) 3 + flagAt late 4 + flagAt (st == 5) 5)

/-- A channel's entry of a Mint frame (R275, R277). -/
def State.mintEntry (s : State) (c : ChanId) : List Byte :=
  let x := s.mint.chans[c.val]
  let ch : Byte := BitVec.ofNat 8 c.val
  match x.cfg with
  | none => List.replicate 33 0 ++ [ch] ++ List.replicate 6 0
  | some r =>
    let tail := [eflags (s.chanState c) x.lateFb, ch, BitVec.ofNat 8 r.group.val, x.last.stag]
    if !r.enable || !x.history then
      if r.fmtPos then List.replicate 9 0 ++ [ch] ++ List.replicate 6 0 else List.replicate 33 0 ++ [ch] ++ List.replicate 6 0
    else if r.fmtPos then leBytesInt 8 x.last.p ++ tail ++ List.replicate 4 0
    else leBytesInt 8 x.last.p ++ leBytesInt 8 x.last.v ++ leBytesInt 8 x.last.a2 ++ leBytesInt 8 x.last.a3 ++ tail
      ++ List.replicate 4 0

/-- HELDMASK: the groups that are HOLDING or HELD (R275). -/
def State.heldMask (s : State) : Nat :=
  (allGroups.map fun g => match s.mint.groups[g.val].state with | .holding | .held => 2 ^ g.val | _ => 0).sum

/-- The Mint frame of a MINT_OUT order (R275). [DEDUCED, log 104] -/
def State.mintFrame (s : State) (r : OrderRec) (period : Nat) : List Byte :=
  let short := decide (r.length < s.frameSize r.firstCh r.nch none)
  let n := if short then 0 else r.nch
  let cs := allChans.filter fun c => decide (r.firstCh ≤ c.val ∧ c.val < r.firstCh + n)
  let b := leBytes 2 1 ++ [BitVec.ofNat 8 n, BitVec.ofNat 8 r.firstCh] ++ leBytes 4 (s.tally.n + 1).toNat
    ++ leBytes 8 ((s.tally.t + 125000) <<< 8).toNat ++ leBytes 4 period ++ leBytes 2 s.heldMask ++ List.replicate 6 0
    ++ cs.flatMap s.mintEntry
  fitTo r.length (b ++ leBytes 4 (crc32c b).toNat)

/-- The setpoint of a channel is sent: the stopped one in a group that is HOLDING or was held early, else the planned one (R298).
[DEDUCED, log 98] -/
def State.sendChannel (s : State) (c : ChanId) : State :=
  let x := s.mint.chans[c.val]
  match x.cfg with
  | none => s
  | some r =>
    if !r.enable || !x.history then s
    else
      let g := s.mint.groups[r.group.val]
      let sp := if g.state = .holding ∨ g.early then x.stopped else x.planned
      s.modChan c fun x => { x with last := sp, standby := stopProfile r sp }

/-- The frames of the MINT_OUT occurrences of the microframe are packed (R275). -/
def State.packFrames (s : State) (period : Nat) : State :=
  let l := allOrders.filterMap fun n =>
    match s.orders[n.val].occ with
    | some o => if o.cfg.cls = .mintOut ∧ o.txn = 0 then some (n, s.mintFrame o.cfg period) else none
    | none => none
  let s := l.foldl (fun s x => s.modOrder x.1 fun o => { o with occ := o.occ.map fun y => { y with src := x.2 } }) s
  { s with mint := { s.mint with frames := l.map fun x => (x.1.val, x.2) } }

/-- The 48 bytes of a channel's MINT_CH data once its setpoint is sent (R300): P, V, A and STAG are that setpoint's; a group held
early in this microframe shows the channel's state with it. -/
def State.sentBytes (s : State) (c : ChanId) : List Byte :=
  let x := s.mint.chans[c.val]
  let old := x.data48
  let sp := if x.history then x.last else {}
  let early := ((s.chanGroup c).map fun g => s.mint.groups[g.val].early).getD false
  leBytesInt 8 sp.p ++ leBytesInt 8 sp.v ++ leBytesInt 8 sp.a ++ slice old 24 16
    ++ (if early then [BitVec.ofNat 8 (s.chanState c)] else slice old 40 1) ++ slice old 41 1 ++ [sp.stag] ++ slice old 43 5

/-- Mint's and Clearance's own data of a microframe are written (R383, R399). -/
def State.writeProduced (s : State) : State :=
  let s := s.ownWrites fun l => inProduced l || inHistory l
  { s with mint := { s.mint with produced := s.mint.produced || !s.served.isEmpty } }

/-- MINT_SEND (R298). [DEDUCED, log 176; DESIGN CHOICE, log 7] -/
def execMintSend (s : State) : Out :=
  .next (
    if !s.tally.running || s.mint.sent then s
    else
      let s := allChans.foldl State.sendChannel s
      let s : State := { s with mint := { s.mint with
        sent := true, sentN := s.tally.n, chans := Vector.ofFn fun c => { s.mint.chans[c.val] with data48 := s.sentBytes c }
        groups := s.mint.groups.mapFinIdx fun i g h =>
          if g.early then { g with data8 := s.mintGrpBytes ⟨i, h⟩ } else g } }
      let s := allGroups.foldl State.reportHold s
      let r := s.periodNext
      ((r.2.packFrames r.1).writeProduced).clrPrepare)

end Sys2Proof.Machine
end

