-- ==== Sys2Proof/Machine/Purses.lean ====
section
/-! DEFINITION. Purses (file 07, R223 to R236; R189, R466): packets in, packets out, pointer and parity checks, and the rows
PRS_CFG, PRS_READ and PRS_READ_COPY_DONE. -/
namespace Sys2Proof.Machine

/-- All Purses, rising. -/
def allPurses : List PurseId := allFin 256

/-- Words a Purse holds at most (R223). -/
def Purse.capacity (p : Purse) : Nat := 64 * p.blocks
/-- PKTS: END words held (R226). -/
def Purse.pkts (p : Purse) : Nat := (p.words.filter (·.fin)).length
/-- Whether the two copies of both pointers agree (R231). -/
def Purse.pointersOk (p : Purse) : Bool := p.rd == p.rd2 && p.wr == p.wr2
/-- The read pointer moved past `n` words. -/
def Purse.advanceRd (p : Purse) (n : Nat) : Purse :=
  let r := (p.rd + n) % p.capacity
  { p with rd := r, rd2 := r }
/-- The write pointer moved past `n` words. -/
def Purse.advanceWr (p : Purse) (n : Nat) : Purse :=
  let w := (p.wr + n) % p.capacity
  { p with wr := w, wr2 := w }
/-- Words up to and with the first END. -/
def headPacket : List PurseWord → List PurseWord
  | [] => []
  | w :: l => if w.fin then [w] else w :: headPacket l
/-- The words of a packet: END on the last (R225). -/
def packetWords (d : Nat) (status : Nat) (n : Word) (data : List Byte) : List PurseWord :=
  let hd : Dword := BitVec.ofNat 64 (fieldAt d 48 + fieldAt status 40 + n.toNat)
  let nw := ceilDiv d 8
  { data := hd, fin := nw == 0, parityOk := true } ::
    (List.range nw).map fun i => { data := BitVec.ofNat 64 (leAt data (8 * i) 8), fin := i + 1 == nw, parityOk := true }

/-- A PURSE event to the owner (R232). [DEDUCED, log 93] -/
def State.purseEvent (s : State) (n : PurseId) (aux data : Nat) : State :=
  s.slotEvent s.purses[n.val].owner 0x39 none aux (n.val + fieldAt data 8)

/-- Words counted in LOST, with the loss event where it is armed and a second has passed since the last one (R227).
[DEDUCED, log 92] -/
def State.purseLoss (s : State) (n : PurseId) (k : Nat) : State :=
  let s := s.modPurse n fun p => { p with lost := satAdd p.lost k }
  let p := s.purses[n.val]
  let due : Bool := match p.lastLoss with | some c => decide (s.glb.clock ≥ c + 8000) | none => true
  if p.lossEvent && p.armed && due then
    (s.modPurse n fun p => { p with armed := false, lastLoss := some s.glb.clock }).purseEvent n 0x3 (min p.lost.toNat 0xFFFFFF)
  else s

/-- The pointers, or a word's parity, disagree (R231): the Purse is reset; more than 8 resets within a second retire it
(R466). `bad` is the block of a word that gave a parity error. -/
def State.purseReset (s : State) (n : PurseId) (bad : Option Nat) : State :=
  let now := s.glb.clock
  let s := s.modPurse n fun p =>
    let recent := (p.resetTimes.filter fun t => decide (now < t + 8000)) ++ [now]
    { p with
      lost := satAdd p.lost p.words.length, words := [], rd := 0, rd2 := 0, wr := 0, wr2 := 0
      resets := satAdd p.resets 1, resetTimes := recent, retired := p.retired || decide (recent.length > 8)
      badBlocks := match bad with | some b => insertRising b p.badBlocks | none => p.badBlocks }
  let s := s.modGlb fun g => { g with fPurse := true }
  s.purseEvent n 0x1 s.purses[n.val].resets.toNat

/-- A Purse is reset (R231), with one further event where this reset retires it (R466). [DEDUCED, log 95] -/
def State.purseFault (s : State) (n : PurseId) (bad : Option Nat) : State :=
  let was := s.purses[n.val].retired
  let s := s.purseReset n bad
  if s.purses[n.val].retired && !was then s.purseEvent n 0x1 s.purses[n.val].resets.toNat else s

/-- The oldest packets are overwritten until `k` words fit, or none is left (R227). [DEDUCED, log 92] -/
def State.purseRoom (n : PurseId) (k : Nat) : Nat → State → State
  | 0, s => s
  | fuel + 1, s =>
    let p := s.purses[n.val]
    if p.words.isEmpty || p.words.length + k + p.detached ≤ p.capacity then s
    else
      let gone := (headPacket p.words).length
      State.purseRoom n k fuel
        ((s.modPurse n fun p => ({ p with words := p.words.drop gone }).advanceRd gone).purseLoss n gone)

/-- A packet is stored whole, with the watermark event (R225, R232). [DEDUCED, log 92] -/
def State.purseStore (s : State) (n : PurseId) (l : List PurseWord) : State :=
  let before := s.purses[n.val].pkts
  let s := s.modPurse n fun p => ({ p with words := p.words ++ l }).advanceWr l.length
  let p := s.purses[n.val]
  if p.wmEvent && p.watermark != 0 && decide (before < p.watermark) && decide (p.watermark ≤ p.pkts) then
    s.purseEvent n 0x2 p.pkts
  else s

/-- A packet arrives (R225, R227, R230, R231, R466). [DEDUCED, log 92] -/
def State.pursePush (s : State) (n : PurseId) (l : List PurseWord) : State :=
  let p := s.purses[n.val]
  if p.retired then s.modPurse n fun p => { p with lost := satAdd p.lost l.length }
  else if !p.pointersOk then (s.purseFault n none).modPurse n fun p => { p with lost := satAdd p.lost l.length }
  else if l.length > p.capacity then s.purseLoss n l.length
  else
    let s := s.purseRoom n l.length p.words.length
    let p := s.purses[n.val]
    if p.words.length + l.length + p.detached ≤ p.capacity then s.purseStore n l else s.purseLoss n l.length

/-! ### PRS_CFG (R189, R223, R224) -/

/-- PRS_FREE: blocks neither held nor withheld (R235, R466). [DEDUCED, log 95] -/
def State.freeBlocks (s : State) : Nat := 2048 - (s.purses.toList.map fun p => p.blocks + p.withheld).sum

/-- The Purse that ARG0 names. -/
def purseArg (a : CmdArgs) : PurseId := finOf 256 (by decide) a.arg0.toNat

/-- The caller owns the Purse; with `free`, a Purse that is not configured passes too (R189). -/
def ownsPurse (free : Bool) (s : State) (a : CmdArgs) : Bool :=
  let p := s.purses[(purseArg a).val]
  match a.caller with
  | .slot h => if p.blocks = 0 then free else p.owner == h
  | .mbx => false

/-- A Purse of a new size: empty, its counters cleared; the blocks that a retired one leaves behind are withheld (R224, R466).
[DEDUCED, log 93, 95] -/
def Purse.resize (p : Purse) (blocks : Nat) : Purse :=
  { blocks := blocks, owner := p.owner, watermark := p.watermark, wmEvent := p.wmEvent, lossEvent := p.lossEvent, armed := p.armed
    lastLoss := p.lastLoss, draft := p.draft, withheld := p.withheld + (if p.retired then p.badBlocks.length else 0) }

/-- PRS_CFG's body (R223, R224). [DEDUCED, log 93, 95] -/
def prsCfgBody (s : State) (a : CmdArgs) : Res :=
  let n := purseArg a
  let p := s.purses[n.val]
  let b := leAt a.params 0 2
  let f : Byte := BitVec.ofNat 8 (leAt a.params 4 1)
  let h := (callerSlot a.caller).getD 0
  let own := p.blocks - (if p.retired then p.badBlocks.length else 0)
  if b = 0 ∧ p.blocks = 0 then .ok s
  else if b = 0 then .ok (s.modPurse n fun p => { (p.resize 0) with owner := 0, watermark := 0, wmEvent := false, lossEvent := false }).refreshOrders
  else if s.freeBlocks + own < b then .fail .eBusy s
  else
    let arm := decide (p.blocks ≠ b) || p.wmEvent != testBit f 0 || p.lossEvent != testBit f 1
    .ok (s.modPurse n fun p => { (if p.blocks = b then p else p.resize b) with
      owner := h, watermark := leAt a.params 2 2, wmEvent := testBit f 0, lossEvent := testBit f 1
      armed := p.armed || arm }).refreshOrders

/-- PRS_CFG's row. -/
def opPrsCfg : OpSpec :=
  { code := 0xB0, plenOk := fun a => a.params.length == 16
    argOk := fun a => a.arg0.toNat < 256 && arg1Zero a && leAt a.params 0 2 ≤ 2048 && leAt a.params 4 1 < 4 && zeroAt a.params 5 11
    callerOk := ownsPurse true, body := prsCfgBody }
/-- PRS_CFG configures, resizes or frees a Purse (R223, R224). -/
def execPrsCfg (a : CmdArgs) (s : State) : Out := .next (issue opPrsCfg a s)

/-! ### PRS_READ (R228 to R231) -/

/-- Words of the whole packets at the head, at most `m` (R228). -/
def wholeWords : Nat → Nat → List PurseWord → Nat
  | 0, _, _ => 0
  | fuel + 1, m, l =>
    let k := (headPacket l).length
    if k = 0 ∨ k > m then 0 else k + wholeWords fuel (m - k) (l.drop k)

/-- How many words PRS_READ takes (R228): whole packets, or a part of the oldest where it alone is longer. -/
def Purse.readCount (p : Purse) (m : Nat) : Nat :=
  let k := wholeWords p.words.length m p.words
  if k = 0 then min m p.words.length else k

/-- The status word of PRS_READ (R228). -/
def Purse.statusWord (p : Purse) (idle : Bool) : List Byte := leBytes 8 (p.lost.toNat + fieldAt p.resets.toNat 32 + flagAt idle 63)

/-- The END bitmap of some words (R228). -/
def endBitmap (l : List PurseWord) : List Byte :=
  leBytes (8 * ceilDiv l.length 64) ((List.range l.length).map fun i => if (l[i]?.map (·.fin)).getD false then 2 ^ i else 0).sum

/-- The idle item (R229). -/
def idleItem (s : State) (n : PurseId) : Res := .done .ok 0 (List.replicate 16 0 ++ s.purses[n.val].statusWord true) s

/-- The block of the first word with a parity error among the first `k`. -/
def Purse.badWord (p : Purse) (k : Nat) : Option Nat :=
  ((List.range k).find? fun i => !((p.words[i]?.map (·.parityOk)).getD true)).map fun i => (p.rd + i) % p.capacity / 64

/-- The Draft that copies the words PRS_READ has taken (R397), if the Purse has none at work already. -/
def State.startCopy (s : State) (n : PurseId) : State :=
  if s.purses[n.val].draft.isSome then s
  else
    let d := s.takeDraft 3
    d.2.modPurse n fun p => { p with draft := d.1 }

/-- PRS_READ's body (R228 to R231, R466). -/
def prsReadBody (s : State) (a : CmdArgs) : Res :=
  let n := purseArg a
  let s := s.modPurse n fun p => { p with armed := true }
  let p := s.purses[n.val]
  let k := p.readCount (min a.arg1.toNat 8064)
  if p.retired then idleItem s n
  else if !p.pointersOk then idleItem (s.purseFault n none) n
  else match p.badWord k with
    | some b => idleItem (s.purseFault n (some b)) n
    | none =>
      if k = 0 then idleItem s n
      else
        let l := p.words.take k
        let s := s.modPurse n fun p => ({ p with words := p.words.drop k, detached := p.detached + k }).advanceRd k
        let s := s.startCopy n
        .done .ok (toWord k) (l.flatMap (fun w => leBytes 8 w.data.toNat) ++ endBitmap l ++ p.statusWord false) s

/-- PRS_READ's row. -/
def opPrsRead : OpSpec :=
  { code := 0xB1, argOk := fun a => a.arg0.toNat < 256 && 1 ≤ a.arg1.toNat && a.arg1.toNat ≤ 8192
    callerOk := ownsPurse false, body := prsReadBody }
/-- PRS_READ removes whole packets from the head of a Purse (R228). -/
def execPrsRead (a : CmdArgs) (s : State) : Out := .next (issue opPrsRead a s)

/-- The copy of detached words ends: their space and their Draft are free (R230, R397). [DEDUCED, log 94] -/
def execPrsReadCopyDone (n : PurseId) (s : State) : Out :=
  .next ((s.freeDraft s.purses[n.val].draft).modPurse n fun p => { p with detached := 0, draft := none })

/-! ### Purse registers (R235) -/

/-- PRS_SIZE. -/
def State.prsSize (s : State) (n : PurseId) : Word :=
  let p := s.purses[n.val]
  toWord (fieldAt p.owner.val 18 + p.blocks)
/-- PRS_WORDS. -/
def State.prsWords (s : State) (n : PurseId) : Word := toWord s.purses[n.val].words.length
/-- PRS_PKTS. -/
def State.prsPkts (s : State) (n : PurseId) : Word := toWord s.purses[n.val].pkts
/-- PRS_LOST, read without clearing. -/
def State.prsLost (s : State) (n : PurseId) : Word :=
  let p := s.purses[n.val]
  toWord (fieldAt p.resets.toNat 28 + p.lost.toNat)

end Sys2Proof.Machine
end

