-- ==== Sys2Proof/Machine/Orders.lean ====
section
/-! DEFINITION. Standing orders (file 07, R195 to R212, R233, R234; R269, R280): the rows SO_CREATE, SO_MODIFY, SO_DELETE,
SO_QUERY, ORDER_TRANSACTION_DONE and ORDER_WINDOW_END, the destinations of results, and the orders' part of a microframe
boundary. -/
namespace Sys2Proof.Machine

/-! ### Records (R195, R196, R198) -/

/-- The class that a code names; code 3 is refused before. -/
def classOfCode (c : Nat) : OrderClass := if c = 0 then .other else if c = 1 then .mintOut else .feedback
/-- The destination that a code names. -/
def destOfCode (c : Nat) : Dest :=
  match c with
  | 0 => .discard | 1 => .purse | 2 => .stmt | 3 => .template | 4 => .ledger | 5 => .mintFrame | _ => .ledgerSrc

/-- A 32-byte order record (R195). -/
def orderRecOf (l : List Byte) : OrderRec :=
  let ep := leAt l 1 1
  let kind : Byte := BitVec.ofNat 8 (leAt l 2 1)
  { port := finOf 24 (by decide) (leAt l 0 1), ep := BitVec.ofNat 4 ep, isIn := decide (ep ≥ 128)
    cls := classOfCode (kind.toNat % 4), iso := testBit kind 2, copyStmt := testBit kind 3
    e := leAt l 3 1, phase := leAt l 4 2, maxp := leAt l 6 2, length := leAt l 8 2, dest := destOfCode (leAt l 10 1)
    dindex := leAt l 11 1, laddr := leAt l 12 4, entries := leAt l 16 2, firstCh := leAt l 18 1, nch := leAt l 19 1, raw := l }

/-- Lines of one entry of a LEDGER ring (R198, R211). -/
def OrderRec.entryLines (r : OrderRec) : Nat := ceilDiv (8 + r.length) 64
/-- Lines that a record uses in the host region (R198). -/
def OrderRec.lines (r : OrderRec) : Nat :=
  match r.dest with
  | .ledger => r.entries * r.entryLines
  | .ledgerSrc => ceilDiv r.length 64
  | _ => 0
/-- Whether an order reads or writes the Ledger. -/
def OrderRec.usesLedger (r : OrderRec) : Bool := r.dest == .ledger || r.dest == .ledgerSrc
/-- Whether an order has a Statement slot (R210, R213). -/
def OrderRec.hasSlot (r : OrderRec) : Bool := r.dest == .stmt || r.copyStmt

/-- The checks of an order record that need nothing else (R195, R196, R198). [DEDUCED, log 76] -/
def orderRecOk (l : List Byte) : Bool :=
  let r := orderRecOf l
  leAt l 0 1 < 24 && r.ep != 0 && bitsAt (leAt l 1 1) 4 3 == 0 && leAt l 2 1 < 16 && leAt l 2 1 % 4 != 3
    && r.e ≤ 8 && r.phase < 2 ^ r.e && 1 ≤ r.maxp && r.maxp ≤ 1024 && r.length ≤ 3072 && leAt l 10 1 ≤ 6
    && (r.dest == .purse || (r.dest == .template && r.dindex < 64) || r.dindex == 0)
    && (if r.usesLedger then 0x300000 ≤ r.laddr && r.laddr + 64 * r.lines ≤ 0x400000 else r.laddr == 0)
    && (if r.dest == .ledger then 1 ≤ r.entries && r.entries ≤ 4096 else r.entries == 0)
    && (if r.cls == .mintOut then 1 ≤ r.nch && r.nch ≤ 8 && r.firstCh + r.nch ≤ 128 else r.firstCh == 0 && r.nch == 0)
    && zeroAt l 20 12 && r.comboOk

/-- The channels of a MINT_OUT order's frame. -/
def OrderRec.frameChans (r : OrderRec) : List ChanId :=
  if r.cls = .mintOut then allChans.filter fun c => decide (r.firstCh ≤ c.val ∧ c.val < r.firstCh + r.nch) else []
/-- The template that a FEEDBACK order names. -/
def OrderRec.templ (r : OrderRec) : TemplId := finOf 64 (by decide) r.dindex

/-- The enabled channels that an order serves (R209, R269): those of its frame on its port, or those of its template. -/
def State.servedBy (s : State) (r : OrderRec) : List ChanId :=
  match r.cls with
  | .other => []
  | .mintOut => r.frameChans.filter fun c => s.chanEnabled c && s.chanPort c == some r.port
  | .feedback => (templChans s.mint.templates[r.templ.val].prog).filter s.chanEnabled

/-- The enabled channels that bar a change of an order's record (R269): those that a MINT_OUT order covers, on whatever port, or
those of a FEEDBACK order's template. -/
def State.coveredBy (s : State) (r : OrderRec) : List ChanId :=
  match r.cls with
  | .mintOut => r.frameChans.filter s.chanEnabled
  | _ => s.servedBy r

/-! ### Admission (R196 to R202, R280) -/

/-- The order that ARG0 names. -/
def orderArg (a : CmdArgs) : OrderId := finOf 1024 (by decide) a.arg0.toNat

/-- The caller rule of a record (R198): owner of its port, of the ports of its frame's channels, and of its Purse where one is
configured. -/
def ownsOrder (s : State) (a : CmdArgs) : Bool :=
  let r := orderRecOf a.params
  s.ownsAll a.caller [r.port] && s.ownsChans a.caller r.frameChans
    && (r.dest != .purse || (let p := s.purses[(finOf 256 (by decide) r.dindex).val]
          p.blocks == 0 || callerSlot a.caller == some p.owner))

/-- The checks of a record against the state (R196, R197, R201, R280), with the order `n` it replaces. [DEDUCED, log 76] -/
def State.recordStatus (s : State) (r : OrderRec) (n : Option OrderId) : Option Status :=
  let t := s.mint.templates[r.templ.val].prog
  let chans := templChans t
  let other := allOrders.any fun m =>
    let o : Order := s.orders[m.val]
    some m != n && o.state != OrderState.free && (match o.cfg with
      | some q => q.cls == .feedback && q.dindex == r.dindex
      | none => false)
  if !r.speedOk s.ports[r.port.val].speed then some .eRange
  else if r.cls = .feedback ∧ (other ∨ chans.any fun c => (s.chanPort c).isSome && s.chanPort c != some r.port) then some .eRange
  else if r.usesLedger ∧ r.laddr % 64 ≠ 0 then some .eAlign
  else if r.cls = .feedback ∧ t.isEmpty then some .eNotReady
  else none

/-- The budget's refusal of a record (R200 to R202), judged with the order it replaces left out. [DEDUCED, log 74] -/
def State.overBudget (s : State) (r : OrderRec) (n : Option OrderId) : Option Nat :=
  budget s.ports[r.port.val].speed (s.portOrders r.port n) r

/-- The Statement slot of the record that the last snapshot took is kept for the Statement of its microframe (R31, R217).
[DEDUCED, log 8] -/
def Order.keepShown (o : Order) : Order := if o.shown.isSome then o else { o with shown := some o.slot, snapRan := o.ran }

/-- A record is written to an order (R207, R234), with its copy in the Ledger (R383): counters cleared, and the ring's write
index at 0. [DEDUCED, log 77] -/
def State.writeOrder (s : State) (n : OrderId) (r : OrderRec) : State :=
  let st := s.issuedState r
  (s.modOrder n fun o =>
    let keep := r.hasSlot && (o.cfg.map OrderRec.hasSlot).getD false
    { o.keepShown with
      state := st, cfg := some r, done := 0, skip := 0, err := 0, late := 0, widx := 0
      slot := if keep then o.slot else {} }).writeOrderRecord n r.raw

/-- SO_CREATE's body (R198, R202). For 0xFFFF_FFFF the part takes any free order: which one is free. [DEDUCED, log 75, 76] -/
def soCreateBody (s : State) (a : CmdArgs) : Res :=
  let r := orderRecOf a.params
  match s.recordStatus r none with
  | some st => .fail st s
  | none =>
    if a.arg0 = 0xFFFFFFFF then
      let l := allOrders.filter fun n => s.orders[n.val].state == OrderState.free
      let x := s.freeBelow l.length
      match l[x.1]? with
      | none => .done .eBusy 2 [] s
      | some n =>
        match s.overBudget r none with
        | some why => .done .eBusy (toWord why) [] s
        | none => .done .ok (toWord n.val) [] (x.2.writeOrder n r)
    else if s.orders[(orderArg a).val].state ≠ OrderState.free then .done .eBusy 1 [] s
    else match s.overBudget r none with
      | some why => .done .eBusy (toWord why) [] s
      | none => .done .ok (toWord (orderArg a).val) [] (s.writeOrder (orderArg a) r)

/-- SO_CREATE's row. -/
def opSoCreate : OpSpec :=
  { code := 0x40, plenOk := fun a => a.params.length == 32
    argOk := fun a => (a.arg0.toNat < 1024 || a.arg0 == 0xFFFFFFFF) && arg1Zero a && orderRecOk a.params
    callerOk := ownsOrder, body := soCreateBody }
/-- SO_CREATE admits and creates a standing order (R198, R202). -/
def execSoCreate (a : CmdArgs) (s : State) : Out := .next (issue opSoCreate a s)

/-- The port of an order that is not FREE. -/
def State.orderPort (s : State) (n : OrderId) : List PortId :=
  let o : Order := s.orders[n.val]
  if o.state = OrderState.free then [] else (o.cfg.map (·.port)).toList

/-- A change that R269 forbids while an enabled channel is served. -/
def OrderRec.bound (old new : OrderRec) (size : Nat) : Bool :=
  match old.cls with
  | .other => false
  | .mintOut => new.port != old.port || new.ep != old.ep || new.isIn != old.isIn || new.cls != old.cls || new.firstCh != old.firstCh
      || new.nch != old.nch || new.dest != old.dest || new.length < size
  | .feedback => new.port != old.port || new.dindex != old.dindex

/-- SO_MODIFY's body (R202, R206, R208, R269). [DEDUCED, log 76, 77] -/
def soModifyBody (s : State) (a : CmdArgs) : Res :=
  let n := orderArg a
  let o : Order := s.orders[n.val]
  let r := orderRecOf a.params
  let held := match o.cfg with
    | some old => o.state != OrderState.free && !(s.coveredBy old).isEmpty && old.bound r (s.frameSize old.firstCh old.nch none)
    | none => false
  match s.recordStatus r (some n) with
  | some .eRange => .fail .eRange s
  | st =>
    if held then .fail .eRange s
    else match st with
      | some st => .fail st s
      | none =>
        if o.state = OrderState.free then .fail .eNotReady s
        else match s.overBudget r (some n) with
          | some why => .done .eBusy (toWord why) [] s
          | none => .ok (s.writeOrder n r)

/-- SO_MODIFY's row. -/
def opSoModify : OpSpec :=
  { code := 0x41, plenOk := fun a => a.params.length == 32
    argOk := fun a => a.arg0.toNat < 1024 && arg1Zero a && orderRecOk a.params
    callerOk := fun s a => ownsOrder s a && s.ownsAll a.caller (s.orderPort (orderArg a)), body := soModifyBody }
/-- SO_MODIFY replaces a standing order's record (R202, R208). -/
def execSoModify (a : CmdArgs) (s : State) : Out := .next (issue opSoModify a s)

/-! ### Deletion (R208, R209) -/

/-- A STATEMENT event (R221). [DEDUCED, log 87] -/
def State.stmtEvent (s : State) (h : SlotId) (aux data : Nat) : State := s.slotEvent h 0x50 none aux data

/-- Whether a slot's layout names an order. [DEDUCED, log 87] -/
def Slot.names (x : Slot) (n : OrderId) : Bool :=
  (x.layout.getD [] ++ x.nextLayout.getD []).any fun e => e.ty == 1 && e.index == n.val

/-- An order is deleted: FREE, its Statement slot gone; the slots whose layout names it hear of it, and SO_DELETE completes.
[DEDUCED, log 78] -/
def State.deleteOrder (s : State) (n : OrderId) : State :=
  let s := s.modOrder n fun o =>
    { shown := o.keepShown.shown, snapRan := o.keepShown.snapRan, snap := o.snap, snapState := o.snapState }
  let s := allSlots.foldl (fun s h => if s.slots[h.val].names n then s.stmtEvent h 0x4 n.val else s) s
  s.endWith (fun e => e.wait == .soDelete n) .ok 0

/-- SO_DELETE's body (R208, R209): it completes at once where no occurrence is under way. [DEDUCED, log 78] -/
def soDeleteBody (s : State) (a : CmdArgs) : Res :=
  let n := orderArg a
  let o : Order := s.orders[n.val]
  match o.cfg with
  | none => .fail .eNotReady s
  | some r =>
    if o.state = OrderState.free then .fail .eNotReady s
    else if !(s.servedBy r).isEmpty then .fail .eBusy s
    else if o.occ.isSome then .wait .dispatched (.soDelete n) (s.modOrder n fun o => { o with deleting := true })
    else .ok (s.deleteOrder n)

/-- SO_DELETE's row. -/
def opSoDelete : OpSpec :=
  { code := 0x42, argOk := fun a => a.arg0.toNat < 1024 && arg1Zero a
    callerOk := fun s a => s.ownsAll a.caller (s.orderPort (orderArg a)), body := soDeleteBody }
/-- SO_DELETE removes a standing order (R208, R209). -/
def execSoDelete (a : CmdArgs) (s : State) : Out := .next (issue opSoDelete a s)

/-- Codes of the order states (R207). -/
def OrderState.code : OrderState → Nat
  | .free => 0 | .active => 1 | .waiting => 2 | .halted => 3 | .destLost => 4
/-- Codes of the occurrence statuses (R205). -/
def OccStatus.code : OccStatus → Nat
  | .ok => 0 | .late => 1 | .nak => 2 | .error => 3 | .skipped => 4 | .stall => 5 | .babble => 6

/-- The 64 bytes of SO_QUERY (R234). -/
def Order.bytes (o : Order) : List Byte :=
  fitTo 32 ((o.cfg.map (·.raw)).getD [])
    ++ leBytes 4 (o.state.code + (if o.ran then fieldAt o.last.code 8 else 0)) ++ leBytes 4 o.lastN.toNat ++ leBytes 4 o.done.toNat
    ++ leBytes 4 o.skip.toNat ++ leBytes 4 o.err.toNat ++ leBytes 4 o.late.toNat ++ leBytes 2 o.widx.toNat
    ++ List.replicate 6 0

/-- SO_QUERY's row. -/
def opSoQuery : OpSpec :=
  { code := 0x43, viewer := true, argOk := fun a => a.arg0.toNat < 1024 && arg1Zero a
    callerOk := fun s a => ownerOrViewer s a (s.orderPort (orderArg a))
    body := fun s a => .done .ok 0 s.orders[(orderArg a).val].bytes s }
/-- SO_QUERY returns an order's record, state and counters (R234). -/
def execSoQuery (a : CmdArgs) (s : State) : Out := .next (issue opSoQuery a s)

/-! ### Results (R205 to R211) -/

/-- Whether a status carries data. -/
def OccStatus.good : OccStatus → Bool
  | .ok | .late => true
  | _ => false

/-- An order's state and counters after an occurrence has ended (R206, R234). -/
def Order.count (o : Order) (st : OccStatus) (n : Word) (halts : Bool) : Order :=
  let one := fun (b : Bool) => if b then 1 else 0
  { o with
    last := st, ran := true, snapRan := true, occ := none
    lastN := if st.good then n else o.lastN
    done := satAdd o.done (one st.good)
    late := satAdd o.late (one (st == .late))
    skip := satAdd o.skip (one (st == .skipped))
    err := satAdd o.err (one (st == .nak || st == .error || st == .babble))
    state := if halts && (o.state == .active || o.state == .destLost) then .halted else o.state }

/-- The microframe has an occurrence that ended SKIPPED (R233). -/
def State.noteSkipped (s : State) : State :=
  if s.glb.skippedNow then s else s.modGlb fun g => { g with skippedNow := true, soSkipped := satAdd g.soSkipped 1 }

/-- A result goes to a LEDGER ring (R211): the data, then the header, in the entry the occurrence began with; the write index
advances unless SO_MODIFY has set it back since (R208). [DEDUCED, log 77, 80] -/
def State.ringEntry (s : State) (n : OrderId) (c : Occurrence) (st : OccStatus) (l : List Byte) : State :=
  let r := c.cfg
  let a := r.laddr + c.widx.toNat * 64 * r.entryLines
  let s := s.writeLedger (a + 8) l
  let s := s.writeLedger a (leBytes 4 c.n.toNat ++ [BitVec.ofNat 8 st.code, 0] ++ leBytes 2 l.length)
  s.modOrder n fun o =>
    if o.cfg = some r ∧ o.widx = c.widx then { o with widx := BitVec.ofNat 16 ((o.widx.toNat + 1) % max 1 r.entries) } else o

/-- A result goes to a Statement slot (R210); a result after t = 90 µs is LATE there (R216). [DEDUCED, log 81] -/
def OrderSlot.put (x : OrderSlot) (st : OccStatus) (late : Bool) (k : Word) (l : List Byte) : OrderSlot :=
  if st.good then { status := some (if late then .late else .ok), data := l, n := k, has := true }
  else { x with status := some st }

/-- A result goes to an order's Statement slot, and to the one kept for the Statement of the microframe (R208, R210, R217).
[DEDUCED, log 81] -/
def Order.toSlot (o : Order) (st : OccStatus) (late : Bool) (k : Word) (l : List Byte) : Order :=
  { o with
    slot := if (o.cfg.map OrderRec.hasSlot).getD false then o.slot.put st late k l else o.slot
    shown := o.shown.map fun x => x.put st late k l }

/-- An occurrence's result goes to its destination (R210). [DEDUCED, log 80, 81] -/
def State.place (s : State) (n : OrderId) (c : Occurrence) (st : OccStatus) (late : Bool) : State :=
  let r := c.cfg
  let k : Word := c.n.setWidth 32
  let l := if st.good then c.got else []
  let s := match r.dest with
    | .purse => s.pursePush (finOf 256 (by decide) r.dindex) (packetWords l.length st.code k l)
    | .template => if st.good then s.feedbackPacket r.templ (st == .late) l else s
    | .ledger => s.ringEntry n c st l
    | _ => s
  if r.hasSlot then s.modOrder n fun o => o.toSlot st late k l else s

/-- An occurrence ends (R205 to R210). A result whose destination is lost is discarded and counted SKIPPED (R207). An order
that is being deleted is deleted, its last result written (R208). [DEDUCED, log 79; DESIGN CHOICE, log 180] -/
def State.endOccurrence (s : State) (n : OrderId) (c : Occurrence) (st : OccStatus) (late : Bool) : State :=
  let r := c.cfg
  let k : Word := c.n.setWidth 32
  let lost := s.destLost r
  let shown := if lost then .skipped else st
  let s := s.modOrder n fun o => o.count shown k (st == .stall)
  let s := if shown = .skipped then s.noteSkipped else s
  let s := if lost then s else s.place n c shown late
  let s := if st = .babble then s.babble r.port else s
  if s.orders[n.val].deleting then s.deleteOrder n else s

/-! ### Transactions (R204) -/

/-- What one attempt makes of an occurrence: it goes on, or ends. -/
inductive OccStep where
  | more (c : Occurrence)
  | over (c : Occurrence) (st : OccStatus)
  deriving DecidableEq, Repr

/-- What one attempt's result makes of an occurrence (R197, R204, R205); none where the result does not belong to the order's
direction. [DEDUCED, log 81, 84, 173] -/
def Occurrence.step (c : Occurrence) (r : XactResult) (late retryFits : Bool) : Option OccStep :=
  let good : OccStatus := if late && c.cfg.cls == .feedback then .late else .ok
  let over_ := fun (c : Occurrence) => decide (c.txn + 1 ≥ c.cfg.txns)
  match r with
  | .data l =>
    if !c.cfg.isIn then none
    else if l.length > c.cfg.maxp then some (.over { c with got := [] } .babble)
    else
      let d : Occurrence := { c with got := (c.got ++ l).take c.cfg.length }
      if over_ c || l.length < c.cfg.maxp || decide (d.got.length ≥ c.cfg.length) then some (.over d good)
      else some (.more { d with txn := c.txn + 1, tries := 0 })
  | .ack =>
    if c.cfg.isIn then none
    else if over_ c then some (.over c good)
    else some (.more { c with txn := c.txn + 1, tries := 0 })
  | .nak => some (.over c (if c.cfg.isIn && c.txn != 0 then good else .nak))
  | .stall => some (.over c .stall)
  | .babble => some (.over c .babble)
  | .error =>
    if c.tries + 1 ≥ 3 || !retryFits then some (.over { c with got := [] } .error)
    else some (.more { c with tries := c.tries + 1 })

/-- The open occurrences of a port, by order number. -/
def State.openOn (s : State) (k : PortId) : List (OrderId × Occurrence) :=
  allOrders.filterMap fun n =>
    match s.orders[n.val].occ with
    | some c => if c.cfg.port = k then some (n, c) else none
    | none => none

/-- The open occurrences of the class whose turn it is on a port (R203): MINT_OUT, then FEEDBACK, then OTHER.
[DEDUCED, log 174] -/
def State.turnOn (s : State) (k : PortId) : List (OrderId × Occurrence) :=
  let l := s.openOn k
  let of := fun (w : OrderClass) => l.filter fun p => p.2.cfg.cls == w
  if !(of .mintOut).isEmpty then of .mintOut else if !(of .feedback).isEmpty then of .feedback else of .other

/-- The order whose first attempt of a transaction comes next on a port (R203): in MINT_OUT the lowest-numbered order, whose
retries come at once; in the other classes the lowest-numbered one that waits for a first attempt. [DEDUCED, log 174] -/
def State.nextFirst (s : State) (k : PortId) : Option (OrderId × Occurrence) :=
  match s.turnOn k with
  | [] => none
  | p :: l => if p.2.cfg.cls = .mintOut then some p else (p :: l).find? fun p => p.2.tries == 0

/-- Whether an attempt of an order can be on the bus (R29, R203): on a high-speed port once the Mint frames are complete; the
order whose first attempt is next, or, where every first attempt of its class has ended, any order of the class with a retry.
[DEDUCED, log 174] -/
def State.mayRun (s : State) (n : OrderId) (c : Occurrence) : Bool :=
  let k := c.cfg.port
  (s.mint.sent || !speedHigh s.ports[k.val].speed)
    && match s.nextFirst k with
      | some p => p.1 == n
      | none => (s.turnOn k).any fun p => p.1 == n

/-- The data of an OUT transaction read from the Ledger as it is built (R212): none where a line is uncorrectable (R390).
[DEDUCED, log 82] -/
def State.buildOut (s : State) (c : Occurrence) : Option Occurrence × State :=
  if c.built then (some c, s)
  else if c.cfg.cls = .mintOut then
    let x := s.frameJob
    (if x.1 then none else some { c with built := true }, x.2)
  else if c.cfg.dest ≠ .ledgerSrc then (some c, s)
  else
    let len := c.cfg.txnBytes c.txn
    if len = 0 then (some { c with built := true, src := [] }, s)
    else
      let x := s.readLedger .draft (c.cfg.laddr + c.txn * c.cfg.maxp) len
      if x.1.bad.isSome then (none, x.2) else (some { c with built := true, src := x.1.data }, x.2)

/-- The transaction that comes next on a port is built as its turn comes (R212); one whose data is uncorrectable ends SKIPPED
(R390), and the turn passes on. `fuel` bounds the orders due. [DEDUCED, log 82, 173] -/
def State.buildNext : Nat → PortId → State → State
  | 0, _, s => s
  | f + 1, k, s =>
    match s.nextFirst k with
    | none => s
    | some (n, c) =>
      let b := s.buildOut c
      match b.1 with
      | some d => b.2.modOrder n fun o => { o with occ := some d }
      | none => State.buildNext f k (b.2.endOccurrence n c .skipped false)

/-- The bytes of an OUT order's transaction: those built from the Ledger, or its part of the Mint frame (R212, R275). -/
def State.outBytes (s : State) (n : OrderId) (c : Occurrence) : List Byte :=
  if c.cfg.dest = .ledgerSrc then c.src
  else
    let frame := ((s.mint.frames.find? fun f => f.1 == n.val).map (·.2)).getD []
    slice frame (c.txn * c.cfg.maxp) (c.cfg.txnBytes c.txn)

/-- ORDER_TRANSACTION_DONE (R203, R204): an attempt of the order's current transaction ends, where it can be on the bus.
[DEDUCED, log 82, 84, 174] -/
def execOrderTransactionDone (n : OrderId) (r : XactResult) (late retryFits : Bool) (s : State) : Out :=
  .next (
    match s.orders[n.val].occ with
    | none => s
    | some c =>
      let k := c.cfg.port
      if !s.isActive k || !s.mayRun n c || (c.step r late retryFits).isNone then s
      else
        let s := if r = .error then s.modPort k fun p => { p with errXact := satAdd p.errXact 1 } else s
        let b := s.buildOut c
        let s := match b.1 with
          | none => b.2.endOccurrence n c .skipped late
          | some c =>
            let s := if c.cfg.isIn then b.2 else b.2.modOrder n fun o => { o with sent := b.2.outBytes n c }
            match c.step r late retryFits with
            | none => s
            | some (.over d st) => s.endOccurrence n d st late
            | some (.more d) =>
              let s := s.modOrder n fun o => { o with occ := some { d with built := d.built && d.txn == c.txn } }
              if s.orders[n.val].deleting then s.deleteOrder n else s
        if c.cfg.cls = .mintOut then s else s.buildNext 16 k)

/-- The window of an order's occurrence ends (R204): ERROR where an attempt has failed, otherwise SKIPPED. -/
def State.windowEnd (s : State) (n : OrderId) : State :=
  match s.orders[n.val].occ with
  | none => s
  | some c => s.endOccurrence n c (if c.tries ≠ 0 then .error else .skipped) false

/-- Whether a window ends an occurrence (R201, R203): first attempts of FEEDBACK end at t = 85 µs, its retries with OTHER at
t = 100 µs. -/
def windowEnds (w : OrderWindow) (high : Bool) (c : Occurrence) : Bool :=
  match w with
  | .mintOut => high && c.cfg.cls == .mintOut
  | .feedbackFirst => high && c.cfg.cls == .feedback && c.tries == 0
  | .late => high && c.cfg.cls != .mintOut
  | .frame => !high

/-- ORDER_WINDOW_END (R201, R203, R204): a window of a port ends, and the class after it may begin. -/
def execOrderWindowEnd (k : PortId) (w : OrderWindow) (s : State) : Out :=
  .next (
    let high := speedHigh s.ports[k.val].speed
    ((((s.openOn k).filter fun p => windowEnds w high p.2).map (·.1)).foldl State.windowEnd s).buildNext 16 k)

/-! ### The microframe boundary (R31, R203) -/

/-- Occurrences that the microframe that ends leaves open: all on high-speed ports, and on full- and low-speed ports those of a
frame that ends (R201, R204). `n` is the microframe that begins. [DEDUCED, log 83] -/
def State.closeOrders (s : State) (n : Dword) : State :=
  (allOrders.filter fun m =>
    match s.orders[m.val].occ with
    | some c => speedHigh s.ports[c.cfg.port.val].speed || n.toNat % 8 == 0
    | none => false).foldl State.windowEnd s

/-- An order is due in the microframe that begins (R203): its record is checked as it is read (R390). [DEDUCED, log 85] -/
def State.takeDue (s : State) (m : OrderId) : State :=
  let o : Order := s.orders[m.val]
  match o.snap with
  | none => s
  | some r =>
    if (o.state = .active ∨ o.state = .destLost) ∧ o.occ.isNone ∧ s.isActive r.port ∧ r.dueAt s.tally.n.toNat then
      let x := s.checkRecord (0x139000 + 32 * m.val) 32
      let c : Occurrence := { cfg := r, n := s.tally.n, txn := 0, tries := 0, got := [], src := [], widx := o.widx }
      if x.1 then x.2.modOrder m fun o => { o with occ := some c } else x.2.endOccurrence m c .skipped false
    else s

/-- The orders at a microframe boundary: the snapshot of the order table, and the orders due (R31, R203). [DEDUCED, log 83] -/
def State.ordersBoundary (s : State) : State :=
  let s := s.modGlb fun g => { g with skippedNow := false }
  let s : State := { s with orders := s.orders.map fun o =>
    { o with snap := o.cfg, snapState := o.state, snapRan := o.ran, shown := none } }
  let s := (allOrders.filter fun m => s.orders[m.val].state != OrderState.free).foldl State.takeDue s
  (allPorts.filter fun k => !speedHigh s.ports[k.val].speed).foldl (fun s k => s.buildNext 16 k) s

/-! ### Registers (R233) -/

/-- SO_COUNT. -/
def State.soCount (s : State) : Word := toWord (s.orders.toList.filter fun o => o.state != OrderState.free).length
/-- SO_STATE. -/
def State.soState (s : State) (n : OrderId) : Word :=
  let o : Order := s.orders[n.val]
  toWord (fieldAt o.state.code 24 + (if o.ran then fieldAt o.last.code 16 else 0) + ((o.cfg.map (·.port.val)).getD 0))
/-- The worst sum of a quantity over the 256 residues, for a port's orders. -/
def State.worst (s : State) (k : PortId) (f : OrderRec → Nat) : Nat :=
  let l := s.portOrders k none
  ((List.range 256).map fun n => sumDue l n f).foldl max 0
/-- The cost of an order of a class on a port. -/
def State.classCost (s : State) (k : PortId) (cs : List OrderClass) (r : OrderRec) : Nat :=
  if cs.contains r.cls then r.cost s.ports[k.val].speed else 0
/-- SO_PBUD_A. [DEDUCED, log 74] -/
def State.soPbudA (s : State) (k : PortId) : Word :=
  toWord (fieldAt (s.worst k (s.classCost k [.feedback])) 16 + s.worst k (s.classCost k [.mintOut]))
/-- SO_PBUD_B. -/
def State.soPbudB (s : State) (k : PortId) : Word :=
  toWord (fieldAt (s.worst k OrderRec.txns) 16 + s.worst k (s.classCost k [.feedback, .other]))

end Sys2Proof.Machine
end

