-- ==== Sys2Proof/Machine/PowerPath.lean ====
section
/-! DEFINITION. The meanings of the power commands and events (file 12): PORT_POWER, GATE_CFG, MODEL_CFG, the ESC_ opcodes,
seating, ramps, transitions, limits, trips, the thermal model, VGD and Escrow's grants; and the ESC_ register words. An
event acts where its condition holds, and changes nothing otherwise. -/
namespace Sys2Proof.Machine

/-- Whether a port is in one of the states in which GATE_CFG and MODEL_CFG complete EBUSY (R356, R369). -/
def Pwr.cfgBusy (w : Pwr) : Bool := w.ramp != .none || w.trans != .none || w.cooling

/-- A field whose value 0 selects the default, within its range otherwise. -/
def fieldOk (x lo hi : Nat) : Bool := x == 0 || (lo ≤ x && x ≤ hi)
/-- A field with its default. -/
def fieldOr (x d : Nat) : Nat := if x = 0 then d else x

/-! ### PORT_POWER (R184) -/

/-- PORT_POWER with ON = 1: a request that can never fit completes EBUDGET (R378); another is placed as R377 lets it.
[DEDUCED, log 59, 117] -/
def portPowerOn (s : State) (k : PortId) (nowait : Bool) : Res :=
  if s.pwr[k.val].vbusOn then .done .ok (s.prtState k) [] (s.modPwr k fun w => { w with want := true })
  else if !s.pwr[k.val].busy && s.rampCharge k > s.escrow.budgetL.toNat then .done .eBudget (s.prtState k) [] s
  else
    let s := s.wantPower k
    if s.pwr[k.val].busy then
      if nowait then .done .ok (s.prtState k) [] s else .wait .effected (.portOn k) s
    else .wait .dispatched (.portOn k) s

/-- PORT_POWER with ON = 0: the paths go off; it completes once VBUS is below 0.8 V. -/
def portPowerOff (s : State) (k : PortId) : Res :=
  let s := s.switchOff k
  if s.powered k then .wait .dispatched (.portOff k) s
  else if s.pwr[k.val].offPending then .wait .effected (.portOff k) s
  else .done .ok (s.prtState k) [] s

/-- The body of PORT_POWER. -/
def portPowerBody (s : State) (a : CmdArgs) : Res :=
  let k := portArg a
  if s.portDown k then .fail .ePoweredDown s
  else if s.mode k = .off then .fail .eNotReady s
  else if testBit a.arg1 0 then portPowerOn s k (testBit a.arg1 8)
  else portPowerOff s k

/-- PORT_POWER (R184); the mailbox switches off any port without a deed, and never on (R193). -/
def opPortPower : OpSpec :=
  { code := 0x21, mbx := true
    argOk := fun a => arg0Port a && a.arg1 &&& (~~~ 0x101) == 0 && !(a.caller == .mbx && testBit a.arg1 0)
    callerOk := fun s a => a.caller == .mbx || ownerOfArg s a, body := portPowerBody }
/-- PORT_POWER places or withdraws a port's 5 V power request (R184). -/
def execPortPower (a : CmdArgs) (s : State) : Out := .next (issue opPortPower a s)

/-! ### GATE_CFG (R355, R356) -/

/-- The range checks of a gate record (R355, R356). -/
def gateRecOk (l : List Byte) : Bool :=
  fieldOk (leAt l 0 2) 100 6000 && fieldOk (leAt l 2 1) 105 150 && zeroAt l 3 1 && fieldOk (leAt l 4 2) 100 3000
    && fieldOk (leAt l 6 2) 10 200 && fieldOk (leAt l 8 2) 5 100 && fieldOk (leAt l 10 2) 10 500
    && fieldOk (leAt l 12 4) 5000 20000 && fieldOk (leAt l 16 4) 500 60000 && zeroAt l 20 12

/-- The gate record of GATE_CFG (R355). -/
def gateRecOf (l : List Byte) : GateRec :=
  { ilimCap := fieldOr (leAt l 0 2) 6000, limPct := fieldOr (leAt l 2 1) 110, iramp := fieldOr (leAt l 4 2) 1000
    rampSlew := fieldOr (leAt l 6 2) 10, xslew := fieldOr (leAt l 8 2) 30, igMax := fieldOr (leAt l 10 2) 100
    rshunt := fieldOr (leAt l 12 4) 5000, coolMs := fieldOr (leAt l 16 4) 2000 }

/-- The body of GATE_CFG: an ILIM_CAP as written above the fused limit is out of range (R356). [DEDUCED, log 112] -/
def gateCfgBody (s : State) (a : CmdArgs) : Res :=
  let k := portArg a
  if leAt a.params 0 2 > s.fusedMa k then .fail .eRange s
  else if s.portDown k then .fail .ePoweredDown s
  else if !s.linkUp k then .fail .eNotReady s
  else if s.pwr[k.val].cfgBusy then .fail .eBusy s
  else .ok (s.modPwr k fun w => { w with gateRec := gateRecOf a.params })

/-- GATE_CFG (R356). -/
def opGateCfg : OpSpec :=
  { code := 0x92, plenOk := fun a => a.params.length == 32
    argOk := fun a => arg0Port a && arg1Zero a && gateRecOk a.params, callerOk := ownerOfArg, body := gateCfgBody }
/-- GATE_CFG sets a port's gate record (R356). -/
def execGateCfg (a : CmdArgs) (s : State) : Out := .next (issue opGateCfg a s)

/-! ### MODEL_CFG (R369) -/

/-- The model record of MODEL_CFG (R369). -/
def modelRecOf (l : List Byte) : ModelRec :=
  { r1 := fieldOr (leAt l 0 2) 500, r2 := fieldOr (leAt l 2 2) 2000, r3 := fieldOr (leAt l 4 2) 20000
    trip := fieldOr (leAt l 6 2) 1500, tau1 := fieldOr (leAt l 8 4) 100, tau2 := fieldOr (leAt l 12 4) 10000
    tau3 := fieldOr (leAt l 16 4) 2000000, rdsHot := fieldOr (leAt l 20 2) 15000
    coolDelta := fieldOr (leAt l 22 1) 20, warnDelta := fieldOr (leAt l 23 1) 15 }

/-- The range checks of a model record (R369). -/
def modelRecOk (l : List Byte) : Bool :=
  let r := modelRecOf l
  fieldOk (leAt l 6 2) 1000 1750 && fieldOk (leAt l 8 4) 10 100000000 && fieldOk (leAt l 12 4) 10 100000000
    && fieldOk (leAt l 16 4) 10 100000000 && fieldOk (leAt l 20 2) 500 65535 && fieldOk (leAt l 22 1) 5 50
    && fieldOk (leAt l 23 1) 5 50 && zeroAt l 24 8 && r.tau1 < r.tau2 && r.tau2 < r.tau3

/-- The body of MODEL_CFG. -/
def modelCfgBody (s : State) (a : CmdArgs) : Res :=
  let k := portArg a
  if s.portDown k then .fail .ePoweredDown s
  else if !s.linkUp k then .fail .eNotReady s
  else if s.pwr[k.val].cfgBusy then .fail .eBusy s
  else .ok (s.modPwr k fun w => { w with modelRec := modelRecOf a.params })

/-- MODEL_CFG (R369). -/
def opModelCfg : OpSpec :=
  { code := 0x93, plenOk := fun a => a.params.length == 32
    argOk := fun a => arg0Port a && arg1Zero a && modelRecOk a.params, callerOk := ownerOfArg, body := modelCfgBody }
/-- MODEL_CFG sets a port's FET thermal model record (R369). -/
def execModelCfg (a : CmdArgs) (s : State) : Out := .next (issue opModelCfg a s)

/-! ### Escrow commands (R374, R378, R382) -/

/-- Every queued request that can never fit leaves the queue (R378). [DEDUCED, log 59] -/
def State.purgeQueue (s : State) : State :=
  s.queue.foldl (fun s k => if s.rampCharge k > s.escrow.budgetL.toNat then s.removeRequest k else s) s

/-- ESC_BUDGET (R374, R378). -/
def opEscBudget : OpSpec :=
  { code := 0x90, plenOk := fun a => a.params.length == 12, argOk := fun a => arg0Zero a && arg1Zero a
    body := fun s a => .ok (s.modEscrow fun e =>
      { e with budgetL := toWord (leAt a.params 0 4), budgetH := toWord (leAt a.params 4 4),
               budgetV := toWord (leAt a.params 8 4) }).purgeQueue }
/-- ESC_BUDGET replaces the three rail budgets (R374). -/
def execEscBudget (a : CmdArgs) (s : State) : Out := .next (issue opEscBudget a s)

/-- ESC_PRIORITY (R382). -/
def opEscPriority : OpSpec :=
  { code := 0x91, argOk := fun a => arg0Port a && a.arg1.toNat < 8, callerOk := ownerOfArg
    body := fun s a =>
      if s.portDown (portArg a) then .fail .ePoweredDown s
      else .ok (s.modPwr (portArg a) fun w => { w with priority := BitVec.ofNat 3 a.arg1.toNat }) }
/-- ESC_PRIORITY sets a port's Escrow priority and reorders its queued request (R382). -/
def execEscPriority (a : CmdArgs) (s : State) : Out := .next (issue opEscPriority a s)

/-! ### The ESC_ register words (R381) -/

/-- ESC_CFG. -/
def State.escCfg (s : State) : Word := toWord (fieldAt s.escrow.rampsDev.toNat 8 + s.escrow.rampsStile.toNat)
/-- ESC_STATUS. -/
def State.escStatus (s : State) : Word :=
  toWord (fieldAt (allPorts.filter fun k => s.pwr[k.val].queued.isSome).length 24 + fieldAt s.slotsDev 16
    + fieldAt (s.slotsOn 2) 8 + fieldAt (s.slotsOn 1) 4 + s.slotsOn 0)
/-- ESC_PORT of a port. -/
def State.escPort (s : State) (k : PortId) : Word :=
  let w := s.pwr[k.val]
  toWord (fieldAt (s.qpos k) 24 + fieldAt w.priority.toNat 16 + flagAt w.budgetWait 7 + flagAt (w.chgV != 0) 6
    + flagAt (w.inrushL + w.inrushH != 0) 5 + flagAt w.slot 4 + flagAt (w.chgH + w.oldH != 0) 3
    + flagAt (w.chgL + w.oldL != 0) 2)
/-- The charge a port holds on all rails together, mW (R382). -/
def Pwr.charge (w : Pwr) : Nat := w.chgL + w.oldL + w.inrushL + w.chgH + w.oldH + w.inrushH + w.chgV

/-- The 224 bytes of ESC_QUERY (R382). -/
def State.escQuery (s : State) : List Byte :=
  bytesOfWords [s.escrow.budgetL, s.escrow.budgetH, s.escrow.budgetV, toWord s.chargeL, toWord s.chargeH, toWord s.chargeV,
    s.escCfg, s.escStatus]
    ++ allPorts.flatMap fun k => leBytes 4 s.pwr[k.val].charge ++ leBytes 4 (s.escPort k).toNat

/-- ESC_QUERY (R382). -/
def opEscQuery : OpSpec :=
  { code := 0x94, mbx := true, argOk := fun a => arg0Zero a && arg1Zero a, body := fun s _ => .done .ok 0 s.escQuery s }
/-- ESC_QUERY returns budgets, charges and queue state (R382). -/
def execEscQuery (a : CmdArgs) (s : State) : Out := .next (issue opEscQuery a s)

/-! ### Seating (R353, R354) -/

/-- A SEAT pin changes level: the raw levels (R353, R380). -/
def execSeatPinChange (k : PortId) (aLow bLow : Bool) (s : State) : Out :=
  .next (if s.stileLive k then s.modPwr k fun w => { w with seatA := aLow, seatB := bLow } else s)

/-- Both SEAT pins have read low for 10 ms (R353): the port leaves SEAT_WAIT (R330). [DEDUCED, log 151] -/
def execSeatingConfirmed (k : PortId) (s : State) : Out :=
  .next (
    if s.stileLive k then
      (s.modPwr k fun w => { w with seatA := true, seatB := true, seatOk := true }).modPd k fun p =>
        if p.cc = .seatWait then p.seated else p
    else s)

/-- A SEAT pin has read high for 100 µs (R353, R354). Where the pins are recorded low, which one went high is free.
[DEDUCED, log 151] -/
def execSeatingLost (k : PortId) (s : State) : Out :=
  .next (
    if s.stileLive k ∧ s.pwr[k.val].seatOk then
      let both := s.pwr[k.val].seatA && s.pwr[k.val].seatB
      let f := s.freeBit
      let s := if both then f.2.modPwr k fun w => { w with seatA := f.1, seatB := !f.1 } else s
      (s.modPwr k fun w => { w with seatOk := false }).detach k (if s.mode k = .off then .disabled else .seatWait) true
    else s)

/-! ### Grants and ramps (R357, R377) -/

/-- Escrow's grant pass, and VCONN requests that wait (R345, R377). [DEDUCED, log 58] -/
def execEscrowGrant (s : State) : Out :=
  .next (
    if s.awake then
      let s := grantPass s.queue s
      allPorts.foldl (fun s k => s.tryVconn k false) s
    else s)

/-- Precharge ends (R357). -/
def execRampPrechargeEnd (k : PortId) (s : State) : Out :=
  .next (if s.pwr[k.val].ramp = .precharge ∧ s.stileLive k then s.modPwr k fun w => { w with ramp := .slew } else s)

/-- VBUS_SNS at or above 95 % of a ramp's target of 5 V (R357). -/
def rampReached (vbusMv : Nat) : Bool := 4750 ≤ vbusMv

/-- VBUS has reached 95 % of target (R357). -/
def execRampSlewEnd (k : PortId) (vbusMv : Nat) (s : State) : Out :=
  .next (if s.pwr[k.val].ramp = .slew ∧ rampReached vbusMv ∧ s.stileLive k then
      s.modPwr k fun w => { w with ramp := .enhance, vbusMv := vbusMv } else s)

/-- Port power good at 5 V (R357): VBUS_ON, the inrush charge and the slot return (R375, R376), POWERED, VCONN where it is
called for (R345); PORT_POWER completes (R184), and the power-cycle PORT_RESET of a RELAY port (R158). -/
def execPortPowerGood (k : PortId) (vbusMv vgsMv : Nat) (s : State) : Out :=
  .next (
    if s.pwr[k.val].ramp = .enhance ∧ rampReached vbusMv ∧ 9000 ≤ vgsMv ∧ s.stileLive k then
      let s := s.modPwr k fun w => { w with ramp := .none, vbusOn := true, vbusMv := vbusMv, inrushL := 0, slot := false }
      let s := s.modPort k fun p => p.come .powered
      let s := s.powerEvent k 0x1 (satU16 vbusMv)
      let s := if s.pd[k.val].hr = .waitPower then (s.modPd k fun p => { p with hr := .none }).pdEvent k 0x6 0 else s
      let relay := s.mode k = .relay
      let s := s.endWaits (fun w => Wait.isPortOn k w || (relay && Wait.isCycle k w)) .ok
      s.tryVconn k true
    else s)

/-- A ramp has not reached port power good in time: a model trip of the TIMEOUT kind (R357). -/
def execRampTimeout (k : PortId) (s : State) : Out :=
  .next (if s.pwr[k.val].ramp ≠ .none ∧ s.stileLive k then s.trip k (.model 1) else s)

/-! ### Voltage transitions (R359, R360) -/

/-- Whether VBUS stands settled at the target of the running transition (R359, R360). -/
def State.settledAt (s : State) (k : PortId) (mv : Nat) : Bool :=
  match s.pwr[k.val].trans, s.pd[k.val].accepted with
  | .up, some c => s.pwr[k.val].gateH && 98 * c.mv ≤ 100 * mv && 100 * mv ≤ 102 * c.mv
  | .down, some _ => s.pwr[k.val].gateL && !s.pwr[k.val].disch && 4750 ≤ mv && mv ≤ 5250
  | _, _ => false

/-- VBUS has settled after a transition: it has ended, its inrush charge, the old charge and the slot return, and PS_RDY is
sent (R342, R359, R360, R375). -/
def execTransitionSettled (k : PortId) (vbusMv : Nat) (s : State) : Out :=
  .next (
    if s.settledAt k vbusMv ∧ s.stileLive k then
      let up := s.pwr[k.val].trans == .up
      let s := s.modPwr k fun w => { w with
        trans := .none, gateL := !up, gateH := up, vbusMv := vbusMv, slot := false, inrushL := 0, inrushH := 0,
        oldL := 0, oldH := 0 }
      let s := s.powerEvent k 0x1 (satU16 vbusMv + flagAt up 16)
      s.sendPsRdy k .psRdyContract
    else s)

/-- VBUS has fallen to 5.5 V: DISCH is released and the 5 V path takes over (R360). -/
def execDischargeTo5v (k : PortId) (s : State) : Out :=
  .next (
    if s.pwr[k.val].trans = .down ∧ s.pwr[k.val].disch ∧ s.stileLive k then
      s.modPwr k fun w => { w with disch := false, vbusMv := min w.vbusMv 5500 }
    else s)

/-- VBUS is still above 5.5 V 500 ms into a downward transition: a model trip of the DISCH kind (R360). -/
def execDischargeFailure (k : PortId) (s : State) : Out :=
  .next (if s.pwr[k.val].trans = .down ∧ s.pwr[k.val].disch ∧ s.stileLive k then s.trip k (.model 3) else s)

/-! ### After a switch-off (R361) -/

/-- VBUS falls below 0.8 V after a switch-off (R361), or after the Stile's reset line turned the port off, while the line is
still asserted too (R50, R51). -/
def execSwitchOffDischarged (k : PortId) (vbusMv : Nat) (s : State) : Out :=
  .next (if s.pwr[k.val].offPending ∧ vbusMv < 800 ∧ s.stiles[(stileOf k).val].vgdPresent then s.vbusGone k vbusMv else s)

/-- VBUS is still at or above 0.8 V 500 ms after a switch-off: DISCH is released, the owner hears of it, and a command that
waited completes OK (R361). -/
def execSwitchOffDischTimeout (k : PortId) (vbusMv : Nat) (s : State) : Out :=
  .next (
    if s.pwr[k.val].offPending ∧ s.pwr[k.val].disch ∧ 800 ≤ vbusMv ∧ s.stileLive k then
      let s := s.modPwr k fun w => { w with disch := false, vbusMv := vbusMv }
      let s := s.powerEvent k 0xA (satU16 vbusMv)
      s.endWaits (Wait.isPortOff k) .ok
    else s)

/-! ### Limits and trips (R363 to R368) -/

/-- Port current exceeds ILIM_EFF and limiting begins: one POWER event for the episode (R364). [DEDUCED, log 158] -/
def execCurrentLimit (k : PortId) (iMa : Int) (s : State) : Out :=
  .next (
    if s.powered k ∧ !s.pwr[k.val].limiting ∧ (s.ilimEff k : Int) < iMa ∧ s.stileLive k then
      let s := s.modPwr k fun w => { w with limiting := true, vbusLow := false, cntLimit := satAdd w.cntLimit 1 }
      s.powerEvent k 0x5 (s.ilimEff k)
    else s)

/-- The current has stayed below 95 % of ILIM_EFF for 1 ms: limiting ends (R364). -/
def execLimitingEnd (k : PortId) (s : State) : Out :=
  .next (if s.pwr[k.val].limiting ∧ s.stileLive k then s.modPwr k fun w => { w with limiting := false } else s)

/-- The fast-trip comparator crosses its threshold, in either direction of current (R365, R367). [DEDUCED, log 158] -/
def execFastTrip (k : PortId) (iMa : Int) (vbusMv : Nat) (s : State) : Out :=
  .next (
    if s.powered k ∧ s.fastThreshold k ≤ iMa.natAbs ∧ s.stileLive k then
      (s.modPwr k fun w => { w with vbusMv := vbusMv }).trip k (.fast (sat16 iMa + fieldAt (satU16 vbusMv) 16))
    else s)

/-- Whether a path is on and the ramp from 0 V has ended (R366). -/
def Pwr.steady (w : Pwr) : Bool := (w.gateL || w.gateH) && w.ramp == .none

/-- VBUS_SNS above 1.1 × V_c + 0.5 V for 20 µs: a model trip of the OV kind (R366). [DEDUCED, log 158] -/
def execOverVoltage (k : PortId) (vbusMv : Nat) (s : State) : Out :=
  .next (
    if s.pwr[k.val].steady ∧ 11 * s.vRef k + 5000 < 10 * vbusMv ∧ s.stileLive k then
      (s.modPwr k fun w => { w with vbusMv := vbusMv }).trip k (.model 2)
    else s)

/-- VBUS_SNS has stood for 1 ms below 0.9 × V_c, which sets VBUS_LOW with its event, or at or above it, which clears it
(R366). [DEDUCED, log 158] -/
def execVbusLow (k : PortId) (vbusMv : Nat) (s : State) : Out :=
  .next (
    let w := s.pwr[k.val]
    if w.steady ∧ w.trans = .none ∧ !w.limiting ∧ s.stileLive k then
      let low : Bool := 10 * vbusMv < 9 * s.vRef k
      let s := s.modPwr k fun w => { w with vbusLow := low, vbusMv := vbusMv }
      if low ∧ !w.vbusLow then s.powerEvent k 0x7 (satU16 vbusMv) else s
    else s)

/-- A cooldown ends: COOL_MS has passed and the model has cooled (R368). [DEDUCED, log 113] -/
def execCooldownEnd (k : PortId) (s : State) : Out :=
  .next (
    if s.pwr[k.val].cooling ∧ s.pwr[k.val].cooled ∧ s.stiles[(stileOf k).val].vgdPresent then
      let s := s.modPwr k fun w => { w with cooling := false, coolLeft := 0, overcurrent := false }
      let s := s.modPort k fun p => p.come (s.unpoweredState k)
      let s := s.relayChange k fun c => { c with overCurrent := true }
      (s.powerEvent k 0x4 0).tryQueue k
    else s)

/-! ### The FET thermal model (R370) -/

/-- The voltage of a code of the 12-bit divider inputs, in mV: 15 mV per LSB (R64, R380). -/
def codeMv (c : BitVec 12) : Nat := 15 * c.toNat

/-- The port current of a sample in mA: the shunt voltage, 62.5 µV per LSB and at most 4,095 of them, over RSHUNT (R63).
[DEDUCED, log 118] -/
def sampleMa (m : StileSample) (g : GateRec) : Rat :=
  let x : Rat := (m.shunt.toNat : Rat) * 62500 / g.rshunt
  if m.reverse then -x else x

/-- Both models of a port after a 10 µs step on a sample: P goes to the model of a path whose gate is on, and to both during
a voltage transition; `u` holds the free directions of rounding. [DEDUCED, log 111] -/
def Pwr.thermalStep (w : Pwr) (m : StileSample) (u : Nat) : Pwr :=
  let i := sampleMa m w.gateRec
  let tr := w.trans != .none
  let pL : Rat := if w.gateL || tr then pathPower w.gateRec w.modelRec i (codeMv m.railL) (codeMv m.vbus) else 0
  let pH : Rat := if w.gateH || tr then pathPower w.gateRec w.modelRec i (codeMv m.railH) (codeMv m.vbus) else 0
  { w with
    fosterL := fosterStep w.fosterL w.modelRec pL (u.testBit 0) (u.testBit 1) (u.testBit 2)
    fosterH := fosterStep w.fosterH w.modelRec pH (u.testBit 3) (u.testBit 4) (u.testBit 5)
    vbusMv := codeMv m.vbus, sumMv := w.sumMv + codeMv m.vbus, sumMa := w.sumMa + i, samples := w.samples + 1
    coolLeft := w.coolLeft - 1 }

/-- Whether a junction temperature (1/1024 °C) is at or above a level in 0.1 °C. -/
def tjAtLeast (tj : Int) (level : Int) : Bool := 1024 * level ≤ 10 * tj

/-- The levels of a Stile's rails as a sample gives them. -/
def Stile.measured (x : Stile) (m : StileSample) : Stile :=
  { x with railLMv := codeMv m.railL, railHMv := codeMv m.railH, vconnMv := codeMv m.vconnIn }

/-- The 10 µs update of a port's models, with its warning and its trip (R370, R372): a trip where a model reaches TRIP, or
stands at or above it while a path is on. [DESIGN CHOICE, log 152] -/
def execThermalModelStep (k : PortId) (m : StileSample) (s : State) : Out :=
  .next (
    let i := stileOf k
    if s.stiles[i.val].vgdPresent then
      let f := s.freeBelow 64
      let s := f.2.modStile i fun x => x.measured m
      let s := s.modPwr k fun w => w.thermalStep m f.1
      let w := s.pwr[k.val]
      let tb := s.stiles[i.val].tb
      let tL := tjOf tb w.fosterL
      let tH := tjOf tb w.fosterH
      let level : Int := (w.modelRec.trip : Int) - 10 * w.modelRec.warnDelta
      let wL := tjAtLeast tL level
      let wH := tjAtLeast tH level
      let hot := tjAtLeast tL w.modelRec.trip || tjAtLeast tH w.modelRec.trip
      let s := s.modPwr k fun w => { w with warnL := wL, warnH := wH, hot := hot }
      let s := if (wL && !w.warnL) || (wH && !w.warnH) then s.powerEvent k 0x6 (fieldAt (sat16 (s.tj16 k)) 16) else s
      if hot && (s.powered k || !w.hot) then s.trip k (.model 0) else s
    else s)

/-! ### VGD and the rails (R53, R371, R377) -/

/-- VGD falls below 9.6 V: every gate is clamped and the powered ports' contracts end (R53). -/
def execVgdUndervoltage (i : StileId) (s : State) : Out :=
  .next (
    if s.stiles[i.val].vgdOk then
      let s := s.modStile i fun x => { x with vgdOk := false }
      (portsOf i).foldl (fun s k => s.forceOff k (some (0xD, 0))) s
    else s)

/-- VGD rises above 10.2 V (R53). -/
def execVgdRecover (i : StileId) (s : State) : Out :=
  .next (if s.stiles[i.val].vgdPresent then s.modStile i fun x => { x with vgdOk := true } else s)

/-- A port of a Stile that has lost its supply: attach and PD state, cooldown, models, counters and gates go (R53, R368,
R371). Its records stay with the Deeds. [DEDUCED, log 115] -/
def State.unpower (s : State) (k : PortId) : State :=
  let s := s.pathsOff k false
  let s := s.modPwr k fun w => { w with
    offPending := false, vbusMv := 0, cooling := false, coolLeft := 0, overcurrent := false, seatA := false, seatB := false
    seatOk := false, queued := none, budgetWait := false, lastOff := 0, cntFast := 0, cntModel := 0, cntLimit := 0, cntSeat := 0
    fosterL := {}, fosterH := {}, warnL := false, warnH := false, hot := false, measMv := 0, measMa := 0, sumMv := 0, sumMa := 0, samples := 0 }
  let s := s.modPd k fun p => { p.detached .disabled with
    term1 := .openCc, term2 := .openCc, hardResets := 0, noGoodCrc := 0, rxCrc := 0, auto := 0 }
  let s := s.endWaits (Wait.isPdTx k) .eDetached
  s.loseDevice k (s.unpoweredState k) .eDetached true (Wait.endsOnDetach k)

/-- VGD falls below 6.0 V: the Stile loses its state, and its link is not up (R53, R445). [DEDUCED, log 115] -/
def execVgdLoss (i : StileId) (s : State) : Out :=
  .next (
    if s.stiles[i.val].vgdPresent then
      let s := s.modStile i fun x => { x with
        vgdPresent := false, vgdOk := false, up := false, retraining := false, holdover := false, shutdown := false
        kept := [], railLMv := 0, railHMv := 0, vconnMv := 0, tb := 1360, replayAt := none, failedRetries := 0 }
      (portsOf i).foldl State.unpower s
    else s)

/-- VGD rises to 6.0 V: every model of the Stile starts at 0, and T_B is 85 °C until a reading arrives (R371). -/
def execVgdPresent (i : StileId) (s : State) : Out :=
  .next (
    if s.stiles[i.val].vgdPresent then s
    else
      let s := s.modStile i fun x => { x with vgdPresent := true, tb := 1360 }
      (portsOf i).foldl (fun s k => s.modPwr k fun w => { w with fosterL := {}, fosterH := {}, hot := false }) s)

/-- VRAIL_L_SNS is within ±5 % of 5 V again: requests that waited for it are ready (R377). -/
def execRail5vInRange (i : StileId) (mv : Nat) (s : State) : Out :=
  .next (if 4750 ≤ mv ∧ mv ≤ 5250 ∧ s.stiles[i.val].vgdPresent then s.modStile i fun x => { x with railLMv := mv } else s)

end Sys2Proof.Machine
end

