-- ==== Sys2Proof/Machine/Statements.lean ====
section
/-! DEFINITION. Statements (file 07, R213 to R222; R391): layouts and subscription, access at the snapshot, assembly at
t = 90 µs, and delivery on endpoint 0x82. -/
namespace Sys2Proof.Machine

/-! ### Layouts (R213, R214) -/

/-- Elements of a layout's parameter string. -/
def layoutCount (l : List Byte) : Nat := leAt l 0 2

/-- Fixed data bytes of an element's type; ORDER elements take theirs from the order (R213). -/
def elemBytes (ty : Nat) (mask : Nat) : Nat :=
  match ty with
  | 2 => 48
  | 3 => 8
  | 4 => 232
  | 5 => 8 * ((List.range 24).filter fun i => mask.testBit i).length
  | 6 => 16
  | 7 => 8
  | _ => 0

/-- An 8-byte descriptor; `d` of an ORDER element is the order's LENGTH now (R213). -/
def State.elemOf (s : State) (l : List Byte) : LayoutElem :=
  let ty := leAt l 0 1
  let index := leAt l 2 2
  let mask := leAt l 4 4
  let d := if ty = 1 then
      let o : Order := s.orders[(finOf 1024 (by decide) index).val]
      match o.cfg with
      | some r => if o.state ≠ OrderState.free ∧ r.hasSlot then r.length else 0
      | none => 0
    else elemBytes ty mask
  { ty := BitVec.ofNat 8 ty, index := index, mask := toWord mask, d := d }

/-- The fixed checks of a descriptor (R213). -/
def elemOk (l : List Byte) : Bool :=
  let index := leAt l 2 2
  let mask := leAt l 4 4
  leAt l 1 1 == 0 &&
    match leAt l 0 1 with
    | 1 => index < 1024 && mask == 0
    | 2 => index < 128 && mask == 0
    | 3 => index < 16 && mask == 0
    | 4 => index == 0 && mask == 0
    | 5 => index == 0 && mask != 0 && mask < 2 ^ 24
    | 6 => index == 0 && mask == 0
    | 7 => index < 256 && mask == 0
    | _ => false

/-- The descriptors of a layout's parameter string. -/
def layoutDescs (l : List Byte) : List (List Byte) := (List.range (layoutCount l)).map fun i => slice l (8 + 8 * i) 8

/-- The size of a Statement that carries some elements (R214). -/
def layoutSize (l : List LayoutElem) : Nat := 32 + (l.map fun e => 8 + 8 * ceilDiv e.d 8).sum

/-- The ports that an element concerns, and whether the slot meets the rest of its access rule (R213). -/
def State.elemPorts (s : State) (h : SlotId) (e : LayoutElem) : List PortId × Bool :=
  match e.ty.toNat with
  | 1 => (s.orderPort (finOf 1024 (by decide) e.index), true)
  | 2 => (s.portsOfChans [finOf 128 (by decide) e.index], true)
  | 3 => (s.portsOfChans (s.groupChans (finOf 16 (by decide) e.index)), true)
  | 4 =>
    let bodies := (allPairs.filter fun p => s.clr.pairs[p.val].armedNow).flatMap fun p => [(pairBodies p).1, (pairBodies p).2]
    (bodies.flatMap fun b => s.portsOfChans ((s.clr.bodies[b.val].cfg.map (·.chans)).getD []), true)
  | 5 => (allPorts.filter fun k => testBit e.mask k.val, true)
  | 7 =>
    let p := s.purses[(finOf 256 (by decide) e.index).val]
    ([], p.blocks != 0 && p.owner == h)
  | _ => ([], true)

/-- Whether a slot meets an element's access rule (R213, R218). -/
def State.elemAccess (s : State) (h : SlotId) (e : LayoutElem) : Bool :=
  let x := s.elemPorts h e
  x.2 && x.1.all (s.mayRead h)

/-- STMT_LAYOUT's body (R214). -/
def stmtLayoutBody (s : State) (a : CmdArgs) : Res :=
  match a.caller with
  | .mbx => .fail .eDeed s
  | .slot h =>
    let l := (layoutDescs a.params).map s.elemOf
    let size := layoutSize l
    if size > 16384 ∨ (s.slots[h.val].tellerPath = 2 ∧ size > 4096) then .fail .eLen s
    else .snap 0 (s.modSlot h fun x => { x with nextLayout := some l })

/-- STMT_LAYOUT's row. -/
def opStmtLayout : OpSpec :=
  { code := 0x48
    plenOk := fun a => 8 ≤ a.params.length && a.params.length == 8 + 8 * layoutCount a.params
    argOk := fun a => arg0Zero a && arg1Zero a && 1 ≤ layoutCount a.params && layoutCount a.params ≤ 512 && zeroAt a.params 2 6
      && (layoutDescs a.params).all elemOk
    callerOk := fun s a => match a.caller with
      | .slot h => ((layoutDescs a.params).map s.elemOf).all (s.elemAccess h)
      | .mbx => false
    body := stmtLayoutBody }
/-- STMT_LAYOUT sets the slot's Statement layout from the next snapshot (R213, R214). -/
def execStmtLayout (a : CmdArgs) (s : State) : Out := .next (issue opStmtLayout a s)

/-- STMT_SUBSCRIBE's body (R221). -/
def stmtSubscribeBody (s : State) (a : CmdArgs) : Res :=
  match a.caller with
  | .mbx => .fail .eDeed s
  | .slot h =>
    let x : Slot := s.slots[h.val]
    let on := testBit a.arg0 0
    if on && x.layout.isNone && x.nextLayout.isNone then .fail .eNotReady s
    else .snap 0 (s.modSlot h fun x => { x with nextSubscribed := on })

/-- STMT_SUBSCRIBE's row. -/
def opStmtSubscribe : OpSpec :=
  { code := 0x49, argOk := fun a => a.arg0.toNat < 2 && arg1Zero a, body := stmtSubscribeBody }
/-- STMT_SUBSCRIBE starts or stops the slot's Statements (R221). -/
def execStmtSubscribe (a : CmdArgs) (s : State) : Out := .next (issue opStmtSubscribe a s)

/-! ### The snapshot (R31, R214, R218, R221) -/

/-- A slot's layout and subscription at a snapshot. -/
def Slot.stmtSnap (x : Slot) : Slot :=
  let x := { x with subscribed := x.nextSubscribed }
  let x := { x with stmtOn := x.subscribed && !x.suspended && x.tellerCfg }
  match x.nextLayout with
  | some l => { x with layout := some l, nextLayout := none, layoutGen := x.layoutGen + 1, newLayout := true, noAccess := [] }
  | none => x

/-- Access of a slot's elements judged at a snapshot: one event names the first element that has lost it (R218).
[DEDUCED, log 87] -/
def State.stmtAccess (s : State) (h : SlotId) : State :=
  let x : Slot := s.slots[h.val]
  let l := x.layout.getD []
  let gone := (List.range l.length).filter fun i => match l[i]? with | some e => !s.elemAccess h e | none => false
  let new := gone.filter fun i => !x.noAccess.contains i
  let s := s.modSlot h fun x => { x with noAccess := gone }
  match new with
  | i :: _ => s.stmtEvent h 0x3 i
  | [] => s

/-- Statements at a microframe boundary: what the assembler takes from the snapshot (R31, R217). -/
def State.stmtBoundary (s : State) : State :=
  let s : State := { s with
    slots := s.slots.map Slot.stmtSnap
    ports := Vector.ofFn fun k => { s.ports[k.val] with snapState := s.prtState k, snapActive := s.isActive k } }
  allSlots.foldl State.stmtAccess ((s.modGlb fun g => { g with assembled := false }).modTally fun t => { t with modeSnap := t.mode })

/-! ### Assembly (R215 to R220) -/

/-- An element: its preface and its data, padded; with no data, zeros and N = 0 (R216). -/
def elemOut (e : LayoutElem) (st : Nat) (n : Word) (data : List Byte) : List Byte :=
  let none_ := decide (5 ≤ st)
  [e.ty, BitVec.ofNat 8 st] ++ leBytes 2 e.d ++ leBytes 4 (if none_ then 0 else n.toNat)
    ++ fitTo (8 * ceilDiv e.d 8) (if none_ then [] else data.take e.d)

/-- ESTATUS, N and data of an ORDER element, from the order and the port as the snapshot took them and the results since
(R216, R217). [DEDUCED, log 88; DESIGN CHOICE, log 180] -/
def State.orderElem (s : State) (gone : Bool) (n : OrderId) : Nat × Word × List Byte :=
  let o : Order := s.orders[n.val]
  let x := o.shown.getD o.slot
  let slot := (o.snap.map OrderRec.hasSlot).getD false
  let port := (o.snap.map (·.port)).getD 0
  let live := o.snapState != OrderState.free
  let ran := if o.shown.isSome then o.snapRan else o.ran
  let halted := match o.snapState with
    | .halted | .waiting | .destLost => true
    | _ => o.state == OrderState.halted && o.shown.isNone
  let bad := match x.status with | some .nak | some .error | some .skipped | some .babble => true | _ => false
  let st :=
    if live && !s.ports[port.val].snapActive then 8
    else if live && (if slot then !x.has else !ran) then 7
    else if !live || !slot then 6
    else if gone then 5
    else if halted then 4
    else if bad then 3
    else if x.status == some OccStatus.late then 2
    else if x.n != s.nLow then 1
    else 0
  (st, x.n, x.data)

/-- The 8 bytes of one port in a PORT element (R217). [DEDUCED, log 90] -/
def State.portElem (s : State) (k : PortId) : List Byte :=
  let m := s.stiles[(stileOf k).val].shadow[k.val % 8].pwrMeas.toNat
  leBytes 4 s.ports[k.val].snapState.toNat ++ leBytes 2 (m / 65536) ++ leBytes 2 (m % 65536)

/-- The data of an element that is not an ORDER element (R217, R300, R323). -/
def State.elemData (s : State) (e : LayoutElem) : List Byte :=
  match e.ty.toNat with
  | 2 => fitTo 48 s.mint.chans[(finOf 128 (by decide) e.index).val].data48
  | 3 => fitTo 8 s.mint.groups[(finOf 16 (by decide) e.index).val].data8
  | 4 => s.clr.bytes
  | 5 => (allPorts.filter fun k => testBit e.mask k.val).flatMap s.portElem
  | 6 => leBytes 8 s.tally.sofTime.toNat ++ leBytes 4 s.nLow.toNat ++ [BitVec.ofNat 8 s.tally.modeSnap.code, 0, 0, 0]
  | 7 =>
    let p := s.purses[(finOf 256 (by decide) e.index).val]
    leBytes 2 (satU16 p.words.length) ++ leBytes 2 (satU16 p.pkts) ++ leBytes 2 (satU16 p.lost.toNat) ++ leBytes 2 p.resets.toNat
  | _ => []

/-- One element of a slot's Statement, by its place in the layout. -/
def State.elem (s : State) (h : SlotId) (i : Nat) (e : LayoutElem) : List Byte :=
  let gone := s.slots[h.val].noAccess.contains i
  if e.ty = 1 then
    let x := s.orderElem gone (finOf 1024 (by decide) e.index)
    elemOut e x.1 x.2.1 x.2.2
  else elemOut e (if gone then 5 else 0) s.nLow (s.elemData e)

/-- The elements at the head of a layout that fit in `room` bytes (R220). [DEDUCED, log 86] -/
def fitElems : Nat → List LayoutElem → List LayoutElem
  | _, [] => []
  | room, e :: l =>
    let k := 8 + 8 * ceilDiv e.d 8
    if k ≤ room then e :: fitElems (room - k) l else []

/-- A Statement is queued; where two wait already, the older is dropped (R219). [DEDUCED, log 86] -/
def State.queueStatement (s : State) (h : SlotId) (st : Statement) : State :=
  let x : Slot := s.slots[h.val]
  if x.statements.length < 2 then s.modSlot h fun x => { x with statements := x.statements ++ [st] }
  else
    let now := s.glb.clock
    let due : Bool := match x.lastDropEvent with | some c => decide (now ≥ c + 8000) | none => true
    let s := s.modSlot h fun x => { x with
      statements := x.statements.drop 1 ++ [st], dropped := satAdd x.dropped 1, dropBefore := true
      lastDropEvent := if due then some now else x.lastDropEvent }
    if due then s.stmtEvent h 0x2 s.slots[h.val].dropped.toNat else s

/-- Whether Statements are assembled for a slot (R221): a slot that has resumed, or been configured, in the microframe that runs
gets its first in the next (R122). -/
def Slot.assembles (x : Slot) : Bool := x.stmtOn && !x.suspended && x.tellerCfg

/-- The Statement of one slot (R215 to R220). [DEDUCED, log 89] -/
def State.assemble (s : State) (h : SlotId) : State :=
  let x : Slot := s.slots[h.val]
  match x.layout with
  | none => s
  | some l =>
    if !x.assembles then s
    else
      let full := layoutSize l
      let cut := decide (x.tellerPath = 2 ∧ full > 4096)
      let l := if cut then fitElems (4096 - 32) l else l
      let st : Statement := {
        n := s.nLow, sofTime := s.tally.sofTime, gen := x.layoutGen, count := l.length, truncated := cut, newLayout := x.newLayout
        body := (l.zipIdx).flatMap fun p => s.elem h p.2 p.1 }
      let s := if cut && !x.truncating then s.stmtEvent h 0x1 full else s
      (s.modSlot h fun x => { x with truncating := cut, newLayout := false }).queueStatement h st

/-- STATEMENT_ASSEMBLY (R217): at t = 90 µs the Statements of every subscribing slot are assembled and queued, once a
microframe (R29). [DESIGN CHOICE, log 7] -/
def execStatementAssembly (s : State) : Out :=
  .next (
    if s.awake && s.tally.running && s.mint.sent && !s.glb.assembled then
      allSlots.foldl State.assemble (s.modGlb fun g => { g with assembled := true })
    else s)

/-! ### Delivery (R215, R219, R391) -/

/-- A Statement's bytes as it is delivered (R215). [DEDUCED, log 89] -/
def Statement.bytes (t : Statement) (h : SlotId) (dropBefore : Bool) (dropped : Word) : List Byte :=
  leBytes 2 1 ++ leBytes 2 t.count ++ leBytes 4 (32 + t.body.length) ++ leBytes 8 t.sofTime.toNat ++ leBytes 4 t.n.toNat
    ++ leBytes 2 t.gen.toNat
    ++ [BitVec.ofNat 8 (bitOf t.truncated + flagAt dropBefore 1 + flagAt t.newLayout 2), BitVec.ofNat 8 h.val]
    ++ leBytes 4 dropped.toNat ++ List.replicate 4 0 ++ t.body

/-- A delivery reads its buffer (R391): each of its lines that fails carries zeros, and is reported. Which failing lines of the
region its data lie in, and which part each holds, the spec does not say, so both are free. [DESIGN CHOICE, log 91] -/
def State.readBuffer (s : State) (h : SlotId) (n : Word) (l : List Byte) : List Byte × State :=
  let x := s.meets inStatements
  x.1.foldl (fun a line =>
    let g := a.2.freeBelow (ceilDiv l.length 64)
    let i := 64 * g.1
    let k := min 64 (l.length - i)
    (a.1.take i ++ List.replicate k 0 ++ a.1.drop (i + k),
      (g.2.noteUncorrectable line .draft).slotEvent h 0x38 none 0x5 n.toNat)) (l, x.2)

/-- STATEMENT_DELIVERY (R219): the oldest Statement is delivered on an IN request of endpoint 0x82. [DEDUCED, log 89] -/
def execStatementDelivery (h : SlotId) (s : State) : Out :=
  .next (
    let x : Slot := s.slots[h.val]
    if !s.pathOpen h then s
    else match x.statements with
      | [] => s
      | t :: rest =>
        let b := s.readBuffer h t.n (t.bytes h x.dropBefore x.dropped)
        b.2.modSlot h fun x => { x with statements := rest, dropBefore := false, lastIn82 := b.1 })

end Sys2Proof.Machine
end

