-- ==== Sys2Proof/Machine/StileRegs.lean ====
section
/-! DEFINITION. The registers of a Stile as the Stile holds them (R350, R380, R444), the shadow copies that the Carcass keeps of
them (R445), and their telemetry refresh at a microframe boundary (R20). -/
namespace Sys2Proof.Machine

/-- STATE codes of STL_CC_STATUS (R330, R350). -/
def CcState.code : CcState → Nat
  | .disabled => 0x0 | .seatWait => 0x1 | .unattachedSrc => 0x2 | .attachWaitSrc => 0x3 | .attachedSrc => 0x4
  | .unattachedSnk => 0x5 | .attachWaitSnk => 0x6 | .trySrc => 0x7 | .tryWaitSnk => 0x8 | .sourcePartner => 0x9
  | .accessory => 0xA

/-- STL_PWR_STATUS (R380). -/
def Pwr.statusWord (w : Pwr) : Word :=
  toWord (fieldAt w.lastOff.toNat 28 + flagAt w.vbusLow 10 + flagAt w.limiting 9 + flagAt w.disch 8 + flagAt w.cooling 7
    + flagAt (w.trans != .none) 6 + flagAt (w.ramp != .none) 5 + flagAt w.gateH 4 + flagAt w.gateL 3 + flagAt w.seatOk 2
    + flagAt w.seatB 1 + flagAt w.seatA 0)
/-- STL_PWR_MEAS (R380). -/
def Pwr.measWord (w : Pwr) : Word := toWord (fieldAt w.measMv.toNat 16 + w.measMa.toNat)
/-- STL_MODEL (R380): Tj of the hotter path and T_B, in 1/16 °C. -/
def State.modelWord (s : State) (k : PortId) : Word :=
  toWord (fieldAt (sat16 (s.tj16 k)) 16 + sat16 s.stiles[(stileOf k).val].tb)
/-- STL_COOL (R380). -/
def Pwr.coolWord (w : Pwr) : Word := toWord (flagAt w.cooled 16 + satU16 (ceilDiv w.coolLeft 100))
/-- STL_PWR_CNT (R380), read without clearing. -/
def Pwr.cntWord (w : Pwr) : Word :=
  toWord (fieldAt w.cntFast.toNat 24 + fieldAt w.cntModel.toNat 16 + fieldAt w.cntLimit.toNat 8 + w.cntSeat.toNat)
/-- STL_CC_STATUS (R350). -/
def Pd.ccWord (p : Pd) : Word :=
  toWord (flagAt p.ccRec.drp 13 + flagAt p.vconnFault 12 + flagAt p.vconnPin 11 + flagAt p.vconnOn 10 + fieldAt p.rpNow.toNat 8
    + fieldAt p.partner.toNat 6 + fieldAt p.orient.toNat 4 + p.cc.code)
/-- STL_PD_STATUS (R350). -/
def Pd.statusWord (p : Pd) : Word :=
  let c : Nat × Nat × Nat := match p.contract with | some c => (c.cur, c.volt, c.pos) | none => (0, 0, 0)
  toWord (fieldAt (c.1 % 1024) 22 + fieldAt (c.2.1 % 1024) 12 + flagAt p.accepted.isSome 11 + flagAt (p.hr != .none) 10
    + flagAt p.reply.isSome 9 + flagAt p.waitTimer.isSome 8 + fieldAt (c.2.2 % 16) 4 + fieldAt p.specRev.toNat 2
    + flagAt p.eprMode 1 + flagAt p.contract.isSome 0)
/-- STL_PD_CNT (R350), read without clearing. -/
def Pd.cntWord (p : Pd) : Word :=
  toWord (fieldAt p.hardResets.toNat 24 + fieldAt p.noGoodCrc.toNat 16 + fieldAt p.rxCrc.toNat 8 + p.auto.toNat)
/-- STL_RAILS (R380): 15 mV per LSB. -/
def Stile.railsWord (x : Stile) : Word := toWord (fieldAt (min 4095 (x.railHMv / 15)) 16 + min 4095 (x.railLMv / 15))
/-- STL_LINK (R444). -/
def Stile.linkWord (x : Stile) : Word :=
  toWord (flagAt x.shutdown 5 + flagAt x.holdover 4 + flagAt x.resetLine 3 + flagAt x.vgdOk 2 + flagAt x.retraining 1
    + flagAt x.up 0)
/-- STL_LINK_CNT (R444), read without clearing. -/
def Stile.linkCnt (x : Stile) : Word := toWord (fieldAt x.retry.toNat 16 + fieldAt x.down.toNat 8)

/-- The registers of a port's Stile sub-block as the Stile holds them now. -/
def State.stilePort (s : State) (k : PortId) : Shadow :=
  let w := s.pwr[k.val]
  let p := s.pd[k.val]
  { pwrStatus := w.statusWord, pwrMeas := w.measWord, model := s.modelWord k, cool := w.coolWord, pwrCnt := w.cntWord
    ccStatus := p.ccWord, pdStatus := p.statusWord, pdCnt := p.cntWord }

/-- The shadow copy that the Carcass holds of a port's registers. -/
def State.shadowOf (s : State) (k : PortId) : Shadow := s.stiles[(stileOf k).val].shadow.getD (k.val % 8) {}

/-- A port's Stile registers as a read gives them: from the Stile while its link is up, else the shadow copy (R445). -/
def State.stileRead (s : State) (k : PortId) : Shadow := if s.linkUp k then s.stilePort k else s.shadowOf k

/-- The averages of the microframe that ends (R20); without a sample they stay. [DEDUCED, log 118] -/
def Pwr.average (w : Pwr) : Pwr :=
  if w.samples = 0 then w
  else { w with
    measMv := BitVec.ofNat 16 (satU16 (w.sumMv / w.samples)), measMa := BitVec.ofNat 16 (sat16 (w.sumMa / w.samples).floor)
    sumMv := 0, sumMa := 0, samples := 0 }

/-- One Stile's shadow copies, refreshed by telemetry while its link is up (R20, R445). -/
def State.refreshStile (s : State) (i : StileId) : State :=
  if s.stiles[i.val].up then
    s.modStile i fun x => { x with
      shadow := Vector.ofFn fun (j : Fin 8) => s.stilePort (finOf 24 (by decide) (8 * i.val + j.val)), shadowRails := x.railsWord }
  else s

/-- The Stiles' part of a microframe boundary: averages, then the telemetry of each Stile whose link is up.
[DEDUCED, log 118] -/
def State.stileBoundary (s : State) : State :=
  let s : State := { s with pwr := s.pwr.map Pwr.average }
  (allFin 3).foldl State.refreshStile s

end Sys2Proof.Machine
end

