-- ==== Sys2Proof/Machine/Registers.lean ====
section
/-! DEFINITION. The register map (R12, R442), what each register reads (R424, R427), clears (R13), checks on a write (R421,
R425, R431, R432, R435, R441) and does when written (R425), parity (R429), and the judgement of one access (R421, R428). -/
namespace Sys2Proof.Machine

/-- The registers of the C2428, one constructor per register or family of instances (R442). -/
inductive Reg where
  | id | step | straps | fault | boot | unlock | lock | violation | parityAddr | presence
  | mbxCmd (i : Fin 68) | mbxGo | mbxRsp (i : Fin 68)
  | hstStatus (h : SlotId) | hstAddr (h : SlotId) | hstDeeds (h : SlotId)
  | prtState (k : PortId) | prtDev (k : PortId) | prtDeed (k : PortId) | prtErrcnt (k : PortId) | prtSofLo (k : PortId)
  | prtSofHi (k : PortId)
  | ttState (k : PortId)
  | mntLoad | mntGstate (g : GroupId) | mntCstate (c : ChanId) | mntTstate (t : TemplId)
  | clrArmed | clrViol | clrTrips | clrBodies | clrBstate (b : BodyId) | clrPstate (p : PairId) | clrPdist (p : PairId)
  | tlyTimeLo | tlyTimeHi | tlyMfLo | tlyMfHi | tlyStatus | tlyPhase | tlyRate | tlyMsiCfg | tlyMsoCfg | tlyMsoWid
  | tlyMsiTsLo | tlyMsiTsHi | tlyMsiN | tlyUsofLo (h : SlotId) | tlyUsofHi (h : SlotId) | tlyDvtCfg | tlyDvtStatus | tlyDvtCnt
  | ldgStatus | ldgCorr | ldgUncorr | ldgPlanePos | ldgLast | ldgInj | ldgTestAddr | ldgTestCtrl | ldgTestCheck | ldgTestCalc
  | ldgFlipAddr | ldgFlip | ldgTestData (w : Fin 16) | ldgInlayLo (i : Fin 8) | ldgInlayHi (i : Fin 8)
  | prsSize (n : PurseId) | prsWords (n : PurseId) | prsPkts (n : PurseId) | prsLost (n : PurseId) | prsFree
  | escBudgetL | escBudgetH | escBudgetV | escChargeL | escChargeH | escChargeV | escCfg | escStatus | escPort (k : PortId)
  | nsfState | nsfWakeEn | nsfWakeLast | nsfDomain | nsfPwrCfg | nsfRuleHit | nsfRtcSec | nsfRtcSub | nsfAlarm
  | nsfAinCfg (n : Fin 16) | nsfAinVal (n : Fin 16) | nsfRule (r : Fin 16) | nsfRuleAct (r : Fin 16)
  | nsfPbLo (k : Fin 8) | nsfPbHi (k : Fin 8)
  | stlPwrStatus (k : PortId) | stlPwrMeas (k : PortId) | stlModel (k : PortId) | stlCool (k : PortId) | stlPwrCnt (k : PortId)
  | stlCcStatus (k : PortId) | stlPdStatus (k : PortId) | stlPdCnt (k : PortId)
  | stlRails (i : StileId) | stlLink (i : StileId) | stlLinkCnt (i : StileId)
  | soCount | soSkipped | soPbudA (k : PortId) | soPbudB (k : PortId) | soState (n : OrderId)
  | drfStatus (d : Fin 32) | drfLast
  | vltStatus | vltFloor | vltProg (w : Fin 4) | vltRow (r : Fin 128)
  deriving DecidableEq, Repr

/-- Instance `i` of `n` instances, where `i` is one of them. -/
def inst (n : Nat) (i : Nat) (f : Fin n → Reg) : Option Reg := if h : i < n then some (f ⟨i, h⟩) else none

/-- The Global block (R3, R95, R192, R442), by byte offset. -/
def glbReg (o : Nat) : Option Reg :=
  if 0x400 ≤ o ∧ o < 0x510 then inst 68 ((o - 0x400) / 4) .mbxCmd
  else if 0x600 ≤ o ∧ o < 0x710 then inst 68 ((o - 0x600) / 4) .mbxRsp
  else match o with
    | 0x00 => some .id | 0x04 => some .step | 0x08 => some .straps | 0x10 => some .fault | 0x20 => some .boot
    | 0x30 => some .unlock | 0x34 => some .lock | 0x38 => some .violation | 0x3C => some .parityAddr | 0x40 => some .presence
    | 0x510 => some .mbxGo | _ => none

/-- The host-slot blocks (R107 to R109). -/
def hstReg (o : Nat) : Option Reg :=
  match o % 0x1000 with
  | 0x0 => inst 4 (o / 0x1000) .hstStatus | 0x4 => inst 4 (o / 0x1000) .hstAddr | 0x8 => inst 4 (o / 0x1000) .hstDeeds
  | _ => none

/-- The port blocks (R110, R133). -/
def prtReg (o : Nat) : Option Reg :=
  let k := o / 0x400
  match o % 0x400 with
  | 0x00 => inst 24 k .prtState | 0x04 => inst 24 k .prtDev | 0x08 => inst 24 k .prtDeed | 0x10 => inst 24 k .prtErrcnt
  | 0x18 => inst 24 k .prtSofLo | 0x1C => inst 24 k .prtSofHi | _ => none

/-- Mint's block (R303). -/
def mntReg (o : Nat) : Option Reg :=
  if o = 0 then some .mntLoad
  else if o < 0x100 then none
  else if o < 0x200 then inst 16 ((o - 0x100) / 4) .mntGstate
  else if o < 0x400 then inst 128 ((o - 0x200) / 4) .mntCstate
  else inst 64 ((o - 0x400) / 4) .mntTstate

/-- Clearance's block (R325). -/
def clrReg (o : Nat) : Option Reg :=
  if o = 0 then some .clrArmed
  else if o = 4 then some .clrViol
  else if o = 8 then some .clrTrips
  else if o = 0xC then some .clrBodies
  else if o < 0x100 then none
  else if o < 0x200 then inst 8 ((o - 0x100) / 4) .clrBstate
  else if o % 8 = 0 then inst 28 ((o - 0x200) / 8) .clrPstate
  else inst 28 ((o - 0x200) / 8) .clrPdist

/-- Tally's block (R261). -/
def tlyReg (o : Nat) : Option Reg :=
  if 0x40 ≤ o ∧ o < 0x60 then
    if o % 8 = 0 then inst 4 ((o - 0x40) / 8) .tlyUsofLo else inst 4 ((o - 0x40) / 8) .tlyUsofHi
  else match o with
    | 0x00 => some .tlyTimeLo | 0x04 => some .tlyTimeHi | 0x08 => some .tlyMfLo | 0x0C => some .tlyMfHi
    | 0x10 => some .tlyStatus | 0x14 => some .tlyPhase | 0x18 => some .tlyRate | 0x20 => some .tlyMsiCfg
    | 0x24 => some .tlyMsoCfg | 0x28 => some .tlyMsoWid | 0x30 => some .tlyMsiTsLo | 0x34 => some .tlyMsiTsHi
    | 0x38 => some .tlyMsiN | 0x60 => some .tlyDvtCfg | 0x64 => some .tlyDvtStatus | 0x68 => some .tlyDvtCnt | _ => none

/-- The Ledger's block (R401). -/
def ldgReg (o : Nat) : Option Reg :=
  if 0x40 ≤ o ∧ o < 0x80 then inst 16 ((o - 0x40) / 4) .ldgTestData
  else if 0x100 ≤ o then
    if o % 8 = 0 then inst 8 ((o - 0x100) / 8) .ldgInlayLo else inst 8 ((o - 0x100) / 8) .ldgInlayHi
  else match o with
    | 0x00 => some .ldgStatus | 0x04 => some .ldgCorr | 0x08 => some .ldgUncorr | 0x0C => some .ldgPlanePos
    | 0x10 => some .ldgLast | 0x14 => some .ldgInj | 0x20 => some .ldgTestAddr | 0x24 => some .ldgTestCtrl
    | 0x28 => some .ldgTestCheck | 0x2C => some .ldgTestCalc | 0x30 => some .ldgFlipAddr | 0x34 => some .ldgFlip | _ => none

/-- The Purses' block (R235). -/
def prsReg (o : Nat) : Option Reg :=
  if o = 0x1000 then some .prsFree
  else match o % 16 with
    | 0x0 => inst 256 (o / 16) .prsSize | 0x4 => inst 256 (o / 16) .prsWords | 0x8 => inst 256 (o / 16) .prsPkts
    | _ => inst 256 (o / 16) .prsLost

/-- Escrow's block (R381). -/
def escReg (o : Nat) : Option Reg :=
  if 0x100 ≤ o then inst 24 ((o - 0x100) / 4) .escPort
  else match o with
    | 0x00 => some .escBudgetL | 0x04 => some .escBudgetH | 0x08 => some .escBudgetV
    | 0x10 => some .escChargeL | 0x14 => some .escChargeH | 0x18 => some .escChargeV
    | 0x20 => some .escCfg | 0x24 => some .escStatus | _ => none

/-- Nightsafe's block (R420). -/
def nsfReg (o : Nat) : Option Reg :=
  if 0x300 ≤ o then if o % 8 = 0 then inst 8 ((o - 0x300) / 8) .nsfPbLo else inst 8 ((o - 0x300) / 8) .nsfPbHi
  else if 0x200 ≤ o then if o % 8 = 0 then inst 16 ((o - 0x200) / 8) .nsfRule else inst 16 ((o - 0x200) / 8) .nsfRuleAct
  else if 0x140 ≤ o then inst 16 ((o - 0x140) / 4) .nsfAinVal
  else if 0x100 ≤ o then inst 16 ((o - 0x100) / 4) .nsfAinCfg
  else match o with
    | 0x00 => some .nsfState | 0x04 => some .nsfWakeEn | 0x08 => some .nsfWakeLast | 0x0C => some .nsfDomain
    | 0x10 => some .nsfPwrCfg | 0x14 => some .nsfRuleHit | 0x18 => some .nsfRtcSec | 0x1C => some .nsfRtcSub
    | 0x20 => some .nsfAlarm | _ => none

/-- The Stiles' block (R350, R380, R444). -/
def stlReg (o : Nat) : Option Reg :=
  let i := o / 0x4000
  let p := o % 0x4000
  if p = 0x2000 then inst 3 i .stlRails
  else if p = 0x2004 then inst 3 i .stlLink
  else if p = 0x2008 then inst 3 i .stlLinkCnt
  else if 0x2000 ≤ p then none
  else
    let k := 8 * i + p / 0x400
    match p % 0x400 with
    | 0x000 => inst 24 k .stlPwrStatus | 0x004 => inst 24 k .stlPwrMeas | 0x008 => inst 24 k .stlModel
    | 0x00C => inst 24 k .stlCool | 0x010 => inst 24 k .stlPwrCnt | 0x100 => inst 24 k .stlCcStatus
    | 0x104 => inst 24 k .stlPdStatus | 0x108 => inst 24 k .stlPdCnt | _ => none

/-- The standing orders' block (R233). -/
def soReg (o : Nat) : Option Reg :=
  if 0x1000 ≤ o then inst 1024 ((o - 0x1000) / 4) .soState
  else if 0x100 ≤ o then
    if o % 8 = 0 then inst 24 ((o - 0x100) / 8) .soPbudA else inst 24 ((o - 0x100) / 8) .soPbudB
  else if o = 0 then some .soCount
  else if o = 4 then some .soSkipped
  else none

/-- The Drafts' block (R402). -/
def drfReg (o : Nat) : Option Reg := if o = 0x100 then some .drfLast else inst 32 (o / 4) .drfStatus

/-- The Vault's block (R446). -/
def vltReg (o : Nat) : Option Reg :=
  if 0x100 ≤ o then inst 128 ((o - 0x100) / 4) .vltRow
  else if 0x80 ≤ o then inst 4 ((o - 0x80) / 4) .vltProg
  else if o = 0 then some .vltStatus
  else if o = 4 then some .vltFloor
  else none

/-- The register at a byte address, where a table names one (R12, R442); aligned addresses only. -/
def regAt (addr : Nat) : Option Reg :=
  let o := addr % 0x10000
  if addr % 4 ≠ 0 then none
  else match addr / 0x10000 with
    | 0x0 => glbReg o | 0x1 => hstReg o | 0x2 => prtReg o | 0x3 => inst 24 (o / 4) .ttState | 0x4 => mntReg o | 0x5 => clrReg o
    | 0x6 => tlyReg o | 0x7 => ldgReg o | 0x8 => prsReg o | 0x9 => escReg o | 0xA => nsfReg o | 0xB => stlReg o | 0xC => soReg o
    | 0xD => drfReg o | 0xF => vltReg o | _ => none

/-! ### Reading -/

/-- Whether the source of a path holds an unlocked key (R430). -/
def State.unlockedBy (s : State) (p : Path) : Bool :=
  match p with
  | .slot h => s.slots[h.val].unlocked
  | _ => s.glb.mgmtUnlocked

/-- The unlock state of a path's source changed (R430). -/
def State.setUnlocked (s : State) (p : Path) (b : Bool) : State :=
  match p with
  | .slot h => s.modSlot h fun x => { x with unlocked := b }
  | _ => s.modGlb fun g => { g with mgmtUnlocked := b }

/-- GLB_PRESENCE (R442): RS copies. -/
def Nightsafe.presenceWord (n : Nightsafe) : Word :=
  toWord (fieldAt (ceilDiv n.rsPresence 32768 % 256) 16 + flagAt n.rsTamper 3 + flagAt n.rsSealOpen 2 + flagAt n.rsKey 1
    + flagAt (n.rsPresence != 0) 0)

/-- GLB_VIOLATION, read without clearing. -/
def Glb.violationWord (g : Glb) : Word :=
  toWord (fieldAt g.vioSource.toNat 28 + fieldAt g.vioCode.toNat 24 + fieldAt g.vioCount.toNat 20 + g.vioAddr.toNat)

/-- LDG_STATUS (R401), read without clearing. -/
def Ledger.statusWord (g : Ledger) : Word :=
  let used := g.inlay.length
  toWord (fieldAt g.rate.toNat 16 + flagAt g.sqOvf 11 + flagAt (decide (8 ≤ used)) 10 + fieldAt g.queue.length 5 + used)

/-- NSF_STATE (R420). -/
def State.nsfStateWord (s : State) : Word :=
  let d := match s.glb.drain with | .none => 0 | .domain _ => 1 | .sleep => 2
  toWord (fieldAt s.nsf.rsPbCount 8 + flagAt s.nsf.rsForceOff 4 + fieldAt d 2 + bitOf (s.glb.core == .s1))

/-- NSF_DOMAIN (R420). -/
def State.nsfDomainWord (s : State) : Word :=
  toWord ((List.range 15).map fun d => flagAt (s.domainOn d) d).sum

/-- VLT_STATUS (R446): a command programs its rows in one step, so BUSY reads 0. [DEDUCED, log 134] -/
def State.vltStatusWord (s : State) : Word :=
  toWord (fieldAt ((List.range 128).filter s.vaultProgrammed).length 8 + flagAt s.keyPartial 3 + flagAt (!s.keyFused) 2
    + s.lockLevel)

/-- DRF_STATUS (R402), read without clearing. -/
def Draft.word (d : Draft) : Word :=
  toWord (fieldAt d.halts.toNat 16 + fieldAt d.client.toNat 4 + flagAt d.zeroFill 1 + bitOf d.busy)

/-- The low word of a 64-bit value. -/
def loWord (x : Dword) : Word := x.setWidth 32
/-- The high word of a 64-bit value. -/
def hiWord (x : Dword) : Word := (x >>> 32).setWidth 32

/-- What a register holds as path `p` reads it (R424): reserved and WO fields read 0. `now` is T at the access (R427). -/
def State.regValue (s : State) (p : Path) (now : Dword) (r : Reg) : Word :=
  match r with
  | .id => 0x4F4C2428
  | .step => s.glbStep
  | .straps => toWord (flagAt s.glb.cascadeEn 5 + flagAt s.glb.bootSlot 4 + s.nsf.mgmtAddr.toNat)
  | .fault => s.glbFault
  | .boot => s.glb.bootWord s.dvt.chainPos
  | .unlock => toWord (bitOf (s.unlockedBy p))
  | .lock => s.glb.lock.setWidth 32
  | .violation => s.glb.violationWord
  | .parityAddr => match s.glb.parityAddr with | some a => toWord (2147483648 + a.toNat) | none => 0
  | .presence => s.nsf.presenceWord
  | .mbxCmd i => s.teller.mbxCmd[i.val]
  | .mbxGo => toWord (flagAt s.teller.done 1 + bitOf s.teller.go)
  | .mbxRsp i => s.teller.mbxRsp[i.val]
  | .hstStatus h => s.hstStatus h
  | .hstAddr h => s.hstAddr h
  | .hstDeeds h => s.hstDeeds h
  | .prtState k => s.prtState k
  | .prtDev k => s.prtDev k
  | .prtDeed k => s.prtDeed k
  | .prtErrcnt k => s.prtErr k
  | .prtSofLo k => loWord s.ports[k.val].sofTs
  | .prtSofHi k => hiWord s.ports[k.val].sofTs
  | .ttState k => s.ttState k
  | .mntLoad => s.mntLoad
  | .mntGstate g => s.mntGstate g
  | .mntCstate c => s.mntCstate c
  | .mntTstate t => s.mntTstate t
  | .clrArmed => s.clr.armedWord
  | .clrViol => s.clr.viol.setWidth 32
  | .clrTrips => s.clr.trips.setWidth 32
  | .clrBodies => s.clr.bodiesWord
  | .clrBstate b => s.clr.bodies[b.val].word
  | .clrPstate q => s.clr.pairs[q.val].word
  | .clrPdist q => s.clr.pairs[q.val].dist
  | .tlyTimeLo => loWord now
  | .tlyTimeHi => hiWord now
  | .tlyMfLo => loWord s.tally.n
  | .tlyMfHi => hiWord s.tally.n
  | .tlyStatus => s.tlyStatus
  | .tlyPhase => s.tally.phase
  | .tlyRate => s.tally.rate
  | .tlyMsiCfg => s.tally.msiCfg
  | .tlyMsoCfg => s.tally.msoCfg
  | .tlyMsoWid => s.tally.msoWid.setWidth 32
  | .tlyMsiTsLo => loWord s.tally.msiTs
  | .tlyMsiTsHi => hiWord s.tally.msiTs
  | .tlyMsiN => s.tally.msiN
  | .tlyUsofLo h => loWord s.slots[h.val].usofTs
  | .tlyUsofHi h => hiWord s.slots[h.val].usofTs
  | .tlyDvtCfg => toWord (fieldAt s.dvt.holdGroups.toNat 16 + flagAt s.dvt.lossHold 15 + s.dvt.cable.toNat)
  | .tlyDvtStatus => s.dvt.status
  | .tlyDvtCnt => s.dvt.cnt
  | .ldgStatus => s.ldg.statusWord
  | .ldgCorr => s.ldg.corr
  | .ldgUncorr => s.ldg.uncorr
  | .ldgPlanePos => toWord (fieldAt s.ldg.passes.toNat 17 + s.ldg.visit.toNat)
  | .ldgLast => s.ldg.last
  | .ldgInj => match s.ldg.inj with | some l => toWord (2147483648 + l.toNat) | none => 0
  | .ldgTestAddr => s.ldg.testAddr.setWidth 32
  | .ldgTestCtrl => 0
  | .ldgTestCheck => s.ldg.testCheck
  | .ldgTestCalc => s.ldg.testCalc
  | .ldgFlipAddr => s.ldg.flipAddr.setWidth 32
  | .ldgFlip => s.ldg.flip
  | .ldgTestData w => s.ldg.testData[w.val]
  | .ldgInlayLo i => match s.ldg.inlay[i.val]? with | some e => e.n | none => 0
  | .ldgInlayHi i => match s.ldg.inlay[i.val]? with | some e => e.hi | none => 0
  | .prsSize n => s.prsSize n
  | .prsWords n => s.prsWords n
  | .prsPkts n => s.prsPkts n
  | .prsLost n => s.prsLost n
  | .prsFree => toWord s.freeBlocks
  | .escBudgetL => s.escrow.budgetL
  | .escBudgetH => s.escrow.budgetH
  | .escBudgetV => s.escrow.budgetV
  | .escChargeL => toWord s.chargeL
  | .escChargeH => toWord s.chargeH
  | .escChargeV => toWord s.chargeV
  | .escCfg => s.escCfg
  | .escStatus => s.escStatus
  | .escPort k => s.escPort k
  | .nsfState => s.nsfStateWord
  | .nsfWakeEn => s.nsf.wakeEn.setWidth 32
  | .nsfWakeLast => match s.nsf.rsPassbook with | r :: _ => r.word | [] => 0
  | .nsfDomain => s.nsfDomainWord
  | .nsfPwrCfg => s.glb.drainLimit.setWidth 32
  | .nsfRuleHit => toWord (flagAt s.nsf.rsForceOff 16 + s.nsf.hit.toNat)
  | .nsfRtcSec => s.nsf.rtcSec
  | .nsfRtcSub => s.nsf.rsSub.setWidth 32
  | .nsfAlarm => s.nsf.alarm
  | .nsfAinCfg n => s.nsf.ain[n.val].cfg
  | .nsfAinVal n => let a := s.nsf.rsAin[n.val]; toWord (fieldAt a.1.toNat 16 + min 4095 (a.2 / 1024))
  | .nsfRule i => s.nsf.rules[i.val].cfg
  | .nsfRuleAct i => toWord (s.nsf.rules[i.val].act.toNat + flagAt (testBit s.nsf.rsActive i.val) 3)
  | .nsfPbLo i => match s.nsf.rsPassbook[i.val]? with | some e => e.word | none => 0
  | .nsfPbHi i => match s.nsf.rsPassbook[i.val]? with | some e => e.sec | none => 0
  | .stlPwrStatus k => (s.stileRead k).pwrStatus
  | .stlPwrMeas k => (s.stileRead k).pwrMeas
  | .stlModel k => (s.stileRead k).model
  | .stlCool k => (s.stileRead k).cool
  | .stlPwrCnt k => (s.stileRead k).pwrCnt
  | .stlCcStatus k => (s.stileRead k).ccStatus
  | .stlPdStatus k => (s.stileRead k).pdStatus
  | .stlPdCnt k => (s.stileRead k).pdCnt
  | .stlRails i => if s.stiles[i.val].up then s.stiles[i.val].railsWord else s.stiles[i.val].shadowRails
  | .stlLink i => s.stiles[i.val].linkWord
  | .stlLinkCnt i => s.stiles[i.val].linkCnt
  | .soCount => s.soCount
  | .soSkipped => s.glb.soSkipped
  | .soPbudA k => s.soPbudA k
  | .soPbudB k => s.soPbudB k
  | .soState n => s.soState n
  | .drfStatus d => s.ldg.drafts[d.val].word
  | .drfLast => s.ldg.draftLast.setWidth 32
  | .vltStatus => s.vltStatusWord
  | .vltFloor => toWord s.floor
  | .vltProg w => toWord ((List.range 32).map fun i => flagAt (s.vaultProgrammed (32 * w.val + i)) i).sum
  | .vltRow i => toWord (s.vaultRow i.val)

/-- What a full-width read of a register clears (R13, R424): its RC fields. A Stile's counters stay while its link is not up
(R445). -/
def State.clearRc (s : State) (r : Reg) : State :=
  match r with
  | .violation => s.modGlb fun g => { g with vioSource := 0, vioCode := 0, vioCount := 0, vioAddr := 0 }
  | .parityAddr => s.modGlb fun g => { g with parityAddr := none }
  | .prtErrcnt k => s.modPort k fun p => { p with errBabble := 0, errXact := 0, errTtOvf := 0, errSofClamp := 0 }
  | .mntLoad => { s with mint := { s.mint with peak := 0 } }
  | .mntTstate t => s.modTemplate t fun x => { x with invalid := 0 }
  | .clrTrips => { s with clr := { s.clr with trips := 0 } }
  | .tlyDvtCnt => s.modDvt fun d => { d with codeErr := 0, crcErr := 0, holdRx := 0, holdTx := 0 }
  | .ldgStatus => s.modLdg fun g => { g with sqOvf := false }
  | .ldgCorr => s.modLdg fun g => { g with corr := 0 }
  | .ldgUncorr => s.modLdg fun g => { g with uncorr := 0 }
  | .prsLost n => s.modPurse n fun p => { p with lost := 0, resets := 0 }
  | .stlPwrCnt k =>
    if s.linkUp k then s.modPwr k fun w => { w with cntFast := 0, cntModel := 0, cntLimit := 0, cntSeat := 0 } else s
  | .stlPdCnt k =>
    if s.linkUp k then s.modPd k fun p => { p with hardResets := 0, noGoodCrc := 0, rxCrc := 0, auto := 0 } else s
  | .stlLinkCnt i => s.modStile i fun x => { x with retry := 0, down := 0 }
  | .soSkipped => s.modGlb fun g => { g with soSkipped := 0 }
  | .drfStatus d => s.modLdg fun g => { g with drafts := vmod g.drafts d fun x => { x with halts := 0 } }
  | _ => s

/-! ### What a write is checked against -/

/-- The reserved fields of a register, as the bits that must be written 0 (R14, R421). [DEDUCED, log 133] -/
def Reg.reserved (r : Reg) : Nat :=
  match r with
  | .step | .fault | .tlyMsoWid => 0xFFFF0000
  | .vltStatus => 0xFFFF00E0
  | .straps => 0xFFFFFFC8
  | .boot => 0x0000C1F0
  | .lock => 0xFFFFFFF0
  | .parityAddr => 0x7FF00000
  | .presence => 0xFF00FFE0
  | .mbxGo => 0xFFFFFFFC
  | .hstStatus _ => 0xFFFFF000
  | .hstAddr _ => 0xFF808080
  | .hstDeeds _ => 0xFF000000
  | .prtState _ => 0xFF0E00F0
  | .prtDeed _ => 0xFF000CEC
  | .ttState _ => 0xF8E0E000
  | .mntGstate _ => 0xF0
  | .mntCstate _ => 0x00E000F0
  | .mntTstate _ => 0x3C0000C0
  | .clrArmed | .clrViol | .clrTrips => 0xF0000000
  | .clrBodies => 0xFF000000
  | .clrBstate _ => 0xFFFFF8C0
  | .clrPstate _ => 0xFFC0C0C8
  | .tlyStatus => 0x80
  | .tlyDvtStatus => 0xF0F0
  | .ldgStatus => 0xE000F010
  | .ldgLast => 0x7F000000
  | .ldgInj => 0x7FFE0000
  | .ldgTestAddr | .ldgFlipAddr => 0xFFFE0000
  | .ldgTestCtrl => 0xFFFFFFF8
  | .ldgInlayHi _ => 0x3FF00000
  | .prsSize _ => 0xFFF3F000
  | .prsWords _ | .prsPkts _ => 0xFFFC0000
  | .prsFree => 0xFFFFF000
  | .escCfg => 0xFFFFE0F0
  | .escStatus => 0xE0E0F000
  | .escPort _ => 0x00F8FF03
  | .nsfState => 0xFFFFF0E0
  | .nsfWakeEn | .nsfPwrCfg => 0xFFFFFF00
  | .nsfWakeLast | .nsfPbLo _ => 0xF000
  | .nsfDomain => 0xFFFF8000
  | .nsfRuleHit => 0xFFFE0000
  | .nsfRtcSub => 0xFFFF8000
  | .nsfAinCfg _ => 0x30FF0000
  | .nsfAinVal _ => 0xF000F000
  | .nsfRule _ => 0x30000000
  | .nsfRuleAct _ => 0xFFFFF0F0
  | .stlPwrStatus _ => 0x0FFFF800
  | .stlCool _ => 0xFFFE0000
  | .stlCcStatus _ => 0xFFFFC000
  | .stlRails _ => 0xF000F000
  | .stlLink _ => 0xFFFFFFC0
  | .stlLinkCnt _ => 0xFF
  | .soCount => 0xFFFFF800
  | .soPbudA _ => 0xE000E000
  | .soPbudB _ => 0xFFE0E000
  | .soState _ => 0xF800FFE0
  | .drfStatus _ => 0xFF0C
  | .drfLast => 0xFFFE0000
  | _ => 0

/-- A value that a field's description refuses as out of range (R425): MSYNC offsets (R261), the ADC filter shift, the drain
limit (R420) and LDG_TEST_CTRL.OP (R401). [DEDUCED, log 132, 133] -/
def Reg.outOfRange (r : Reg) (v : Word) : Bool :=
  match r with
  | .tlyMsiCfg | .tlyMsoCfg => decide (bitsAt v.toNat 0 17 > 124999)
  | .nsfAinCfg _ => decide (bitsAt v.toNat 24 4 > 10)
  | .nsfPwrCfg => decide (v.toNat % 256 > 200)
  | .ldgTestCtrl => decide (v.toNat % 8 = 0 ∨ v.toNat % 8 > 4)
  | _ => false

/-- The bits of a register that need the unlock key where they are written 1 (R431). -/
def Reg.wk (r : Reg) : Word :=
  match r with
  | .ldgTestCtrl => 0x7
  | .ldgFlip => 0xFFFFFFFF
  | .nsfRuleHit => 0x10000
  | _ => 0

/-- A test-mode write outside the host region (R435, R441): a LDG_TEST_CTRL store, or a non-zero LDG_FLIP. -/
def State.testOutside (s : State) (r : Reg) (v : Word) : Bool :=
  match r with
  | .ldgTestCtrl => decide (2 ≤ v.toNat % 8) && !hostLine s.ldg.testAddr.toNat
  | .ldgFlip => v != 0 && !hostLine s.ldg.flipAddr.toNat
  | _ => false

/-- The GLB_LOCK group a write falls in (R432). -/
def Reg.lockGroup (r : Reg) (v : Word) : Option Nat :=
  match r with
  | .escCfg => some 0
  | .tlyMsiCfg | .tlyMsoCfg | .tlyMsoWid | .tlyDvtCfg => some 1
  | .nsfWakeEn | .nsfPwrCfg | .nsfRtcSec | .nsfAlarm | .nsfAinCfg _ | .nsfRule _ | .nsfRuleAct _ => some 2
  | .nsfRuleHit => if testBit v 16 then some 2 else none
  | .ldgTestAddr | .ldgTestCtrl | .ldgTestData _ | .ldgTestCheck | .ldgFlipAddr | .ldgFlip => some 3
  | _ => none

/-- Whether a write is refused ELOCKED (R432, R441). -/
def State.regLocked (s : State) (r : Reg) (v : Word) : Bool :=
  (match r with | .lock => s.glb.lockWritten | _ => false)
    || (match r.lockGroup v with | some g => testBit s.glb.lock g | none => false)
    || (s.testOutside r v && decide (2 ≤ s.lockLevel))

/-! ### Writing -/

/-- A write posted to Nightsafe (R36). [DEDUCED, log 47] -/
def State.post (s : State) (addr : Nat) (v : Word) : State :=
  s.modNsf fun n => { n with posted := n.posted ++ [{ addr := addr, val := v, ticks := 0 }] }

/-- A violation recorded (R428). -/
def State.violation (s : State) (p : Path) (code : Nat) (addr : Nat) : State :=
  let src := match p with | .slot h => h.val | .mbx => 5 | .mgmt => 4
  s.modGlb fun g => { g with
    vioSource := BitVec.ofNat 4 src, vioCode := BitVec.ofNat 4 code, vioCount := satAdd g.vioCount 1
    vioAddr := BitVec.ofNat 20 addr }

/-- The W1C bits of GLB_FAULT that a write clears (R442). -/
def Glb.clearFaults (g : Glb) (v : Word) : Glb :=
  { g with
    fVault := g.fVault && !testBit v 13, fParity := g.fParity && !testBit v 12, fInlay := g.fInlay && !testBit v 11
    fLedger := g.fLedger && !testBit v 10, fFirmware := g.fFirmware && !testBit v 9, fClock := g.fClock && !testBit v 8
    fPurse := g.fPurse && !testBit v 7, fPorts := g.fPorts &&& ~~~ BitVec.ofNat 3 (bitsAt v.toNat 4 3) }

/-- A write of GLB_UNLOCK (R430): the key unlocks its source; any other value locks it and is recorded. -/
def State.writeUnlock (s : State) (p : Path) (v : Word) : State :=
  if v = 0x0C1A5E17 then s.setUnlocked p true else (s.setUnlocked p false).violation p 8 0x30

/-- What a write does once it has passed the checks (R425); a register without a writable field keeps what it has. `go` is the
start of the mailbox command by a write of 1 to GO while it reads 0 (R192). [DEDUCED, log 133] -/
def State.storeReg (go : State → State) (s : State) (p : Path) (addr : Nat) (r : Reg) (v : Word) : State :=
  match r with
  | .fault => s.modGlb fun g => g.clearFaults v
  | .unlock => s.writeUnlock p v
  | .lock => s.modGlb fun g => { g with lock := v.setWidth 4, lockWritten := true }
  | .presence => if testBit v 4 then s.closePresence else s
  | .mbxCmd i => s.modTeller fun t => { t with mbxCmd := t.mbxCmd.set i.val v }
  | .mbxGo => if testBit v 0 && !s.teller.go then go s else s
  | .tlyMsiCfg => s.modTally fun t => { t with msiCfg := v }
  | .tlyMsoCfg => s.modTally fun t => { t with msoCfg := v }
  | .tlyMsoWid => s.modTally fun t => { t with msoWid := v.setWidth 16 }
  | .tlyDvtCfg => s.modDvt fun d => { d with
      holdGroups := (v >>> 16).setWidth 16, lossHold := testBit v 15, cable := v.setWidth 15 }
  | .ldgTestAddr => s.modLdg fun g => { g with testAddr := v.setWidth 17 }
  | .ldgTestCtrl => s.testOp (v.toNat % 8)
  | .ldgTestCheck => s.modLdg fun g => { g with testCheck := v }
  | .ldgFlipAddr => s.modLdg fun g => { g with flipAddr := v.setWidth 17 }
  | .ldgFlip => s.modLdg fun g => { g with flip := v }
  | .ldgTestData w => s.modLdg fun g => { g with testData := g.testData.set w.val v }
  | .escCfg => s.modEscrow fun e => { e with
      rampsDev := BitVec.ofNat 5 (max 1 (min 24 (bitsAt v.toNat 8 5))), rampsStile := BitVec.ofNat 4 (max 1 (min 8 (v.toNat % 16))) }
  | .nsfPwrCfg => s.modGlb fun g => { g with drainLimit := BitVec.ofNat 8 (max 1 (v.toNat % 256)) }
  | .nsfRuleHit =>
    let s := s.modNsf fun n => { n with hit := n.hit &&& ~~~ v.setWidth 16 }
    if testBit v 16 then s.post addr v else s
  | .nsfWakeEn | .nsfRtcSec | .nsfAlarm | .nsfAinCfg _ | .nsfRule _ | .nsfRuleAct _ => s.post addr v
  | _ => s

/-! ### Parity (R429) -/

/-- The reset value of a writable register of the core domain. -/
def Reg.resetValue (r : Reg) : Word :=
  match r with
  | .tlyMsiCfg | .tlyMsoCfg => 0x00020000
  | .tlyMsoWid => 0x03E8
  | .tlyDvtCfg => 0x8000
  | .escCfg => 0x0602
  | .nsfPwrCfg => 0x14
  | _ => 0

/-- A parity error in a register of the core domain: from now on the register holds its reset value (R429). -/
def State.coreParity (s : State) (addr : Nat) (r : Reg) : State :=
  let s := s.noteParity addr
  match r with
  | .lock => s.modGlb fun g => { g with lock := 0 }
  | .mbxGo | .fault | .unlock | .presence => s
  | .ldgTestCtrl => s
  | _ => State.storeReg id s .mgmt addr r r.resetValue

/-- The P copy of a Vault row fails parity (R429): it is reloaded from OTP; where that fails too, GLB_FAULT.VAULT, and a
port-limit row's two ports are switched off and barred from Escrow. -/
def State.rowParity (s : State) (row : Fin 128) : State :=
  let bad := s.vault[row.val].otpBad
  let s : State := { s with vault := vmod s.vault row fun x => { x with copyBad := false } }
  if !bad then s
  else
    let s := s.modGlb fun g => { g with fVault := true }
    if 0x20 ≤ row.val ∧ row.val < 0x2C then
      let off := fun (s : State) (k : PortId) => (s.switchOff k).modPwr k fun w => { w with vaultBarred := true }
      let k : PortId := finOf 24 (by decide) (2 * (row.val - 0x20))
      off (off s k) (finOf 24 (by decide) (k.val + 1))
    else s

/-- The parity check of a register as it is read (R429). [DEDUCED, log 131] -/
def State.parityRead (s : State) (addr : Nat) (r : Reg) : State :=
  match r with
  | .vltRow row => if s.vault[row.val].copyBad then (s.noteParity addr).rowParity row else s
  | _ =>
    if !s.glb.parityBad.contains addr then s
    else if 0xA0000 ≤ addr ∧ addr < 0xB0000 ∧ r ≠ Reg.nsfPwrCfg then s.nsfParity addr
    else s.coreParity addr r

/-! ### One access (R421) -/

/-- The register an access concerns, or the refusal with its code (R421, first part). -/
def regOrRefusal (addr : Nat) : Except (Status × Nat) Reg :=
  if addr % 4 ≠ 0 then .error (.eAlign, 1)
  else match regAt addr with
    | some r => .ok r
    | none => .error (.eRange, 3)

/-- One full-width read by a path at a time (R421, R424): its status, the value, and the state with RC fields cleared where
`clear` holds. -/
def State.regRead (s : State) (p : Path) (now : Dword) (clear : Bool) (addr : Nat) : Status × Word × State :=
  match regOrRefusal addr with
  | .error e => (e.1, 0, s.violation p e.2 addr)
  | .ok r =>
    let s := s.parityRead addr r
    (.ok, s.regValue p now r, if clear then s.clearRc r else s)

/-- The checks of a write, in the order of R421, before the key is consumed. -/
def State.writeRefused (s : State) (p : Path) (r : Reg) (v : Word) : Option (Status × Nat) :=
  if v.toNat &&& r.reserved ≠ 0 ∨ r.outOfRange v = true then some (.eRange, 4)
  else if s.testOutside r v && !s.presenceOpen then some (.ePresence, 7)
  else if v &&& r.wk ≠ 0 ∧ s.unlockedBy p = false then some (.eKey, 5)
  else none

/-- One write of a register by a path (R421): reserved and range, presence, the key and its consumption, locks, then the
write itself. Writing a register ends a parity error in it (R429). -/
def State.regPut (go : State → State) (s : State) (p : Path) (addr : Nat) (r : Reg) (v : Word) : Status × State :=
  match s.writeRefused p r v with
  | some e => (e.1, s.violation p e.2 addr)
  | none =>
    let s := if v &&& r.wk ≠ 0 then s.setUnlocked p false else s
    if s.regLocked r v then (.eLocked, s.violation p 6 addr)
    else
      let s := s.modGlb fun g => { g with parityBad := g.parityBad.filter (· != addr) }
      (.ok, State.storeReg go s p addr r v)

/-- One write of a word at an address by a path. -/
def State.regWrite (go : State → State) (s : State) (p : Path) (addr : Nat) (v : Word) : Status × State :=
  match regOrRefusal addr with
  | .error e => (e.1, s.violation p e.2 addr)
  | .ok r => State.regPut go s p addr r v

end Sys2Proof.Machine
end

