-- ==== Sys2Proof/Machine/General.lean ====
section
/-! DEFINITION. The general opcodes NOP, ECHO, GET_INFO, FENCE and CANCEL (R175, R178, R181, R182). -/
namespace Sys2Proof.Machine

/-- NOP (R181). -/
def opNop : OpSpec :=
  { code := 0x00, mbx := true, recovery := true, argOk := fun a => arg0Zero a && arg1Zero a, body := fun s _ => .ok s }
/-- NOP completes at dispatch (R181). -/
def execNop (a : CmdArgs) (s : State) : Out := .next (issue opNop a s)

/-- ECHO (R181): any length up to 65,536 bytes. -/
def opEcho : OpSpec :=
  { code := 0x01, mbx := true, recovery := true, plenOk := fun _ => true, argOk := fun _ => true
    body := fun s a => .done .ok a.arg0 a.params s }
/-- ECHO returns ARG0 and its parameters (R181). -/
def execEcho (a : CmdArgs) (s : State) : Out := .next (issue opEcho a s)

/-- The Statement cap that GET_INFO reports (R182): by TELLER_PATH of the calling slot; 0 on MGMT and in recovery. -/
def State.statementCap (s : State) (c : Caller) : Nat :=
  match c with
  | .slot h => let t := s.slots[h.val].tellerPath; if t = 1 then 16384 else if t = 2 then 4096 else 0
  | .mbx => 0

/-- GET_INFO page 0 (R182). -/
def State.infoPage (s : State) (c : Caller) : List Byte :=
  let who : Nat × Nat := match c with | .slot h => (h.val, s.slots[h.val].tellerPath.toNat) | .mbx => (0xFF, 0xFF)
  fitTo 64 (leBytes 4 0x4F4C2428 ++ leBytes 4 s.glbStep.toNat ++ leBytes 4 s.fw.version.toNat ++ leBytes 1 (bitOf s.glb.image)
    ++ leBytes 1 s.dvt.chainPos.toNat ++ leBytes 1 who.1 ++ leBytes 1 who.2 ++ s.serial ++ leBytes 2 0 ++ leBytes 2 512
    ++ leBytes 2 8192 ++ leBytes 2 1024 ++ leBytes 2 (s.statementCap c) ++ leBytes 4 524288)

/-- GET_INFO (R182). -/
def opGetInfo : OpSpec :=
  { code := 0x02, mbx := true, recovery := true, argOk := fun a => arg0Zero a && arg1Zero a
    body := fun s a => .done .ok 0 (s.infoPage a.caller) s }
/-- GET_INFO returns page 0 (R182). -/
def execGetInfo (a : CmdArgs) (s : State) : Out := .next (issue opGetInfo a s)

/-- FENCE (R175): its dispatch waits until every earlier command of the slot has completed. -/
def opFence : OpSpec := { code := 0x03, argOk := fun a => arg0Zero a && arg1Zero a, body := fun s _ => .ok s }
/-- FENCE completes once every earlier command of its slot has completed (R175). -/
def execFence (a : CmdArgs) (s : State) : Out := .next (issue opFence a s)

/-- CANCEL's body (R178): the outcome depends on how far the target has progressed. [DEDUCED, log 11] -/
def cancelBody (s : State) (a : CmdArgs) : Res :=
  match a.caller with
  | .mbx => .fail .eRange s
  | .slot h =>
    match s.slots[h.val].till.find? fun e => e.args.tag.toNat == a.arg0.toNat with
    | none => .fail .eRange s
    | some e =>
      if e.point = .effected then .fail .eBusy s
      else
        let s := s.undo e
        let r := s.endResult e .eCancelled
        .done .ok (toWord Status.eCancelled.code) [] (s.finishSlot h e .eCancelled r.1 r.2)

/-- CANCEL (R178): with FENCE it completes ERANGE. [DEDUCED, log 11] -/
def opCancel : OpSpec :=
  { code := 0x04, argOk := fun a => decide (a.arg0.toNat < 512) && arg1Zero a && !testBit a.flags 0, body := cancelBody }
/-- CANCEL cancels a tag of its own slot (R178). -/
def execCancel (a : CmdArgs) (s : State) : Out := .next (issue opCancel a s)

end Sys2Proof.Machine
end

