-- ==== Sys2Proof/Machine/RegOps.lean ====
section
/-! DEFINITION. The paths to a register (file 15): REG_RD, REG_WR and REG_RMW (R183, R422), the mailbox (R192, R193), direct MGMT
transactions (R191, R423, R453), and the rows that name one register write. -/
namespace Sys2Proof.Machine

/-! ### REG_RD, REG_WR, REG_RMW -/

/-- The path of a caller's register access. -/
def pathOf : Caller → Path
  | .slot h => .slot h
  | .mbx => .mbx

/-- Byte address of word `i` from an address. -/
def wordAddr (a i : Nat) : Nat := (a + 4 * i) % 4294967296

/-- Whether `n` words from an address take in TLY_TIME (R427). [DEDUCED, log 136; DESIGN CHOICE, log 30] -/
def readsTime (a n : Nat) : Bool := (List.range n).any fun i => wordAddr a i == 0x60000 || wordAddr a i == 0x60004

/-- T for an access of `n` words: one value for all of them (R427). [DEDUCED, log 136; DESIGN CHOICE, log 30] -/
def State.accessTime (s : State) (a n : Nat) : Dword × State := if readsTime a n then s.tNow else (0, s)

/-- Words read in ascending order up to the first that is refused (R422). [DEDUCED, log 130, 136] -/
def State.readWords (p : Path) (now : Dword) (a : Nat) : List Nat → State → Status × List Word × State
  | [], s => (.ok, [], s)
  | i :: l, s =>
    let r := s.regRead p now true (wordAddr a i)
    if r.1 ≠ .ok then (r.1, [], r.2.2)
    else
      let t := State.readWords p now a l r.2.2
      (t.1, r.2.1 :: t.2.1, t.2.2)

/-- REG_RD's body (R422): zeros for the words after a refusal. [DEDUCED, log 130] -/
def regRdBody (s : State) (a : CmdArgs) : Res :=
  let n := a.arg1.toNat
  let now := s.accessTime a.arg0.toNat n
  let r := now.2.readWords (pathOf a.caller) now.1 a.arg0.toNat (List.range n)
  .done r.1 (r.2.1.headD 0) (fitTo (4 * n) (bytesOfWords r.2.1)) r.2.2

/-- REG_RD (R181, R422). -/
def opRegRd : OpSpec :=
  { code := 0x10, mbx := true, recovery := true, argOk := fun a => 1 ≤ a.arg1.toNat && a.arg1.toNat ≤ 256, body := regRdBody }
/-- REG_RD reads COUNT register words (R422). -/
def execRegRd (a : CmdArgs) (s : State) : Out := .next (issue opRegRd a s)

/-- Whether a slot may write a register address (R183): its own HST_ instance, the PRT_ instance or Stile sub-block of a port
it owns, or any other block. [DEDUCED, log 132] -/
def State.slotMayWrite (s : State) (h : SlotId) (a : Nat) : Bool :=
  if 0x10000 ≤ a ∧ a < 0x14000 then (a - 0x10000) / 0x1000 == h.val
  else if 0x20000 ≤ a ∧ a < 0x26000 then s.owns h (finOf 24 (by decide) ((a - 0x20000) / 0x400))
  else if 0xB0000 ≤ a ∧ a < 0xBC000 ∧ (a - 0xB0000) % 0x4000 < 0x2000 then
    s.owns h (finOf 24 (by decide) (8 * ((a - 0xB0000) / 0x4000) + (a - 0xB0000) % 0x4000 / 0x400))
  else true

/-- The caller requirement of R183 on `n` words. [DEDUCED, log 132] -/
def mayWriteWords (n : CmdArgs → Nat) (s : State) (a : CmdArgs) : Bool :=
  match a.caller with
  | .slot h => (List.range (n a)).all fun i => s.slotMayWrite h (wordAddr a.arg0.toNat i)
  | .mbx => true

/-- Words written in ascending order up to the first that is refused (R422). -/
def State.writeWords (go : State → State) (p : Path) : Nat → List Word → State → Status × State
  | _, [], s => (.ok, s)
  | a, w :: l, s =>
    let r := State.regWrite go s p a w
    if r.1 ≠ .ok then r else State.writeWords go p (wordAddr a 1) l r.2

/-- REG_WR (R183, R422). -/
def opRegWrG (go : State → State) : OpSpec :=
  { code := 0x11, mbx := true
    plenOk := fun a => 4 ≤ a.params.length && a.params.length ≤ 1024 && a.params.length % 4 == 0
    argOk := arg1Zero, callerOk := mayWriteWords fun a => a.params.length / 4
    body := fun s a =>
      let r := State.writeWords go (pathOf a.caller) a.arg0.toNat (wordsOf (a.params.length / 4) a.params) s
      .done r.1 0 [] r.2 }

/-- REG_RMW's body (R183, R421): (old AND NOT MASK) OR (VALUE AND MASK) as one access; its read clears no RC field. -/
def regRmwBody (go : State → State) (s : State) (a : CmdArgs) : Res :=
  let p := pathOf a.caller
  let addr := a.arg0.toNat
  let mask := toWord (leAt a.params 0 4)
  let now := s.accessTime addr 1
  let r := now.2.regRead p now.1 false addr
  if r.1 ≠ .ok then .done r.1 0 [] r.2.2
  else
    let w := State.regWrite go r.2.2 p addr ((r.2.1 &&& ~~~mask) ||| (toWord (leAt a.params 4 4) &&& mask))
    .done w.1 (if w.1 = .ok then r.2.1 else 0) [] w.2

/-- REG_RMW (R183). -/
def opRegRmwG (go : State → State) : OpSpec :=
  { code := 0x12, mbx := true, plenOk := fun a => a.params.length == 8, argOk := arg1Zero
    callerOk := mayWriteWords fun _ => 1, body := regRmwBody go }

/-! ### The mailbox (R192, R193) -/

/-- The opcodes the mailbox offers (R193). A mailbox command that writes GO finds GO at 1, so the write has no effect.
[DEDUCED, log 13] -/
def mbxOps : List OpSpec :=
  [opNop, opEcho, opGetInfo, opRegRd, opRegWrG id, opRegRmwG id, opPortPower, opDeedRelease, opEscQuery, opTlyQuery,
   opInlayQuery, opPwrDomain, opSleep, opFwStage, opFwCommit, opFwSwap, opOtpWrite, opVaultLock]

/-- The row of an opcode in a table. -/
def opOf (l : List OpSpec) (code : Byte) : Option OpSpec := l.find? fun o => o.code == code.toNat

/-- A command read from a header and the bytes that follow it (R163). -/
def cmdOf (c : Caller) (hdr params : List Byte) : CmdArgs :=
  { caller := c, tag := BitVec.ofNat 16 (leAt hdr 2 2), flags := BitVec.ofNat 8 (leAt hdr 1 1), arg0 := toWord (leAt hdr 8 4)
    arg1 := toWord (leAt hdr 12 4), params := params }

/-- The command in MGMT_MBX_CMD (R192): parameters past the 256 bytes it holds make it too long (R193). [DEDUCED, log 14] -/
def Teller.mailbox (t : Teller) : Byte × CmdArgs :=
  let b := bytesOfWords t.mbxCmd.toList
  (BitVec.ofNat 8 (leAt b 0 1), cmdOf .mbx b (fitTo (min (leAt b 4 4) 257) (b.drop 16)))

/-- A write of 1 to GO while it reads 0 starts the command in MGMT_MBX_CMD (R192). [DEDUCED, log 14] -/
def State.mbxStart (s : State) : State :=
  let c := s.teller.mailbox
  s.startMbx (opOf mbxOps c.1) c.1 c.2

/-- REG_WR, as a caller outside the mailbox issues it. -/
def opRegWr : OpSpec := opRegWrG State.mbxStart
/-- REG_WR writes register words (R183). -/
def execRegWr (a : CmdArgs) (s : State) : Out := .next (issue opRegWr a s)
/-- REG_RMW, as a caller outside the mailbox issues it. -/
def opRegRmw : OpSpec := opRegRmwG State.mbxStart
/-- REG_RMW writes under a mask as one access (R183). -/
def execRegRmw (a : CmdArgs) (s : State) : Out := .next (issue opRegRmw a s)

/-! ### Rows that name one register write -/

/-- Whether a path can make a register access now: direct MGMT from the end of bring-up step 2 (R73), the mailbox once commands
run (R193), a slot while its command endpoint is open; no command runs after a committed entry (R410). [DEDUCED, log 139] -/
def State.pathReady (s : State) (p : Path) : Bool :=
  s.awake && s.glb.clocksOk && match p with
    | .mgmt => true
    | .mbx => s.tellerStarted && s.teller.run != .halted && !s.committed
    | .slot h => s.pathOpen h && s.teller.run != .halted && !s.committed && s.glb.phase != 0xE

/-- One register write by a path: under R183 for a slot; a mailbox command finds GO at 1. -/
def State.writeBy (s : State) (p : Path) (addr : Nat) (v : Word) : State :=
  if !s.pathReady p then s
  else match p with
    | .slot h => if s.slotMayWrite h addr then (State.regWrite State.mbxStart s p addr v).2 else s
    | .mbx => (State.regWrite id s p addr v).2
    | .mgmt => (State.regWrite State.mbxStart s p addr v).2

/-- MGMT_MBX_GO (R192): a write of 1 to GO. -/
def execMgmtMbxGo (p : Path) (s : State) : Out := .next (s.writeBy p 0x510 1)
/-- GLB_UNLOCK (R430). -/
def execGlbUnlock (p : Path) (v : Word) (s : State) : Out := .next (s.writeBy p 0x30 v)
/-- GLB_LOCK (R432). -/
def execGlbLock (p : Path) (v : Word) (s : State) : Out := .next (s.writeBy p 0x34 v)
/-- GLB_PRESENCE.CLOSE written 1 (R433). -/
def execPresenceClose (p : Path) (s : State) : Out := .next (s.writeBy p 0x40 0x10)
/-- LDG_TEST_CTRL: LOAD (R398). -/
def execLdgTestLoad (p : Path) (s : State) : Out := .next (s.writeBy p 0x70024 1)
/-- LDG_TEST_CTRL: STORE_DATA (R398). -/
def execLdgTestStoreData (p : Path) (s : State) : Out := .next (s.writeBy p 0x70024 2)
/-- LDG_TEST_CTRL: STORE_CHECK (R398). -/
def execLdgTestStoreCheck (p : Path) (s : State) : Out := .next (s.writeBy p 0x70024 3)
/-- LDG_TEST_CTRL: STORE_BOTH (R398). -/
def execLdgTestStoreBoth (p : Path) (s : State) : Out := .next (s.writeBy p 0x70024 4)
/-- LDG_FLIP (R399). -/
def execLdgFlip (p : Path) (v : Word) (s : State) : Out := .next (s.writeBy p 0x70034 v)
/-- NSF_RULE_HIT with a 1 in FORCE_OFF, and HIT bits to clear (R418). -/
def execForceOffClear (p : Path) (hits : BitVec 16) (s : State) : Out :=
  .next (s.writeBy p 0xA0014 (0x10000 ||| hits.setWidth 32))
/-- A write of any register (R421). -/
def execRegisterWrite (p : Path) (addr v : Word) (s : State) : Out := .next (s.writeBy p addr.toNat v)

/-! ### Direct MGMT transactions (R191, R423) -/

/-- The bytes of one word of a direct read, `n` of them clocked out: a partial word is narrow, so that it clears nothing and is
recorded (R423). `seen` says that an unmapped word of this transaction has been recorded. [DEDUCED, log 129] -/
def State.mgmtReadWord (s : State) (now : Dword) (a n : Nat) (seen : Bool) : List Byte × Bool × State :=
  let narrow := fun (s : State) => if n < 4 then s.violation .mgmt 2 a else s
  match regAt a with
  | none => (List.replicate n 0, true, if n < 4 then narrow s else if seen then s else s.violation .mgmt 3 a)
  | some _ =>
    let r := s.regRead .mgmt now (decide (n = 4)) a
    let s := if a = 0x600 ∧ n = 4 then r.2.2.modTeller fun t => { t with mbxNotify := false } else r.2.2
    ((leBytes 4 r.2.1.toNat).take n, seen, narrow s)

/-- A direct read of `n` bytes from an address, word by word. -/
def State.mgmtRead (now : Dword) (a : Nat) : List Nat → Nat → Bool → State → List Byte × State
  | [], _, _, s => ([], s)
  | i :: l, n, seen, s =>
    let r := s.mgmtReadWord now (wordAddr a i) (min 4 n) seen
    let t := State.mgmtRead now a l (n - 4) r.2.1 r.2.2
    (r.1 ++ t.1, t.2)

/-- Whole words of a direct write: a word at an address in no register is discarded, the first recorded (R423).
[PRESUMED, log 128] -/
def State.mgmtWrite : Nat → List Word → Bool → State → State
  | _, [], _, s => s
  | a, w :: l, seen, s =>
    match regAt a with
    | none => State.mgmtWrite (wordAddr a 1) l true (if seen then s else s.violation .mgmt 3 a)
    | some _ => State.mgmtWrite (wordAddr a 1) l seen (State.regWrite State.mbxStart s .mgmt a w).2

/-- The PEC of a write (R481): the CRC-8 over the target address byte and every byte before it. -/
def State.pecOf (s : State) (l : List Byte) : Nat := crc8 (BitVec.ofNat 8 (2 * s.mgmtAddress.toNat) :: l)

/-- The write part of a direct transaction (R191, R423). -/
def State.mgmtWriteXact (s : State) (a : Nat) (addr data : List Byte) : State :=
  let n := data.length / 4
  let rem := data.length % 4
  let pecBad := rem = 1 ∧ s.pecOf (addr ++ data.dropLast) ≠ leAt data (4 * n) 1
  if pecBad then (s.violation .mgmt 9 a).modGlb fun g => { g with mgmtAck := false }
  else if a % 4 ≠ 0 then (if data.isEmpty then s else s.violation .mgmt 1 a)
  else
    let s := State.mgmtWrite a (wordsOf n data) false s
    if 2 ≤ rem then s.violation .mgmt 2 (wordAddr a n) else s

/-- One direct transaction (R191, R423). A short address makes no access. -/
def State.mgmtXact (s : State) (x : MgmtXact) : State :=
  let s := s.modGlb fun g => { g with mgmtOut := [], mgmtAck := true }
  let zeros := List.replicate x.count (0 : Byte)
  let answer := fun (s : State) (l : List Byte) => s.modGlb fun g => { g with mgmtOut := l }
  if x.addr.length < 4 then
    let s := if x.addr.isEmpty then s else s.violation .mgmt 2 0
    if x.isRead then answer s zeros else s
  else
    let a := leAt x.addr 0 4
    if !x.isRead then s.mgmtWriteXact a (x.addr.take 4) (x.addr.drop 4 ++ x.data)
    else if a % 4 ≠ 0 then answer (if x.count = 0 then s else s.violation .mgmt 1 a) zeros
    else
      let n := ceilDiv x.count 4
      let now := s.accessTime a n
      let r := State.mgmtRead now.1 a (List.range n) x.count false now.2
      answer r.2 r.1

/-- A transaction on the MGMT bus (R191, R415): one to another device is ignored; asleep, an address match raises its wake
source and is not acknowledged; before bring-up step 2 ends nothing is acknowledged (R73). -/
def State.mgmtBus (s : State) (x : MgmtXact) : State :=
  if x.dev ≠ s.mgmtAddress then s
  else if s.awake && s.glb.clocksOk then s.mgmtXact x
  else (s.modGlb fun g => { g with mgmtOut := [], mgmtAck := false }).wakesOccur (if s.nsf.asleep.isSome then [(.mgmt, 0)] else [])

/-- MGMT_TRANSACTION (R191): available from the end of bring-up step 2 in every phase (R73). -/
def execMgmtTransaction (x : MgmtXact) (s : State) : Out := .next (s.mgmtBus x)

/-- SCL_LOW_TIMEOUT (R453): the transaction ends with the bytes that came; a partial word is handled under R423.
[DEDUCED, log 129] -/
def execSclLowTimeout (x : MgmtXact) (s : State) : Out := .next (s.mgmtBus x)

end Sys2Proof.Machine
end

