-- ==== Sys2Proof/Machine/Boundary.lean ====
section
/-! DEFINITION. MICROFRAME_BOUNDARY (R31, R237, R298): the snapshot of every block that takes one, and the SOFs of the microframe
that begins (R146 to R149). -/
namespace Sys2Proof.Machine

/-- Held keys are free again: the effect point of the commands that took them was this snapshot (R31, R174). [DEDUCED, log 8] -/
def State.releaseKeys (s : State) : State :=
  let s : State := { s with slots := s.slots.map fun x => { x with keyHold := [] } }
  s.modTeller fun t => { t with mbxKeyHold := [] }

/-- The registers that Tally and Dovetail read at a snapshot, checked for parity (R429). -/
def State.tallyParity (s : State) : State :=
  [(0x60020, Reg.tlyMsiCfg), (0x60024, Reg.tlyMsoCfg), (0x60028, Reg.tlyMsoWid), (0x60060, Reg.tlyDvtCfg)].foldl
    (fun s x => if s.glb.parityBad.contains x.1 then s.coreParity x.1 x.2 else s) s

/-- Whether a port's host engine launches an SOF or a keep-alive in the microframe that begins (R146). -/
def State.launchesSof (s : State) (k : PortId) : Bool :=
  s.mode k == .proxy && s.usbOn k
    && (match s.shownState k with | .enumerating | .addressed | .active => true | _ => false)
    && (speedHigh s.ports[k.val].speed || decide (s.tally.n.toNat % 8 = 0))

/-- Whether an interval of a microframe at a RATE is held at a limit of 125 µs ± 62.5 ns (R148). [DEDUCED, log 137] -/
def sofClamped (r : Int) : Bool := decide (2000 * r > rateUnit + r) || decide (-(2000 * r) > rateUnit + r)

/-- The time of a launch held at a limit of 125 µs ± 62.5 ns after the one before it, in Tally's time at a RATE (R148). -/
def heldLaunch (prev : Dword) (r : Int) : Dword :=
  prev + BitVec.ofInt 64 ((if r > 0 then 31984000 else 32016000) * (rateUnit + r) / rateUnit)

/-- The frame number that every proxied port carries (R147). -/
def frameNumber (n : Dword) : BitVec 11 := BitVec.ofNat 11 (n.toNat / 8 % 2048)

/-- One SOF launch (R147 to R149, R155): its frame number; its timestamp lies at most 1.29 ns from its time (R35, R239), which is
Tally's, or the limit's where RATE breaks it. [DEDUCED, log 137; DESIGN CHOICE, log 31] -/
def State.launchSof (s : State) (k : PortId) : State :=
  let p : Port := s.ports[k.val]
  let clamp := sofClamped s.tally.rate.toInt && p.sofRunning
  let ts := s.stampNear (if clamp then heldLaunch p.sofTs s.tally.rate.toInt else s.tally.sofTime) 331
  let s := ts.2.modPort k fun p => { p with sofTs := ts.1, sofRunning := true, sofFrame := frameNumber s.tally.n }
  if !clamp then s
  else
    let tell := secondPassed s.glb.clock s.ports[k.val].lastSofEvent
    let s := s.modPort k fun p => { p with
      errSofClamp := satAdd p.errSofClamp 1, lastSofEvent := if tell then some s.glb.clock else p.lastSofEvent }
    if tell then s.portError k 0x3 else s

/-- The SOFs of the microframe that begins. -/
def State.launchSofs (s : State) : State :=
  allPorts.foldl (fun s k => if s.launchesSof k then s.launchSof k else s) s

/-- What happens at a microframe boundary: the microframe's open occurrences end; the snapshot of every block; the SOFs; what
Teller reads. -/
def State.boundary (s : State) : State :=
  let s := s.closeOrders (s.tally.n + 1 + BitVec.ofInt 64 s.tally.relabelN)
  let s := s.modGlb fun g => { g with clock := g.clock + 1 }
  let s : State := { s with ports := s.ports.map (Port.freeIsoOut s.glb.clock) }
  let s := s.releaseKeys.tallyParity.tallyBoundary.stileBoundary.mintBoundary.clrBoundary.ordersBoundary.stmtBoundary
  s.launchSofs.tellerReads.checkReady

/-- MICROFRAME_BOUNDARY: the next proxied microframe begins, while Tally runs (R72, R237). [DESIGN CHOICE, log 7] -/
def execMicroframeBoundary (s : State) : Out := .next (if s.awake && s.tally.running then s.boundary else s)

end Sys2Proof.Machine
end

