-- ==== Sys2Proof/Machine/CcPd.lean ====
section
/-! DEFINITION. The meanings of the CC and PD commands and events of a port (file 11): CC_CFG, PD_CFG, PD_TX, PD_HARDRESET,
and what the CC and PD pins bring. A timer event acts where its timer runs, and changes nothing otherwise. -/
namespace Sys2Proof.Machine

/-! ### CC_CFG (R327, R328) -/

/-- A timer field of the CC record: 0 selects the default. -/
def timerOk (x lo hi : Nat) : Bool := x == 0 || (lo ≤ x && x ≤ hi)
/-- A field whose value 0 selects a default. -/
def orDefault (x d : Nat) : Nat := if x = 0 then d else x

/-- The CC record of CC_CFG (R327). -/
def ccRecOf (l : List Byte) : CcRec :=
  let f := leAt l 0 1
  { drp := bitsAt f 0 2 == 1, vconnEn := f.testBit 2, wake := f.testBit 3
    rp := match leAt l 1 1 with | 0 => .ua80 | 1 => .ua180 | _ => .ua330
    attachDb := orDefault (leAt l 2 2) 150, detachDb := orDefault (leAt l 4 1) 15, drpPeriod := orDefault (leAt l 5 1) 75
    drpDuty := orDefault (leAt l 6 1) 50, backoff := orDefault (leAt l 7 1) 2 }

/-- The checks of a CC record that need nothing but the record (R327, R328). -/
def ccRecOk (l : List Byte) : Bool :=
  let f := leAt l 0 1
  bitsAt f 0 2 < 2 && f < 16 && leAt l 1 1 < 3 && timerOk (leAt l 2 2) 100 200 && timerOk (leAt l 4 1) 10 20
    && timerOk (leAt l 5 1) 50 100 && timerOk (leAt l 6 1) 30 70 && timerOk (leAt l 7 1) 1 60 && zeroAt l 8 8

/-- A current and a voltage within the fused port-power limit (R439). -/
def State.withinFuse (s : State) (k : PortId) (ma mv : Nat) : Bool := ma ≤ s.fusedMa k && ma * mv ≤ 1000 * s.fusedMw k

/-- A CC record comes into force in the Stile (R328). -/
def State.applyCc (s : State) (k : PortId) (r : CcRec) : State :=
  let p := s.pd[k.val]
  let w := s.pwr[k.val]
  let s := if w.gateL && p.contract.isNone && p.accepted.isNone && w.chgL != 0 then
      s.modPwr k fun w => { w with chgL := rpCharge r.rp } else s
  s.modPd k fun p =>
    let q := { p with ccRec := r }
    let sink : Bool := match q.cc with
      | .unattachedSnk | .attachWaitSnk | .trySrc | .tryWaitSnk | .sourcePartner => true
      | _ => false
    let q := if sink && !r.drp then { q with cc := .unattachedSrc, partner := 0 } else q
    if q.contract.isSome then q else if q.cc = .attachedSrc then { q with rpNow := rpCode r.rp } else q.termRp

/-- The body of CC_CFG. -/
def ccCfgBody (s : State) (a : CmdArgs) : Res :=
  let k := portArg a
  let r := ccRecOf a.params
  let p := s.pd[k.val]
  let w := s.pwr[k.val]
  if (r.drp && s.glb.cascadeEn) || !s.withinFuse k (rpMa r.rp) 5000 then .fail .eRange s
  else if s.portDown k then .fail .ePoweredDown s
  else if !s.linkUp k then .fail .eNotReady s
  else if s.attached k && (r.drp != p.ccRec.drp || r.vconnEn != p.ccRec.vconnEn) then .fail .eBusy s
  else if w.gateL && p.contract.isNone && w.chgL != 0 && rpMa r.rp > rpMa p.ccRec.rp
      && s.chargeL - w.chgL + rpCharge r.rp > s.escrow.budgetL.toNat then .fail .eBusy s
  else .ok (s.applyCc k r)

/-- CC_CFG (R328). -/
def opCcCfg : OpSpec :=
  { code := 0x80, plenOk := fun a => a.params.length == 16
    argOk := fun a => arg0Port a && arg1Zero a && ccRecOk a.params, callerOk := ownerOfArg, body := ccCfgBody }
/-- CC_CFG sets a port's CC record (R328). -/
def execCcCfg (a : CmdArgs) (s : State) : Out := .next (issue opCcCfg a s)

/-! ### PD_CFG (R339) -/

/-- Voltages a high PDO may name, in 50 mV, by HKIND (table of high PDO kinds). -/
def hkindVolt (h v : Nat) : Bool :=
  match h with
  | 1 => v == 180 || v == 300 || v == 400
  | 2 => v == 560 || v == 720 || v == 960
  | 3 => 180 ≤ v && v ≤ 960
  | _ => false

/-- The checks of a PD record that need nothing but the record (R339). -/
def pdRecOk (l : List Byte) : Bool :=
  let p1 := leAt l 0 4
  let ph := leAt l 4 4
  let h := leAt l 8 1
  bitsAt p1 30 2 == 0 && bitsAt p1 10 10 == 100 && !p1.testBit 29 && !p1.testBit 25 && !p1.testBit 24
    && !(p1.testBit 23 && h != 2) && h < 4
    && (if h = 0 then ph == 0 else bitsAt ph 30 2 == 0 && bitsAt ph 22 8 == 0 && hkindVolt h (bitsAt ph 10 10))
    && bitsAt p1 0 10 ≤ 500 && bitsAt ph 0 10 ≤ 500 && timerOk (leAt l 9 1) 2 14 && zeroAt l 10 6

/-- The PD record of PD_CFG (R339). -/
def pdRecOf (l : List Byte) : PdRec :=
  { pdo1 := toWord (leAt l 0 4), pdoH := toWord (leAt l 4 4), hkind := leAt l 8 1, respMs := orDefault (leAt l 9 1) 10 }

/-- A PDO within the fused limit (R339, R439). -/
def State.pdoFused (s : State) (k : PortId) (pdo : Nat) : Bool := s.withinFuse k (10 * bitsAt pdo 0 10) (50 * bitsAt pdo 10 10)

/-- A voltage in mV within ±5 % of a PDO's (R339, R340). -/
def railNear (railMv pdo : Nat) : Bool :=
  let v := 50 * bitsAt pdo 10 10
  95 * v ≤ 100 * railMv && 100 * railMv ≤ 105 * v

/-- The body of PD_CFG. -/
def pdCfgBody (s : State) (a : CmdArgs) : Res :=
  let k := portArg a
  let r := pdRecOf a.params
  if !s.pdoFused k r.pdo1.toNat || (r.hkind != 0 && !s.pdoFused k r.pdoH.toNat) then .fail .eRange s
  else if s.portDown k then .fail .ePoweredDown s
  else if !s.linkUp k then .fail .eNotReady s
  else if r.hkind != 0 && !railNear s.stiles[(stileOf k).val].railHMv r.pdoH.toNat then .fail .eNotReady s
  else .ok (s.modPd k fun p => { p with pdRec := some r, cfgSinceAttach := true })

/-- PD_CFG (R339). -/
def opPdCfg : OpSpec :=
  { code := 0x81, plenOk := fun a => a.params.length == 16
    argOk := fun a => arg0Port a && arg1Zero a && pdRecOk a.params, callerOk := ownerOfArg, body := pdCfgBody }
/-- PD_CFG sets a port's source capabilities and auto-responder delay (R339). -/
def execPdCfg (a : CmdArgs) (s : State) : Out := .next (issue opPdCfg a s)

/-! ### PD_TX (R187, R336, R340) -/

/-- Messages that PD_TX never sends, whatever the state (R340). -/
def txRefused (m : List Byte) : Bool :=
  isMsg m 0 1 || isMsg m 0 6 || isMsg m 1 2 || isMsg m 1 9 || isMsg m 1 4 || extCtrl m == some 3 || extCtrl m == some 4
    || isMsg m 0 10 || isMsg m 0 9 || isMsg m 0 19 || isMsg m 1 3 || (msgExt m && !extChunked m)

/-- Whether a message is Source_Capabilities or EPR_Source_Capabilities. -/
def isCaps (m : List Byte) : Bool := isMsg m 1 1 || isMsg m 2 17

/-- Capabilities that differ from those built from PD_CFG, which builds EPR_Source_Capabilities with HKIND EPR only (R340). -/
def capsDiffer (r : PdRec) (m : List Byte) : Bool :=
  if msgExt m then r.hkind != 2 || m.drop 4 != (eprCaps r).flatMap (leBytes 4) else m.drop 2 != (sourceCaps r).flatMap (leBytes 4)

/-- A reply that answers a window of a control message type. -/
def answers (w : Option ReplyWindow) (ty : Nat) : Bool :=
  match w with
  | some w => w.cls == 0 && w.ty == ty
  | none => false

/-- The window's request, where the window is for a Request or EPR_Request. -/
def windowRequest (w : Option ReplyWindow) : Option (Option Contract) :=
  match w with
  | some w => if w.cls = 1 ∧ (w.ty = 2 ∨ w.ty = 9) then some w.request else none
  | none => none

/-- PD_TX refused with a RESULT0 code (R340). [DEDUCED, log 108] -/
def txFail (st : Status) (r0 : Nat) (s : State) : Res := .done st (toWord r0) [] s

/-- The ERANGE and ELEN refusals of R340. -/
def txRangeCheck (p : Pd) (sop : Nat) (m : List Byte) : Option Status :=
  let win := if sop = 0 then p.reply else none
  let toSource := !p.vconnOn && !p.ccRec.vconnEn && sop = 0
  if m.length ≠ declaredLen m then some .eLen
  else if sop = 3 || txRefused m || (msgExt m && p.specRev == 1)
      || (isMsg m 0 3 && (answers win 10 || answers win 9 || answers win 19))
      || (isCaps m && (match p.pdRec with | some r => capsDiffer r m | none => false))
      || (eprAction m == some 3 && (match p.pdRec with | some r => r.hkind != 2 | none => true))
      || (toSource && (isMsg m 0 11 || (isMsg m 0 3 && answers win 11))) then some .eRange
  else none

/-- Whether a message makes the port VCONN source, so that 1 W must be reserved (R346): a reservation held already serves. -/
def State.needsVconn (s : State) (k : PortId) (sop : Nat) (m : List Byte) : Bool :=
  let p := s.pd[k.val]
  !p.vconnOn && sop == 0 && s.pwr[k.val].chgV == 0 && (isMsg m 0 11 || (isMsg m 0 3 && answers p.reply 11))

/-- The Escrow refusals of R340: the status where Escrow cannot hold what the message needs. [DEDUCED, log 108] -/
def State.txEscrow (s : State) (k : PortId) (sop : Nat) (m : List Byte) : Option Status :=
  let win := if sop = 0 then s.pd[k.val].reply else none
  match isMsg m 0 3, windowRequest win with
  | true, some none => some .eBudget
  | true, some (some c) => if !s.couldFit k c then some .eBudget else if !s.fitsNow k c then some .eBusy else none
  | _, _ =>
    if !s.needsVconn k sop m then none
    else if s.escrow.budgetV.toNat < 1000 then some .eBudget
    else if s.chargeV + 1000 > s.escrow.budgetV.toNat then some .eBusy
    else none

/-- What Escrow holds for the message from now on (R340, R346). -/
def State.txTake (s : State) (k : PortId) (sop : Nat) (m : List Byte) : State :=
  let win := if sop = 0 then s.pd[k.val].reply else none
  match isMsg m 0 3, windowRequest win with
  | true, some (some c) => (s.takeContract k c).modPd k fun p => { p with accepting := some c }
  | _, _ =>
    if s.needsVconn k sop m then s.modPwr k fun w => { w with chgV := 1000 } else s

/-- An initiation waits tSinkTx with Rp at SinkTxNG (R335). -/
def Pd.queueTx (p : Pd) (x : PdTx) : Pd :=
  let q : Pd := { p with held := some x, sinkTxNg := true }
  q.showRp

/-- The body of PD_TX: R340's refusals in order, then a reply or an initiation (R335, R336). [DEDUCED, log 108, 109] -/
def pdTxBody (s : State) (a : CmdArgs) : Res :=
  let k := portArg a
  let m := a.params
  let sop := a.arg1.toNat % 4
  let p := s.pd[k.val]
  let win := if sop = 0 then p.reply else none
  let replyOnly := sop = 0 ∧ (isMsg m 0 3 ∨ isMsg m 0 4 ∨ isMsg m 0 12 ∨ isMsg m 0 16)
  match txRangeCheck p sop m with
  | some st => txFail st 9 s
  | none =>
    if s.portDown k then .fail .ePoweredDown s
    else if !s.linkUp k || !s.attached k || p.hr != .none || p.accepted.isSome || p.vconnSwap == .waitPsRdy
        || p.vconnSwap == .sendPsRdy || (isCaps m && p.pdRec.isNone) then txFail .eNotReady 7 s
    else if replyOnly ∧ win.isNone then txFail .eNotReady 8 s
    else if isMsg m 0 3 && (match windowRequest win with
        | some (some c) => c.volt != 100 && !(95 * c.mv ≤ 100 * s.stiles[(stileOf k).val].railHMv
            && 100 * s.stiles[(stileOf k).val].railHMv ≤ 105 * c.mv)
        | _ => false) then txFail .eNotReady 5 s
    else if p.txBusy then txFail .eBusy 2 s
    else if isMsg m 0 11 && sop = 0 && (match p.waitTimer with | some (_, false) => true | _ => false) then txFail .eBusy 3 s
    else match s.txEscrow k sop m with
      | some st => txFail st 4 s
      | none =>
        let s := s.txTake k sop m
        let x : PdTx :=
          { bytes := m, sop := BitVec.ofNat 2 sop, retries := 2, origin := .owner,
            replyTo := win.map fun w => (w.cls, w.ty), orphan := false }
        if win.isSome || !p.avoids then .wait .effected (.pdTx k) (s.modPd k fun p => p.startTx x)
        else .wait .dispatched (.pdTx k)
          (s.modPd k fun p => p.queueTx x)

/-- PD_TX (R340). -/
def opPdTx : OpSpec :=
  { code := 0x82, plenOk := fun a => 2 ≤ a.params.length && a.params.length ≤ 264
    argOk := fun a => arg0Port a && a.arg1.toNat < 4, callerOk := ownerOfArg, body := pdTxBody }
/-- PD_TX sends a PD message as a reply or an initiation (R340). -/
def execPdTx (a : CmdArgs) (s : State) : Out := .next (issue opPdTx a s)

/-! ### PD_HARDRESET (R344) -/

/-- The body of PD_HARDRESET. -/
def pdHardresetBody (s : State) (a : CmdArgs) : Res :=
  let k := portArg a
  if s.portDown k then .fail .ePoweredDown s
  else if !s.linkUp k || !s.attached k then .fail .eNotReady s
  else .ok (s.hardReset k 0x4 0)

/-- PD_HARDRESET (R344). -/
def opPdHardreset : OpSpec :=
  { code := 0x83, argOk := fun a => arg0Port a && arg1Zero a, callerOk := ownerOfArg, body := pdHardresetBody }
/-- PD_HARDRESET signals Hard Reset and starts the source recovery (R344). -/
def execPdHardreset (a : CmdArgs) (s : State) : Out := .next (issue opPdHardreset a s)

/-! ### CC events (R330 to R332) -/

/-- The CC comparators report a change of termination (R330). -/
def execCcChange (k : PortId) (cc1 cc2 : CcTerm) (s : State) : Out :=
  .next (if s.stileLive k then s.modPd k fun p => { p with term1 := cc1, term2 := cc2 }.ccStep else s)

/-- The attach debounce ends (R330, R331). -/
def execCcAttachConfirmed (k : PortId) (s : State) : Out :=
  .next (
    let p := s.pd[k.val]
    if !s.stileLive k then s
    else match p.cc with
      | .attachWaitSrc =>
        if p.oneRd then s.attach k
        else if p.isAccessory then
          (s.modPd k fun p => { p with cc := .accessory }).pdEvent k 0xC (if p.term1 = .ra then 1 else 2)
        else s
      | .trySrc => if p.oneRd then s.attach k else s
      | .attachWaitSnk => if p.seesRp then s.modPd k fun p => { p with cc := .trySrc }.termRp else s
      | .tryWaitSnk =>
        if p.seesRp ∧ s.pwr[k.val].vbusMv > 4000 then
          (s.modPd k fun p => { p with cc := .sourcePartner, partner := 3, rpNow := 0 }).pdEvent k 0xB 0
        else s
      | _ => s)

/-- Rd, or an accessory, has been absent for DETACH_DB (R330, R332). -/
def execCcDetach (k : PortId) (s : State) : Out :=
  .next (
    if !s.stileLive k then s
    else match s.pd[k.val].cc with
      | .attachedSrc =>
        let s := s.modPd k fun p =>
          if p.orient = 1 then { p with term1 := if p.term1 = .rd then .openCc else p.term1 }
          else { p with term2 := if p.term2 = .rd then .openCc else p.term2 }
        (s.detach k .unattachedSrc false).modPd k Pd.ccStep
      | .accessory => s.modPd k fun p => { p with cc := .unattachedSrc, term1 := .openCc, term2 := .openCc }
      | _ => s)

/-- The DRP period toggles the role of an unattached DRP port (R330). -/
def execDrpToggle (k : PortId) (s : State) : Out :=
  .next (
    if s.stileLive k ∧ s.pd[k.val].ccRec.drp then
      s.modPd k fun p => match p.cc with
        | .unattachedSrc => { p with cc := .unattachedSnk }.ccStep
        | .unattachedSnk => { p with cc := .unattachedSrc }.ccStep
        | _ => p
    else s)

/-- tDRPTry expires in TRY_SRC (R330). -/
def execTrySrcTimeout (k : PortId) (s : State) : Out :=
  .next (if s.stileLive k ∧ s.pd[k.val].cc = .trySrc then s.modPd k fun p => { p with cc := .tryWaitSnk }.ccStep else s)

/-- The BACKOFF time of SOURCE_PARTNER expires (R331). -/
def execSourcePartnerBackoff (k : PortId) (s : State) : Out :=
  .next (if s.stileLive k ∧ s.pd[k.val].cc = .sourcePartner then
      s.modPd k fun p => { p with cc := .unattachedSnk, partner := 0 }.ccStep else s)

/-! ### PD events -/

/-- A PD message is received; one with a bad CRC is counted and not answered (R333, R336, R348). -/
def execPdMessageReceived (k : PortId) (sop : BitVec 2) (msg : List Byte) (crcOk : Bool) (s : State) : Out :=
  .next (
    if !s.stileLive k then s
    else if !crcOk then s.modPd k fun p => { p with rxCrc := satAdd p.rxCrc 1 }
    else s.receive k sop msg)

/-- A Request or EPR_Request is received on SOP and judged (R341, R348). -/
def execPdRequestReceived (k : PortId) (msg : List Byte) (s : State) : Out :=
  .next (if isMsg msg 1 2 || isMsg msg 1 9 then s.receive k 0 msg else s)

/-- A message that the Stile handles itself is received on an attached port while nothing is being sent (R333, R335): GoodCRC
on its SOP type, and on SOP an initiation that has not started is deferred. The rows of these messages carry no MessageID.
[DEDUCED, log 107] -/
def State.ownRx (s : State) (k : PortId) (sop : BitVec 2) (f : State → State) : State :=
  if s.attached k ∧ s.stileLive k ∧ !s.pd[k.val].sending ∧ sop ≠ 3 then
    let s := s.modPd k fun p => { p with goodCrcSent := some sop }
    f ((if sop = 0 then s.deferTx k else s).dropChunks k sop)
  else s

/-- A Soft_Reset is received and answered with Accept (R333). -/
def execSoftResetReceived (k : PortId) (sop : BitVec 2) (s : State) : Out :=
  .next (s.ownRx k sop fun s => s.softReset k sop)

/-- An EPR_KeepAlive is received and answered by the Stile (R343). -/
def execEprKeepaliveReceived (k : PortId) (s : State) : Out := .next (s.ownRx k 0 fun s => s.keepAlive k)

/-- Hard Reset signalling is received (R344). -/
def execHardResetReceived (k : PortId) (s : State) : Out :=
  .next (if s.attached k ∧ s.stileLive k then s.hardReset k 0x5 0 else s)

/-- A BIST message is received: Carrier Mode or Test Data (R333). -/
def execBistReceived (k : PortId) (carrier : Bool) (s : State) : Out :=
  .next (s.ownRx k 0 fun s => s.bistMsg k (if carrier then 5 else 8))

/-- The partner's PS_RDY ends a VCONN swap from the port (R346). -/
def execPsRdyReceived (k : PortId) (s : State) : Out := .next (s.ownRx k 0 fun s => s.vconnPsRdy k)

/-- The GoodCRC of a sent message is received (R333). -/
def execGoodcrcReceived (k : PortId) (s : State) : Out :=
  .next (match s.pd[k.val].tx with
    | some x => if s.stileLive k then s.sent k x else s
    | none => s)

/-- No GoodCRC within CRCReceiveTimer: a retransmission, or failure after nRetryCount of them (R333). -/
def execCrcReceiveTimeout (k : PortId) (s : State) : Out :=
  .next (match s.pd[k.val].tx with
    | some x =>
      if s.stileLive k then
        if x.retries = 0 then s.sendFailed k x
        else s.modPd k fun p => { p with tx := some { x with retries := x.retries - 1 } }
      else s
    | none => s)

/-- RESP_MS expires with no owner reply (R337). -/
def execAutoResponse (k : PortId) (s : State) : Out :=
  .next (if s.stileLive k ∧ s.pd[k.val].reply.isSome ∧ !s.pd[k.val].sending then s.autoRespond k else s)

/-- The wait-and-retry timer expires (R338). [DESIGN CHOICE, log 6] -/
def execWaitTimerExpiry (k : PortId) (s : State) : Out := .next (s.modPd k fun p => { p with waitTimer := none })

/-- tSinkTx ends and the initiation is sent (R335), where no message is on the wire: PD_TX takes effect with its first bit
(R187). -/
def execSinkTxWaitEnd (k : PortId) (s : State) : Out :=
  .next (match s.pd[k.val].held with
    | some x =>
      if s.pd[k.val].tx.isNone ∧ s.stileLive k then
        (s.modPd k fun p => { p with held := none }.startTx x).modEntries (fun e => Wait.isPdTx k e.wait) fun e =>
          { e with point := .effected }
      else s
    | none => s)

/-- 30 ms pass with no SOP message and no reply window open: Rp returns to SinkTxOK (R335). -/
def execExchangeEnd (k : PortId) (s : State) : Out :=
  .next (if s.pd[k.val].sinkTxNg ∧ s.pd[k.val].reply.isNone ∧ !s.pd[k.val].txBusy then s.modPd k Pd.endExchange else s)

/-- The PS_RDY of a contract is on the wire, or due. -/
def Pd.psRdyOut (p : Pd) : Bool := p.psDue.isSome || (p.tx.map (·.origin)) == some .psRdyContract

/-- tSrcTransition ends (R342): the path moves to the new voltage (R359, R360), or PS_RDY follows where nothing moves.
[DEDUCED, log 119] -/
def execSrcTransitionEnd (k : PortId) (s : State) : Out :=
  .next (
    if s.pd[k.val].accepted.isSome ∧ s.stileLive k then
      match s.pwr[k.val].trans with
      | .none => if s.pd[k.val].psRdyOut then s else s.sendPsRdy k .psRdyContract
      | .up => s.modPwr k fun w => { w with gateH := true }
      | .down => if s.pwr[k.val].gateH then s.modPwr k fun w => { w with gateH := false, gateL := true, disch := true } else s
    else s)

/-- No SOP message for 875 ms in EPR mode (R343). -/
def execEprKeepaliveTimeout (k : PortId) (s : State) : Out :=
  .next (if s.attached k ∧ s.stileLive k ∧ s.pd[k.val].eprMode then s.hardReset k 0x4 1 else s)

/-- VBUS above 20 V for 500 ms outside EPR mode on an EPR contract (R343). -/
def execEprVbusGuard (k : PortId) (s : State) : Out :=
  .next (if s.attached k ∧ s.stileLive k ∧ !s.pd[k.val].eprMode ∧ (s.pd[k.val].contract.map (·.epr)).getD false then
      s.hardReset k 0x4 3 else s)

/-- No PS_RDY within 150 ms of a VCONN swap (R346). -/
def execVconnSourceTimeout (k : PortId) (s : State) : Out :=
  .next (if s.pd[k.val].vconnSwap = .waitPsRdy ∧ s.stileLive k then s.hardReset k 0x4 2 else s)

/-- 2 ms after closing the VCONN switch the Stile sends PS_RDY (R346). -/
def execVconnSwapPsRdySend (k : PortId) (s : State) : Out :=
  .next (if s.pd[k.val].vconnSwap = .sendPsRdy ∧ s.pd[k.val].psDue.isNone
        ∧ (s.pd[k.val].tx.map (·.origin)) ≠ some .psRdyVconn ∧ s.stileLive k then
      s.sendPsRdy k .psRdyVconn else s)

/-- tPSHardReset expires (R344): paths off, DISCH applied, VCONN off, WAIT_POWER. -/
def execHardResetPathsOff (k : PortId) (s : State) : Out :=
  .next (
    if s.pd[k.val].hr = .waitPathsOff ∧ s.stileLive k then
      let s := (s.pathsOff k true).vconnOff k
      let s := s.modPd k fun p => { p with hr := .waitVsafe0 }
      s.loseDevice k (s.unpoweredState k) .eDetached true (Wait.endsOnUsbLoss k)
    else s)

/-- VBUS falls below 0.8 V during the recovery (R344). -/
def execHardResetVsafe0v (k : PortId) (s : State) : Out :=
  .next (
    if s.pd[k.val].hr = .waitVsafe0 ∧ s.stileLive k then
      (s.modPd k fun p => { p with hr := .waitRecover }).vbusGone k (min s.pwr[k.val].vbusMv 799)
    else s)

/-- tSrcRecover expires (R344): VCONN restored if it was on, and the 5 V request queued. -/
def execHardResetRecover (k : PortId) (s : State) : Out :=
  .next (
    if s.pd[k.val].hr = .waitRecover ∧ s.stileLive k then
      let s := s.modPd k fun p => { p with hr := .waitPower }
      let s := if s.pd[k.val].vconnWasOn ∧ s.vconnMay k ∧ s.chargeV + 1000 ≤ s.escrow.budgetV.toNat then s.vconnClose k else s
      s.wantPower k
    else s)

/-- 45 ms of BIST Carrier Mode end (R333). -/
def execBistCarrierEnd (k : PortId) (s : State) : Out :=
  .next (if s.pd[k.val].bist = .carrier then
      (s.modPd k fun p => { p with bist := .none }).pdEvent k 0xD 0 else s)

/-- The VCONN switch exceeds its limit and opens until the next attach or swap (R345). -/
def execVconnTrip (k : PortId) (s : State) : Out :=
  .next (if s.pd[k.val].vconnOn ∧ s.stileLive k then
      ((s.vconnOff k).modPd k fun p => { p with vconnFault := true, vconnTripped := true }).pdEvent k 0x9 2 else s)

end Sys2Proof.Machine
end

