-- ==== Sys2Proof/Machine/Teller.lean ====
section
/-! DEFINITION. Teller's transport and dispatch (R159 to R168, R174 to R177, R465): the table of opcodes, a bulk OUT transfer of
commands on endpoint 0x01, the dispatch of a waiting command, and the delivery of records on endpoint 0x81. -/
namespace Sys2Proof.Machine

/-- The opcode tables (file 06). [DESIGN CHOICE, log 16] -/
def opTable : List OpSpec :=
  [opNop, opEcho, opGetInfo, opFence, opCancel, opRegRd, opRegWr, opRegRmw, opPortMode, opPortPower, opPortReset, opPortSuspend,
   opPortResume, opDeedRelease, opDeedClaim, opDeedSeize, opDeedView, opCtrlXfer, opBulkXfer, opIntXfer, opIsoXfer] ++
  [opSoCreate, opSoModify, opSoDelete, opSoQuery, opStmtLayout, opStmtSubscribe, opMntCfg, opMntSeg, opMntStart, opMntHold,
   opMntRelease, opMntQuery, opMntFbtemplate, opClrBody, opClrPair, opClrArm, opClrDisarm, opTlySet, opTlyMode, opTlyQuery] ++
  [opCcCfg, opPdCfg, opPdTx, opPdHardreset, opEscBudget, opEscPriority, opGateCfg, opModelCfg, opEscQuery, opLdgRd, opLdgWr,
   opPlaneCfg, opInlayQuery, opPrsCfg, opPrsRead, opPwrDomain, opSleep, opFwStage, opFwCommit, opFwSwap, opOtpWrite, opVaultLock]

/-! ### Commands on endpoint 0x01 (R159, R160) -/

/-- A command whose parameters run past the end of its transfer: ETAG or ELEN, its credits returned (R160, R170, R172).
[DEDUCED, log 9] -/
def State.cutOff (s : State) (h : SlotId) (op : Byte) (a : CmdArgs) (plen : Nat) : State :=
  let e := { mkEntry op a s.glb.clock with lines := lineCount plen }
  if a.tag.toNat > 511 ∨ s.slots[h.val].tagInFlight a.tag then s.rejectTag h e
  else
    let s := s.modSlot h fun x => { x with entryCredits := x.entryCredits - 1, lineCredits := x.lineCredits - e.lines }
    s.finish a.caller e .eLen 0 []

/-- A FRAMING event (R160, R166): `n` bytes discarded. [DEDUCED, log 9] -/
def State.framing (s : State) (h : SlotId) (n : Nat) : State := s.slotEvent h 0x09 none n 0

/-- The commands of one transfer, in order (R159): each takes its place while the Till has room for it; what it has no room for
is not accepted and stays with the host (R173). [DEDUCED, log 9] -/
def State.takeCommands (h : SlotId) : Nat → List Byte → State → State
  | 0, _, s => s
  | fuel + 1, b, s =>
    if b.isEmpty then s
    else if b.length < 16 then s.framing h b.length
    else
      let op : Byte := BitVec.ofNat 8 (leAt b 0 1)
      let plen := leAt b 4 4
      let rest := b.drop 16
      if !s.slots[h.val].room plen then s
      else if rest.length < plen then s.cutOff h op (cmdOf (.slot h) b rest) plen
      else
        State.takeCommands h fuel (rest.drop (8 * ceilDiv plen 8))
          (s.enter (opOf opTable op) op h (cmdOf (.slot h) b (rest.take plen)))

/-- COMMAND_TRANSFER (R159, R160): a bulk OUT transfer lands on endpoint 0x01, while the endpoint is open. [DEDUCED, log 9] -/
def execCommandTransfer (h : SlotId) (bytes : List Byte) (s : State) : Out :=
  .next (if s.pathOpen h then State.takeCommands h (bytes.length + 1) bytes s else s)

/-! ### Dispatch (R174 to R177, R465) -/

/-- Take a waiting command out of its source. [DEDUCED, log 15] -/
def State.takeEntry (s : State) (i pos : Nat) : State :=
  if h : i < 4 then s.modSlot ⟨i, h⟩ fun x => { x with till := x.till.eraseIdx pos }
  else s.modTeller fun t => { t with mbxEntry := none }

/-- COMMAND_DISPATCH (R174 to R176, R465): while Teller runs, the next free command is dispatched. [DEDUCED, log 15] -/
def execCommandDispatch (s : State) : Out :=
  .next (
    if !s.awake || s.teller.run != .running then s
    else match s.pickSource with
      | none => s
      | some (i, pos, e) =>
        match opOf opTable e.op with
        | none => s
        | some o => runEntry o ((s.takeEntry i pos).modTeller fun t => { t with turn := (i + 1) % 5 }) e pos)

/-! ### Records on endpoint 0x81 (R161, R168) -/

/-- The records that fit in one transfer of at most 65,552 bytes, none of them split (R161). [DEDUCED, log 18] -/
def fitRecords : Nat → List Record → List Record
  | _, [] => []
  | room, r :: l => if r.bytes.length ≤ room then r :: fitRecords (room - r.bytes.length) l else []

/-- The Draft that delivers a completion's result data (R397): one that halts ends the tag EHALTED, with no data (R390). -/
def State.sendRecord (s : State) (h : SlotId) : Record → Record × State
  | .completion c =>
    if c.data.isEmpty then (.completion c, s)
    else
      let x := s.haltJob (inResults h)
      (.completion (if x.1 then { c with status := .eHalted, result0 := 0, data := [] } else c), x.2)
  | .event e => (.event e, s)

/-- Several records delivered in order. [DESIGN CHOICE, log 122] -/
def State.sendRecords (h : SlotId) : List Record → State → List Record × State
  | [], s => ([], s)
  | r :: l, s =>
    let x := s.sendRecord h r
    let y := State.sendRecords h l x.2
    (x.1 :: y.1, y.2)

/-- RECORD_DELIVERY (R161, R168): the host reads endpoint 0x81 while the endpoint is open; records go in the order in which
they were posted, and a committed entry into sleep counts those it waits for (R410). [DEDUCED, log 18] -/
def execRecordDelivery (h : SlotId) (s : State) : Out :=
  .next (
    if s.pathOpen h then
      let n := (fitRecords 65552 s.slots[h.val].records).length
      let r := State.sendRecords h (s.slots[h.val].records.take n) s
      r.2.modSlot h fun x => { x with
        records := x.records.drop n, owed := x.owed - n, lastIn81 := r.1.flatMap Record.bytes }
    else s)

end Sys2Proof.Machine
end

