-- ==== Sys2Proof/Machine/Dispatch.lean ====
section
/-! DEFINITION. The dispatch of commands: one direct call of one meaning per constructor of `Instr`. -/
namespace Sys2Proof.Machine

/-- The effect of a command on everything but the queue. [DESIGN CHOICE, log 161] -/
def exec (i : Instr) (s : State) : Host.Outcome State Fault Refusal :=
  match i with
  | .nop a => Sys2Proof.Machine.execNop a s
  | .echo a => Sys2Proof.Machine.execEcho a s
  | .getInfo a => Sys2Proof.Machine.execGetInfo a s
  | .fence a => Sys2Proof.Machine.execFence a s
  | .cancel a => Sys2Proof.Machine.execCancel a s
  | .regRd a => Sys2Proof.Machine.execRegRd a s
  | .regWr a => Sys2Proof.Machine.execRegWr a s
  | .regRmw a => Sys2Proof.Machine.execRegRmw a s
  | .portMode a => Sys2Proof.Machine.execPortMode a s
  | .portPower a => Sys2Proof.Machine.execPortPower a s
  | .portReset a => Sys2Proof.Machine.execPortReset a s
  | .portSuspend a => Sys2Proof.Machine.execPortSuspend a s
  | .portResume a => Sys2Proof.Machine.execPortResume a s
  | .deedRelease a => Sys2Proof.Machine.execDeedRelease a s
  | .deedClaim a => Sys2Proof.Machine.execDeedClaim a s
  | .deedSeize a => Sys2Proof.Machine.execDeedSeize a s
  | .deedView a => Sys2Proof.Machine.execDeedView a s
  | .ctrlXfer a => Sys2Proof.Machine.execCtrlXfer a s
  | .bulkXfer a => Sys2Proof.Machine.execBulkXfer a s
  | .intXfer a => Sys2Proof.Machine.execIntXfer a s
  | .isoXfer a => Sys2Proof.Machine.execIsoXfer a s
  | .soCreate a => Sys2Proof.Machine.execSoCreate a s
  | .soModify a => Sys2Proof.Machine.execSoModify a s
  | .soDelete a => Sys2Proof.Machine.execSoDelete a s
  | .soQuery a => Sys2Proof.Machine.execSoQuery a s
  | .stmtLayout a => Sys2Proof.Machine.execStmtLayout a s
  | .stmtSubscribe a => Sys2Proof.Machine.execStmtSubscribe a s
  | .mntCfg a => Sys2Proof.Machine.execMntCfg a s
  | .mntSeg a => Sys2Proof.Machine.execMntSeg a s
  | .mntStart a => Sys2Proof.Machine.execMntStart a s
  | .mntHold a => Sys2Proof.Machine.execMntHold a s
  | .mntRelease a => Sys2Proof.Machine.execMntRelease a s
  | .mntQuery a => Sys2Proof.Machine.execMntQuery a s
  | .mntFbtemplate a => Sys2Proof.Machine.execMntFbtemplate a s
  | .clrBody a => Sys2Proof.Machine.execClrBody a s
  | .clrPair a => Sys2Proof.Machine.execClrPair a s
  | .clrArm a => Sys2Proof.Machine.execClrArm a s
  | .clrDisarm a => Sys2Proof.Machine.execClrDisarm a s
  | .tlySet a => Sys2Proof.Machine.execTlySet a s
  | .tlyMode a => Sys2Proof.Machine.execTlyMode a s
  | .tlyQuery a => Sys2Proof.Machine.execTlyQuery a s
  | .ccCfg a => Sys2Proof.Machine.execCcCfg a s
  | .pdCfg a => Sys2Proof.Machine.execPdCfg a s
  | .pdTx a => Sys2Proof.Machine.execPdTx a s
  | .pdHardreset a => Sys2Proof.Machine.execPdHardreset a s
  | .escBudget a => Sys2Proof.Machine.execEscBudget a s
  | .escPriority a => Sys2Proof.Machine.execEscPriority a s
  | .gateCfg a => Sys2Proof.Machine.execGateCfg a s
  | .modelCfg a => Sys2Proof.Machine.execModelCfg a s
  | .escQuery a => Sys2Proof.Machine.execEscQuery a s
  | .ldgRd a => Sys2Proof.Machine.execLdgRd a s
  | .ldgWr a => Sys2Proof.Machine.execLdgWr a s
  | .planeCfg a => Sys2Proof.Machine.execPlaneCfg a s
  | .inlayQuery a => Sys2Proof.Machine.execInlayQuery a s
  | .prsCfg a => Sys2Proof.Machine.execPrsCfg a s
  | .prsRead a => Sys2Proof.Machine.execPrsRead a s
  | .pwrDomain a => Sys2Proof.Machine.execPwrDomain a s
  | .sleep a => Sys2Proof.Machine.execSleep a s
  | .fwStage a => Sys2Proof.Machine.execFwStage a s
  | .fwCommit a => Sys2Proof.Machine.execFwCommit a s
  | .fwSwap a => Sys2Proof.Machine.execFwSwap a s
  | .otpWrite a => Sys2Proof.Machine.execOtpWrite a s
  | .vaultLock a => Sys2Proof.Machine.execVaultLock a s
  | .commandTransfer h bytes => Sys2Proof.Machine.execCommandTransfer h bytes s
  | .commandDispatch => Sys2Proof.Machine.execCommandDispatch s
  | .recordDelivery h => Sys2Proof.Machine.execRecordDelivery h s
  | .statementDelivery h => Sys2Proof.Machine.execStatementDelivery h s
  | .mgmtMbxGo p => Sys2Proof.Machine.execMgmtMbxGo p s
  | .mgmtTransaction x => Sys2Proof.Machine.execMgmtTransaction x s
  | .glbUnlock p v => Sys2Proof.Machine.execGlbUnlock p v s
  | .glbLock p v => Sys2Proof.Machine.execGlbLock p v s
  | .presenceClose p => Sys2Proof.Machine.execPresenceClose p s
  | .ldgTestLoad p => Sys2Proof.Machine.execLdgTestLoad p s
  | .ldgTestStoreData p => Sys2Proof.Machine.execLdgTestStoreData p s
  | .ldgTestStoreCheck p => Sys2Proof.Machine.execLdgTestStoreCheck p s
  | .ldgTestStoreBoth p => Sys2Proof.Machine.execLdgTestStoreBoth p s
  | .ldgFlip p v => Sys2Proof.Machine.execLdgFlip p v s
  | .forceOffClear p hits => Sys2Proof.Machine.execForceOffClear p hits s
  | .registerWrite p addr v => Sys2Proof.Machine.execRegisterWrite p addr v s
  | .setPortPower h k => Sys2Proof.Machine.execSetPortPower h k s
  | .clearPortPower h k => Sys2Proof.Machine.execClearPortPower h k s
  | .setPortReset h k => Sys2Proof.Machine.execSetPortReset h k s
  | .setPortSuspend h k => Sys2Proof.Machine.execSetPortSuspend h k s
  | .clearPortSuspend h k => Sys2Proof.Machine.execClearPortSuspend h k s
  | .setPortIndicator h k m => Sys2Proof.Machine.execSetPortIndicator h k m s
  | .getPortStatus h k => Sys2Proof.Machine.execGetPortStatus h k s
  | .setPortTest h k m => Sys2Proof.Machine.execSetPortTest h k m s
  | .clearTtBuffer h k key => Sys2Proof.Machine.execClearTtBuffer h k key s
  | .resetTt h k => Sys2Proof.Machine.execResetTt h k s
  | .getTtState h k => Sys2Proof.Machine.execGetTtState h k s
  | .stopTt h k => Sys2Proof.Machine.execStopTt h k s
  | .slotVbusRise h cc => Sys2Proof.Machine.execSlotVbusRise h cc s
  | .slotVbusLoss h => Sys2Proof.Machine.execSlotVbusLoss h s
  | .ssTrainingTimeout h => Sys2Proof.Machine.execSsTrainingTimeout h s
  | .ssLinkFailure h => Sys2Proof.Machine.execSsLinkFailure h s
  | .slotBusReset h kind => Sys2Proof.Machine.execSlotBusReset h kind s
  | .slotSuspend h => Sys2Proof.Machine.execSlotSuspend h s
  | .slotResume h => Sys2Proof.Machine.execSlotResume h s
  | .upstreamSof h ts itp => Sys2Proof.Machine.execUpstreamSof h ts itp s
  | .proxyRemoteWake k => Sys2Proof.Machine.execProxyRemoteWake k s
  | .relayRemoteWake k => Sys2Proof.Machine.execRelayRemoteWake k s
  | .microframeBoundary => Sys2Proof.Machine.execMicroframeBoundary s
  | .feedbackMissing c => Sys2Proof.Machine.execFeedbackMissing c s
  | .mntStartAbandon g => Sys2Proof.Machine.execMntStartAbandon g s
  | .mintSend => Sys2Proof.Machine.execMintSend s
  | .clearanceSlot j => Sys2Proof.Machine.execClearanceSlot j s
  | .youngCountExpiry b => Sys2Proof.Machine.execYoungCountExpiry b s
  | .statementAssembly => Sys2Proof.Machine.execStatementAssembly s
  | .orderTransactionDone n r late retryFits => Sys2Proof.Machine.execOrderTransactionDone n r late retryFits s
  | .orderWindowEnd k w => Sys2Proof.Machine.execOrderWindowEnd k w s
  | .prsReadCopyDone n => Sys2Proof.Machine.execPrsReadCopyDone n s
  | .msyncInEdge rising ts widthNs => Sys2Proof.Machine.execMsyncInEdge rising ts widthNs s
  | .msyncInMissing => Sys2Proof.Machine.execMsyncInMissing s
  | .msyncOutPulse => Sys2Proof.Machine.execMsyncOutPulse s
  | .dovetailTrainReceived frame delayNs => Sys2Proof.Machine.execDovetailTrainReceived frame delayNs s
  | .dovetailTrainTimeout => Sys2Proof.Machine.execDovetailTrainTimeout s
  | .dovetailSyncLaunch => Sys2Proof.Machine.execDovetailSyncLaunch s
  | .dovetailSyncReceived frame arrival => Sys2Proof.Machine.execDovetailSyncReceived frame arrival s
  | .dovetailHoldReceived frame => Sys2Proof.Machine.execDovetailHoldReceived frame s
  | .doveInLoss invalid => Sys2Proof.Machine.execDoveInLoss invalid s
  | .doveInReturn => Sys2Proof.Machine.execDoveInReturn s
  | .usbConnect k dplus => Sys2Proof.Machine.execUsbConnect k dplus s
  | .usbDisconnect k => Sys2Proof.Machine.execUsbDisconnect k s
  | .connectDebounceEnd k => Sys2Proof.Machine.execConnectDebounceEnd k s
  | .portResetEnd k chirp dplus => Sys2Proof.Machine.execPortResetEnd k chirp dplus s
  | .enumRequestDone k r => Sys2Proof.Machine.execEnumRequestDone k r s
  | .enumRequestTimeout k => Sys2Proof.Machine.execEnumRequestTimeout k s
  | .portBabble k => Sys2Proof.Machine.execPortBabble k s
  | .xferTransactionDone k ep isIn r => Sys2Proof.Machine.execXferTransactionDone k ep isIn r s
  | .xferTimeout k ep isIn => Sys2Proof.Machine.execXferTimeout k ep isIn s
  | .resumeSignallingEnd k => Sys2Proof.Machine.execResumeSignallingEnd k s
  | .ttStartSplit k periodic isoOut key bytes => Sys2Proof.Machine.execTtStartSplit k periodic isoOut key bytes s
  | .ttResultDiscard k key => Sys2Proof.Machine.execTtResultDiscard k key s
  | .powerCycleNoConnect k => Sys2Proof.Machine.execPowerCycleNoConnect k s
  | .seatPinChange k aLow bLow => Sys2Proof.Machine.execSeatPinChange k aLow bLow s
  | .seatingConfirmed k => Sys2Proof.Machine.execSeatingConfirmed k s
  | .seatingLost k => Sys2Proof.Machine.execSeatingLost k s
  | .ccChange k cc1 cc2 => Sys2Proof.Machine.execCcChange k cc1 cc2 s
  | .ccAttachConfirmed k => Sys2Proof.Machine.execCcAttachConfirmed k s
  | .ccDetach k => Sys2Proof.Machine.execCcDetach k s
  | .drpToggle k => Sys2Proof.Machine.execDrpToggle k s
  | .trySrcTimeout k => Sys2Proof.Machine.execTrySrcTimeout k s
  | .sourcePartnerBackoff k => Sys2Proof.Machine.execSourcePartnerBackoff k s
  | .pdMessageReceived k sop msg crcOk => Sys2Proof.Machine.execPdMessageReceived k sop msg crcOk s
  | .pdRequestReceived k msg => Sys2Proof.Machine.execPdRequestReceived k msg s
  | .softResetReceived k sop => Sys2Proof.Machine.execSoftResetReceived k sop s
  | .eprKeepaliveReceived k => Sys2Proof.Machine.execEprKeepaliveReceived k s
  | .hardResetReceived k => Sys2Proof.Machine.execHardResetReceived k s
  | .bistReceived k carrier => Sys2Proof.Machine.execBistReceived k carrier s
  | .psRdyReceived k => Sys2Proof.Machine.execPsRdyReceived k s
  | .goodcrcReceived k => Sys2Proof.Machine.execGoodcrcReceived k s
  | .crcReceiveTimeout k => Sys2Proof.Machine.execCrcReceiveTimeout k s
  | .autoResponse k => Sys2Proof.Machine.execAutoResponse k s
  | .waitTimerExpiry k => Sys2Proof.Machine.execWaitTimerExpiry k s
  | .sinkTxWaitEnd k => Sys2Proof.Machine.execSinkTxWaitEnd k s
  | .exchangeEnd k => Sys2Proof.Machine.execExchangeEnd k s
  | .srcTransitionEnd k => Sys2Proof.Machine.execSrcTransitionEnd k s
  | .eprKeepaliveTimeout k => Sys2Proof.Machine.execEprKeepaliveTimeout k s
  | .eprVbusGuard k => Sys2Proof.Machine.execEprVbusGuard k s
  | .vconnSourceTimeout k => Sys2Proof.Machine.execVconnSourceTimeout k s
  | .vconnSwapPsRdySend k => Sys2Proof.Machine.execVconnSwapPsRdySend k s
  | .hardResetPathsOff k => Sys2Proof.Machine.execHardResetPathsOff k s
  | .hardResetVsafe0v k => Sys2Proof.Machine.execHardResetVsafe0v k s
  | .hardResetRecover k => Sys2Proof.Machine.execHardResetRecover k s
  | .bistCarrierEnd k => Sys2Proof.Machine.execBistCarrierEnd k s
  | .vconnTrip k => Sys2Proof.Machine.execVconnTrip k s
  | .escrowGrant => Sys2Proof.Machine.execEscrowGrant s
  | .rampPrechargeEnd k => Sys2Proof.Machine.execRampPrechargeEnd k s
  | .rampSlewEnd k vbusMv => Sys2Proof.Machine.execRampSlewEnd k vbusMv s
  | .portPowerGood k vbusMv vgsMv => Sys2Proof.Machine.execPortPowerGood k vbusMv vgsMv s
  | .rampTimeout k => Sys2Proof.Machine.execRampTimeout k s
  | .transitionSettled k vbusMv => Sys2Proof.Machine.execTransitionSettled k vbusMv s
  | .dischargeTo5v k => Sys2Proof.Machine.execDischargeTo5v k s
  | .dischargeFailure k => Sys2Proof.Machine.execDischargeFailure k s
  | .switchOffDischarged k vbusMv => Sys2Proof.Machine.execSwitchOffDischarged k vbusMv s
  | .switchOffDischTimeout k vbusMv => Sys2Proof.Machine.execSwitchOffDischTimeout k vbusMv s
  | .currentLimit k iMa => Sys2Proof.Machine.execCurrentLimit k iMa s
  | .limitingEnd k => Sys2Proof.Machine.execLimitingEnd k s
  | .fastTrip k iMa vbusMv => Sys2Proof.Machine.execFastTrip k iMa vbusMv s
  | .overVoltage k vbusMv => Sys2Proof.Machine.execOverVoltage k vbusMv s
  | .vbusLow k vbusMv => Sys2Proof.Machine.execVbusLow k vbusMv s
  | .thermalModelStep k m => Sys2Proof.Machine.execThermalModelStep k m s
  | .cooldownEnd k => Sys2Proof.Machine.execCooldownEnd k s
  | .boardTempUpdate => Sys2Proof.Machine.execBoardTempUpdate s
  | .vgdUndervoltage j => Sys2Proof.Machine.execVgdUndervoltage j s
  | .vgdRecover j => Sys2Proof.Machine.execVgdRecover j s
  | .vgdLoss j => Sys2Proof.Machine.execVgdLoss j s
  | .vgdPresent j => Sys2Proof.Machine.execVgdPresent j s
  | .splineFlitError j place seen again => Sys2Proof.Machine.execSplineFlitError j place seen again s
  | .splineLinkDown j => Sys2Proof.Machine.execSplineLinkDown j s
  | .splineHoldoverExpiry j => Sys2Proof.Machine.execSplineHoldoverExpiry j s
  | .splineLinkUp j => Sys2Proof.Machine.execSplineLinkUp j s
  | .stileResetLine j => Sys2Proof.Machine.execStileResetLine j s
  | .planeVisit => Sys2Proof.Machine.execPlaneVisit s
  | .cabKeyDebounced => Sys2Proof.Machine.execCabKeyDebounced s
  | .presenceWindowExpiry => Sys2Proof.Machine.execPresenceWindowExpiry s
  | .sealBit r => Sys2Proof.Machine.execSealBit r s
  | .adcSample x => Sys2Proof.Machine.execAdcSample x s
  | .wakeSource l => Sys2Proof.Machine.execWakeSource l s
  | .sleepDecision pending detail => Sys2Proof.Machine.execSleepDecision pending detail s
  | .drainEnd => Sys2Proof.Machine.execDrainEnd s
  | .drainTimeout => Sys2Proof.Machine.execDrainTimeout s
  | .latchedWake => Sys2Proof.Machine.execLatchedWake s
  | .xt32Switch => Sys2Proof.Machine.execXt32Switch s
  | .vsvcRise mgmtAddr vbusDet keyLow => Sys2Proof.Machine.execVsvcRise mgmtAddr vbusDet keyLow s
  | .vsvcLoss => Sys2Proof.Machine.execVsvcLoss s
  | .porNLow => Sys2Proof.Machine.execPorNLow s
  | .resetNLow bootSlot cascadeEn => Sys2Proof.Machine.execResetNLow bootSlot cascadeEn s
  | .supplyMonitorReset => Sys2Proof.Machine.execSupplyMonitorReset s
  | .powerGood bootSlot cascadeEn => Sys2Proof.Machine.execPowerGood bootSlot cascadeEn s
  | .pllLockTimeout w => Sys2Proof.Machine.execPllLockTimeout w s
  | .ledgerSelfTestEnd badLines badSpares => Sys2Proof.Machine.execLedgerSelfTestEnd badLines badSpares s
  | .imageCheckEnd f badLines badSpares => Sys2Proof.Machine.execImageCheckEnd f badLines badSpares s
  | .clockLoss => Sys2Proof.Machine.execClockLoss s
  | .tellerWatchdogExpiry => Sys2Proof.Machine.execTellerWatchdogExpiry s
  | .tellerRestartEnd => Sys2Proof.Machine.execTellerRestartEnd s
  | .swapRollback => Sys2Proof.Machine.execSwapRollback s
  | .cabKeyRelease => Sys2Proof.Machine.execCabKeyRelease s
  | .ssLinkTrained h gen2 => Sys2Proof.Machine.execSsLinkTrained h gen2 s
  | .standardRequest h f r => Sys2Proof.Machine.execStandardRequest h f r s
  | .sclLowTimeout x => Sys2Proof.Machine.execSclLowTimeout x s
  | .ttCompleteSplit k periodic key r => Sys2Proof.Machine.execTtCompleteSplit k periodic key r s
  | .clocksStable ssLocked => Sys2Proof.Machine.execClocksStable ssLocked s
  | .swapReady => Sys2Proof.Machine.execSwapReady s
  | .nightsafeCycle => Sys2Proof.Machine.execNightsafeCycle s
  | .usb2HubSuspend h => Sys2Proof.Machine.execUsb2HubSuspend h s
  | .usb2HubResume h => Sys2Proof.Machine.execUsb2HubResume h s
  | .upstreamLinkU1U2 h st own => Sys2Proof.Machine.execUpstreamLinkU1U2 h st own s
  | .rail5vInRange j mv => Sys2Proof.Machine.execRail5vInRange j mv s

end Sys2Proof.Machine
end

