-- ==== Sys2Proof/Machine/Pins.lean ====
section
/-! DEFINITION. The pins as the state drives them (R44 to R50, R59, R250, R330, R472): gates, DISCH, SEAT and CC of a port,
its USB pins and its LED, the upstream pins of a slot, and the pins of the Carcass. A pin that no definition names is an
input. -/
namespace Sys2Proof.Machine

/-! ### Pins of a Stile (R44, R50) -/

/-- Whether the Stile of a port is powered, so that it drives its pins (R50). -/
def State.stilePowered (s : State) (k : PortId) : Bool := s.stiles[(stileOf k).val].vgdPresent

/-- Pnn_GATE_L driven on. -/
def State.gateLPin (s : State) (k : PortId) : Bool := s.stilePowered k && s.pwr[k.val].gateL
/-- Pnn_GATE_H driven on. -/
def State.gateHPin (s : State) (k : PortId) : Bool := s.stilePowered k && s.pwr[k.val].gateH
/-- Pnn_DISCH on. -/
def State.dischPin (s : State) (k : PortId) : Bool := s.stilePowered k && s.pwr[k.val].disch
/-- The pull-ups on Pnn_SEAT_A and Pnn_SEAT_B. -/
def State.seatPullUp (s : State) (k : PortId) : Bool := s.stilePowered k

/-- What a port drives on one CC pin. -/
inductive CcDrive where
  | highZ | rp (level : BitVec 2) | rd | vconn
  deriving DecidableEq, Repr

/-- Pnn_CC1, or Pnn_CC2 with `second` (R330, R331, R345, R50): by the CC state; in S2 and S3 Rp of 80 µA on ports enabled for
wake. -/
def State.ccPin (s : State) (k : PortId) (second : Bool) : CcDrive :=
  let p := s.pd[k.val]
  let rp := CcDrive.rp (if p.rpNow = 0 then rpCode p.ccRec.rp else p.rpNow)
  if !s.stilePowered k then .highZ
  else if s.nsf.asleep.isSome then (if p.rpNow = 0 then .highZ else rp)
  else if s.stiles[(stileOf k).val].resetLine then .highZ
  else match p.cc with
    | .disabled | .sourcePartner => .highZ
    | .seatWait | .unattachedSrc | .attachWaitSrc | .trySrc | .accessory => rp
    | .unattachedSnk | .attachWaitSnk | .tryWaitSnk => .rd
    | .attachedSrc =>
      if p.orient = (if second then 2 else 1) then rp
      else if p.vconnOn && p.vconnPin == second then .vconn
      else .highZ

/-! ### Pins of a port on the Carcass (R50, R102) -/

/-- The 15 kΩ pull-downs on Pnn_DP and Pnn_DM: from the moment the port leaves OFF, while its domain is on (R50, R407). -/
def State.usbPullDowns (s : State) (k : PortId) : Bool := s.awake && s.mode k != .off && s.portGrpUp k

/-- Whether a port's TT sends a keep-alive EOP on its bus at the start of the microframe that begins: on a low-speed device,
once a frame (R139). -/
def State.ttKeepAlive (s : State) (k : PortId) : Bool :=
  s.ttUp k && s.ports[k.val].state == .active && s.ports[k.val].speed == 1 && decide (s.tally.n.toNat % 8 = 0)

/-! ### Pins of a slot (R45, R50, R86) -/

/-- Hn_CC1 and Hn_CC2 carry Rd in every state. -/
def State.hostRd (_s : State) (_h : SlotId) : Bool := true
/-- The 1.5 kΩ pull-up on Hn_DP. -/
def State.hostPullUp (s : State) (h : SlotId) : Bool := s.slots[h.val].presented && s.slots[h.val].vbus
/-- The SuperSpeed pair that the multiplexer uses, 1 or 2, by the CC pin that sees the host's Rp; 0 = no termination (R45). -/
def State.ssPair (s : State) (h : SlotId) : BitVec 2 := if s.slots[h.val].ssTerm then s.slots[h.val].orient else 0

/-! ### Pins of the Carcass (R46, R47, R50) -/

/-- The level of MSYNC_OUT between pulses: the inactive one that POL gives; high impedance in reset and asleep (R50, R250). -/
def State.msyncOutIdle (s : State) : Option Bool := if s.awake then some (testBit s.tally.msoSnap 30) else none
/-- Whether DOVE_OUT is driven: from the start of training (R50, R87). -/
def State.doveOutDriven (s : State) : Bool := s.dvtRuns
/-- RAIL_EN (R50, R59). -/
def State.railEnPin (s : State) : Bool := s.nsf.running && s.nsf.railEn
/-- CAB_SEAL_A (R434). -/
def State.sealAPin (s : State) : Option Bool := if s.nsf.running then some s.nsf.sealBit else none

/-- How QSPI_CS_N is held. -/
inductive QspiDrive where
  | highZ | weakPullUp | driven
  deriving DecidableEq, Repr

/-- QSPI_CS_N: high impedance unpowered and asleep, a weak pull-up in reset, driven otherwise (R50). -/
def State.qspiCs (s : State) : QspiDrive :=
  if !s.nsf.running || s.nsf.asleep.isSome then .highZ else if s.awake then .driven else .weakPullUp

end Sys2Proof.Machine
end

