-- ==== Sys2Proof/Safety.lean ====
section
/-! DEFINITION. The terms the statements use: when Teller takes and runs a command (R169 to R179, R192, R193), how it is answered
(R164, R171, R192), and what holds in every state of the part (canonical memory, the Vault's programmed rows). -/
namespace Sys2Proof.Machine

/-! ### A command taken and run -/

/-- The Till entry that a command of an opcode's row makes. -/
def OpSpec.entryOf (o : OpSpec) (a : CmdArgs) (s : State) : TillEntry := mkEntry (BitVec.ofNat 8 o.code) a s.glb.clock

/-- The state in which a command that is dispatched as it arrives finds the part: its credits are taken (R172), or the mailbox
holds it with GO at 1 (R192), and S1 has ended (R405). -/
def State.atDispatch (s : State) (o : OpSpec) (a : CmdArgs) : State :=
  let s : State := match a.caller with
    | .slot h => s.modSlot h fun x =>
        { x with entryCredits := x.entryCredits - 1, lineCredits := x.lineCredits - lineCount a.params.length }
    | .mbx => (s.writeMbx (BitVec.ofNat 8 o.code) a).modTeller fun t => { t with go := true, done := false }
  s.leaveS1 o.code

/-- Whether Teller takes a command and dispatches it as it arrives: the path is open and has room (R104, R173) or the mailbox
is idle (R192, R193); Teller runs; the tag is good (R170); the syntax checks pass (R179); nothing else waits for dispatch but
what CANCEL overtakes (R175, R178); its key and fence let it (R174, R175); the lines that hold its parameters are good (R390);
and the checks at dispatch pass, its slot not draining (R179, R408). -/
def State.takes (s : State) (o : OpSpec) (a : CmdArgs) : Bool :=
  (match a.caller with
    | .slot h =>
      let x := s.slots[h.val]
      s.pathOpen h && x.room a.params.length && a.tag.toNat ≤ 511 && !x.tagInFlight a.tag
        && s.teller.run == .running && (o.code == 4 || !s.anyFree)
        && entryFree x.till x.keyHold (524288 - x.poolUsed) (o.entryOf a s)
        && (a.params.isEmpty || (s.ldg.faulty (inParams h)).isEmpty) && !s.callerDraining o a.caller
    | .mbx =>
      s.awake && s.glb.clocksOk && !s.teller.go && s.tellerStarted && s.teller.run == .running && !s.anyFree
        && entryFree [] s.teller.mbxKeyHold 524288 (o.entryOf a s))
    && (syntaxCheck (some o) a).isNone && (dispatchCheck o a (s.atDispatch o a)).isNone

/-- What a command's body leaves, once answered: its completion; a key kept until the next snapshot; or its entry, waiting. -/
def Res.answer (r : Res) (c : Caller) (e : TillEntry) (pos : Nat) : State :=
  match r with
  | .done st r0 data s => s.finish c e st r0 data
  | .snap r0 s => (s.holdKey c e.key).finish c e .ok r0 []
  | .wait p w s => s.keepEntry c pos { e with point := p, wait := w }

/-- The place of a command in its source: behind what its slot's Till holds. -/
def State.tillPos (s : State) (c : Caller) : Nat :=
  match c with
  | .slot h => s.slots[h.val].till.length
  | .mbx => 0

/-- The completion record of a command (R164): it returns the entry and the lines the command took; the mailbox takes none. -/
def completionOf (o : OpSpec) (a : CmdArgs) (st : Status) (r0 : Word) (data : List Byte) : Completion :=
  let slot := match a.caller with | .slot _ => true | .mbx => false
  { opcode := BitVec.ofNat 8 o.code, tag := a.tag, status := st, entry := slot
    lines := if slot then lineCount a.params.length else 0, result0 := r0, data := data }

/-- The command has been answered: a slot's completion record is posted and no command with its tag is left in the Till (R164,
R171); the mailbox holds the completion, DONE reads 1 and GO reads 0 (R192). -/
def State.answered (t : State) (o : OpSpec) (a : CmdArgs) (st : Status) (r0 : Word) (data : List Byte) : Prop :=
  let c := completionOf o a st r0 data
  match a.caller with
  | .slot h => Record.completion c ∈ t.slots[h.val].records ∧ ∀ e ∈ t.slots[h.val].till, e.args.tag ≠ a.tag
  | .mbx =>
    t.teller.done = true ∧ t.teller.go = false ∧ t.teller.mbxEntry = none ∧
      ∀ (i : Nat) (h : i < 68), 4 * i + 4 ≤ (c.bytes ++ pad8 data).length →
        t.teller.mbxRsp[i] = toWord (leAt (c.bytes ++ pad8 data) (4 * i) 4)

/-- `t` is `s` but for what answering a command of `c` that was taken and completed at once leaves: the completion among the
caller's records, with its wake-up (R163), and `keys` held until the next snapshot (R31); or the mailbox's words and bits
(R192). The Till, the credits and every record that was there are as before. -/
structure State.SameButAnswer (s t : State) (c : Caller) (keys : List Key) : Prop where
  glb : t.glb = s.glb
  fw : t.fw = s.fw
  ports : t.ports = s.ports
  pd : t.pd = s.pd
  pwr : t.pwr = s.pwr
  stiles : t.stiles = s.stiles
  escrow : t.escrow = s.escrow
  orders : t.orders = s.orders
  purses : t.purses = s.purses
  tally : t.tally = s.tally
  dvt : t.dvt = s.dvt
  mint : t.mint = s.mint
  clr : t.clr = s.clr
  ldg : t.ldg = s.ldg
  vault : t.vault = s.vault
  nsf : t.nsf = s.nsf
  orphans : t.orphans = s.orphans
  pending : t.pending = s.pending
  others : ∀ g : SlotId, c ≠ .slot g → t.slots[g.val] = s.slots[g.val]
  own : ∀ g : SlotId, c = .slot g → ∃ (records : List Record) (wake : Bool),
    t.slots[g.val] = { s.slots[g.val] with
      records := records, wakeSignal := wake, keyHold := s.slots[g.val].keyHold ++ keys } ∧
    ∀ r ∈ s.slots[g.val].records, r ∈ records
  teller : c ≠ .mbx → t.teller = s.teller
  mailbox : c = .mbx → ∃ (cmd rsp : Vector Word 68) (notify : Bool), t.teller = { s.teller with
    mbxCmd := cmd, go := false, done := true, mbxRsp := rsp, mbxNotify := notify, mbxEntry := none
    mbxKeyHold := s.teller.mbxKeyHold ++ keys }

/-- The command waits: it is in flight, past the given point, for the given thing. -/
def State.inFlight (t : State) (o : OpSpec) (a : CmdArgs) (p : CmdPoint) (w : Wait) : Prop :=
  match a.caller with
  | .slot h => ∃ e ∈ t.slots[h.val].till, e.op = BitVec.ofNat 8 o.code ∧ e.args = a ∧ e.point = p ∧ e.wait = w
  | .mbx => ∃ e, t.teller.mbxEntry = some e ∧ e.op = BitVec.ofNat 8 o.code ∧ e.args = a ∧ e.point = p ∧ e.wait = w

/-- The port has tripped (R367): both paths off, no ramp and no transition; no charge or slot, which Escrow keeps while the
Stile's link is down (R464); the contract and EPR mode ended; OVERCURRENT set and a cooldown of COOL_MS running; LAST_OFF
names the POWER event; GLB_FAULT's bit of the Stile's ports is set. -/
structure State.Tripped (s t : State) (k : PortId) (aux : Nat) : Prop where
  gates : t.pwr[k.val].gateL = false ∧ t.pwr[k.val].gateH = false
  phases : t.pwr[k.val].ramp = .none ∧ t.pwr[k.val].trans = .none ∧ t.pwr[k.val].vbusOn = false
  charges : s.linkUp k = true → t.pwr[k.val].chgL = 0 ∧ t.pwr[k.val].oldL = 0 ∧ t.pwr[k.val].chgH = 0 ∧
    t.pwr[k.val].oldH = 0 ∧ t.pwr[k.val].inrushL = 0 ∧ t.pwr[k.val].inrushH = 0 ∧ t.pwr[k.val].slot = false
  request : t.pwr[k.val].queued = none ∧ t.pwr[k.val].want = s.pwr[k.val].want
  cooldown : t.pwr[k.val].overcurrent = true ∧ t.pwr[k.val].cooling = true ∧
    t.pwr[k.val].coolLeft = 100 * s.pwr[k.val].gateRec.coolMs
  cause : t.pwr[k.val].lastOff = BitVec.ofNat 4 aux
  contract : t.pd[k.val].contract = none ∧ t.pd[k.val].eprMode = false
  fault : testBit t.glb.fPorts (stileOf k).val = true

/-- A Hard Reset has begun on the port (R344): no contract, EPR mode, reply window or wait timer; MessageIDs at 0; no VCONN
swap, no transition, and where one ran VBUS is held (R373); no contract charge, which Escrow keeps while the Stile's link is
down (R464); the recovery waits for its paths to go off; one more Hard Reset counted. -/
structure State.HardResetBegun (s t : State) (k : PortId) : Prop where
  contract : t.pd[k.val].contract = none ∧ t.pd[k.val].accepted = none ∧ t.pd[k.val].accepting = none ∧
    t.pd[k.val].eprMode = false
  windows : t.pd[k.val].reply = none ∧ t.pd[k.val].waitTimer = none ∧ t.pd[k.val].tx = none ∧ t.pd[k.val].held = none ∧
    t.pd[k.val].chunkOut = none ∧ t.pd[k.val].vconnSwap = .none
  ids : t.pd[k.val].txId = Vector.replicate 3 0 ∧ t.pd[k.val].rxId = Vector.replicate 3 none
  recovery : t.pd[k.val].hr = .waitPathsOff ∧ t.pd[k.val].vconnWasOn = t.pd[k.val].vconnOn
  count : t.pd[k.val].hardResets = satAdd s.pd[k.val].hardResets 1
  transition : t.pwr[k.val].trans = .none ∧ (s.pwr[k.val].trans ≠ .none → t.pwr[k.val].disch = false)
  charges : s.linkUp k = true → t.pwr[k.val].chgH = 0 ∧ t.pwr[k.val].oldL = 0 ∧ t.pwr[k.val].oldH = 0 ∧
    (s.pd[k.val].contract ≠ none → t.pwr[k.val].chgL = 0)
  rpCharge : s.pd[k.val].contract = none → s.pd[k.val].accepted = none → s.pd[k.val].txBusy = false →
    t.pwr[k.val].chgL = s.pwr[k.val].chgL

/-- A message on SOP has come in and gone to the owner (R333, R336, R348): its GoodCRC sent, its MessageID and the partner's
revision noted; a reply window where it needs an answer, and none otherwise; PD_RX given with the message, whether a reply is
due, and the verdict of a request. -/
structure State.Delivered (s t : State) (k : PortId) (m : List Byte) (h : SlotId) : Prop where
  goodCrc : t.pd[k.val].goodCrcSent = some 0
  id : t.pd[k.val].rxId = vmod s.pd[k.val].rxId (0 : Fin 3) (fun _ => some (msgId m))
  revision : t.pd[k.val].specRev = if s.pd[k.val].specRev = 0 then (if msgRev m = 1 then 1 else if msgRev m = 2 then 2 else 0)
    else s.pd[k.val].specRev
  window : needsReply m = true → ∃ w, t.pd[k.val].reply = some w ∧ w.cls = msgClass m ∧ w.ty = msgType m ∧
    w.request = if isMsg m 1 2 || isMsg m 1 9 then s.pd[k.val].judge m else none
  closed : needsReply m = false → t.pd[k.val].reply = none
  event : ∃ e, Record.event e ∈ t.slots[h.val].records ∧ e.code = 0x10 ∧ e.port = BitVec.ofNat 8 k.val ∧ e.ext = true ∧
    e.payload = m.take 264 ∧ testBit e.data 2 = needsReply m ∧
    bitsAt e.data.toNat 4 2 = if isMsg m 1 2 || isMsg m 1 9 then s.verdict k (s.pd[k.val].judge m) else 0
  others : (∀ j : PortId, j ≠ k → t.pd[j.val] = s.pd[j.val]) ∧ t.pwr = s.pwr ∧ t.ports = s.ports ∧ t.stiles = s.stiles

/-- What every bus reset that carries Teller leaves on a slot (R125): not configured, address 0, full credits, no queued
Statement, DROPPED at 0, not suspended, and only tags that have taken effect. -/
structure State.SlotWasReset (t : State) (h : SlotId) : Prop where
  cfg : t.slots[h.val].tellerCfg = false ∧ t.slots[h.val].tellerAddr = 0 ∧ t.slots[h.val].wakeTeller = false
  credits : t.slots[h.val].entryCredits = 512 ∧ t.slots[h.val].lineCredits = 8192
  statements : t.slots[h.val].statements = [] ∧ t.slots[h.val].dropped = 0
  resumed : t.slots[h.val].suspended = false
  tags : ∀ e ∈ t.slots[h.val].till, e.point = .effected

/-- What every reset of the Carcass takes and keeps (R51, R52, R93, R94): Deeds, orders, Mint, Clearance, Tally, Escrow,
Purses, the Ledger and Teller are as at power-on, every unlock key is gone, every port is off without contract or attach; a
Stile's thermal models and a running cooldown, the fused rows of the Vault and what Nightsafe holds beside a sleep request
stay. -/
structure State.CarcassWasReset (s t : State) : Prop where
  blocks : t.teller = {} ∧ t.fw = {} ∧ t.escrow = {} ∧ t.tally = {} ∧ t.dvt = {} ∧ t.mint = {} ∧ t.clr = {} ∧ t.ldg = {}
  tables : t.ports = Vector.replicate 24 {} ∧ t.orders = Vector.replicate 1024 {} ∧ t.purses = Vector.replicate 256 {}
  slots : ∀ h : SlotId, t.slots[h.val] = { vbus := s.slots[h.val].vbus, orient := s.slots[h.val].orient }
  keys : t.glb.mgmtUnlocked = false ∧ t.glb.lock = 0 ∧ t.glb.lockWritten = false
  power : ∀ k : PortId, t.powered k = false ∧ t.pwr[k.val].vbusOn = false ∧ t.attached k = false ∧ t.pd[k.val].contract = none
  models : ∀ k : PortId, t.pwr[k.val].fosterL = s.pwr[k.val].fosterL ∧ t.pwr[k.val].fosterH = s.pwr[k.val].fosterH ∧
    t.pwr[k.val].cooling = s.pwr[k.val].cooling ∧ t.pwr[k.val].coolLeft = s.pwr[k.val].coolLeft
  vault : ∀ r : Fin 128, t.vault[r.val].val = s.vault[r.val].val ∧ t.vault[r.val].programmed = s.vault[r.val].programmed

/-! ### What holds in every state -/

/-- The stored bytes of the Ledger: in canonical form; the image payload lies in bank 0 (R383); and only lines that have been
written list a byte (R387). -/
structure Ledger.Ok (g : Ledger) : Prop where
  mem : Memory.wf g.mem = true
  payload : g.payloadLines ≤ 0x4000
  written : ∀ c ∈ g.mem, g.written.contains (c.1 / 64) = true

/-- Every row of the Vault that `s` holds programmed is programmed in `t` with the same word (R437). -/
def State.vaultKept (s t : State) : Prop :=
  ∀ r : Fin 128, s.vault[r.val].programmed = true →
    t.vault[r.val].programmed = true ∧ t.vault[r.val].val = s.vault[r.val].val

end Sys2Proof.Machine
end

