-- ==== Sys2Proof/Certificates/Slice0/Obligations.lean ====
section
/-! DEFINITION. The statements for the provers: one Prop each, in the terms of Machine and Safety. Each docstring names the
rules of the spec it rests on. -/
section
open Sys2Proof Sys2Proof.Machine

/-- What step adds around exec: the queue (the model's own, log entry 1). -/
def Obligations.StepRunsTheFrontCommand : Prop :=
  (∀ (c : Instr) (rest : List Instr) (s : State), step { s with pending := c :: rest } = exec c { s with pending := rest }) ∧
  (∀ s : State, s.pending = [] → step s = .next s)

/-- What the spec's reset values make of State.reset (R58, R71, R420, R437). The invariant of EveryStepKeepsTheLedgerCanonical
holds at reset. -/
def Obligations.ResetLeavesThePartUnpowered : Prop :=
  (let s := State.reset
  s.glb.held = true ∧ s.awake = false ∧ s.nsf.running = false ∧ s.nsf.railEn = false ∧ s.pending = [] ∧
  (∀ k : PortId, s.mode k = .off ∧ s.owner k = none ∧ s.attached k = false ∧ s.pwr[k.val].vbusOn = false ∧
    s.shownState k = .off ∧ s.prtState k = 0 ∧ s.prtDeed k = 0) ∧
  (∀ h : SlotId, s.slots[h.val].entryCredits = 512 ∧ s.slots[h.val].lineCredits = 8192 ∧ s.slots[h.val].tellerCfg = false ∧
    s.slots[h.val].till = [] ∧ s.slots[h.val].records = [] ∧ s.hstStatus h = 0 ∧ s.hstAddr h = 0) ∧
  (∀ k : PortId, s.gateLPin k = false ∧ s.gateHPin k = false ∧ s.dischPin k = false ∧ s.ccPin k false = .highZ ∧
    s.ccPin k true = .highZ) ∧ s.msyncOutIdle = none ∧ s.doveOutDriven = false ∧ s.railEnPin = false ∧
  (∀ n : OrderId, s.orders[n.val].state = .free) ∧
  (∀ c : ChanId, s.mint.chans[c.val].cfg = none) ∧
  (∀ b : BodyId, s.clr.bodies[b.val].cfg = none) ∧
  s.nsf.wakeEn = 0xFF ∧ (∀ n : Fin 16, s.nsf.ain[n.val].cfg = 0x04000D6B) ∧ s.glb.drainLimit = 0x14 ∧ s.ldg.rate = 14 ∧
  (∀ r : Fin 128, (s.vault[r.val].programmed = true ↔ r.val < 16) ∧ (r.val < 16 → s.vault[r.val].val ≠ 0))) ∧
  (State.reset.ldg.Ok)

/-- An invariant over all 229 commands: no write, repair, remap, reload, test store or reset breaks the Ledger's form. -/
def Obligations.EveryStepKeepsTheLedgerCanonical : Prop :=
  ∀ s t : State, s.ldg.Ok → step s = .next t → t.ldg.Ok

/-- The Vault is one-time programmable: over every command, resets and loss of VSVC included. -/
def Obligations.VaultRowsAreProgrammedOnce : Prop :=
  ∀ s t : State, step s = .next t → s.vaultKept t

/-- Progress: a run from any state never stops before its queue is empty. -/
def Obligations.EveryCommandCompletesAndLeavesTheQueue : Prop :=
  (∀ s : State, ∃ t : State, step s = .next t ∧ t.pending = s.pending.tail) ∧
  (∀ (c : Instr) (s : State), ∃ t : State, exec c s = .next t ∧ t.pending = s.pending)

/-- R162, with the two record layouts of file 06. -/
def Obligations.RecordsBeginWithTheirKind : Prop :=
  (∀ r : Record, (∃ c, r = .completion c ∧ r.bytes.head? = some 0x01) ∨ (∃ e, r = .event e ∧ r.bytes.head? = some 0x02)) ∧
  (∀ c : Completion, c.lines ≤ 1024 → c.data.length ≤ 65536 →
    let b := (Record.completion c).bytes
    leAt b 1 1 = c.opcode.toNat ∧ leAt b 2 2 = c.tag.toNat ∧ leAt b 4 2 = c.status.code ∧
    leAt b 6 2 = (if c.entry then 32768 else 0) + c.lines ∧ leAt b 8 4 = c.data.length ∧ leAt b 12 4 = c.result0.toNat ∧
    slice b 16 c.data.length = c.data ∧ b.length % 8 = 0) ∧
  (∀ e : Event,
    let b := (Record.event e).bytes
    leAt b 1 1 = e.code.toNat ∧ leAt b 2 2 = e.seq.toNat ∧ leAt b 4 1 = e.port.toNat ∧
    leAt b 5 1 = (if e.ext then 1 else 0) ∧ leAt b 6 2 = e.aux.toNat ∧ leAt b 8 4 = e.data.toNat ∧
    leAt b 12 4 = e.mf.toNat ∧ slice b 16 e.payload.length = e.payload ∧ b.length % 8 = 0)

/-- Entry to the Till (R170, R173, R179). -/
def Obligations.CommandsThatFailTheEntryChecksChangeNothing : Prop :=
  ∀ (o : OpSpec) (a : CmdArgs) (s : State),
    (∀ h : SlotId, a.caller = .slot h →
      (s.pathOpen h = false ∨ s.slots[h.val].room a.params.length = false → issue o a s = s) ∧
      (s.pathOpen h = true → s.slots[h.val].room a.params.length = true →
        (511 < a.tag.toNat ∨ s.slots[h.val].tagInFlight a.tag = true →
          s.SameButAnswer (issue o a s) a.caller [] ∧
          Record.completion (completionOf o a .eTag 0 []) ∈ (issue o a s).slots[h.val].records) ∧
        (a.tag.toNat ≤ 511 → s.slots[h.val].tagInFlight a.tag = false → s.teller.run ≠ .halted →
          ∀ st, syntaxCheck (some o) a = some st →
            s.SameButAnswer (issue o a s) a.caller [] ∧ (issue o a s).answered o a st 0 []))) ∧
    (a.caller = .mbx → s.awake = true → s.glb.clocksOk = true → s.teller.go = false → s.tellerStarted = true →
      s.teller.run ≠ .halted → ∀ st, syntaxCheck (some o) a = some st →
        s.SameButAnswer (issue o a s) a.caller [] ∧ (issue o a s).answered o a st 0 [])

/-- NOP, FENCE, ECHO and GET_INFO (R181, R182). CANCEL (R178). -/
def Obligations.GeneralCommandsAnswer : Prop :=
  ((∀ (a : CmdArgs) (s : State), s.takes opNop a = true →
    ∃ t, exec (.nop a) s = .next t ∧ t.answered opNop a .ok 0 [] ∧ s.SameButAnswer t a.caller []) ∧
  (∀ (a : CmdArgs) (s : State), s.takes opFence a = true →
    ∃ t, exec (.fence a) s = .next t ∧ t.answered opFence a .ok 0 [] ∧ (s.leaveS1 0x03).SameButAnswer t a.caller []) ∧
  (∀ (a : CmdArgs) (s : State), s.takes opEcho a = true →
    ∃ t, exec (.echo a) s = .next t ∧ t.answered opEcho a .ok a.arg0 a.params ∧
      (s.leaveS1 0x01).SameButAnswer t a.caller []) ∧
  (∀ (a : CmdArgs) (s : State), s.takes opGetInfo a = true →
    ∃ t data, exec (.getInfo a) s = .next t ∧ t.answered opGetInfo a .ok 0 data ∧
      (s.leaveS1 0x02).SameButAnswer t a.caller [] ∧ data.length = 64 ∧ leAt data 0 4 = 0x4F4C2428 ∧
      leAt data 4 4 = s.glbStep.toNat ∧ leAt data 8 4 = s.fw.version.toNat ∧ leAt data 12 1 = bitOf s.glb.image ∧
      leAt data 13 1 = s.dvt.chainPos.toNat ∧
      (∀ h : SlotId, a.caller = .slot h → leAt data 14 1 = h.val ∧ leAt data 15 1 = s.slots[h.val].tellerPath.toNat) ∧
      (a.caller = .mbx → leAt data 14 1 = 0xFF ∧ leAt data 15 1 = 0xFF) ∧ leAt data 24 2 = 512 ∧ leAt data 26 2 = 8192 ∧
      leAt data 28 2 = 1024 ∧ leAt data 32 4 = 524288)) ∧
  (∀ (a : CmdArgs) (s : State) (h : SlotId), s.takes opCancel a = true → a.caller = .slot h →
    let target := s.slots[h.val].till.find? fun e => e.args.tag.toNat == a.arg0.toNat
    (target = none → ∃ t, exec (.cancel a) s = .next t ∧ t.answered opCancel a .eRange 0 [] ∧
      (s.leaveS1 0x04).SameButAnswer t a.caller []) ∧
    (∀ e, target = some e → e.point = .effected → ∃ t, exec (.cancel a) s = .next t ∧ t.answered opCancel a .eBusy 0 [] ∧
      (s.leaveS1 0x04).SameButAnswer t a.caller []) ∧
    (∀ e, target = some e → e.point = .waiting → e.wait = .none →
      ∃ t l, exec (.cancel a) s = .next t ∧
        t.slots[h.val].records = l ++ [.completion (e.completion .eCancelled 0 []), .completion (completionOf opCancel a .ok 0x61 [])] ∧
        t.slots[h.val].till = s.slots[h.val].till.filter (fun y => y.args.tag != e.args.tag) ∧
        t.ports = s.ports ∧ t.pwr = s.pwr ∧ t.pd = s.pd ∧ t.orders = s.orders ∧ t.mint = s.mint ∧ t.ldg = s.ldg))

/-- COMMAND_TRANSFER (R159, R160, R163), COMMAND_DISPATCH (R176, R465) and RECORD_DELIVERY (R161, R168). -/
def Obligations.TransfersCarryCommandsAndRecords : Prop :=
  (∀ (h : SlotId) (op : Byte) (a : CmdArgs) (s : State), s.pathOpen h = true → a.caller = .slot h →
    a.params.length < 4294967296 → s.slots[h.val].room a.params.length = true →
    exec (.commandTransfer h (header op a ++ pad8 a.params)) s = .next (s.enter (opOf opTable op) op h a)) ∧
  (∀ (h : SlotId) (b : List Byte) (s : State), s.pathOpen h = true → b ≠ [] → b.length < 16 →
    exec (.commandTransfer h b) s = .next (s.slotEvent h 0x09 none b.length 0)) ∧
  (∀ s : State, s.anyFree = false → exec .commandDispatch s = .next s) ∧
  (∀ (s : State) (i pos : Nat) (e : TillEntry) (o : OpSpec), s.awake = true → s.teller.run = .running →
    s.pickSource = some (i, pos, e) → opOf opTable e.op = some o →
    exec .commandDispatch s = .next (runEntry o ((s.takeEntry i pos).modTeller fun t => { t with turn := (i + 1) % 5 }) e pos) ∧
    s.offer i = some (pos, e) ∧ ∀ j x, j < 5 → s.offer j = some x → s.prioNow x.2 ≤ s.prioNow e) ∧
  (∀ (h : SlotId) (s : State), s.pathOpen h = true → s.ldg.faulty (inResults h) = [] →
    ∃ t l, exec (.recordDelivery h) s = .next t ∧ s.slots[h.val].records = l ++ t.slots[h.val].records ∧
      t.slots[h.val].lastIn81 = l.flatMap Record.bytes ∧ (l.flatMap Record.bytes).length ≤ 65552 ∧
      (∀ r rest, t.slots[h.val].records = r :: rest → 65552 < (l.flatMap Record.bytes).length + r.bytes.length) ∧
      t = s.modSlot h fun x => { x with
        records := t.slots[h.val].records, owed := x.owed - l.length, lastIn81 := t.slots[h.val].lastIn81 })

/-- REG_RD, REG_WR and REG_RMW (R183, R421, R422). -/
def Obligations.RegisterCommandsReadAndWrite : Prop :=
  (∀ (a : CmdArgs) (s : State) (r : Reg), s.takes opRegRd a = true → a.arg1 = 1 → regAt a.arg0.toNat = some r →
    readsTime a.arg0.toNat 1 = false → s.glb.parityBad = [] → (∀ w : Fin 128, s.vault[w.val].copyBad = false) →
    let v := (s.atDispatch opRegRd a).regValue (pathOf a.caller) 0 r
    ∃ t, exec (.regRd a) s = .next t ∧ t.answered opRegRd a .ok v (leBytes 4 v.toNat) ∧
      ((s.leaveS1 0x10).clearRc r).SameButAnswer t a.caller []) ∧
  (∀ (a : CmdArgs) (s : State), s.takes opRegRd a = true →
    ∃ t st v data, exec (.regRd a) s = .next t ∧ t.answered opRegRd a st v data ∧ data.length = 4 * a.arg1.toNat) ∧
  (∀ (a : CmdArgs) (s : State), s.takes opRegRd a = true → a.arg1 = 1 → regAt a.arg0.toNat = none →
    let bad := a.arg0.toNat % 4 ≠ 0
    ∃ t, exec (.regRd a) s = .next t ∧
      t.answered opRegRd a (if bad then .eAlign else .eRange) 0 (List.replicate 4 0) ∧
      ((s.leaveS1 0x10).violation (pathOf a.caller) (if bad then 1 else 3) a.arg0.toNat).SameButAnswer t a.caller []) ∧
  (∀ (a : CmdArgs) (s : State) (r : Reg), s.takes opRegWr a = true → a.params.length = 4 → regAt a.arg0.toNat = some r →
    r ≠ .mbxGo →
    let v := toWord (leAt a.params 0 4)
    let p := pathOf a.caller
    s.writeRefused p r v = none → v &&& r.wk = 0 → s.regLocked r v = false →
    ∃ t, exec (.regWr a) s = .next t ∧ t.answered opRegWr a .ok 0 [] ∧
      (State.storeReg id ((s.leaveS1 0x11).modGlb fun g => { g with parityBad := g.parityBad.filter (· != a.arg0.toNat) })
        p a.arg0.toNat r v).SameButAnswer t a.caller []) ∧
  (∀ (a : CmdArgs) (s : State), s.takes opRegWr a = true → a.params.length = 4 → regAt a.arg0.toNat = none →
    let bad := a.arg0.toNat % 4 ≠ 0
    ∃ t, exec (.regWr a) s = .next t ∧ t.answered opRegWr a (if bad then .eAlign else .eRange) 0 [] ∧
      ((s.leaveS1 0x11).violation (pathOf a.caller) (if bad then 1 else 3) a.arg0.toNat).SameButAnswer t a.caller []) ∧
  (∀ (a : CmdArgs) (s : State) (r : Reg), s.takes opRegRmw a = true → regAt a.arg0.toNat = some r → r ≠ .mbxGo →
    readsTime a.arg0.toNat 1 = false → s.glb.parityBad = [] → (∀ w : Fin 128, s.vault[w.val].copyBad = false) →
    let p := pathOf a.caller
    let old := (s.atDispatch opRegRmw a).regValue p 0 r
    let mask := toWord (leAt a.params 0 4)
    let v := (old &&& ~~~mask) ||| (toWord (leAt a.params 4 4) &&& mask)
    s.writeRefused p r v = none → v &&& r.wk = 0 → s.regLocked r v = false →
    ∃ t, exec (.regRmw a) s = .next t ∧ t.answered opRegRmw a .ok old [] ∧
      (State.storeReg id (s.leaveS1 0x12) p a.arg0.toNat r v).SameButAnswer t a.caller [])

/-- GLB_UNLOCK (R430), GLB_LOCK (R432), PRESENCE_CLOSE (R433), FORCE_OFF_CLEAR (R418), MGMT_MBX_GO (R192) and REGISTER_WRITE
(R421). -/
def Obligations.RegisterRowsWriteTheirRegister : Prop :=
  ∀ (p : Path) (s : State), s.pathReady p = true →
    (∃ t, exec (.glbUnlock p 0x0C1A5E17) s = .next t ∧ t.unlockedBy p = true ∧ t.glb.vioCount = s.glb.vioCount) ∧
    (∀ v : Word, v ≠ 0x0C1A5E17 → ∃ t, exec (.glbUnlock p v) s = .next t ∧ t.unlockedBy p = false ∧ t.glb.vioCode = 8 ∧
      t.glb.vioAddr = 0x30) ∧
    (∀ v : Word, v.toNat < 16 → s.glb.lockWritten = false →
      ∃ t, exec (.glbLock p v) s = .next t ∧ t.glb.lock.toNat = v.toNat ∧ t.glb.lockWritten = true ∧ t.slots = s.slots) ∧
    (∀ v : Word, v.toNat < 16 → s.glb.lockWritten = true →
      ∃ t, exec (.glbLock p v) s = .next t ∧ t.glb.lock = s.glb.lock ∧ t.glb.vioCode = 6 ∧ t.glb.vioAddr = 0x34 ∧
        t.slots = s.slots) ∧
    (s.nsf.presence ≠ 0 → ∃ t, exec (.presenceClose p) s = .next t ∧ t.nsf = { s.nsf with presence := 0 }) ∧
    (∀ hits, s.unlockedBy p = true → testBit s.glb.lock 2 = false →
      ∃ t, exec (.forceOffClear p hits) s = .next t ∧ t.unlockedBy p = false ∧
        t.nsf = { s.nsf with hit := s.nsf.hit &&& ~~~hits, posted := s.nsf.posted ++
          [{ addr := 0xA0014, val := 0x10000 ||| hits.setWidth 32, ticks := 0 }] }) ∧
    (∀ hits, s.unlockedBy p = false →
      ∃ t, exec (.forceOffClear p hits) s = .next t ∧ t.nsf = s.nsf ∧ t.glb.vioCode = 5 ∧ t.glb.vioAddr = 0xA0014) ∧
    (p ≠ .mbx → s.teller.go = false → ∃ t, exec (.mgmtMbxGo p) s = .next t ∧
      ((t.teller.done = true ∧ t.teller.go = false) ∨ t.teller.mbxEntry.isSome = true)) ∧
    (∀ (addr v : Word) (r : Reg), (∀ h, p = .slot h → s.slotMayWrite h addr.toNat = true) → regAt addr.toNat = some r →
      r ≠ .mbxGo → s.writeRefused p r v = none → v &&& r.wk = 0 → s.regLocked r v = false →
      exec (.registerWrite p addr v) s = .next
        (State.storeReg id (s.modGlb fun g => { g with parityBad := g.parityBad.filter (· != addr.toNat) }) p addr.toNat r v)) ∧
    (∀ addr v : Word, (∀ h, p = .slot h → s.slotMayWrite h addr.toNat = true) → regAt addr.toNat = none →
      exec (.registerWrite p addr v) s = .next (s.violation p (if addr.toNat % 4 ≠ 0 then 1 else 3) addr.toNat))

/-- LDG_TEST_LOAD, LDG_TEST_STORE_DATA, LDG_TEST_STORE_CHECK, LDG_TEST_STORE_BOTH (R398) and LDG_FLIP (R399, R431). -/
def Obligations.LedgerTestModesStoreWhatTheySay : Prop :=
  ∀ (p : Path) (s : State), s.pathReady p = true → s.ldg.Ok → testBit s.glb.lock 3 = false →
    let line := s.ldg.testAddr.toNat
    (hostLine line = true → s.unlockedBy p = true → (s.ldg.flip = 0 ∨ s.ldg.flipAddr ≠ s.ldg.testAddr) →
      (∃ t, exec (.ldgTestLoad p) s = .next t ∧ t.unlockedBy p = false ∧ t.ldg.testBytes = s.ldg.stored line ∧
        t.ldg.testCheck = s.ldg.checkWord line ∧ t.ldg.testCalc = lineCrc line (s.ldg.stored line) ∧ t.ldg.mem = s.ldg.mem) ∧
      (∃ t, exec (.ldgTestStoreData p) s = .next t ∧ t.unlockedBy p = false ∧ t.ldg.stored line = s.ldg.testBytes ∧
        t.ldg.checkWord line = s.ldg.checkWord line ∧ line ∈ t.ldg.injected ∧ t.ldg.inj = some s.ldg.testAddr ∧
        ∀ x, x / 64 ≠ line → memGet x t.ldg.mem = memGet x s.ldg.mem) ∧
      (∃ t, exec (.ldgTestStoreCheck p) s = .next t ∧ t.unlockedBy p = false ∧ t.ldg.stored line = s.ldg.stored line ∧
        t.ldg.checkWord line = s.ldg.testCheck ∧ line ∈ t.ldg.injected ∧ t.ldg.inj = some s.ldg.testAddr ∧
        ∀ x, memGet x t.ldg.mem = memGet x s.ldg.mem) ∧
      (∃ t, exec (.ldgTestStoreBoth p) s = .next t ∧ t.unlockedBy p = false ∧ t.ldg.stored line = s.ldg.testBytes ∧
        t.ldg.checkWord line = s.ldg.testCheck ∧ line ∈ t.ldg.injected ∧ t.ldg.inj = some s.ldg.testAddr ∧
        ∀ x, x / 64 ≠ line → memGet x t.ldg.mem = memGet x s.ldg.mem)) ∧
    (hostLine s.ldg.flipAddr.toNat = true → s.unlockedBy p = true → ∀ v : Word, v ≠ 0 →
      ∃ t, exec (.ldgFlip p v) s = .next t ∧ t.unlockedBy p = false ∧ t.ldg = { s.ldg with flip := v }) ∧
    (∃ t, exec (.ldgFlip p 0) s = .next t ∧ t.unlockedBy p = s.unlockedBy p ∧ t.ldg = { s.ldg with flip := 0 }) ∧
    (hostLine line = true → s.unlockedBy p = false →
      ∀ c ∈ [Instr.ldgTestLoad p, .ldgTestStoreData p, .ldgTestStoreCheck p, .ldgTestStoreBoth p],
        exec c s = .next (s.violation p 5 0x70024))

/-- MGMT_TRANSACTION (R191, R423) and SCL_LOW_TIMEOUT (R453). -/
def Obligations.MgmtTransactionsAccessWords : Prop :=
  ∀ s : State, s.awake = true → s.glb.clocksOk = true →
    let s' := s.modGlb fun g => { g with mgmtOut := [], mgmtAck := true }
    let dev := s.mgmtAddress
    (∀ x : MgmtXact, x.dev ≠ dev → exec (.mgmtTransaction x) s = .next s ∧ exec (.sclLowTimeout x) s = .next s) ∧
    (∀ (addr data : List Byte), addr.length = 4 → leAt addr 0 4 % 4 = 0 → data.length = 4 →
      (regAt (leAt addr 0 4)).isSome = true →
      exec (.mgmtTransaction ⟨dev, addr, false, data, 0⟩) s =
        .next (State.regWrite State.mbxStart s' .mgmt (leAt addr 0 4) (toWord (leAt data 0 4))).2) ∧
    (∀ (addr : List Byte) (r : Reg), addr.length = 4 → regAt (leAt addr 0 4) = some r → readsTime (leAt addr 0 4) 1 = false →
      s.glb.parityBad = [] → (∀ w : Fin 128, s.vault[w.val].copyBad = false) →
      ∃ t, exec (.mgmtTransaction ⟨dev, addr, true, [], 4⟩) s = .next t ∧ t.glb.mgmtOut = leBytes 4 (s.regValue .mgmt 0 r).toNat) ∧
    (∀ (addr data : List Byte), addr.length = 4 → data.length = 5 → s.pecOf (addr ++ data.take 4) ≠ leAt data 4 1 →
      ∃ t, exec (.mgmtTransaction ⟨dev, addr, false, data, 0⟩) s = .next t ∧ t.glb.mgmtAck = false ∧ t.glb.vioCode = 9 ∧
        t.ldg = s.ldg ∧ t.tally = s.tally ∧ t.nsf = s.nsf ∧ t.teller = s.teller ∧ t.slots = s.slots ∧ t.escrow = s.escrow) ∧
    (∀ (addr : List Byte) (n : Nat), addr.length = 4 → leAt addr 0 4 % 4 ≠ 0 → 0 < n →
      exec (.mgmtTransaction ⟨dev, addr, true, [], n⟩) s = .next
        ((s'.violation .mgmt 1 (leAt addr 0 4)).modGlb fun g => { g with mgmtOut := List.replicate n 0 })) ∧
    (∀ (addr : List Byte), 0 < addr.length → addr.length < 4 →
      exec (.mgmtTransaction ⟨dev, addr, false, [], 0⟩) s = .next (s'.violation .mgmt 2 0)) ∧
    (∀ (addr data : List Byte), addr.length = 4 → leAt addr 0 4 % 4 = 0 → data.length = 6 →
      (regAt (leAt addr 0 4)).isSome = true →
      exec (.sclLowTimeout ⟨dev, addr, false, data, 0⟩) s = .next
        ((State.regWrite State.mbxStart s' .mgmt (leAt addr 0 4) (toWord (leAt data 0 4))).2.violation .mgmt 2
          (wordAddr (leAt addr 0 4) 1)))

/-- R58. -/
def Obligations.VsvcLossIsAPowerOnReset : Prop :=
  ∀ s : State, s.nsf.running = true →
    ∃ t, exec .vsvcLoss s = .next t ∧ t.glb.held = true ∧ t.awake = false ∧ t.nsf.railEn = false ∧ t.nsf = {} ∧
      t.nsf.passbook = [] ∧ t.glb.resetCause = 0 ∧ t.glb.phase = 1 ∧ t.ldg = {} ∧ t.teller = {} ∧ t.mint = {} ∧
      t.ports = Vector.replicate 24 {} ∧ ∀ k : PortId, t.powered k = false ∧ t.attached k = false

/-- POR_N_LOW, RESET_N_LOW, SUPPLY_MONITOR_RESET (R93, R94), CLOCK_LOSS (R467) and STILE_RESET_LINE (R51). -/
def Obligations.CarcassResetsTakeAndKeep : Prop :=
  (∀ s : State, s.glb.held = false →
    (∃ t, exec .porNLow s = .next t ∧ s.CarcassWasReset t ∧ t.glb.held = true ∧ t.awake = false ∧ t.glb.resetCause = 1) ∧
    (∃ t, exec .supplyMonitorReset s = .next t ∧ s.CarcassWasReset t ∧ t.glb.held = true ∧ t.awake = false ∧
      t.glb.resetCause = 3) ∧
    (∀ b c, ∃ t, exec (.resetNLow b c) s = .next t ∧ s.CarcassWasReset t ∧ t.glb.held = false ∧ t.awake = true ∧
      t.glb.resetCause = 2 ∧ t.glb.phase = 1 ∧ t.glb.bootSlot = b ∧ t.glb.cascadeEn = c) ∧
    (s.glb.clocksOk = true → ∃ t, exec .clockLoss s = .next t ∧ s.CarcassWasReset t ∧ t.glb.held = false ∧
      t.glb.resetCause = 3 ∧ t.glb.phase = 1 ∧ t.glb.bootSlot = s.glb.bootSlot ∧ t.glb.cascadeEn = s.glb.cascadeEn ∧
      t.nsf.clockFail = true ∧ t.nsf.passbook = s.nsf.passbook ∧ t.nsf.tamper = s.nsf.tamper)) ∧
  (∀ (i : StileId) (s : State), ∃ t, exec (.stileResetLine i) s = .next t ∧ t.stiles[i.val].resetLine = true ∧
    t.stiles[i.val].up = false ∧
    (∀ k : PortId, stileOf k = i → t.powered k = false ∧ t.attached k = false ∧ t.pd[k.val].contract = none ∧
      t.pwr[k.val].fosterL = s.pwr[k.val].fosterL ∧ t.pwr[k.val].fosterH = s.pwr[k.val].fosterH) ∧
    ∀ k : PortId, stileOf k ≠ i → t.pwr[k.val] = s.pwr[k.val])

/-- VSVC_RISE, XT32_SWITCH (R71), POWER_GOOD, CLOCKS_STABLE (R72), PLL_LOCK_TIMEOUT (R75), LEDGER_SELF_TEST_END (R76) and
IMAGE_CHECK_END (R81, R83, R84). -/
def Obligations.BringUpGoesStepByStep : Prop :=
  (∀ (m : BitVec 3) (v : BitVec 4) (low : Bool) (s : State), s.nsf.running = false →
    ∃ t, exec (.vsvcRise m v low) s = .next t ∧ t.nsf.running = true ∧ t.nsf.railEn = true ∧ t.nsf.mgmtAddr = m ∧
      t.nsf.crystal = false ∧ t.nsf.keyLow = low ∧ (v = 0 → t.nsf.passbook = []) ∧
      (v ≠ 0 → ∃ r, t.nsf.passbook = [r] ∧ r.code = 6 ∧ r.fromState = 0xF ∧ r.aborted = false) ∧
      ∀ h : SlotId, t.slots[h.val].vbus = testBit v h.val) ∧
  (∀ s : State, s.nsf.running = true →
    exec .xt32Switch s = .next (s.modNsf fun n => { n with crystal := true })) ∧
  (∀ (b c : Bool) (s : State), s.glb.held = true → s.nsf.running = true → s.nsf.railEn = true → s.nsf.asleep = none →
    ∃ t, exec (.powerGood b c) s = .next t ∧ t.glb.held = false ∧ t.awake = true ∧ t.glb.phase = 1 ∧ t.glb.bootSlot = b ∧
      t.glb.cascadeEn = c ∧ t.nsf = s.nsf ∧ ∀ i : StileId, t.stiles[i.val].resetLine = false) ∧
  (∀ (l : BitVec 4) (s : State), s.awake = true → s.glb.phase = 1 → s.glb.clocksOk = false →
    (s.glb.fClock = false → ∃ t, exec (.clocksStable l) s = .next t ∧ t.glb.phase = 2 ∧ t.glb.clocksOk = true ∧
      t.tally = { s.tally with running := true } ∧ t.glb.fClock = s.nsf.clockFail ∧
      ∀ h : SlotId, t.slots[h.val].ssPll = (s.slots[h.val].ssPll && testBit l h.val)) ∧
    (s.glb.pllRetry = false →
      exec (.pllLockTimeout .system) s = .next (s.modGlb fun g => { g with pllRetry := true })) ∧
    (s.glb.pllRetry = true → exec (.pllLockTimeout .system) s = .next (s.modGlb fun g => { g with fClock := true })) ∧
    (∀ h, exec (.pllLockTimeout (.ss h)) s = .next (s.modSlot h fun x => { x with ssPll := false }))) ∧
  (∀ s : State, s.awake = true → s.glb.phase = 2 → s.nsf.retained = none →
    (∃ t, exec (.ledgerSelfTestEnd [] []) s = .next t ∧ t.glb.phase = 3 ∧ t.glb.inlayBoot = 0 ∧ t.ldg = {}) ∧
    (∀ line, line < 131072 → ∃ t, exec (.ledgerSelfTestEnd [line] []) s = .next t ∧ t.glb.phase = 3 ∧ t.glb.inlayBoot = 1 ∧
      t.ldg.inlay = [{ runtime := false, spare := 0, line := line, n := 0 }] ∧ t.ldg.written = []) ∧
    (∀ lines : List Nat, lines.Nodup → (∀ x ∈ lines, x < 131072) → 9 ≤ lines.length →
      ∃ t, exec (.ledgerSelfTestEnd lines []) s = .next t ∧ t.glb.phase = 0xF ∧ t.teller = s.teller ∧ t.ports = s.ports)) ∧
  (∀ (f : FlashView) (bl bs : List Nat) (s : State), s.awake = true → s.glb.phase = 3 → s.nsf.retained = none →
    let first := if s.glb.bootSlot then f.b else f.a
    let second := if s.glb.bootSlot then f.a else f.b
    (s.imageFail f.sfdpOk first = 0 →
      ∃ t, exec (.imageCheckEnd f bl bs) s = .next t ∧ t.glb.phase = (if s.glb.cascadeEn then 5 else 6) ∧
        t.glb.image = s.glb.bootSlot ∧ t.glb.unsealed = !s.keyFused ∧ t.teller.run = .running ∧ t.fw.version = first.version ∧
        ∀ (k : PortId) (e : ProfilePort), first.profile.ports[k.val]? = some e → e.mode ≠ .off →
          t.ports[k.val].deed = { owner := some e.owner, mode := e.mode, viewers := e.viewers, gen := 0 }) ∧
    (s.imageFail f.sfdpOk first ≠ 0 → s.imageFail f.sfdpOk first ≠ 1 → s.imageFail f.sfdpOk second ≠ 0 →
      ∃ t, exec (.imageCheckEnd f bl bs) s = .next t ∧ t.glb.phase = 0xE ∧ t.glb.image = s.glb.bootSlot ∧
        t.teller.run = .running ∧
        (if s.glb.bootSlot then t.glb.failB else t.glb.failA) = BitVec.ofNat 4 (s.imageFail f.sfdpOk first) ∧
        (if s.glb.bootSlot then t.glb.failA else t.glb.failB) = BitVec.ofNat 4 (s.imageFail f.sfdpOk second)))

/-- FW_STAGE, FW_COMMIT, FW_SWAP (R190, R474, R477), SWAP_READY (R475), SWAP_ROLLBACK (R476), TELLER_WATCHDOG_EXPIRY (R94,
R469, R470) and TELLER_RESTART_END (R469). -/
def Obligations.FirmwareIsStagedCommittedAndSwapped : Prop :=
  (∀ (a : CmdArgs) (s : State), s.anyEntry (fun e => e.wait == .swap) = false →
    (s.takes opFwStage a = true →
      let new := if a.caller = .mbx then [(a.arg0.toNat, a.params)] else pieces4k 17 a.arg0.toNat a.params
      ∃ t, exec (.fwStage a) s = .next t ∧ t.answered opFwStage a .ok 0 [] ∧
        ({ s.leaveS1 0xD0 with fw := { s.fw with
          pieces := new.foldl (fun p x => stagePiece (a.caller == .mbx) x.1 x.2 p) s.fw.pieces
          staged := true, committed := false } } : State).SameButAnswer t a.caller []) ∧
    (s.takes opFwCommit a = true → s.fw.staged = false → ∃ t, exec (.fwCommit a) s = .next t ∧
      t.answered opFwCommit a .eNotReady 0 [] ∧ (s.leaveS1 0xD1).SameButAnswer t a.caller []) ∧
    (s.takes opFwCommit a = true → s.fw.staged = true →
      let i := Config.stagedImage s.fw.pieces
      let c := s.imageFail s.fw.sfdpOk i
      let u := (s.leaveS1 0xD1).setImage s.targetSlot i
      (c = 0 → ∃ t, exec (.fwCommit a) s = .next t ∧ t.answered opFwCommit a .ok 0 [] ∧
        ({ u with fw := { u.fw with staged := false, committed := true } } : State).SameButAnswer t a.caller []) ∧
      (c ≠ 0 → ∃ t, exec (.fwCommit a) s = .next t ∧ t.answered opFwCommit a .eData (toWord c) [] ∧
        u.SameButAnswer t a.caller [])) ∧
    (∀ i, s.takes opFwSwap a = true → s.fw.committed = true → s.otherImage = some i → s.formatOk i = true →
      ∃ t, exec (.fwSwap a) s = .next t ∧ t.inFlight opFwSwap a .effected .swap ∧ t.teller.run = .swapping ∧ t.fw = s.fw ∧
        t.glb.image = s.glb.image ∧ t.ldg = s.ldg ∧ t.ports = s.ports ∧ t.pwr = s.pwr ∧ t.orders = s.orders ∧ t.mint = s.mint ∧
        t.clr = s.clr ∧ t.tally = s.tally) ∧
    (s.takes opFwSwap a = true → s.fw.committed = false → ∃ t, exec (.fwSwap a) s = .next t ∧
      t.answered opFwSwap a .eNotReady 0 [] ∧ (s.leaveS1 0xD2).SameButAnswer t a.caller [])) ∧
  (∀ (a : CmdArgs) (h : SlotId) (s : State), s.teller.run = .swapping → a.caller = .slot h → s.pathOpen h = true →
    s.slots[h.val].room a.params.length = true → a.tag.toNat ≤ 511 → s.slots[h.val].tagInFlight a.tag = false →
    (syntaxCheck (some opFwStage) a = none → ∃ t, exec (.fwStage a) s = .next t ∧ t.answered opFwStage a .eBusy 0 [] ∧
      s.SameButAnswer t a.caller []) ∧
    (syntaxCheck (some opFwCommit) a = none → ∃ t, exec (.fwCommit a) s = .next t ∧ t.answered opFwCommit a .eBusy 0 [] ∧
      s.SameButAnswer t a.caller []) ∧
    (syntaxCheck (some opFwSwap) a = none → ∃ t, exec (.fwSwap a) s = .next t ∧ t.answered opFwSwap a .eBusy 0 [] ∧
      s.SameButAnswer t a.caller [])) ∧
  (∀ s : State, s.teller.run = .swapping →
    (∀ i, s.otherImage = some i → ∃ t, exec .swapReady s = .next t ∧ t.glb.image = !s.glb.image ∧ t.fw.version = i.version ∧
      t.fw.staged = false ∧ t.fw.committed = false ∧ t.teller.run = .running ∧ t.anyEntry (fun e => e.wait == .swap) = false ∧
      (∀ h : SlotId, ∀ e ∈ s.slots[h.val].till, e.wait = .swap →
        Record.completion (e.completion .ok 0 []) ∈ t.slots[h.val].records) ∧
      t.ports = s.ports ∧ t.pwr = s.pwr ∧ t.orders = s.orders ∧ t.mint = s.mint ∧ t.clr = s.clr ∧ t.tally = s.tally) ∧
    (∃ t, exec .swapRollback s = .next t ∧ t.glb.image = s.glb.image ∧ t.fw.version = s.fw.version ∧ t.glb.fFirmware = true ∧
      t.fw.committed = false ∧ t.teller.run = .running ∧ t.anyEntry (fun e => e.wait == .swap) = false ∧
      (∀ h : SlotId, ∀ e ∈ s.slots[h.val].till, e.wait = .swap →
        Record.completion (e.completion .eNotReady 0 []) ∈ t.slots[h.val].records) ∧
      t.ports = s.ports ∧ t.pwr = s.pwr ∧ t.orders = s.orders ∧ t.mint = s.mint ∧ t.clr = s.clr ∧ t.tally = s.tally)) ∧
  (∀ s : State, s.teller.run = .running → s.hubSide = true →
    let recent := s.teller.restarts.filter fun x => decide (s.glb.clock < x + 80000)
    (recent.length < 2 → ∃ t, exec .tellerWatchdogExpiry s = .next t ∧ t.teller.run = .restarting ∧ t.glb.fFirmware = true ∧
      t.teller.restarts = recent ++ [s.glb.clock] ∧ (∀ p : Path, t.unlockedBy p = false) ∧
      (∀ h : SlotId, t.slots[h.val].till = [] ∧ ∀ e ∈ s.slots[h.val].till,
        Record.completion (e.completion .eAborted 0 []) ∈ t.slots[h.val].records) ∧
      t.mint = s.mint ∧ t.clr = s.clr ∧ t.tally = s.tally ∧ t.ldg = s.ldg) ∧
    (2 ≤ recent.length → s.otherImage = none → ∃ t, exec .tellerWatchdogExpiry s = .next t ∧ t.teller.run = .halted ∧
      t.glb.fFirmware = true ∧ (∀ h : SlotId, t.slots[h.val].till = []) ∧ t.mint = s.mint ∧ t.clr = s.clr) ∧
    (∀ i, 2 ≤ recent.length → s.otherImage = some i → s.imageFail s.fw.sfdpOk i = 0 → s.teller.lastFault = none →
      ∃ t, exec .tellerWatchdogExpiry s = .next t ∧ t.teller.run = .swapping ∧ t.glb.fFirmware = true ∧
        t.teller.lastFault = some s.glb.clock ∧ t.mint = s.mint ∧ t.clr = s.clr)) ∧
  (∀ s : State, s.teller.run = .restarting → (∀ c ∈ s.ldg.chk, s.ldg.payloadLines ≤ c.1) →
    ∃ t, exec .tellerRestartEnd s = .next t ∧ t.teller.run = .running ∧ t.teller.heldEvents = [] ∧ t.ldg = s.ldg ∧
      ∀ h : SlotId, t.slots[h.val].till = s.slots[h.val].till)

/-- OTP_WRITE (R440) and VAULT_LOCK (R441). -/
def Obligations.VaultCommandsProgramBlankRows : Prop :=
  (∀ (a : CmdArgs) (s : State), s.takes opOtpWrite a = true →
    let r := a.arg0.toNat
    let v := toWord (ofLe a.params)
    (0x18 ≤ r ∧ r < 0x20 ∧ v.toNat ≤ s.floor → ∃ t, exec (.otpWrite a) s = .next t ∧ t.answered opOtpWrite a .eRange 0 [] ∧
      (s.leaveS1 0xE0).SameButAnswer t a.caller []) ∧
    (¬(0x18 ≤ r ∧ r < 0x20 ∧ v.toNat ≤ s.floor) →
      (s.vaultProgrammed r = true ∨ otpClosed s.lockLevel r = true →
        ∃ t, exec (.otpWrite a) s = .next t ∧ t.answered opOtpWrite a .eLocked 0 [] ∧
          (s.leaveS1 0xE0).SameButAnswer t a.caller []) ∧
      (s.vaultProgrammed r = false → otpClosed s.lockLevel r = false →
        ∃ t w, exec (.otpWrite a) s = .next t ∧ t.answered opOtpWrite a (if w = v then .ok else .eData) 0 [] ∧
          ∀ q : Fin 128, t.vault[q.val] =
            if q.val = r then { s.vault[q.val] with val := w, programmed := true } else s.vault[q.val]))) ∧
  (∀ (a : CmdArgs) (s : State), s.takes opVaultLock a = true →
    let n := a.arg0.toNat
    (n < s.lockLevel → ∃ t, exec (.vaultLock a) s = .next t ∧ t.answered opVaultLock a .eLocked 0 [] ∧
      (s.leaveS1 0xE1).SameButAnswer t a.caller []) ∧
    (n = s.lockLevel → ∃ t, exec (.vaultLock a) s = .next t ∧ t.answered opVaultLock a .ok 0 [] ∧
      (s.leaveS1 0xE1).SameButAnswer t a.caller []) ∧
    (s.lockLevel < n → s.keyPartial = false → ∃ t, exec (.vaultLock a) s = .next t ∧ t.answered opVaultLock a .ok 0 [] ∧
      ∀ q : Fin 128, t.vault[q.val] =
        if 0x2C ≤ q.val ∧ q.val < 0x2C + n ∧ s.vault[q.val].programmed = false then
          { s.vault[q.val] with val := toWord (0x4C4B0000 + (q.val - 0x2C) + 1), programmed := true }
        else s.vault[q.val]))

/-- CAB_KEY_DEBOUNCED, CAB_KEY_RELEASE, PRESENCE_WINDOW_EXPIRY (R433) and SEAL_BIT (R482, R434). -/
def Obligations.PresenceAndSealFollowTheirPins : Prop :=
  ∀ s : State, s.nsf.running = true →
    (s.nsf.keyArmed = true → ∃ t, exec .cabKeyDebounced s = .next t ∧ t.nsf = { s.nsf with
      keyLow := true, keyArmed := false, presence := 120 * 32768, tamper := s.nsf.tamper && s.nsf.sealOpen }) ∧
    (s.nsf.keyArmed = false → exec .cabKeyDebounced s = .next (s.modNsf fun n => { n with keyLow := true, keyArmed := false })) ∧
    (exec .cabKeyRelease s = .next (s.modNsf fun n => { n with keyLow := false, keyArmed := true })) ∧
    (s.nsf.presence ≠ 0 → ∃ t, exec .presenceWindowExpiry s = .next t ∧ t.nsf = { s.nsf with presence := 0 }) ∧
    (s.nsf.sealOpen = false → ∃ t, exec (.sealBit .loop) s = .next t ∧ t.nsf = { s.nsf with sealBit := t.nsf.sealBit, sealCount := 0 }) ∧
    (s.nsf.sealOpen = true → s.nsf.sealCount = 0 → ∃ t, exec (.sealBit .loop) s = .next t ∧
      t.nsf = { s.nsf with sealBit := t.nsf.sealBit, sealCount := 1 }) ∧
    (s.nsf.sealOpen = true → s.nsf.sealCount = 1 → ∃ t, exec (.sealBit .loop) s = .next t ∧
      t.nsf = { s.nsf with sealBit := t.nsf.sealBit, sealOpen := false, sealCount := 0
                           tamper := s.nsf.tamper && s.nsf.presence == 0 }) ∧
    (∀ level, s.nsf.sealOpen = false → s.nsf.sealCount = 1 → ∃ t, exec (.sealBit (.stuck level)) s = .next t ∧
      t.nsf.sealOpen = (t.nsf.sealBit != level) ∧ t.nsf.sealCount = 0 ∧
      t.nsf.tamper = (s.nsf.tamper || t.nsf.sealBit != level))

/-- ADC_SAMPLE (R416, R418) and BOARD_TEMP_UPDATE (R371, R417). -/
def Obligations.AdcRulesAndBoardTemperature : Prop :=
  (∀ (x : BitVec 12) (s : State), s.nsf.running = true →
    (s.nsf.nextInput = none → exec (.adcSample x) s = .next s) ∧
    (∀ i : Fin 16, s.nsf.nextInput = some i → ∃ t, exec (.adcSample x) s = .next t ∧ t.nsf.lastIn = i.val ∧
      t.nsf.ain[i.val].raw = x ∧ t.nsf.ain[i.val].primed = true ∧ t.nsf.ain[i.val].cfg = s.nsf.ain[i.val].cfg ∧
      (s.nsf.ain[i.val].primed = false → t.nsf.ain[i.val].y = 1024 * x.toNat) ∧
      (s.nsf.ain[i.val].primed = true →
        let p : Int := 2 ^ (min 10 (bitsAt s.nsf.ain[i.val].cfg.toNat 24 4))
        let d : Int := 1024 * (x.toNat : Int) - s.nsf.ain[i.val].y
        let m : Int := (t.nsf.ain[i.val].y : Int) - s.nsf.ain[i.val].y
        d - p < p * m ∧ p * m < d + p) ∧
      (∀ j : Fin 16, j ≠ i → t.nsf.ain[j.val] = s.nsf.ain[j.val]) ∧
      (∀ r : Fin 16, s.nsf.ain[i.val].primed = false → s.nsf.rules[r.val].en = true →
        bitsAt s.nsf.rules[r.val].cfg.toNat 24 4 = i.val → s.nsf.rules[r.val].portsOff = true →
        s.nsf.rules[r.val].active = false → s.nsf.rules[r.val].debounce ≤ s.nsf.rules[r.val].count + 1 →
        testBit s.nsf.rules[r.val].cfg 30 = false → bitsAt s.nsf.rules[r.val].cfg.toNat 12 12 < x.toNat →
        t.nsf.rules[r.val].active = true ∧ t.nsf.forceOff = true ∧ testBit t.nsf.forcedBy r.val = true))) ∧
  (∀ s : State, s.awake = true → s.nsf.boardInput = none →
    ∃ t, exec .boardTempUpdate s = .next t ∧ t.pwr = s.pwr ∧ ∀ i : StileId, t.stiles[i.val] =
      if s.stiles[i.val].up && s.stiles[i.val].vgdPresent then { s.stiles[i.val] with tb := 1360 } else s.stiles[i.val])

/-- NIGHTSAFE_CYCLE (R403, R36), SLEEP_DECISION (R409), WAKE_SOURCE (R412, R413), LATCHED_WAKE (R410) and a transaction on the
MGMT bus while the device sleeps (R415). Which of two latched sources is recorded is the model's choice (log entry 157). -/
def Obligations.NightsafeTicksAndWakes : Prop :=
  (∀ s : State, s.nsf.running = true → s.glb.parityBad = [] → s.nsf.entering = none →
    (s.nsf.posted = [] → ∃ t, exec .nightsafeCycle s = .next t ∧
      t.nsf.rtcSub = s.nsf.rtcSub + 1 ∧ t.nsf.rtcSec = (if s.nsf.rtcSub = 32767 then s.nsf.rtcSec + 1 else s.nsf.rtcSec) ∧
      t.nsf.presence = (if 1 < s.nsf.presence then s.nsf.presence - 1 else s.nsf.presence) ∧
      t.nsf.rsForceOff = s.nsf.forceOff ∧ t.nsf.rsTamper = s.nsf.tamper ∧ t.nsf.rsSealOpen = s.nsf.sealOpen ∧
      t.nsf.rsKey = s.nsf.keyLow ∧ t.nsf.rsPresence = t.nsf.presence ∧ t.nsf.rsSub = t.nsf.rtcSub ∧
      t.nsf.rsPassbook = s.nsf.passbook ∧ t.glb = s.glb ∧ t.slots = s.slots ∧ t.pwr = s.pwr) ∧
    (∀ v, s.nsf.posted = [{ addr := 0xA0020, val := v, ticks := 1 }] →
      ∃ t, exec .nightsafeCycle s = .next t ∧ t.nsf.alarm = v ∧ t.nsf.posted = [])) ∧
  (∀ (p : BitVec 8) (d : Byte) (level : BitVec 2) (s : State), s.nsf.sleepReq = some level →
    (p &&& s.nsf.wakeEn = 0 → ∃ t, exec (.sleepDecision p d) s = .next t ∧ t.nsf.sleepReq = none ∧
      t.nsf.entering = some level ∧ t.glb.drain = .sleep ∧ t.nsf.passbook = s.nsf.passbook) ∧
    (p &&& s.nsf.wakeEn ≠ 0 → ∃ t r, exec (.sleepDecision p d) s = .next t ∧ t.nsf.sleepReq = none ∧
      t.nsf.entering = s.nsf.entering ∧ t.nsf.passbook = (r :: s.nsf.passbook).take 8 ∧ r.aborted = true ∧ r.detail = d ∧
      r.fromState = 0 ∧ testBit (p &&& s.nsf.wakeEn) (r.code.toNat - 1) = true ∧
      (∀ j, j < r.code.toNat - 1 → testBit (p &&& s.nsf.wakeEn) j = false) ∧
      t.anyEntry (fun e => e.wait == .sleep) = false)) ∧
  (∀ (w : WakeCode) (d : Byte) (s : State), s.nsf.running = true → testBit s.nsf.wakeEn (wakeNum w - 1) = true →
    s.wakeOccurs w d = true →
    (∀ level, s.nsf.asleep = some level → ∃ t r, exec (.wakeSource [(w, d)]) s = .next t ∧ t.nsf.railEn = true ∧
      t.nsf.asleep = none ∧ t.nsf.passbook = (r :: s.nsf.passbook).take 8 ∧ r.code.toNat = wakeNum w ∧
      r.detail = (wakeDetail (w, d)).2 ∧ r.more = 0 ∧ r.fromState.toNat = level.toNat ∧ r.aborted = false) ∧
    (∀ level v x, s.nsf.asleep = some level → testBit s.nsf.wakeEn (wakeNum v - 1) = true → s.wakeOccurs v x = true →
      wakeNum w < wakeNum v → ∀ l, (l = [(w, d), (v, x)] ∨ l = [(v, x), (w, d)]) →
      ∃ t r, exec (.wakeSource l) s = .next t ∧ t.nsf.railEn = true ∧ t.nsf.passbook = (r :: s.nsf.passbook).take 8 ∧
        r.code.toNat = wakeNum w ∧ r.detail = (wakeDetail (w, d)).2 ∧ r.more.toNat = 2 ^ (wakeNum v - 1)) ∧
    (s.nsf.asleep = none → s.nsf.entering.isSome = true → exec (.wakeSource [(w, d)]) s =
      .next (s.modNsf fun n => { n with latched := n.latched ++ [wakeDetail (w, d)] }))) ∧
  (∀ (w : WakeCode) (d : Byte) (level : BitVec 2) (s : State), s.nsf.asleep = some level → s.nsf.latched = [(w, d)] →
    ∃ t r, exec .latchedWake s = .next t ∧ t.nsf.railEn = true ∧ t.nsf.asleep = none ∧ t.nsf.latched = [] ∧
      t.nsf.passbook = (r :: s.nsf.passbook).take 8 ∧ r.code.toNat = wakeNum w ∧ r.detail = d) ∧
  (∀ (x : MgmtXact) (level : BitVec 2) (s : State), s.nsf.running = true → s.awake = false → s.nsf.asleep = some level →
    testBit s.nsf.wakeEn 0 = true → x.dev = s.mgmtAddress →
    ∃ t r, exec (.mgmtTransaction x) s = .next t ∧ t.glb.mgmtAck = false ∧ t.glb.mgmtOut = [] ∧ t.nsf.railEn = true ∧
      t.nsf.asleep = none ∧ t.nsf.passbook = (r :: s.nsf.passbook).take 8 ∧ r.code = 1 ∧ r.detail = 0)

/-- SLEEP (R404 to R409), PWR_DOMAIN (R407), DRAIN_END and DRAIN_TIMEOUT (R408). -/
def Obligations.SleepAndDomainsDrainFirst : Prop :=
  (∀ (a : CmdArgs) (s : State), s.takes opSleep a = true →
    (a.arg0 = 1 → s.glb.core = .s0 → ∃ t, exec (.sleep a) s = .next t ∧ t.answered opSleep a .ok 0 [] ∧ t.glb.core = .s1) ∧
    (a.arg0 ≠ 1 → s.sleepBusy = false → ∃ t, exec (.sleep a) s = .next t ∧ t.inFlight opSleep a .effected .sleep ∧
      t.nsf = { s.nsf with sleepReq := some (BitVec.ofNat 2 a.arg0.toNat) } ∧ t.glb = s.glb) ∧
    (a.arg0 ≠ 1 → s.sleepBusy = true → ∃ t, exec (.sleep a) s = .next t ∧ t.answered opSleep a .eBusy 0 [] ∧
      s.SameButAnswer t a.caller [])) ∧
  (∀ (a : CmdArgs) (s : State), s.takes opPwrDomain a = true →
    let d := a.arg0.toNat
    (s.domainOn d = testBit a.arg1 0 → ∃ t, exec (.pwrDomain a) s = .next t ∧ t.answered opPwrDomain a .ok 0 [] ∧
      (s.leaveS1 0xC0).SameButAnswer t a.caller []) ∧
    (s.domainOn d = false → testBit a.arg1 0 = true →
      (6 ≤ d → ∃ t, exec (.pwrDomain a) s = .next t ∧ t.answered opPwrDomain a .ok 0 [] ∧ t.domainOn d = true) ∧
      (∀ h : SlotId, h.val + 2 = d → s.slots[h.val].presented = false →
        (s.slots[h.val].vbus = true → s.nsf.entryOff = false → s.hubSide = true → s.glb.phase ≠ 0xE →
          ∃ t, exec (.pwrDomain a) s = .next t ∧ t.answered opPwrDomain a .ok 0 [] ∧ t.domainOn d = true ∧
            t.slots[h.val].presented = true) ∧
        (s.slots[h.val].vbus = false → ∃ t, exec (.pwrDomain a) s = .next t ∧
          t.inFlight opPwrDomain a .effected (.domainOn d) ∧ t.domainOn d = true ∧ t.slots[h.val].presented = false))) ∧
    (s.domainOn d = true → testBit a.arg1 0 = false → (callerSlot a.caller).map (fun h => h.val + 2) ≠ some d →
      s.glb.drain = .none → ∃ t, exec (.pwrDomain a) s = .next t ∧ t.inFlight opPwrDomain a .effected .drain ∧
        t.glb.drain = .domain d ∧ t.glb.drained = 0 ∧ t.pwr = s.pwr ∧ t.ports = s.ports) ∧
    (s.domainOn d = true → testBit a.arg1 0 = false → (callerSlot a.caller).map (fun h => h.val + 2) = some d →
      ∃ t, exec (.pwrDomain a) s = .next t ∧ t.answered opPwrDomain a .eBusy 0 [] ∧
        (s.leaveS1 0xC0).SameButAnswer t a.caller [])) ∧
  (∀ s : State, s.draining = [] →
    (∀ d, s.glb.drain = .domain d → 2 ≤ d → ∃ t, exec .drainEnd s = .next t ∧ t.glb.drain = .none ∧ t.domainOn d = false ∧
      t.anyEntry (fun e => e.wait == .drain) = false) ∧
    (s.glb.drain = .sleep → ∃ t, exec .drainEnd s = .next t ∧ t.glb.drain = .none ∧
      t.anyEntry (fun e => e.wait == .sleep) = false ∧ t.nsf = s.nsf)) ∧
  (∀ s : State, s.glb.drain ≠ .none → ∃ t, exec .drainTimeout s = .next t ∧ t.glb.drain = .none ∧
    ∀ h : SlotId, ∀ e ∈ t.slots[h.val].till, s.drains (some h) e = false)

/-- LDG_RD, LDG_WR (R188, R385), PLANE_CFG, PLANE_VISIT (R392, R393) and INLAY_QUERY (R396). -/
def Obligations.LedgerCommandsReadWriteAndRepair : Prop :=
  (∀ (a : CmdArgs) (s : State), s.ldg.Ok → s.takes opLdgRd a = true →
    let addr := a.arg0.toNat
    let len := a.arg1.toNat
    (addr % 8 = 0 → len % 8 = 0 → 0x300000 ≤ addr → addr + len ≤ 0x400000 →
      (∀ line, addr / 64 ≤ line → 64 * line < addr + len → s.ldg.isWritten line = true ∧ s.ldg.diff line = 0 ∧
        ∀ e ∈ s.ldg.inlay, e.line = line → e.agree = true) →
      ∃ t, exec (.ldgRd a) s = .next t ∧
        t.answered opLdgRd a .ok 0 ((List.range len).map fun i => memGet (addr + i) s.ldg.mem) ∧
        (s.leaveS1 0xA0).SameButAnswer t a.caller []) ∧
    (addr % 64 = 0 → len = 64 → 0x300000 ≤ addr → addr + len ≤ 0x400000 → s.ldg.isWritten (addr / 64) = false →
      ∃ t, exec (.ldgRd a) s = .next t ∧ t.answered opLdgRd a .okUnwritten 0 (List.replicate 64 0) ∧
        (s.leaveS1 0xA0).SameButAnswer t a.caller []) ∧
    (addr % 8 ≠ 0 ∨ len % 8 ≠ 0 → ∃ t, exec (.ldgRd a) s = .next t ∧ t.answered opLdgRd a .eAlign 0 [] ∧
      (s.leaveS1 0xA0).SameButAnswer t a.caller [])) ∧
  (∀ (a : CmdArgs) (s : State), s.ldg.Ok → s.takes opLdgWr a = true →
    let addr := a.arg0.toNat
    let len := a.params.length
    (addr % 8 = 0 → len % 8 = 0 → ∃ t, exec (.ldgWr a) s = .next t ∧ t.answered opLdgWr a .ok 0 [] ∧
      (∀ i, i < len → memGet (addr + i) t.ldg.mem = a.params.getD i 0) ∧
      (∀ x, x < addr ∨ addr + len ≤ x → memGet x t.ldg.mem = memGet x s.ldg.mem) ∧
      (∀ line, addr / 64 ≤ line → 64 * line < addr + len → t.ldg.isWritten line = true) ∧
      t.ports = s.ports ∧ t.pwr = s.pwr ∧ t.mint = s.mint ∧ t.orders = s.orders) ∧
    (addr % 8 ≠ 0 ∨ len % 8 ≠ 0 → ∃ t, exec (.ldgWr a) s = .next t ∧ t.answered opLdgWr a .eAlign 0 [] ∧
      (s.leaveS1 0xA1).SameButAnswer t a.caller [])) ∧
  (∀ (a : CmdArgs) (s : State), s.takes opPlaneCfg a = true → ∃ t, exec (.planeCfg a) s = .next t ∧
    t.answered opPlaneCfg a .ok 0 [] ∧
    ((s.leaveS1 0xA2).modLdg fun g => { g with rate := BitVec.ofNat 13 a.arg0.toNat }).SameButAnswer t a.caller []) ∧
  (∀ (a : CmdArgs) (s : State), s.takes opInlayQuery a = true → ∃ t data, exec (.inlayQuery a) s = .next t ∧
    t.answered opInlayQuery a .ok 0 data ∧ data.length = 64 ∧ (s.leaveS1 0xA3).SameButAnswer t a.caller [] ∧
    ∀ i : Fin 8, (∀ e, s.ldg.inlay[i.val]? = some e → leAt data (8 * i.val) 4 = e.n.toNat ∧
        leAt data (8 * i.val + 4) 4 = e.hi.toNat) ∧
      (s.ldg.inlay[i.val]? = none → leAt data (8 * i.val) 8 = 0)) ∧
  (∀ s : State, s.hubSide = true →
    let k := s.ldg.visit.toNat
    (s.ldg.queue = [] → s.ldg.diff (0x4000 * (k % 8) + k / 8) = 0 →
      s.ldg.suspect.contains (0x4000 * (k % 8) + k / 8) = false → (∀ e ∈ s.ldg.inlay, e.agree = true) → ∃ t, exec .planeVisit s = .next t ∧
      t.ldg.visit = s.ldg.visit + 1 ∧ t.ldg.passes = (if k = 131071 then satAdd s.ldg.passes 1 else s.ldg.passes) ∧
      t.ldg.mem = s.ldg.mem ∧ t.ldg.chk = s.ldg.chk ∧ t.glb = s.glb ∧ t.slots = s.slots) ∧
    (∀ line rest, s.ldg.Ok → s.ldg.queue = line :: rest → classOf line = .mirror → s.ldg.isWritten line = true →
      s.ldg.diff line ≠ 0 → s.ldg.isWritten (twinOf line) = true → s.ldg.diff (twinOf line) = 0 →
      (∀ e ∈ s.ldg.inlay, e.line ≠ line) → s.ldg.flip = 0 → s.ldg.badLines.contains line = false →
      ∃ t, exec .planeVisit s = .next t ∧ t.ldg.diff line = 0 ∧ t.ldg.stored line = s.ldg.stored (twinOf line) ∧
        line ∉ t.ldg.suspect ∧ line ∉ t.ldg.queue ∧ (∀ x, x / 64 ≠ line → memGet x t.ldg.mem = memGet x s.ldg.mem)))

/-- TLY_SET (R247), TLY_MODE (R248), TLY_QUERY (R262), MSYNC_IN_EDGE, MSYNC_IN_MISSING (R249, R245) and MSYNC_OUT_PULSE
(R250). That an edge in a microframe in which none is due changes nothing is the model's choice (log entry 35). -/
def Obligations.TallyFollowsCommandsAndPins : Prop :=
  (∀ (a : CmdArgs) (s : State), s.takes opTlySet a = true →
    (s.tally.req = .locked ∧ s.followsDvt = true → ∃ t, exec (.tlySet a) s = .next t ∧ t.answered opTlySet a .eNotReady 0 [] ∧
      (s.leaveS1 0x70).SameButAnswer t a.caller []) ∧
    (¬(s.tally.req = .locked ∧ s.followsDvt = true) → ∃ (t : State) (j : Nat) (rest : Int), exec (.tlySet a) s = .next t ∧
      t.answered opTlySet a .ok 0 [] ∧ j < 125000 ∧ -125000 < 2 * rest ∧ 2 * rest ≤ 125000 ∧
      (leAt a.params 0 8 : Int) - ((s.tally.t + BitVec.ofNat 64 j).toNat : Int) = 125000 * t.tally.relabelT + rest ∧
      t.tally = { s.tally with relabelT := t.tally.relabelT
                               target := if s.tally.req = .slew then 256 * rest * rateUnit else s.tally.target } ∧
      t.dvt = s.dvt ∧ t.mint = s.mint ∧ t.nsf = s.nsf)) ∧
  (∀ (a : CmdArgs) (s : State), s.takes opTlyMode a = true → ∃ t, exec (.tlyMode a) s = .next t ∧
    t.answered opTlyMode a .ok 0 [] ∧
    ((s.leaveS1 0x71).modTally fun t => { t with nextReq := some (tallyModeOf a.arg0.toNat) }).SameButAnswer t a.caller [.tally]) ∧
  (∀ (a : CmdArgs) (s : State), s.takes opTlyQuery a = true → ∃ t data j, exec (.tlyQuery a) s = .next t ∧
    t.answered opTlyQuery a .ok 0 data ∧ data.length = 48 ∧ j < 125000 ∧
    leAt data 0 8 = (s.tally.t + BitVec.ofNat 64 j).toNat ∧ leAt data 8 8 = s.tally.n.toNat ∧
    leAt data 16 4 = s.tlyStatus.toNat ∧ leAt data 20 4 = s.tally.phase.toNat ∧ leAt data 24 4 = s.tally.rate.toNat ∧
    leAt data 28 4 = s.dvt.status.toNat ∧ leAt data 40 8 = s.tally.msiTs.toNat ∧ t.tally = s.tally ∧ t.dvt = s.dvt) ∧
  (∀ (rising : Bool) (ts : Dword) (w : Nat) (s : State), w < 50 → exec (.msyncInEdge rising ts w) s = .next s) ∧
  (∀ (rising : Bool) (ts : Dword) (w : Nat) (s : State), s.tally.running = true → s.followsMsync = true →
    rising ≠ testBit s.tally.msiSnap 30 → 50 ≤ w →
    let d := (ts - s.tally.sofTime).toInt - 256 * (msOffset s.tally.msiSnap : Int)
    let e := reduceBy mfUnits d
    let locked := s.tally.mode = .locked ∧ s.tally.req = .locked
    let due := s.tally.edgeDue ((s.glb.clock : Int) + (d - e) / mfUnits)
    (¬locked → ∃ t, exec (.msyncInEdge rising ts w) s = .next t ∧ t.tally.msiTs = ts ∧ t.tally.refOk = true ∧
      t.tally.missing = 0 ∧ t.tally.phase = BitVec.ofInt 32 e) ∧
    (locked → -256000 ≤ e → e ≤ 256000 → due = true →
      ∃ t, exec (.msyncInEdge rising ts w) s = .next t ∧ t.tally.msiTs = ts ∧ t.tally.phase = BitVec.ofInt 32 e ∧
        t.tally.mode = .locked ∧ t.tally.bad = 0) ∧
    (locked → due = false → exec (.msyncInEdge rising ts w) s = .next s) ∧
    (locked → e < -256000 ∨ 256000 < e → due = true → ∃ t, exec (.msyncInEdge rising ts w) s = .next t ∧
      t.tally.outliers = satAdd s.tally.outliers 1 ∧ t.tally.msiTs = s.tally.msiTs ∧ t.tally.phase = s.tally.phase ∧
      t.tally.mode = (if 4 ≤ s.tally.bad + 1 then .slew else .locked))) ∧
  (∀ s : State, s.tally.running = true → s.followsMsync = true → s.tally.msiFirst.isSome = true →
    (s.tally.missing.toNat ≠ 3 →
      exec .msyncInMissing s = .next (s.modTally fun t => { t with missing := satAdd t.missing 1 })) ∧
    (s.tally.missing.toNat = 3 → ∃ t, exec .msyncInMissing s = .next t ∧ t.tally.refOk = false ∧ t.tally.missing = 4 ∧
      (s.tally.req = .locked → s.tally.everLocked = true → t.tally.mode = .free) ∧
      (s.tally.req = .locked → s.tally.everLocked = false → t.tally.mode = .slew ∧ t.tally.rate = s.tally.rate))) ∧
  (∀ s : State, s.tally.running = true → testBit s.tally.msoSnap 31 = true →
    s.tally.n.toNat % msPeriod s.tally.msoSnap = 0 →
    let target := s.tally.t + BitVec.ofNat 64 (msOffset s.tally.msoSnap)
    ∃ (t : State) (j : Nat), exec .msyncOutPulse s = .next t ∧ j ≤ 768 ∧
      t.tally = { s.tally with msoPulse := some (target, max 100 s.tally.widSnap.toNat, !testBit s.tally.msoSnap 30)
                               msoTs := (target <<< 8) + BitVec.ofInt 64 ((j : Int) - 384) })

/-- DOVETAIL_TRAIN_RECEIVED, DOVETAIL_TRAIN_TIMEOUT (R253 to R255), DOVETAIL_SYNC_LAUNCH, DOVETAIL_SYNC_RECEIVED (R256),
DOVETAIL_HOLD_RECEIVED (R257), DOVE_IN_LOSS and DOVE_IN_RETURN (R259). CONFLICT on a frame with the device's own address that
it did not send, and what DOVE_IN_RETURN takes back, are the model's choices (log entry 178). -/
def Obligations.DovetailFramesTrainTimeAndHold : Prop :=
  ∀ s : State, s.dvtRuns = true →
    (s.dvt.bypass = true → ∀ f x, exec (.dovetailTrainReceived f x) s =
      .next (s.modDvt fun d => { d with linkIn := true, sent := [f.bytes] })) ∧
    (s.dvt.bypass = false → ∀ (f : DoveFrame) x, f.broken = true ∨ crc16Ok 3 f.bytes = false →
      exec (.dovetailTrainReceived f x) s = .next (s.modDvt fun d =>
        { d with linkIn := true, codeErr := satAdd d.codeErr f.invalid, crcErr := satAdd d.crcErr 1 })) ∧
    (s.dvt.bypass = false → ∀ (o : BitVec 7) (hop : Byte) (i : Nat) (own : Bool) x, o ≠ s.mgmtAddress →
      ∃ t, exec (.dovetailTrainReceived ⟨trainFrame o hop, false, i, own⟩ x) s = .next t ∧
        t.dvt.sent = [trainFrame o (hop + 1)] ∧ t.dvt.linkIn = true ∧ t.dvt.codeErr = satAdd s.dvt.codeErr i ∧
        t.dvt.trained = s.dvt.trained ∧ t.dvt.chainPos = s.dvt.chainPos) ∧
    (s.dvt.bypass = false → ∀ (hop : Byte) (i : Nat) x, s.dvt.trained = false →
      ∃ t, exec (.dovetailTrainReceived ⟨trainFrame s.mgmtAddress hop, false, i, false⟩ x) s = .next t ∧
        t.dvt.conflict = true ∧ t.dvt.trained = false) ∧
    (s.dvt.bypass = false → ∀ (hop : Byte) (i : Nat) x,
      let size := hop.toNat + 1
      let pos := positionOf s.mgmtAddress s.dvt.heard
      s.dvt.trained = false → s.dvt.conflict = false → s.dvt.heard.length + 1 = size → s.dvt.candidate = (size, pos) →
      s.dvt.rounds = 15 → size ≤ 3 → pos < 3 →
      ∃ t, exec (.dovetailTrainReceived ⟨trainFrame s.mgmtAddress hop, false, i, true⟩ x) s = .next t ∧
        t.dvt.trained = true ∧ t.dvt.chainPos.toNat = pos ∧ t.dvt.ringSize.toNat = size ∧ t.dvt.ringDelay = x ∧
        t.glb.dvt = 2) ∧
    (s.glb.phase = 5 → s.dvt.trained = false → ∃ t, exec .dovetailTrainTimeout s = .next t ∧ t.glb.dvt = 3 ∧ t.glb.phase = 6) ∧
    (s.tally.running = true → s.dvt.trained = true → ∃ (t : State) (j : Nat), exec .dovetailSyncLaunch s = .next t ∧ j ≤ 128 ∧
      t.dvt.sent = [syncFrame s.dvt.chainPos.toNat s.tally.mode
        (s.tally.sofTime + 16000000 + BitVec.ofInt 64 ((j : Int) - 64)) s.tally.n]) ∧
    (s.dvt.bypass = false → s.dvt.trained = true → s.followsDvt = true → s.tally.running = true →
      ∀ (p : Nat) (m : TallyMode) (launch ns arrival : Dword) (i : Nat) (by_ : Bool),
      let own := arrival - BitVec.ofNat 64 (s.dvtDelay + s.dvt.cableSnap.toNat)
      let e := reduceBy mfUnits (own - launch).toInt
      ∃ t, exec (.dovetailSyncReceived ⟨syncFrame p m launch ns, false, i, by_⟩ arrival) s = .next t ∧ t.dvt.syncSeen = true ∧
        t.dvt.syncMissing = 0 ∧ t.tally.refOk = true ∧ t.tally.missing = 0 ∧
        mfUnits * t.tally.relabelT = e - (own - launch).toInt) ∧
    (s.dvt.bypass = false → s.dvt.trained = true → ∀ (o : BitVec 2) (cause i : Nat) (q : Byte) (by_ : Bool), cause < 64 → o ≠ s.dvt.chainPos →
      (∀ y ∈ s.dvt.seen, y.1 = o → y.2.1 = q → y.2.2 + 8 ≤ s.glb.clock) →
      ∃ t, exec (.dovetailHoldReceived ⟨holdFrame o cause q, false, i, by_⟩) s = .next t ∧
        t.dvt.sent = List.replicate 3 (holdFrame o cause q) ∧ t.dvt.holdRx = satAdd s.dvt.holdRx 1 ∧
        ∀ g : GroupId, testBit s.dvt.holdSnap g.val = true →
          (s.mint.sent = true → testBit t.mint.groups[g.val].pend 8 = true) ∧
          (s.mint.sent = false → testBit t.mint.groups[g.val].cause 8 = true)) ∧
    (s.dvt.linkIn = true → ∀ i : Nat, ∃ t, exec (.doveInLoss i) s = .next t ∧ t.dvt.linkIn = false ∧ t.dvt.ringSize = 0 ∧
      t.dvt.codeErr = satAdd s.dvt.codeErr i ∧
      t.dvt.chainPos = s.dvt.chainPos ∧ (s.followsDvt = true → t.tally.refOk = false) ∧
      ∀ g : GroupId, s.dvt.lossSnap = true → testBit s.dvt.holdSnap g.val = true →
        testBit t.mint.groups[g.val].pend 9 = true) ∧
    (s.dvt.linkIn = false → exec .doveInReturn s = .next (s.modDvt fun d => { d with
      linkIn := true, trained := false, training := true, bypass := false, conflict := false, rounds := 0, heard := [] }))

/-- MNT_CFG, MNT_SEG, MNT_START, MNT_HOLD, MNT_RELEASE, MNT_QUERY, MNT_FBTEMPLATE, FEEDBACK_MISSING, MNT_START_ABANDON and
MINT_SEND (file 09). -/
def Obligations.MintCommandsTakeEffectAtSnapshots : Prop :=
  (∀ (a : CmdArgs) (s : State), s.takes opMntCfg a = true →
    let c := chanArg a
    let r := chanRecOf a.params
    (r.enable = true → s.mode r.port = .proxy ∧ ∃ o, s.coveringOn c r.port = [o] ∧
      s.frameSize o.firstCh o.nch (some (c, r)) ≤ o.length) →
    s.leavesFeedback c r.port = false → s.groupBusy r.group = false →
    (∀ g, s.chanGroup c = some g → s.groupBusy g = false) →
    (∀ g, s.chanGroup c = some g → g ≠ r.group → s.groupHeld g = false ∧ s.groupHeld r.group = false) →
    ∃ t, exec (.mntCfg a) s = .next t ∧ t.answered opMntCfg a .ok 0 [] ∧
      ((s.leaveS1 0x50).pendMint (.config c r (testBit (BitVec.ofNat 8 (leAt a.params 0 1)) 2)
        (testBit (BitVec.ofNat 8 (leAt a.params 0 1)) 3))).SameButAnswer t a.caller [.mint]) ∧
  (∀ (a : CmdArgs) (s : State), s.takes opMntSeg a = true →
    let c := chanArg a
    let n := a.params.length / 48
    s.chanEnabled c = true → (∀ g, s.chanGroup c = some g → s.mint.groups[g.val].state ≠ .holding ∧
      s.mint.groups[g.val].state ≠ .held) → n ≤ s.queueFree c →
    ∃ t, exec (.mntSeg a) s = .next t ∧ t.answered opMntSeg a .ok (toWord (s.queueFree c - n)) [] ∧
      ((s.leaveS1 0x51).pendMint (.segments c ((segmentBytes n a.params).map segmentOf))).SameButAnswer t a.caller []) ∧
  (∀ (a : CmdArgs) (s : State), s.takes opMntStart a = true →
    let next : Dword := s.tally.n + 1
    let ahead : Int := if a.arg1 = 0 then 0 else (a.arg1 - next.setWidth 32).toInt
    let ns : Dword := next + BitVec.ofInt 64 ahead
    0 ≤ ahead → ahead < 8000000 →
    (∀ g ∈ groupsArg a, s.groupEnabled g ≠ [] ∧
      (s.mint.groups[g.val].state = .idle ∨ (s.mint.groups[g.val].state = .running ∧ s.mint.groups[g.val].armedRun = none))) →
    ∃ t, exec (.mntStart a) s = .next t ∧ t.answered opMntStart a .ok (ns.setWidth 32) [] ∧
      (∀ g ∈ groupsArg a,
        (s.mint.groups[g.val].state = .idle → t.mint.groups[g.val].state = .armed ∧ t.mint.groups[g.val].armed = some ns) ∧
        (s.mint.groups[g.val].state = .running →
          t.mint.groups[g.val] = { s.mint.groups[g.val] with armedRun := some ns })) ∧
      (∀ g : GroupId, g ∉ groupsArg a → t.mint.groups[g.val] = s.mint.groups[g.val]) ∧ t.mint.chans = s.mint.chans) ∧
  (∀ (a : CmdArgs) (s : State), s.takes opMntHold a = true →
    (testBit a.arg1 0 = false → ∃ t, exec (.mntHold a) s = .next t ∧ t.answered opMntHold a .ok 0 [] ∧
      ∀ g ∈ groupsArg a, testBit t.mint.groups[g.val].pend 0 = true ∧
        t.mint.groups[g.val].state = s.mint.groups[g.val].state) ∧
    (testBit a.arg1 0 = true → a.arg0 ≠ 0 → ∃ t, exec (.mntHold a) s = .next t ∧
      t.inFlight opMntHold a .effected (.mintStop (a.arg0.setWidth 16)) ∧
      ∀ g ∈ groupsArg a, testBit t.mint.groups[g.val].pend 0 = true)) ∧
  (∀ (a : CmdArgs) (s : State), s.takes opMntRelease a = true →
    (∀ g ∈ groupsArg a, s.mint.groups[g.val].state ≠ .holding ∧
      (s.groupHeld g = true → ∀ k ∈ s.portsOfChans (s.groupEnabled g), s.isActive k = true)) →
    ∃ t, exec (.mntRelease a) s = .next t ∧ t.answered opMntRelease a .ok 0 [] ∧
      ∀ g : GroupId, t.mint.groups[g.val] = if g ∈ groupsArg a ∧ s.groupHeld g = true then
        { s.mint.groups[g.val] with release := true } else s.mint.groups[g.val]) ∧
  (∀ (a : CmdArgs) (s : State), s.takes opMntQuery a = true → ∃ t data, exec (.mntQuery a) s = .next t ∧
    t.answered opMntQuery a .ok 0 data ∧ data.length = 112 ∧
    data.take 64 = fitTo 64 ((s.mint.chans[(chanArg a).val].cfg.map (·.raw)).getD []) ∧
    data.drop 64 = fitTo 48 s.mint.chans[(chanArg a).val].data48 ∧ (s.leaveS1 0x55).SameButAnswer t a.caller []) ∧
  (∀ (a : CmdArgs) (s : State), s.takes opMntFbtemplate a = true →
    let u := templArg a
    let p := programOf a.params
    let old := s.mint.templates[u.val].prog
    (∀ w, w ≠ u → ∀ c ∈ templChans (s.templAfter w), c ∉ templChans p) →
    (p = [] → s.feedbackOrder u = none) → (∀ c ∈ templChans old, s.chanEnabled c = false) →
    ∃ t, exec (.mntFbtemplate a) s = .next t ∧ t.answered opMntFbtemplate a .ok 0 [] ∧
      ((s.leaveS1 0x56).pendMint (.template u p)).SameButAnswer t a.caller [.mint]) ∧
  (∀ (c : ChanId) (g : GroupId) (s : State), s.mint.chans[c.val].missDue = true → s.chanGroup c = some g →
    ∃ t, exec (.feedbackMissing c) s = .next t ∧ t.mint.chans[c.val].missDue = false ∧
      testBit t.mint.groups[g.val].pend 3 = true ∧ t.mint.groups[g.val].state = s.mint.groups[g.val].state) ∧
  (∀ (g : GroupId) (ns : Dword) (s : State), s.mint.groups[g.val].state = .armed → s.mint.groups[g.val].armed = some ns →
    800 ≤ s.since ns → ∃ t, exec (.mntStartAbandon g) s = .next t ∧ t.mint.groups[g.val].state = .idle ∧
      t.mint.groups[g.val].armed = none ∧ t.mint.chans = s.mint.chans) ∧
  (∀ s : State, s.tally.running = true → s.mint.sent = false → ∃ t, exec .mintSend s = .next t ∧ t.mint.sent = true ∧
    t.mint.sentN = s.tally.n ∧ t.clr.open_ = true ∧
    ∀ (c : ChanId) (r : ChanRec), s.mint.chans[c.val].cfg = some r → r.enable = true → s.mint.chans[c.val].history = true →
      t.mint.chans[c.val].last =
        if s.mint.groups[r.group.val].state = .holding ∨ s.mint.groups[r.group.val].early = true then s.mint.chans[c.val].stopped
        else s.mint.chans[c.val].planned)

/-- CLR_BODY, CLR_PAIR, CLR_ARM, CLR_DISARM, CLEARANCE_SLOT and YOUNG_COUNT_EXPIRY (file 10). -/
def Obligations.ClearanceArmsJudgesAndHolds : Prop :=
  (∀ (a : CmdArgs) (s : State), s.takes opClrBody a = true →
    let r := if a.params.isEmpty then none else some (bodyRecOf a.params)
    (∀ c ∈ bodyChans r, s.mint.chans[c.val].cfg.isSome = true) →
    (∀ p : PairId, inPair (bodyArg a) p = true → s.clr.pairs[p.val].armedNow = false) →
    ∃ t, exec (.clrBody a) s = .next t ∧ t.answered opClrBody a .ok 0 [] ∧
      ((s.leaveS1 0x60).pendClr (.body (bodyArg a) r)).SameButAnswer t a.caller [.clearance]) ∧
  (∀ (a : CmdArgs) (s : State), s.takes opClrPair a = true → s.clr.pairs[(pairArg a).val].armedNow = false →
    ∃ t, exec (.clrPair a) s = .next t ∧ t.answered opClrPair a .ok 0 [] ∧
      ((s.leaveS1 0x61).pendClr (.pair (pairArg a)
        (if a.params.isEmpty then none else some (pairRecOf a.params)))).SameButAnswer t a.caller [.clearance]) ∧
  (∀ (a : CmdArgs) (s : State), s.takes opClrArm a = true →
    (∀ p ∈ pairsOf (pairMaskArg a), (s.pairAfter p).isSome = true ∧ s.bodyUnfit (pairBodies p).1 = false ∧
      s.bodyUnfit (pairBodies p).2 = false) →
    ∃ t, exec (.clrArm a) s = .next t ∧ t.answered opClrArm a .ok 0 [] ∧ t.clr.pend = s.clr.pend ++ [.arm (pairMaskArg a)] ∧
      ∀ p : PairId, t.clr.pairs[p.val] = if p ∈ pairsOf (pairMaskArg a) then { s.clr.pairs[p.val] with armedNow := true }
        else s.clr.pairs[p.val]) ∧
  (∀ (a : CmdArgs) (s : State), s.takes opClrDisarm a = true →
    ∃ t, exec (.clrDisarm a) s = .next t ∧ t.answered opClrDisarm a .ok 0 [] ∧
      ((s.leaveS1 0x63).pendClr (.disarm (pairMaskArg a))).SameButAnswer t a.caller [.clearance]) ∧
  (∀ (i : Fin 896) (p : PairId) (r : PairRec) (s : State), s.clr.open_ = true → p.val = i.val % 28 →
    s.clr.pairs[p.val].cfg = some r → s.pairRuns p = true → s.pairUnres p = false → i.val / 28 + 1 ≤ r.look →
    s.clr.pairs[p.val].runFirst = 0 → (r.clear : Int) ≤ s.clr.pairs[p.val].d0 →
    (s.pairDist p (i.val / 28 + 1) < r.clear → ∃ t, exec (.clearanceSlot i) s = .next t ∧
      t.clr.pairs[p.val].runFirst = i.val / 28 + 1 ∧
      (∀ g : GroupId, testBit r.holdGroups g.val = true → testBit t.mint.groups[g.val].pend 7 = true) ∧
      (r.holdGroups ≠ 0 → testBit t.clr.trips p.val = true)) ∧
    ((r.clear : Int) ≤ s.pairDist p (i.val / 28 + 1) → ∃ t, exec (.clearanceSlot i) s = .next t ∧
      t.clr.pairs[p.val].runFirst = 0 ∧ t.mint = s.mint ∧ t.clr.trips = s.clr.trips)) ∧
  (∀ s : State, s.clr.open_ = true → ∃ t, exec (.clearanceSlot 895) s = .next t ∧ t.clr.open_ = false ∧
    ∀ p : PairId, testBit t.clr.viol p.val = true ↔ (t.clr.pairs[p.val].state = .violated ∧ t.clr.pairs[p.val].armed = true)) ∧
  (∀ (b : BodyId) (s : State), s.clr.bodies[b.val].young = 0 →
    exec (.youngCountExpiry b) s = .next (s.modBody b fun x => { x with inflated := false }))

/-- GATE_CFG (R355, R356), MODEL_CFG (R369), ESC_PRIORITY and ESC_QUERY (R382), with their frames. ESC_BUDGET (R374) and the
removal of requests that can never fit (R378). -/
def Obligations.PowerCommandsSetTheirRecords : Prop :=
  ((∀ (a : CmdArgs) (s : State), s.takes opGateCfg a = true → leAt a.params 0 2 ≤ s.fusedMa (portArg a) →
    s.portDown (portArg a) = false → s.linkUp (portArg a) = true → s.pwr[(portArg a).val].cfgBusy = false →
    ∃ t, exec (.gateCfg a) s = .next t ∧ t.answered opGateCfg a .ok 0 [] ∧
      ((s.leaveS1 0x92).modPwr (portArg a) fun w => { w with gateRec :=
        { ilimCap := fieldOr (leAt a.params 0 2) 6000, limPct := fieldOr (leAt a.params 2 1) 110
          iramp := fieldOr (leAt a.params 4 2) 1000, rampSlew := fieldOr (leAt a.params 6 2) 10
          xslew := fieldOr (leAt a.params 8 2) 30, igMax := fieldOr (leAt a.params 10 2) 100
          rshunt := fieldOr (leAt a.params 12 4) 5000, coolMs := fieldOr (leAt a.params 16 4) 2000 } }).SameButAnswer
        t a.caller []) ∧
  (∀ (a : CmdArgs) (s : State), s.takes opModelCfg a = true →
    s.portDown (portArg a) = false → s.linkUp (portArg a) = true → s.pwr[(portArg a).val].cfgBusy = false →
    ∃ t, exec (.modelCfg a) s = .next t ∧ t.answered opModelCfg a .ok 0 [] ∧
      ((s.leaveS1 0x93).modPwr (portArg a) fun w => { w with modelRec :=
        { r1 := fieldOr (leAt a.params 0 2) 500, r2 := fieldOr (leAt a.params 2 2) 2000, r3 := fieldOr (leAt a.params 4 2) 20000
          trip := fieldOr (leAt a.params 6 2) 1500, tau1 := fieldOr (leAt a.params 8 4) 100
          tau2 := fieldOr (leAt a.params 12 4) 10000, tau3 := fieldOr (leAt a.params 16 4) 2000000
          rdsHot := fieldOr (leAt a.params 20 2) 15000, coolDelta := fieldOr (leAt a.params 22 1) 20
          warnDelta := fieldOr (leAt a.params 23 1) 15 } }).SameButAnswer t a.caller []) ∧
  (∀ (a : CmdArgs) (s : State), s.takes opEscPriority a = true → s.portDown (portArg a) = false →
    ∃ t, exec (.escPriority a) s = .next t ∧ t.answered opEscPriority a .ok 0 [] ∧
      ((s.leaveS1 0x91).modPwr (portArg a) fun w => { w with priority := BitVec.ofNat 3 a.arg1.toNat }).SameButAnswer
        t a.caller []) ∧
  (∀ (a : CmdArgs) (s : State), s.takes opEscQuery a = true →
    ∃ t data, exec (.escQuery a) s = .next t ∧ t.answered opEscQuery a .ok 0 data ∧ data.length = 224 ∧
      leAt data 0 4 = s.escrow.budgetL.toNat ∧ leAt data 4 4 = s.escrow.budgetH.toNat ∧ leAt data 8 4 = s.escrow.budgetV.toNat ∧
      leAt data 12 4 = s.chargeL % 4294967296 ∧ leAt data 16 4 = s.chargeH % 4294967296 ∧
      leAt data 20 4 = s.chargeV % 4294967296 ∧ (s.leaveS1 0x94).SameButAnswer t a.caller [])) ∧
  (∀ (a : CmdArgs) (s : State), s.takes opEscBudget a = true →
    ∃ t, exec (.escBudget a) s = .next t ∧ t.answered opEscBudget a .ok 0 [] ∧
      t.escrow = { s.escrow with budgetL := toWord (leAt a.params 0 4), budgetH := toWord (leAt a.params 4 4)
                                 budgetV := toWord (leAt a.params 8 4) } ∧
      ∀ k : PortId, t.pwr[k.val].gateRec = s.pwr[k.val].gateRec ∧ t.pwr[k.val].modelRec = s.pwr[k.val].modelRec ∧
        (t.pwr[k.val].queued.isSome = true → t.pwr[k.val].queued = s.pwr[k.val].queued ∧
          t.rampCharge k ≤ (toWord (leAt a.params 0 4)).toNat))

/-- PORT_POWER (R184), its request (R377) and the switch-off (R361, R373). -/
def Obligations.PortPowerPlacesAndWithdraws : Prop :=
  ∀ (a : CmdArgs) (s : State), s.takes opPortPower a = true → s.portDown (portArg a) = false → s.mode (portArg a) ≠ .off →
    let k := portArg a
    (testBit a.arg1 0 = true → s.pwr[k.val].vbusOn = true →
      ∃ t, exec (.portPower a) s = .next t ∧ t.answered opPortPower a .ok (s.prtState k) [] ∧
        ((s.leaveS1 0x21).modPwr k fun w => { w with want := true }).SameButAnswer t a.caller []) ∧
    (testBit a.arg1 0 = true → s.pwr[k.val].vbusOn = false → s.attached k = false → s.pwr[k.val].busy = false →
      s.rampCharge k ≤ s.escrow.budgetL.toNat →
      ∃ t, exec (.portPower a) s = .next t ∧ t.inFlight opPortPower a .dispatched (.portOn k) ∧
        t.pwr = vmod s.pwr k (fun w => { w with want := true }) ∧ t.ports = s.ports ∧ t.pd = s.pd ∧ t.escrow = s.escrow) ∧
    (testBit a.arg1 0 = true → s.pwr[k.val].vbusOn = false → s.pwr[k.val].busy = false →
      s.escrow.budgetL.toNat < s.rampCharge k →
      ∃ t, exec (.portPower a) s = .next t ∧ t.answered opPortPower a .eBudget (s.prtState k) [] ∧ t.pwr = s.pwr) ∧
    (testBit a.arg1 0 = false → s.powered k = true → s.linkUp k = true →
      ∃ t, exec (.portPower a) s = .next t ∧ t.inFlight opPortPower a .effected (.portOff k) ∧
        t.pwr = vmod s.pwr k (fun w => { w with
          want := false, queued := none, budgetWait := false, gateL := false, gateH := false, ramp := .none, trans := .none
          vbusOn := false, limiting := false, vbusLow := false, disch := true, offPending := true, slot := false
          chgL := 0, oldL := 0, chgH := 0, oldH := 0, inrushL := 0, inrushH := 0 }) ∧
        t.pd[k.val].contract = none) ∧
    (testBit a.arg1 0 = false → s.powered k = false → s.pwr[k.val].offPending = false →
      ∃ t, exec (.portPower a) s = .next t ∧ t.answered opPortPower a .ok (s.prtState k) [] ∧
        t.pwr = vmod s.pwr k (fun w => { w with want := false, queued := none, budgetWait := false }))

/-- Events that change only the fields they name: seating (R353), ramp phases (R357), the end of limiting (R364), DISCH
released (R360), VGD (R53) and the 5 V rail (R377). -/
def Obligations.SeatPinsAndRampStepsAct : Prop :=
  (∀ (k : PortId) (x y : Bool) (s : State), s.stileLive k = true →
    exec (.seatPinChange k x y) s = .next (s.modPwr k fun w => { w with seatA := x, seatB := y })) ∧
  (∀ (k : PortId) (s : State), s.stileLive k = true →
    ∃ t, exec (.seatingConfirmed k) s = .next t ∧
      t.pwr = vmod s.pwr k (fun w => { w with seatA := true, seatB := true, seatOk := true }) ∧ t.pd[k.val].cc ≠ .seatWait ∧
      (s.pd[k.val].cc ≠ .seatWait → t.pd = s.pd) ∧ t.ports = s.ports ∧ t.slots = s.slots) ∧
  (∀ (k : PortId) (s : State), s.stileLive k = true → s.pwr[k.val].ramp = .precharge →
    exec (.rampPrechargeEnd k) s = .next (s.modPwr k fun w => { w with ramp := .slew })) ∧
  (∀ (k : PortId) (s : State), s.stileLive k = true → s.pwr[k.val].ramp = .slew →
    (∀ mv : Nat, 4750 ≤ mv → exec (.rampSlewEnd k mv) s = .next (s.modPwr k fun w => { w with ramp := .enhance, vbusMv := mv })) ∧
    ∀ mv : Nat, mv < 4750 → exec (.rampSlewEnd k mv) s = .next s) ∧
  (∀ (k : PortId) (s : State), s.stileLive k = true → s.pwr[k.val].limiting = true →
    exec (.limitingEnd k) s = .next (s.modPwr k fun w => { w with limiting := false })) ∧
  (∀ (k : PortId) (s : State), s.stileLive k = true → s.pwr[k.val].trans = .down → s.pwr[k.val].disch = true →
    exec (.dischargeTo5v k) s = .next (s.modPwr k fun w => { w with disch := false, vbusMv := min w.vbusMv 5500 })) ∧
  (∀ (i : StileId) (s : State), s.stiles[i.val].vgdPresent = true →
    exec (.vgdRecover i) s = .next (s.modStile i fun x => { x with vgdOk := true })) ∧
  (∀ (i : StileId) (mv : Nat) (s : State), s.stiles[i.val].vgdPresent = true → 4750 ≤ mv → mv ≤ 5250 →
    exec (.rail5vInRange i mv) s = .next (s.modStile i fun x => { x with railLMv := mv }))

/-- ESCROW_GRANT (R377): charges (R375), slots (R376) and the start of the ramp (R357). -/
def Obligations.GrantStartsTheRamp : Prop :=
  ∀ (k : PortId) (l : List PortId) (s : State), s.awake = true → s.queue = k :: l → s.ready k = true →
    s.slotsDev < s.escrow.rampsDev.toNat → s.slotsOn (stileOf k) < s.escrow.rampsStile.toNat →
    s.chargeL + s.rampCharge k ≤ s.escrow.budgetL.toNat →
    ∃ t, exec .escrowGrant s = .next t ∧ t.pwr[k.val].queued = none ∧ t.pwr[k.val].slot = true ∧
      t.pwr[k.val].ramp = .precharge ∧ t.pwr[k.val].gateL = true ∧ t.pwr[k.val].disch = false ∧
      t.pwr[k.val].chgL = 5 * rpMa s.pd[k.val].ccRec.rp ∧ t.pwr[k.val].inrushL = 5 * s.pwr[k.val].gateRec.iramp ∧
      t.escrow = s.escrow ∧ t.ports = s.ports

/-- PORT_POWER_GOOD (R357), TRANSITION_SETTLED (R342, R359, R360), SWITCH_OFF_DISCHARGED and SWITCH_OFF_DISCH_TIMEOUT (R361,
R51). -/
def Obligations.PowerGoodAndSettlingEndRamps : Prop :=
  (∀ (k : PortId) (mv vgs : Nat) (s : State), s.stileLive k = true → s.pwr[k.val].ramp = .enhance → 4750 ≤ mv → 9000 ≤ vgs →
    ∃ t, exec (.portPowerGood k mv vgs) s = .next t ∧ t.pwr[k.val].vbusOn = true ∧ t.pwr[k.val].ramp = .none ∧
      t.pwr[k.val].vbusMv = mv ∧ t.pwr[k.val].inrushL = 0 ∧ t.pwr[k.val].slot = false ∧
      t.pwr[k.val].chgL = s.pwr[k.val].chgL ∧ (s.ports[k.val].test = none → t.ports[k.val].state = .powered)) ∧
  (∀ (k : PortId) (mv vgs : Nat) (s : State), mv < 4750 ∨ vgs < 9000 → exec (.portPowerGood k mv vgs) s = .next s) ∧
  (∀ (k : PortId) (mv : Nat) (s : State), s.stileLive k = true → s.settledAt k mv = true →
    ∃ t, exec (.transitionSettled k mv) s = .next t ∧ t.pwr[k.val].trans = .none ∧
      t.pwr[k.val].gateH = (s.pwr[k.val].trans == .up) ∧ t.pwr[k.val].gateL = !(s.pwr[k.val].trans == .up) ∧
      t.pwr[k.val].slot = false ∧ t.pwr[k.val].inrushL = 0 ∧ t.pwr[k.val].inrushH = 0 ∧ t.pwr[k.val].oldL = 0 ∧
      t.pwr[k.val].oldH = 0 ∧
      (s.pd[k.val].tx = none → ∃ x, t.pd[k.val].tx = some x ∧ x.origin = .psRdyContract ∧ x.bytes = [6, 0] ∧ x.sop = 0) ∧
      (s.pd[k.val].tx.isSome = true → t.pd = vmod s.pd k fun p => { p with psDue := some .psRdyContract })) ∧
  (∀ (k : PortId) (mv : Nat) (s : State), s.stiles[(stileOf k).val].vgdPresent = true → s.pwr[k.val].offPending = true →
    mv < 800 → ∃ t, exec (.switchOffDischarged k mv) s = .next t ∧ t.pwr[k.val].disch = false ∧
      t.pwr[k.val].offPending = false ∧ t.pwr[k.val].vbusMv = mv) ∧
  (∀ (k : PortId) (mv : Nat) (s : State), s.stileLive k = true → s.pwr[k.val].offPending = true → s.pwr[k.val].disch = true →
    800 ≤ mv →
    ∃ t, exec (.switchOffDischTimeout k mv) s = .next t ∧
      t.pwr = vmod s.pwr k (fun w => { w with disch := false, vbusMv := mv }) ∧ t.ports = s.ports)

/-- The trips of R365, R366, R357, R360 and R370, and what they do (R367, R368). -/
def Obligations.TripsOpenThePaths : Prop :=
  ∀ (k : PortId) (s : State), s.stileLive k = true →
    (∀ (i : Int) (mv : Nat), s.powered k = true → s.fastThreshold k ≤ i.natAbs →
      ∃ t, exec (.fastTrip k i mv) s = .next t ∧ s.Tripped t k 2 ∧
        t.pwr[k.val].cntFast = satAdd s.pwr[k.val].cntFast 1) ∧
    (∀ mv : Nat, s.pwr[k.val].steady = true → 11 * s.vRef k + 5000 < 10 * mv →
      ∃ t, exec (.overVoltage k mv) s = .next t ∧ s.Tripped t k 3) ∧
    (s.pwr[k.val].ramp ≠ .none → ∃ t, exec (.rampTimeout k) s = .next t ∧ s.Tripped t k 3) ∧
    (s.pwr[k.val].trans = .down → s.pwr[k.val].disch = true →
      ∃ t, exec (.dischargeFailure k) s = .next t ∧ s.Tripped t k 3 ∧ t.pwr[k.val].disch = false)

/-- THERMAL_MODEL_STEP (R370, R63, R64). The way of rounding a rise is left open by the spec: the six Booleans stand for it. -/
def Obligations.ThermalModelSteps : Prop :=
  ∀ (k : PortId) (m : StileSample) (s : State), s.stiles[(stileOf k).val].vgdPresent = true →
    let w := s.pwr[k.val]
    let i := sampleMa m w.gateRec
    let both := w.trans ≠ .none
    let pL : Rat := if w.gateL = true ∨ both then pathPower w.gateRec w.modelRec i (codeMv m.railL) (codeMv m.vbus) else 0
    let pH : Rat := if w.gateH = true ∨ both then pathPower w.gateRec w.modelRec i (codeMv m.railH) (codeMv m.vbus) else 0
    let tb := s.stiles[(stileOf k).val].tb
    ∃ t, exec (.thermalModelStep k m) s = .next t ∧
      (∃ u1 u2 u3, t.pwr[k.val].fosterL = fosterStep w.fosterL w.modelRec pL u1 u2 u3) ∧
      (∃ u1 u2 u3, t.pwr[k.val].fosterH = fosterStep w.fosterH w.modelRec pH u1 u2 u3) ∧
      t.pwr[k.val].samples = w.samples + 1 ∧ t.pwr[k.val].sumMv = w.sumMv + codeMv m.vbus ∧
      t.pwr[k.val].sumMa = w.sumMa + i ∧ t.stiles[(stileOf k).val] = { s.stiles[(stileOf k).val] with
        railLMv := codeMv m.railL, railHMv := codeMv m.railH, vconnMv := codeMv m.vconnIn } ∧
      (s.powered k = true ∨ w.hot = false →
        tjAtLeast (tjOf tb t.pwr[k.val].fosterL) w.modelRec.trip = true ∨
          tjAtLeast (tjOf tb t.pwr[k.val].fosterH) w.modelRec.trip = true →
        t.pwr[k.val].gateL = false ∧ t.pwr[k.val].gateH = false ∧ t.pwr[k.val].cooling = true ∧
          t.pwr[k.val].overcurrent = true)

/-- CURRENT_LIMIT (R364), VBUS_LOW (R366), COOLDOWN_END (R368) and SEATING_LOST (R354). VGD_UNDERVOLTAGE, VGD_LOSS (R53) and
VGD_PRESENT (R371). -/
def Obligations.LimitsSeatingAndVgdActOnTheGates : Prop :=
  ((∀ (k : PortId) (i : Int) (s : State), s.stileLive k = true → s.powered k = true → s.pwr[k.val].limiting = false →
    (s.ilimEff k : Int) < i →
    ∃ t, exec (.currentLimit k i) s = .next t ∧
      t.pwr = vmod s.pwr k (fun w => { w with limiting := true, vbusLow := false, cntLimit := satAdd w.cntLimit 1 }) ∧
      t.pd = s.pd ∧ t.ports = s.ports) ∧
  (∀ (k : PortId) (mv : Nat) (s : State), s.stileLive k = true → s.pwr[k.val].steady = true → s.pwr[k.val].trans = .none →
    s.pwr[k.val].limiting = false →
    ∃ t, exec (.vbusLow k mv) s = .next t ∧
      t.pwr = vmod s.pwr k (fun w => { w with vbusLow := decide (10 * mv < 9 * s.vRef k), vbusMv := mv }) ∧
      t.pd = s.pd ∧ t.ports = s.ports) ∧
  (∀ (k : PortId) (s : State), s.stiles[(stileOf k).val].vgdPresent = true → s.pwr[k.val].cooling = true →
    s.pwr[k.val].cooled = true →
    ∃ t, exec (.cooldownEnd k) s = .next t ∧ t.pwr[k.val].cooling = false ∧ t.pwr[k.val].coolLeft = 0 ∧
      t.pwr[k.val].overcurrent = false) ∧
  (∀ (k : PortId) (s : State), s.stileLive k = true → s.pwr[k.val].seatOk = true → s.mode k ≠ .off →
    ∃ t, exec (.seatingLost k) s = .next t ∧ t.pwr[k.val].seatOk = false ∧ t.pwr[k.val].gateL = false ∧
      t.pwr[k.val].gateH = false ∧ t.pwr[k.val].cntSeat = satAdd s.pwr[k.val].cntSeat 1 ∧ t.pd[k.val].cc = .seatWait ∧
      t.ports[k.val].state = .waitAttach)) ∧
  ((∀ (i : StileId) (s : State), s.stiles[i.val].vgdOk = true →
    ∃ t, exec (.vgdUndervoltage i) s = .next t ∧ t.stiles[i.val].vgdOk = false ∧
      ∀ k : PortId, stileOf k = i → t.pwr[k.val].gateL = false ∧ t.pwr[k.val].gateH = false) ∧
  (∀ (i : StileId) (s : State), s.stiles[i.val].vgdPresent = true →
    ∃ t, exec (.vgdLoss i) s = .next t ∧ t.stiles[i.val].vgdPresent = false ∧ t.stiles[i.val].vgdOk = false ∧
      t.stiles[i.val].up = false ∧ t.stiles[i.val].tb = 1360 ∧
      ∀ k : PortId, stileOf k = i → t.pwr[k.val].gateL = false ∧ t.pwr[k.val].gateH = false ∧ t.pwr[k.val].seatOk = false ∧
        t.pwr[k.val].cooling = false ∧ t.pd[k.val].cc = .disabled) ∧
  (∀ (i : StileId) (s : State), s.stiles[i.val].vgdPresent = false →
    ∃ t, exec (.vgdPresent i) s = .next t ∧ t.stiles = vmod s.stiles i (fun x => { x with vgdPresent := true, tb := 1360 }) ∧
      ∀ k : PortId, t.pwr[k.val] = if stileOf k = i then { s.pwr[k.val] with fosterL := {}, fosterH := {}, hot := false } else s.pwr[k.val]))

/-- CC_CFG (R327, R328) and PD_CFG (R339). -/
def Obligations.CcPdRecordsComeIntoForce : Prop :=
  (∀ (a : CmdArgs) (s : State), s.takes opCcCfg a = true →
    s.withinFuse (portArg a) (rpMa (ccRecOf a.params).rp) 5000 = true → ((ccRecOf a.params).drp && s.glb.cascadeEn) = false →
    s.portDown (portArg a) = false → s.linkUp (portArg a) = true → s.attached (portArg a) = false →
    s.pwr[(portArg a).val].gateL = false →
    ∃ t, exec (.ccCfg a) s = .next t ∧ t.answered opCcCfg a .ok 0 [] ∧
      t.pd[(portArg a).val].ccRec =
        { drp := decide (bitsAt (leAt a.params 0 1) 0 2 = 1), vconnEn := (leAt a.params 0 1).testBit 2
          wake := (leAt a.params 0 1).testBit 3
          rp := if leAt a.params 1 1 = 0 then .ua80 else if leAt a.params 1 1 = 1 then .ua180 else .ua330
          attachDb := orDefault (leAt a.params 2 2) 150, detachDb := orDefault (leAt a.params 4 1) 15
          drpPeriod := orDefault (leAt a.params 5 1) 75, drpDuty := orDefault (leAt a.params 6 1) 50
          backoff := orDefault (leAt a.params 7 1) 2 } ∧
      (∀ j : PortId, j ≠ portArg a → t.pd[j.val] = s.pd[j.val]) ∧ t.pwr = s.pwr ∧ t.ports = s.ports ∧ t.escrow = s.escrow) ∧
  (∀ (a : CmdArgs) (s : State), s.takes opPdCfg a = true →
    let k := portArg a
    let r : PdRec := { pdo1 := toWord (leAt a.params 0 4), pdoH := toWord (leAt a.params 4 4), hkind := leAt a.params 8 1
                       respMs := orDefault (leAt a.params 9 1) 10 }
    s.pdoFused k r.pdo1.toNat = true → (r.hkind = 0 ∨ (s.pdoFused k r.pdoH.toNat = true ∧
      railNear s.stiles[(stileOf k).val].railHMv r.pdoH.toNat = true)) →
    s.portDown k = false → s.linkUp k = true →
    ∃ t, exec (.pdCfg a) s = .next t ∧ t.answered opPdCfg a .ok 0 [] ∧
      ((s.leaveS1 0x81).modPd k fun p => { p with pdRec := some r, cfgSinceAttach := true }).SameButAnswer t a.caller [])

/-- PD_TX (R340): reply or initiation (R335, R336), and its effect point (R187); the Accept of a Request takes its contract's
charges (R340, R375). -/
def Obligations.PdTxSendsOrWaits : Prop :=
  ∀ (a : CmdArgs) (s : State), s.takes opPdTx a = true →
    let k := portArg a
    let p := s.pd[k.val]
    let sop := a.arg1.toNat
    let win := if sop = 0 then p.reply else none
    let x : PdTx := { bytes := a.params, sop := BitVec.ofNat 2 sop, retries := 2, origin := .owner
                      replyTo := win.map fun w => (w.cls, w.ty), orphan := false }
    sop < 3 → txRangeCheck p sop a.params = none → s.portDown k = false → s.linkUp k = true → s.attached k = true →
    p.hr = .none → p.accepted = none → p.vconnSwap ≠ .waitPsRdy → p.vconnSwap ≠ .sendPsRdy →
    (isCaps a.params = true → p.pdRec.isSome = true) → p.txBusy = false →
    (isMsg a.params 0 11 = true → ∀ y, p.waitTimer ≠ some (y, false)) →
    ((win.isSome = true ∨ sop ≠ 0 ∨
        (isMsg a.params 0 4 = false ∧ isMsg a.params 0 12 = false ∧ isMsg a.params 0 16 = false)) →
      (sop = 0 → isMsg a.params 0 3 = false) →
      (s.needsVconn k sop a.params = true → s.chargeV + 1000 ≤ s.escrow.budgetV.toNat) →
      ∃ t, exec (.pdTx a) s = .next t ∧
        (win.isSome = true ∨ p.avoids = false →
          t.pd = vmod s.pd k (fun p => { p with
            tx := some x, wire := some (x.sop, p.wireBytes x.sop (chunkMsg a.params 0))
            reply := if sop = 0 then none else p.reply }) ∧ t.inFlight opPdTx a .effected (.pdTx k)) ∧
        (win = none → p.avoids = true →
          t.pd = vmod s.pd k (fun p => { p with held := some x, sinkTxNg := true, rpNow := 2 }) ∧
            t.inFlight opPdTx a .dispatched (.pdTx k)) ∧
        t.pwr = (if s.needsVconn k sop a.params then vmod s.pwr k (fun w => { w with chgV := 1000 }) else s.pwr) ∧
        t.ports = s.ports) ∧
    (∀ c : Contract, sop = 0 → isMsg a.params 0 3 = true → windowRequest p.reply = some (some c) →
      (c.volt = 100 ∨ (95 * c.mv ≤ 100 * s.stiles[(stileOf k).val].railHMv ∧
        100 * s.stiles[(stileOf k).val].railHMv ≤ 105 * c.mv)) →
      s.couldFit k c = true → s.fitsNow k c = true →
      ∃ t, exec (.pdTx a) s = .next t ∧ t.pwr = (s.takeContract k c).pwr ∧ t.ports = s.ports ∧
        t.pd = vmod s.pd k (fun p => { p with
          accepting := some c, tx := some x, wire := some (0, p.wireBytes 0 a.params), reply := none }) ∧
        t.inFlight opPdTx a .effected (.pdTx k))

/-- The causes of a Hard Reset (R343, R344, R346) and what it ends (R344). -/
def Obligations.HardResetStartsRecovery : Prop :=
  (∀ (a : CmdArgs) (s : State), s.takes opPdHardreset a = true → s.portDown (portArg a) = false →
    s.linkUp (portArg a) = true → s.attached (portArg a) = true →
    ∃ t, exec (.pdHardreset a) s = .next t ∧ t.answered opPdHardreset a .ok 0 [] ∧ s.HardResetBegun t (portArg a)) ∧
  (∀ (k : PortId) (s : State), s.stileLive k = true → s.attached k = true →
    (∃ t, exec (.hardResetReceived k) s = .next t ∧ s.HardResetBegun t k) ∧
    (s.pd[k.val].eprMode = true → ∃ t, exec (.eprKeepaliveTimeout k) s = .next t ∧ s.HardResetBegun t k) ∧
    (s.pd[k.val].eprMode = false → (∃ c, s.pd[k.val].contract = some c ∧ c.epr = true) →
      ∃ t, exec (.eprVbusGuard k) s = .next t ∧ s.HardResetBegun t k)) ∧
  (∀ (k : PortId) (s : State), s.stileLive k = true → s.pd[k.val].vconnSwap = .waitPsRdy →
    ∃ t, exec (.vconnSourceTimeout k) s = .next t ∧ s.HardResetBegun t k)

/-- The steps of the recovery (R344). -/
def Obligations.HardResetRecoverySteps : Prop :=
  ∀ (k : PortId) (s : State), s.stileLive k = true →
    (s.pd[k.val].hr = .waitPathsOff → s.powered k = true →
      ∃ t, exec (.hardResetPathsOff k) s = .next t ∧ t.pd[k.val].hr = .waitVsafe0 ∧ t.pd[k.val].vconnOn = false ∧
        t.pwr[k.val].gateL = false ∧ t.pwr[k.val].gateH = false ∧ t.pwr[k.val].disch = true ∧
        t.pwr[k.val].vbusOn = false ∧ (s.linkUp k = true → t.pwr[k.val].chgV = 0)) ∧
    (s.pd[k.val].hr = .waitVsafe0 →
      ∃ t, exec (.hardResetVsafe0v k) s = .next t ∧ t.pd[k.val].hr = .waitRecover ∧ t.pwr[k.val].disch = false ∧
        t.pwr[k.val].offPending = false ∧ t.pwr[k.val].vbusMv < 800) ∧
    (s.pd[k.val].hr = .waitRecover → s.pd[k.val].vconnWasOn = true → s.vconnMay k = true → s.chargeV + 1000 ≤ s.escrow.budgetV.toNat →
      ∃ t, exec (.hardResetRecover k) s = .next t ∧ t.pd[k.val].hr = .waitPower ∧ t.pd[k.val].vconnOn = true ∧
        t.pwr[k.val].chgV = 1000) ∧
    (s.pd[k.val].hr = .waitRecover → s.pwr[k.val].busy = true →
      ∃ t, exec (.hardResetRecover k) s = .next t ∧ t.pd[k.val].hr = .waitPower ∧ t.pwr[k.val].want = true)

/-- CC_CHANGE, CC_ATTACH_CONFIRMED, CC_DETACH, DRP_TOGGLE, TRY_SRC_TIMEOUT and SOURCE_PARTNER_BACKOFF (R330 to R332). -/
def Obligations.CcMachineMoves : Prop :=
  ∀ (k : PortId) (s : State), s.stileLive k = true →
    (∀ x y : CcTerm, ∃ t, exec (.ccChange k x y) s = .next t ∧ t.pd[k.val].term1 = x ∧ t.pd[k.val].term2 = y ∧
      (s.pd[k.val].cc = .unattachedSrc → (x = .rd ∧ y ≠ .rd ∨ x ≠ .rd ∧ y = .rd) → t.pd[k.val].cc = .attachWaitSrc) ∧
      (∀ j : PortId, j ≠ k → t.pd[j.val] = s.pd[j.val]) ∧ t.pwr = s.pwr ∧ t.ports = s.ports ∧ t.slots = s.slots) ∧
    (s.pd[k.val].cc = .attachWaitSrc → s.pd[k.val].oneRd = true →
      ∃ t, exec (.ccAttachConfirmed k) s = .next t ∧ t.pd[k.val].cc = .attachedSrc ∧
        t.pd[k.val].orient = (if s.pd[k.val].term1 = .rd then 1 else 2) ∧
        t.pd[k.val].partner = (if (if s.pd[k.val].term1 = .rd then s.pd[k.val].term2 else s.pd[k.val].term1) = .ra then 2 else 1) ∧
        t.pd[k.val].rpNow = rpCode s.pd[k.val].ccRec.rp ∧
        (s.ports[k.val].test = none → t.ports[k.val].state = .waitPower)) ∧
    (s.pd[k.val].cc = .attachedSrc → s.mode k ≠ .off →
      ∃ t, exec (.ccDetach k) s = .next t ∧ t.pd[k.val].cc ≠ .attachedSrc ∧ t.pd[k.val].contract = none ∧
        t.pd[k.val].vconnOn = false ∧ t.pd[k.val].orient = 0 ∧ t.pwr[k.val].gateL = false ∧ t.pwr[k.val].gateH = false ∧
        (s.linkUp k = true → t.pwr[k.val].chgV = 0) ∧ t.pwr[k.val].queued = none ∧ t.ports[k.val].state = .waitAttach) ∧
    (s.pd[k.val].ccRec.drp = true → s.pd[k.val].cc = .unattachedSrc → s.pd[k.val].seesRp = false →
      exec (.drpToggle k) s = .next (s.modPd k fun p => { p with cc := .unattachedSnk, rpNow := 0 })) ∧
    (s.pd[k.val].cc = .trySrc → s.pd[k.val].seesRp = true →
      exec (.trySrcTimeout k) s = .next (s.modPd k fun p => { p with cc := .tryWaitSnk, rpNow := 0 })) ∧
    (s.pd[k.val].cc = .sourcePartner → s.pd[k.val].seesRp = false →
      exec (.sourcePartnerBackoff k) s = .next (s.modPd k fun p => { p with cc := .unattachedSnk, partner := 0, rpNow := 0 }))

/-- PD_MESSAGE_RECEIVED, SOFT_RESET_RECEIVED, EPR_KEEPALIVE_RECEIVED, BIST_RECEIVED and PD_REQUEST_RECEIVED (R333, R335, R336,
R341, R343, R348): a message that the owner is to have, the first chunk of one, and those that the Stile answers. -/
def Obligations.PdMessagesAreReceived : Prop :=
  ∀ (k : PortId) (s : State), s.stileLive k = true →
    (∀ (sop : BitVec 2) (m : List Byte), exec (.pdMessageReceived k sop m false) s =
      .next (s.modPd k fun p => { p with rxCrc := satAdd p.rxCrc 1 })) ∧
    (s.attached k = true → s.pd[k.val].tx = none → s.pd[k.val].chunkOut = none →
      (∀ (m : List Byte) (h : SlotId), s.pd[k.val].held = none → s.owner k = some h → s.linkUp k = true →
        s.teller.run = .running → (s.slots[h.val].records.filter isEvent).length < 1024 →
        (s.slots[h.val].records.map recordPayload).sum ≤ 16120 → s.pd[k.val].rxId[0] ≠ some (msgId m) →
        s.pd[k.val].vconnSwap = .none → msgExt m = false →
        (isMsg m 0 13 = false → isMsg m 1 3 = false → eprAction m ≠ some 5 →
          ∃ t, exec (.pdMessageReceived k 0 m true) s = .next t ∧ s.Delivered t k m h) ∧
        (isMsg m 1 2 = true ∨ isMsg m 1 9 = true →
          ∃ t, exec (.pdRequestReceived k m) s = .next t ∧ s.Delivered t k m h)) ∧
      (∀ m : List Byte, msgExt m = true → extChunked m = true → extRequest m = false → extChunk m = 0 →
        ((m.drop 4).take 26).length < extSize m → s.pd[k.val].rxId[0] ≠ some (msgId m) →
        ∃ t x, exec (.pdMessageReceived k 0 m true) s = .next t ∧ t.pd[k.val].chunks = (m.drop 4).take 26 ∧
          t.pd[k.val].goodCrcSent = some 0 ∧ t.pd[k.val].tx = some x ∧ x.bytes = chunkRequest m 1 ∧ x.sop = 0 ∧
          x.origin = .chunkRequest ∧ t.slots = s.slots ∧ t.pwr = s.pwr ∧ t.ports = s.ports) ∧
      (∀ sop : BitVec 2, sop.toNat < 3 → s.pd[k.val].held = none →
        ∃ t x, exec (.softResetReceived k sop) s = .next t ∧ t.pd[k.val].tx = some x ∧ x.bytes = [3, 0] ∧ x.sop = sop ∧
          x.origin = .softAccept ∧ t.pd[k.val].txId = s.pd[k.val].txId ∧ t.pd[k.val].goodCrcSent = some sop ∧
          t.pd[k.val].wire = some (sop, s.pd[k.val].wireBytes sop [3, 0]) ∧ t.slots = s.slots ∧ t.pwr = s.pwr) ∧
      (∀ x : PdTx, s.pd[k.val].held = some x → x.origin = .owner → x.orphan = false →
        ∃ t, exec (.softResetReceived k 0) s = .next t ∧ t.pd[k.val].held = none ∧
          ∀ g : SlotId, (∀ e ∈ t.slots[g.val].till, e.wait ≠ .pdTx k) ∧ ∀ e ∈ s.slots[g.val].till, e.wait = .pdTx k →
            Record.completion (e.completion .eBusy 2 []) ∈ t.slots[g.val].records) ∧
      (s.pd[k.val].eprMode = true → s.pd[k.val].held = none →
        ∃ t x, exec (.eprKeepaliveReceived k) s = .next t ∧ t.pd[k.val].tx = some x ∧
          x.bytes = [0x10, 0x80, 0x02, 0x80, 4, 0] ∧ x.sop = 0 ∧ x.origin = .keepAliveAck ∧
          t.pd[k.val].goodCrcSent = some 0 ∧ t.slots = s.slots ∧ t.pwr = s.pwr ∧ t.ports = s.ports) ∧
      (s.pd[k.val].held = none → ∀ carrier : Bool, exec (.bistReceived k carrier) s = .next
        (s.modPd k fun p => { p with
          goodCrcSent := some 0, reply := none, bist := if carrier then .carrier else .testData })))

/-- GOODCRC_RECEIVED, CRC_RECEIVE_TIMEOUT (R333, R342, R187), SINK_TX_WAIT_END, EXCHANGE_END (R335), AUTO_RESPONSE (R337) and
WAIT_TIMER_EXPIRY (R338). -/
def Obligations.PdSendingEnds : Prop :=
  (∀ (k : PortId) (x : PdTx) (s : State), s.stileLive k = true → s.pd[k.val].tx = some x → s.pd[k.val].psDue = none →
    (x.origin = .owner → x.orphan = false → x.sop = 1 ∨ x.sop = 2 → chunkCount x.bytes ≤ x.chunk + 1 →
      ∃ t, exec (.goodcrcReceived k) s = .next t ∧ t.pd[k.val].tx = none ∧
        t.pd[k.val].txId = s.pd[k.val].txId.mapIdx (fun i v => if i = x.sop.toNat then v + 1 else v) ∧
        t.pwr = s.pwr ∧ t.ports = s.ports ∧
        ∀ g : SlotId, (∀ e ∈ t.slots[g.val].till, e.wait ≠ .pdTx k) ∧ ∀ e ∈ s.slots[g.val].till, e.wait = .pdTx k →
          Record.completion (e.completion .ok 0 []) ∈ t.slots[g.val].records) ∧
    (∀ c : Contract, x.origin = .owner → x.sop = 0 → isMsg x.bytes 0 3 = true → chunkCount x.bytes ≤ x.chunk + 1 →
      s.pd[k.val].accepting = some c →
      ∃ t, exec (.goodcrcReceived k) s = .next t ∧ t.pd[k.val].tx = none ∧ t.pd[k.val].accepting = none ∧
        t.pd[k.val].accepted = some c ∧ t.pwr = vmod s.pwr k (fun w => if s.changesVoltage k c then { w with
          trans := if c.mv > ((s.pd[k.val].contract.map (·.mv)).getD 5000) then .up else .down, vbusLow := false } else w)) ∧
    (∀ c : Contract, x.origin = .psRdyContract → x.sop = 0 → chunkCount x.bytes ≤ x.chunk + 1 → s.pd[k.val].accepted = some c →
      ∃ t, exec (.goodcrcReceived k) s = .next t ∧ t.pd[k.val].tx = none ∧ t.pd[k.val].contract = some c ∧
        t.pd[k.val].accepted = none ∧ t.pd[k.val].sinkTxNg = false ∧ t.pwr = s.pwr) ∧
    (x.origin = .softAccept → x.sop = 0 → chunkCount x.bytes ≤ x.chunk + 1 →
      ∃ t, exec (.goodcrcReceived k) s = .next t ∧ t.pd[k.val].tx = none ∧ t.pd[k.val].txId = Vector.replicate 3 0 ∧
        t.pd[k.val].rxId = Vector.replicate 3 none ∧ t.pwr = s.pwr) ∧
    (x.chunk + 1 < chunkCount x.bytes →
      exec (.goodcrcReceived k) s = .next (s.modPd k fun p => { p with
        tx := none, txId := p.txId.mapIdx fun i v => if i = x.sop.toNat then v + 1 else v
        chunkOut := some { x with chunk := x.chunk + 1 } })) ∧
    (x.retries ≠ 0 →
      exec (.crcReceiveTimeout k) s = .next (s.modPd k fun p => { p with tx := some { x with retries := x.retries - 1 } })) ∧
    (x.retries = 0 → x.origin = .owner → x.orphan = false → isMsg x.bytes 0 3 = false → isMsg x.bytes 0 11 = false →
      ∃ t, exec (.crcReceiveTimeout k) s = .next t ∧ t.pd[k.val].tx = none ∧
        t.pd[k.val].noGoodCrc = satAdd s.pd[k.val].noGoodCrc 1 ∧
        t.pd[k.val].txId = s.pd[k.val].txId.mapIdx (fun i v => if i = x.sop.toNat then v + 1 else v) ∧
        t.pwr = s.pwr ∧ t.ports = s.ports ∧
        ∀ g : SlotId, (∀ e ∈ t.slots[g.val].till, e.wait ≠ .pdTx k) ∧ ∀ e ∈ s.slots[g.val].till, e.wait = .pdTx k →
          Record.completion (e.completion .eXact 1 []) ∈ t.slots[g.val].records) ∧
    (x.retries = 0 → x.origin = .psRdyContract ∨ x.origin = .psRdyVconn →
      ∃ t, exec (.crcReceiveTimeout k) s = .next t ∧ s.HardResetBegun t k)) ∧
  (∀ (k : PortId) (x : PdTx) (s : State), s.stileLive k = true → s.pd[k.val].held = some x → s.pd[k.val].tx = none →
    ∃ t, exec (.sinkTxWaitEnd k) s = .next t ∧
      t.pd = vmod s.pd k (fun p => { p with
        held := none, tx := some x, wire := some (x.sop, p.wireBytes x.sop (chunkMsg x.bytes x.chunk))
        reply := if x.sop = 0 then none else p.reply }) ∧
      (∀ (g : SlotId), ∀ e ∈ t.slots[g.val].till, e.wait = .pdTx k → e.point = .effected) ∧ t.pwr = s.pwr ∧ t.ports = s.ports) ∧
  (∀ (k : PortId) (w : ReplyWindow) (s : State), s.stileLive k = true → s.pd[k.val].reply = some w → s.pd[k.val].sending = false →
    ∃ t x, exec (.autoResponse k) s = .next t ∧ t.pd[k.val].tx = some x ∧ x.origin = .auto ∧ x.sop = 0 ∧
      x.bytes = (s.autoReply k w).1 ∧ x.replyTo = some (w.cls, w.ty) ∧ t.pd[k.val].held = s.pd[k.val].held ∧
      t.pd[k.val].auto = satAdd s.pd[k.val].auto 1 ∧ t.pd[k.val].reply = none ∧ t.pwr = s.pwr ∧ t.ports = s.ports ∧
      (w.cls = 1 → w.ty = 2 → x.bytes = [12, 0])) ∧
  (∀ (k : PortId) (s : State), s.pd[k.val].sinkTxNg = true → s.pd[k.val].reply = none → s.pd[k.val].txBusy = false →
    exec (.exchangeEnd k) s = .next (s.modPd k fun p => { p with
      sinkTxNg := false
      rpNow := if p.avoids then 3 else if p.cc = .attachedSrc then rpCode p.ccRec.rp else p.rpNow })) ∧
  (∀ (k : PortId) (s : State), exec (.waitTimerExpiry k) s = .next (s.modPd k fun p => { p with waitTimer := none }))

/-- SRC_TRANSITION_END (R342, R359, R360), PS_RDY_RECEIVED, VCONN_SWAP_PS_RDY_SEND (R346), VCONN_TRIP (R345) and
BIST_CARRIER_END (R333). -/
def Obligations.TransitionsAndVconnMove : Prop :=
  (∀ (k : PortId) (c : Contract) (s : State), s.stileLive k = true → s.pd[k.val].accepted = some c →
    (s.pwr[k.val].trans = .up → exec (.srcTransitionEnd k) s = .next (s.modPwr k fun w => { w with gateH := true })) ∧
    (s.pwr[k.val].trans = .down → s.pwr[k.val].gateH = true →
      exec (.srcTransitionEnd k) s = .next (s.modPwr k fun w => { w with gateH := false, gateL := true, disch := true })) ∧
    (s.pwr[k.val].trans = .none → s.pd[k.val].psDue = none →
      (s.pd[k.val].tx = none → ∃ t x, exec (.srcTransitionEnd k) s = .next t ∧ t.pd[k.val].tx = some x ∧
        x.bytes = [6, 0] ∧ x.sop = 0 ∧ x.origin = .psRdyContract ∧ t.pwr = s.pwr) ∧
      (∀ x : PdTx, s.pd[k.val].tx = some x → x.origin ≠ .psRdyContract →
        exec (.srcTransitionEnd k) s = .next (s.modPd k fun p => { p with psDue := some .psRdyContract })))) ∧
  (∀ (k : PortId) (s : State), s.stileLive k = true → s.attached k = true → s.pd[k.val].vconnSwap = .waitPsRdy →
    s.pd[k.val].txBusy = false → s.linkUp k = true →
    ∃ t, exec (.psRdyReceived k) s = .next t ∧ t.pd[k.val].vconnOn = false ∧ t.pd[k.val].vconnGiven = true ∧
      t.pd[k.val].vconnSwap = .none ∧ t.pd[k.val].goodCrcSent = some 0 ∧
      t.pwr = vmod s.pwr k (fun w => { w with chgV := 0 }) ∧ t.ports = s.ports) ∧
  (∀ (k : PortId) (s : State), s.stileLive k = true → s.pd[k.val].vconnSwap = .sendPsRdy → s.pd[k.val].psDue = none →
    (s.pd[k.val].tx = none → ∃ t x, exec (.vconnSwapPsRdySend k) s = .next t ∧ t.pd[k.val].tx = some x ∧ x.bytes = [6, 0] ∧
      x.sop = 0 ∧ x.origin = .psRdyVconn ∧ t.pwr = s.pwr) ∧
    (∀ x : PdTx, s.pd[k.val].tx = some x → x.origin ≠ .psRdyVconn →
      exec (.vconnSwapPsRdySend k) s = .next (s.modPd k fun p => { p with psDue := some .psRdyVconn }))) ∧
  (∀ (k : PortId) (s : State), s.stileLive k = true → s.pd[k.val].vconnOn = true →
    ∃ t, exec (.vconnTrip k) s = .next t ∧ t.pd[k.val].vconnOn = false ∧ t.pd[k.val].vconnFault = true ∧
      t.pwr = if s.linkUp k then vmod s.pwr k (fun w => { w with chgV := 0 }) else s.pwr) ∧
  (∀ (k : PortId) (s : State), s.pd[k.val].bist = .carrier →
    ∃ t, exec (.bistCarrierEnd k) s = .next t ∧ t.pd = vmod s.pd k (fun p => { p with bist := .none }) ∧ t.pwr = s.pwr)

/-- PORT_MODE (R129) on the Deed record (R110). -/
def Obligations.PortModeChangesMode : Prop :=
  ∀ (a : CmdArgs) (s : State), s.takes opPortMode a = true → s.portDown (portArg a) = false →
    let k := portArg a
    (s.mode k = modeArg a →
      ∃ t, exec (.portMode a) s = .next t ∧ t.answered opPortMode a .ok (s.prtDeed k) [] ∧
        (s.leaveS1 0x20).SameButAnswer t a.caller []) ∧
    (s.mode k ≠ modeArg a → (s.mode k = .proxy → s.portHasOrder k = false ∧ s.portEnabled k = []) →
      ∃ t, exec (.portMode a) s = .next t ∧ t.ports[k.val].deed = { s.ports[k.val].deed with mode := modeArg a } ∧
        t.answered opPortMode a .ok ({ s.ports[k.val].deed with mode := modeArg a } : Deed).word [] ∧
        ∀ j : PortId, j ≠ k → t.ports[j.val].deed = s.ports[j.val].deed)

/-- PORT_RESET (R158), PORT_SUSPEND (R150) and PORT_RESUME (R151). -/
def Obligations.PortResetSuspendResumeStart : Prop :=
  (∀ (a : CmdArgs) (s : State), s.takes opPortReset a = true → s.portDown (portArg a) = false →
    s.mode (portArg a) ≠ .off →
    let k := portArg a
    (s.ports[k.val].detachedAt = some s.glb.clock →
      ∃ t, exec (.portReset a) s = .next t ∧ t.answered opPortReset a .eDetached (s.prtState k) [] ∧
        (s.leaveS1 0x22).SameButAnswer t a.caller []) ∧
    (s.ports[k.val].detachedAt ≠ some s.glb.clock →
    (testBit a.arg1 0 = false → s.usbOn k = true → s.ports[k.val].connected = true → s.ports[k.val].test = none →
      ∃ t, exec (.portReset a) s = .next t ∧ t.inFlight opPortReset a .effected (.portReset k) ∧
        t.ports[k.val].state = .resetting ∧ t.ports[k.val].speed = 0 ∧ t.ports[k.val].haltedEps = [] ∧
        (s.mode k = .proxy → t.ports[k.val].attempt = 1) ∧ t.ports[k.val].deed = s.ports[k.val].deed ∧
        t.ports[k.val].connected = true ∧ t.pwr = s.pwr) ∧
    (testBit a.arg1 0 = true → s.powered k = true → s.linkUp k = true →
      ∃ t, exec (.portReset a) s = .next t ∧ t.inFlight opPortReset a .effected (.portCycle k) ∧
        t.pwr[k.val].gateL = false ∧ t.pwr[k.val].gateH = false ∧ t.pwr[k.val].disch = true ∧ t.pwr[k.val].want = false ∧
        t.ports[k.val].connected = false) ∧
    (testBit a.arg1 0 = true → s.powered k = true → s.linkUp k = false →
      ∃ t, exec (.portReset a) s = .next t ∧ t.inFlight opPortReset a .dispatched (.portCycle k) ∧
        t.pwr[k.val].gateL = s.pwr[k.val].gateL ∧ t.pwr[k.val].gateH = s.pwr[k.val].gateH ∧ t.pwr[k.val].want = false) ∧
    (testBit a.arg1 0 = true → s.powered k = false → s.pwr[k.val].offPending = true →
      ∃ t, exec (.portReset a) s = .next t ∧ t.inFlight opPortReset a .effected (.portCycle k) ∧ t.pwr[k.val].want = false) ∧
    (testBit a.arg1 0 = true → s.powered k = false → s.pwr[k.val].offPending = false → s.attached k = false →
      ∃ t, exec (.portReset a) s = .next t ∧ t.inFlight opPortReset a .effected (.portCycle k) ∧ t.pwr[k.val].want = true))) ∧
  (∀ (a : CmdArgs) (s : State), s.takes opPortSuspend a = true → s.portDown (portArg a) = false →
    let k := portArg a
    (s.mode k = .relay ∧ s.shownState k = .active) ∨
      (s.mode k = .proxy ∧ (s.shownState k = .active ∨ s.shownState k = .addressed) ∧ s.heldAtRest k = true) →
    ∃ t, exec (.portSuspend a) s = .next t ∧ t.answered opPortSuspend a .ok 0 [] ∧
      ((s.leaveS1 0x23).modPort k fun p => { p with
        prev := p.state, state := .suspended, sofRunning := false
        wakeSet := p.wakeSet || (s.mode k == .proxy && p.wakeCap) }).SameButAnswer t a.caller []) ∧
  (∀ (a : CmdArgs) (s : State), s.takes opPortResume a = true → s.portDown (portArg a) = false →
    s.mode (portArg a) ≠ .off →
    let k := portArg a
    (s.shownState k = .suspended →
      ∃ t, exec (.portResume a) s = .next t ∧ t.inFlight opPortResume a .effected (.portResume k) ∧
        t.ports = vmod s.ports k (fun p => { p with state := .resuming, slotSuspend := false }) ∧ t.pwr = s.pwr ∧
        t.pd = s.pd) ∧
    (s.shownState k ≠ .suspended →
      ∃ t, exec (.portResume a) s = .next t ∧ t.answered opPortResume a .ok 0 [] ∧
        (s.leaveS1 0x24).SameButAnswer t a.caller []))

/-- DEED_RELEASE, DEED_CLAIM, DEED_SEIZE and DEED_VIEW (R111, R112). -/
def Obligations.DeedCommandsChangeTheDeed : Prop :=
  ∀ (a : CmdArgs) (s : State), s.portDown (portArg a) = false →
    let k := portArg a
    let d := s.ports[k.val].deed
    (s.takes opDeedRelease a = true → d.owner.isSome = true →
      ∃ t, exec (.deedRelease a) s = .next t ∧ t.ports[k.val].deed = { d with owner := none, gen := d.gen + 1 } ∧
        t.answered opDeedRelease a .ok ({ d with owner := none, gen := d.gen + 1 } : Deed).word [] ∧
        ∀ j : PortId, j ≠ k → t.ports[j.val].deed = s.ports[j.val].deed) ∧
    (s.takes opDeedClaim a = true →
      ∃ t, exec (.deedClaim a) s = .next t ∧ t.ports[k.val].deed = { d with owner := callerSlot a.caller, gen := d.gen + 1 } ∧
        t.answered opDeedClaim a .ok ({ d with owner := callerSlot a.caller, gen := d.gen + 1 } : Deed).word [] ∧
        ∀ j : PortId, j ≠ k → t.ports[j.val].deed = s.ports[j.val].deed) ∧
    (s.takes opDeedSeize a = true → d.owner ≠ callerSlot a.caller →
      ∃ t, exec (.deedSeize a) s = .next t ∧ t.ports[k.val].deed = { d with owner := callerSlot a.caller, gen := d.gen + 1 } ∧
        t.answered opDeedSeize a .ok ({ d with owner := callerSlot a.caller, gen := d.gen + 1 } : Deed).word [] ∧
        ∀ j : PortId, j ≠ k → t.ports[j.val].deed = s.ports[j.val].deed) ∧
    (s.takes opDeedSeize a = true → d.owner = callerSlot a.caller →
      ∃ t, exec (.deedSeize a) s = .next t ∧ t.answered opDeedSeize a .ok d.word [] ∧
        (s.leaveS1 0x2A).SameButAnswer t a.caller []) ∧
    (s.takes opDeedView a = true →
      ∃ t v, exec (.deedView a) s = .next t ∧ t.answered opDeedView a .ok ({ d with viewers := v } : Deed).word [] ∧
        (∀ h : SlotId, v.getLsbD h.val = if d.owner = some h then d.viewers.getLsbD h.val else a.arg1.getLsbD h.val) ∧
        ((s.leaveS1 0x2B).modPort k fun p => { p with deed := { p.deed with viewers := v } }).SameButAnswer t a.caller [])

/-- R119: another slot's ports, and ports outside RELAY mode, are out of a hub's reach. -/
def Obligations.ForeignHubRequestsChangeNothing : Prop :=
  ∀ (h : SlotId) (k : PortId) (s : State), s.hubUp h = true →
    (s.ownRelay h k = false →
      exec (.setPortPower h k) s = .next (s.reply h .ack) ∧ exec (.clearPortPower h k) s = .next (s.reply h .ack) ∧
      exec (.setPortReset h k) s = .next (s.reply h .ack) ∧ exec (.setPortSuspend h k) s = .next (s.reply h .ack) ∧
      exec (.clearPortSuspend h k) s = .next (s.reply h .ack) ∧
      (∀ m, exec (.setPortIndicator h k m) s = .next (s.reply h .ack)) ∧
      (∀ key, exec (.clearTtBuffer h k key) s = .next (s.reply h .ack)) ∧
      exec (.resetTt h k) s = .next (s.reply h .ack)) ∧
    (s.owns h k = false →
      exec (.getTtState h k) s = .next (s.reply h .ack) ∧ exec (.stopTt h k) s = .next (s.reply h .ack) ∧
      (∀ m, exec (.setPortTest h k m) s = .next (s.reply h .ack)) ∧
      (∃ l, exec (.getPortStatus h k) s = .next (s.reply h (.data l)))) ∧
    (∀ r, (s.reply h r).portStatusWord h k = s.portStatusWord h k)

/-- The hub class requests (R102, R118, R139, R153, R154). -/
def Obligations.HubRequestsActOnRelayPorts : Prop :=
  ∀ (h : SlotId) (k : PortId) (s : State), s.hubUp h = true →
    (s.ownRelay h k = true →
      (s.attached k = false → exec (.setPortPower h k) s =
        .next ((s.modPwr k fun w => { w with want := true }).reply h .ack)) ∧
      (s.powered k = true → s.linkUp k = true → ∃ t, exec (.clearPortPower h k) s = .next t ∧
        t.pwr[k.val].gateL = false ∧ t.pwr[k.val].gateH = false ∧ t.pwr[k.val].disch = true ∧ t.pwr[k.val].want = false ∧
        t.slots[h.val].ctl = .ack) ∧
      (s.usbOn k = true → s.ports[k.val].connected = true → s.ports[k.val].test = none →
        exec (.setPortReset h k) s = .next ((s.modPort k fun p => p.startReset 0).reply h .ack)) ∧
      (s.shownState k = .active → exec (.setPortSuspend h k) s = .next
        ((s.modPort k fun p => { p with
          prev := p.state, state := .suspended, sofRunning := false, wakeSet := s.ports[k.val].wakeSet }).reply h .ack)) ∧
      (s.shownState k = .suspended → exec (.clearPortSuspend h k) s = .next
        ((s.modPort k fun p => { p with state := .resuming, slotSuspend := false }).reply h .ack)) ∧
      (∀ m, exec (.setPortIndicator h k m) s = .next ((s.modPort k fun p => { p with led := m }).reply h .ack)) ∧
      (∀ key, ∃ t, exec (.clearTtBuffer h k key) s = .next t ∧ key ∉ t.ports[k.val].ttBuffers ∧
        (∀ x, x ≠ key → (x ∈ t.ports[k.val].ttBuffers ↔ x ∈ s.ports[k.val].ttBuffers)) ∧ t.slots[h.val].ctl = .ack) ∧
      exec (.resetTt h k) s = .next ((s.modPort k fun p => { p with ttPeriodic := [], ttBuffers := [] }).reply h .ack) ∧
      (s.pwr[k.val].vbusOn = false ∨ s.ports[k.val].state = .disabled ∨ s.ports[k.val].state = .suspended →
        ∀ m, exec (.setPortTest h k m) s = .next
          ((s.modPort k fun p => { p with state := .test, test := some m, prev := .off }).reply h .ack)) ∧
      (s.pwr[k.val].vbusOn = true → s.ports[k.val].state ≠ .disabled → s.ports[k.val].state ≠ .suspended →
        ∀ m, exec (.setPortTest h k m) s = .next (s.reply h .stall))) ∧
    (s.owns h k = true → s.mode k ≠ .relay → ∀ m, exec (.setPortTest h k m) s = .next (s.reply h .stall)) ∧
    (s.owns h k = true →
      exec (.getTtState h k) s = .next (s.reply h .stall) ∧ exec (.stopTt h k) s = .next (s.reply h .stall)) ∧
    (∃ w : Nat, exec (.getPortStatus h k) s = .next
        (s.reply h (.data (leBytes 2 w ++ leBytes 2 s.slots[h.val].hub[k.val].word))) ∧
      (s.owns h k = false → w = 0) ∧ (s.owns h k = true → s.mode k = .proxy → w = flagAt (s.powered k) 8))

/-- TT_START_SPLIT, TT_COMPLETE_SPLIT (R115, R137, R138, R155) and TT_RESULT_DISCARD (R138). What a non-periodic complete-split
without a buffer is answered is open. -/
def Obligations.TtHoldsSplits : Prop :=
  ∀ (k : PortId) (key : BitVec 16) (s : State),
    let p := s.ports[k.val]
    let load := (p.ttPeriodic.map (·.bytes)).sum
    (s.ttUp k = true →
      (∀ iso n, (∀ x ∈ p.ttPeriodic, x.key ≠ key) → p.ttPeriodic.length < 16 → load + n ≤ 4096 →
        ∃ t, exec (.ttStartSplit k true iso key n) s = .next t ∧ t.ports = vmod s.ports k (fun p => { p with
          ttPeriodic := p.ttPeriodic ++ [{ key := key, bytes := n, isoOut := iso, born := s.glb.clock }], ttReply := .none })) ∧
      (∀ iso n, (∃ x ∈ p.ttPeriodic, x.key = key) → load + n ≤ 4096 →
        ∃ t, exec (.ttStartSplit k true iso key n) s = .next t ∧ t.ports = vmod s.ports k (fun p => { p with
          ttPeriodic := p.ttPeriodic.map (fun x => { x with bytes := x.bytes + if x.key = key then n else 0 })
          ttReply := .none })) ∧
      (∀ iso n, 4096 < load + n ∨ (16 ≤ p.ttPeriodic.length ∧ ∀ x ∈ p.ttPeriodic, x.key ≠ key) →
        ∃ t, exec (.ttStartSplit k true iso key n) s = .next t ∧ t.ports[k.val].errTtOvf = satAdd p.errTtOvf 1 ∧
          t.ports[k.val].ttPeriodic = p.ttPeriodic ∧ t.ports[k.val].ttBuffers = p.ttBuffers ∧
          t.ports[k.val].ttReply = .none) ∧
      (∀ iso n, ∃ t, exec (.ttStartSplit k false iso key n) s = .next t ∧ t.ports[k.val].ttPeriodic = p.ttPeriodic ∧
        (key ∈ p.ttBuffers → t.ports[k.val].ttBuffers = p.ttBuffers ∧ t.ports[k.val].ttReply = .ack) ∧
        (key ∉ p.ttBuffers → p.ttBuffers.length < 4 →
          t.ports[k.val].ttBuffers = p.ttBuffers ++ [key] ∧ t.ports[k.val].ttReply = .ack) ∧
        (key ∉ p.ttBuffers → 4 ≤ p.ttBuffers.length →
          t.ports[k.val].ttBuffers = p.ttBuffers ∧ t.ports[k.val].ttReply = .nak)) ∧
      (∀ per : Bool, (if per then ∃ x ∈ p.ttPeriodic, x.key = key else key ∈ p.ttBuffers) →
        (∀ l, exec (.ttCompleteSplit k per key (.part l)) s = .next (s.modPort k fun p => { p with ttReply := .data l })) ∧
        exec (.ttCompleteSplit k per key .notYet) s = .next (s.modPort k fun p => { p with ttReply := .nyet }) ∧
        (∀ r, (∃ l, r = .ready l) ∨ r = .err →
          ∃ t, exec (.ttCompleteSplit k per key r) s = .next t ∧
            (per = false → key ∉ t.ports[k.val].ttBuffers ∧ t.ports[k.val].ttPeriodic = p.ttPeriodic ∧
              ∀ x, x ≠ key → (x ∈ t.ports[k.val].ttBuffers ↔ x ∈ p.ttBuffers)) ∧
            (per = true → t.ports[k.val].ttBuffers = p.ttBuffers ∧
              ∀ x, x ∈ t.ports[k.val].ttPeriodic ↔ x ∈ p.ttPeriodic ∧ x.key ≠ key) ∧
            (∀ l, r = .ready l → t.ports[k.val].ttReply = .data l ∧ t.ports[k.val].errXact = p.errXact) ∧
            (r = .err → t.ports[k.val].ttReply = .err ∧ t.ports[k.val].errXact = satAdd p.errXact 1) ∧
            ∀ j : PortId, j ≠ k → t.ports[j.val] = s.ports[j.val])) ∧
      (∀ r, (∀ x ∈ p.ttPeriodic, x.key ≠ key) →
        exec (.ttCompleteSplit k true key r) s = .next (s.modPort k fun p => { p with ttReply := .err })) ∧
      (∀ r, key ∉ p.ttBuffers → ∃ t v, exec (.ttCompleteSplit k false key r) s = .next t ∧
        t.ports = vmod s.ports k (fun p => { p with ttReply := v }) ∧ t.pwr = s.pwr ∧ t.slots = s.slots)) ∧
    (s.ttUp k = false →
      (∀ per iso n, exec (.ttStartSplit k per iso key n) s = .next s) ∧
      (∀ per r, exec (.ttCompleteSplit k per key r) s = .next s)) ∧
    (∃ t, exec (.ttResultDiscard k key) s = .next t ∧
      t = s.modPort k (fun p => { p with ttBuffers := t.ports[k.val].ttBuffers }) ∧
      ∀ x, x ∈ t.ports[k.val].ttBuffers ↔ x ∈ p.ttBuffers ∧ x ≠ key)

/-- USB_CONNECT, USB_DISCONNECT, CONNECT_DEBOUNCE_END, PORT_RESET_END, RESUME_SIGNALLING_END, PROXY_REMOTE_WAKE,
RELAY_REMOTE_WAKE, PORT_BABBLE and POWER_CYCLE_NO_CONNECT. -/
def Obligations.ConnectionAndResetMoveThePort : Prop :=
  ∀ (k : PortId) (s : State), s.usbOn k = true →
    (∀ d, s.mode k = .proxy → s.shownState k = .powered → s.ports[k.val].connected = false →
      exec (.usbConnect k d) s = .next (s.modPort k fun p => { p with connected := true, state := .connectDebounce })) ∧
    (s.ports[k.val].connected = true → s.ports[k.val].test = none →
      ∃ t, exec (.usbDisconnect k) s = .next t ∧ t.ports[k.val].connected = false ∧ t.ports[k.val].state = .powered ∧
        t.ports[k.val].speed = 0 ∧ t.ports[k.val].ttBuffers = [] ∧ t.ports[k.val].deed = s.ports[k.val].deed ∧ t.pwr = s.pwr) ∧
    (s.ports[k.val].state = .connectDebounce →
      exec (.connectDebounceEnd k) s = .next (s.modPort k fun p => p.startReset 1)) ∧
    (∀ chirp dplus, s.ports[k.val].state = .resetting →
      ∃ t, exec (.portResetEnd k chirp dplus) s = .next t ∧
        t.ports[k.val].speed = (if chirp then 3 else if dplus then 2 else 1) ∧
        (s.mode k = .proxy → t.ports[k.val].state = .enumerating) ∧
        (s.mode k = .relay → (∀ h, s.owner k = some h → s.slots[h.val].hub2Susp = false) → t.ports[k.val].state = .active) ∧
        (s.mode k = .relay → ∀ h, s.owner k = some h → s.slots[h.val].hub2Susp = true →
          t.ports[k.val].state = .suspended ∧ t.ports[k.val].hubSuspend = true)) ∧
    (s.ports[k.val].state = .resuming →
      ∃ t, exec (.resumeSignallingEnd k) s = .next t ∧
        (∀ g : SlotId, ∀ e ∈ t.slots[g.val].till, e.wait ≠ .portResume k) ∧
        (s.ports[k.val].slotSuspend = false →
          (s.mode k = .relay → ∀ h, s.owner k = some h → s.slots[h.val].hub2Susp = false) →
          t.ports[k.val].state = s.ports[k.val].prev ∧ t.ports[k.val].slotSuspend = false ∧
          t.ports[k.val].wakeSet = (s.ports[k.val].wakeSet && !s.ports[k.val].wakeCap)) ∧
        (s.ports[k.val].slotSuspend = true → s.mode k = .proxy → s.ports[k.val].prev = .active →
          t.ports[k.val].state = .suspended ∧ t.ports[k.val].prev = .active)) ∧
    (s.mode k = .proxy → s.ports[k.val].connected = true →
      (s.ports[k.val].state = .suspended → ∃ t, exec (.proxyRemoteWake k) s = .next t ∧
        t.ports = vmod s.ports k (fun p => { p with state := .resuming, slotSuspend := false })) ∧
      (s.ports[k.val].state = .resuming → ∃ t, exec (.proxyRemoteWake k) s = .next t ∧ t.ports = s.ports) ∧
      (s.ports[k.val].state = .active → ∃ t, exec (.proxyRemoteWake k) s = .next t ∧ t.ports[k.val].state = .disabled)) ∧
    (s.mode k = .relay → s.ports[k.val].state = .suspended ∨ s.ports[k.val].state = .resuming →
      ∃ t, exec (.relayRemoteWake k) s = .next t ∧
        (s.ports[k.val].state = .suspended → s.ports[k.val].hubSuspend = false →
          t.ports = vmod s.ports k (fun p => { p with state := .resuming, slotSuspend := false })) ∧
        (s.ports[k.val].state = .resuming ∨ s.ports[k.val].hubSuspend = true → t.ports = s.ports) ∧
        ∀ h, s.owner k = some h → t.slots[h.val].hubWake =
          (s.slots[h.val].hubWake || (s.slots[h.val].hub2Susp && s.slots[h.val].wakeHub2))) ∧
    (s.mode k ≠ .off → s.ports[k.val].connected = true → s.ports[k.val].test = none → s.ports[k.val].state = .active →
      ∃ t, exec (.portBabble k) s = .next t ∧ t.ports[k.val].state = .disabled ∧
        t.ports[k.val].errBabble = satAdd s.ports[k.val].errBabble 1) ∧
    (s.mode k = .proxy → s.ports[k.val].state = .powered →
      ∃ t, exec (.powerCycleNoConnect k) s = .next t ∧ t.ports = s.ports ∧
        ∀ g : SlotId, ∀ e ∈ t.slots[g.val].till, e.wait ≠ .portCycle k)

/-- ENUM_REQUEST_DONE and ENUM_REQUEST_TIMEOUT (R140, R142). -/
def Obligations.EnumerationAdvancesOrRefuses : Prop :=
  ∀ (k : PortId) (s : State), s.ports[k.val].state = .enumerating → s.usbOn k = true →
    (s.freeTime k = true →
    (∀ l : List Byte, s.ports[k.val].step = .device8 → 8 ≤ l.length → descType l = 1 → leAt l 7 1 ≠ 0 →
      exec (.enumRequestDone k (.data l)) s = .next
        (s.modPort k fun p => { p with mps0 := BitVec.ofNat 8 (leAt l 7 1), step := .setAddress })) ∧
    (s.ports[k.val].step = .setAddress →
      exec (.enumRequestDone k .ack) s = .next (s.modPort k fun p => { p with step := .device18 })) ∧
    exec (.enumRequestDone k .nak) s = .next s) ∧
    (s.freeTime k = false → ∀ r, exec (.enumRequestDone k r) s = .next s) ∧
    (s.ports[k.val].step = .device8 ∨ s.ports[k.val].step = .device18 →
      (s.ports[k.val].attempt < 3 → exec (.enumRequestTimeout k) s = .next
        (s.modPort k fun p => p.startReset (p.attempt + 1))) ∧
      (3 ≤ s.ports[k.val].attempt →
        ∃ t, exec (.enumRequestTimeout k) s = .next t ∧ t.ports[k.val].state = .refused ∧ t.ports[k.val].refuse = 2 ∧
          t.ports[k.val].step = .idle))

/-- CTRL_XFER, BULK_XFER, INT_XFER and ISO_XFER (R185). XFER_TRANSACTION_DONE and XFER_TIMEOUT (R155, R185). -/
def Obligations.TransfersRunAndEndWithWhatTheyMoved : Prop :=
  (∀ (a : CmdArgs) (s : State), s.portDown (portArg a) = false → s.mode (portArg a) = .proxy →
    let k := portArg a
    (s.takes opCtrlXfer a = true → s.shownState k = .active ∨ s.shownState k = .addressed → xferEp a = 0 →
      ∃ t x, exec (.ctrlXfer a) s = .next t ∧ t.inFlight opCtrlXfer a .dispatched (.xfer x) ∧
        x.port = k ∧ x.ep = 0 ∧ x.setup = a.params.take 8 ∧ x.outData = a.params.drop 8 ∧ x.length = a.arg1.toNat ∧
        x.moved = 0 ∧ x.got = [] ∧ t.ports = s.ports ∧ t.pwr = s.pwr ∧ t.orders = s.orders) ∧
    (s.shownState k = .active → xferEp a ≠ 0 → (s.ports[k.val].endpoint (xferEp a) (xferIn a)).isSome = true →
      epByte (xferEp a) (xferIn a) ∉ s.ports[k.val].haltedEps → a.arg1 ≠ 0 →
      (s.takes opBulkXfer a = true → ∃ t x, exec (.bulkXfer a) s = .next t ∧
        t.inFlight opBulkXfer a .dispatched (.xfer x) ∧ x.port = k ∧ x.isIn = xferIn a ∧ x.length = a.arg1.toNat ∧
        x.outData = a.params ∧ x.moved = 0 ∧ t.ports = s.ports ∧ t.pwr = s.pwr) ∧
      (s.takes opIntXfer a = true → ∃ t x, exec (.intXfer a) s = .next t ∧
        t.inFlight opIntXfer a .dispatched (.xfer x) ∧ x.port = k ∧ x.isIn = xferIn a ∧ x.length = a.arg1.toNat ∧
        x.outData = a.params ∧ x.moved = 0 ∧ t.ports = s.ports ∧ t.pwr = s.pwr) ∧
      (s.takes opIsoXfer a = true → ∃ t x, exec (.isoXfer a) s = .next t ∧
        t.inFlight opIsoXfer a .dispatched (.xfer x) ∧ x.port = k ∧ x.isIn = xferIn a ∧ x.count = isoCount a ∧
        x.size = isoSize a ∧ x.moved = 0 ∧ t.ports = s.ports ∧ t.pwr = s.pwr))) ∧
  (∀ (k : PortId) (ep : BitVec 4) (h : SlotId) (e : TillEntry) (x : Xfer) (s : State),
    s.findXfer k ep true = some (e, x) → e.args.caller = .slot h → e ∉ s.orphans → x.op = 0x31 ∨ x.op = 0x32 → x.isIn = true →
    (∀ l : List Byte, s.usbOn k = true → l.length < s.ports[k.val].maxPacket x.ep.toNat true →
      x.moved + l.length ≤ x.length → s.ordersOver k = true → (x.op = 0x31 → s.freeTime k = true) →
      ∃ t, exec (.xferTransactionDone k ep true (.data l)) s = .next t ∧
        Record.completion (e.completion .ok (toWord (x.moved + l.length)) (x.got ++ l)) ∈ t.slots[h.val].records ∧
        (∀ f ∈ t.slots[h.val].till, f.args.tag ≠ e.args.tag) ∧ t.ports = s.ports) ∧
    (bitsAt e.args.arg0.toNat 16 16 ≠ 0 →
      ∃ t, exec (.xferTimeout k ep true) s = .next t ∧
        Record.completion (e.completion .eNakTimeout (toWord x.moved) x.got) ∈ t.slots[h.val].records ∧
        (∀ f ∈ t.slots[h.val].till, f.args.tag ≠ e.args.tag) ∧ t.ports = s.ports))

/-- SLOT_VBUS_RISE (R86), SS_LINK_TRAINED, SS_TRAINING_TIMEOUT, SS_LINK_FAILURE (R105, R106) and SLOT_VBUS_LOSS (R120). -/
def Obligations.SlotsAppearAndMovePaths : Prop :=
  ∀ (h : SlotId) (s : State),
    (∀ cc : BitVec 2, s.hubSide = true → s.glb.phase ≠ 0xE → s.slots[h.val].domainOn = true →
      s.slots[h.val].presented = false → s.nsf.entryOff = false →
      ∃ t, exec (.slotVbusRise h cc) s = .next t ∧ t.slots[h.val].vbus = true ∧ t.slots[h.val].presented = true ∧
        t.slots[h.val].orient = (if cc = 3 then 0 else cc) ∧
        (s.slots[h.val].ssPll = true → t.slots[h.val].ssTerm = true ∧ t.slots[h.val].tellerPath = 0 ∧
          t.slots[h.val].hub2Susp = false) ∧
        (s.slots[h.val].ssPll = false → t.slots[h.val].ssTerm = false ∧ t.slots[h.val].tellerPath = 2 ∧
          t.slots[h.val].port25Change = true ∧ t.slots[h.val].tellerCfg = false)) ∧
    (∀ gen2, s.slots[h.val].presented = true → s.slots[h.val].ssTerm = true → s.slots[h.val].ssSpeed = 0 →
      ∃ t, exec (.ssLinkTrained h gen2) s = .next t ∧ t.slots[h.val].tellerPath = 1 ∧
        t.slots[h.val].ssSpeed = (if gen2 then 2 else 1) ∧ t.slots[h.val].ssLink = 0 ∧ t.slots[h.val].suspended = false) ∧
    (s.slots[h.val].presented = true → s.slots[h.val].ssTerm = true → s.slots[h.val].tellerPath = 0 →
      ∃ t, exec (.ssTrainingTimeout h) s = .next t ∧ t.slots[h.val].tellerPath = 2 ∧ t.slots[h.val].ssTerm = false ∧
        t.slots[h.val].port25Change = true ∧ t.slots[h.val].tellerAddr = 0) ∧
    (s.slots[h.val].tellerPath = 1 →
      ∃ t, exec (.ssLinkFailure h) s = .next t ∧ t.slots[h.val].tellerPath = 2 ∧ t.slots[h.val].tellerCfg = false ∧
        t.slots[h.val].tellerAddr = 0 ∧ t.slots[h.val].ssHubAddr = 0 ∧ t.slots[h.val].u1En = false ∧
        t.slots[h.val].u2En = false ∧ t.slots[h.val].entryCredits = 512 ∧
        t.slots[h.val].lineCredits = 8192) ∧
    (s.slots[h.val].presented = true →
      ∃ t, exec (.slotVbusLoss h) s = .next t ∧ t.slots[h.val].vbus = false ∧ t.slots[h.val].orient = 0 ∧ t.slots[h.val].presented = false ∧
        t.slots[h.val].tellerPath = 0 ∧ t.slots[h.val].tellerCfg = false ∧ t.slots[h.val].suspended = true)

/-- SLOT_BUS_RESET (R125) with R168, R172 and R221. -/
def Obligations.BusResetEmptiesTheTill : Prop :=
  ∀ (h : SlotId) (s : State), s.slots[h.val].presented = true →
    (s.slots[h.val].tellerPath = 2 → ∃ t, exec (.slotBusReset h .usb2) s = .next t ∧ t.SlotWasReset h ∧
      t.slots[h.val].hub2Addr = 0 ∧ t.slots[h.val].hub2Cfg = false) ∧
    (s.slots[h.val].tellerPath = 1 → ∃ t, exec (.slotBusReset h .warm) s = .next t ∧ t.SlotWasReset h ∧
      t.slots[h.val].ssHubAddr = 0 ∧ t.slots[h.val].ssHubCfg = false ∧ t.slots[h.val].ssLink = 0)

/-- SLOT_SUSPEND, SLOT_RESUME, USB2_HUB_SUSPEND, USB2_HUB_RESUME (R120 to R122), UPSTREAM_LINK_U1_U2 (R100) and UPSTREAM_SOF
(R251). -/
def Obligations.SlotsSuspendAndResume : Prop :=
  ∀ (h : SlotId) (s : State), s.slots[h.val].presented = true →
    (s.slots[h.val].tellerPath = 1 → s.slots[h.val].suspended = false →
      ∃ t, exec (.slotSuspend h) s = .next t ∧ t.slots[h.val].suspended = true ∧ t.slots[h.val].ssLink = 3 ∧
        ∀ (k : PortId) (g : GroupId), s.owns h k = true → s.mode k = .proxy → g ∈ s.portGroups k →
          testBit t.mint.groups[g.val].pend 12 = true) ∧
    (s.slots[h.val].tellerPath = 1 → s.slots[h.val].suspended = true →
      ∃ t, exec (.slotResume h) s = .next t ∧ t.slots[h.val].suspended = false ∧ t.slots[h.val].ssLink = 0 ∧
        t.slots[h.val].wakeSignal = false ∧
        ∀ k : PortId, s.owns h k = true → s.ports[k.val].slotSuspend = true → s.ports[k.val].state = .suspended →
          t.ports[k.val].state = .resuming) ∧
    (s.slots[h.val].tellerPath = 1 → s.slots[h.val].hub2Susp = false →
      ∃ t, exec (.usb2HubSuspend h) s = .next t ∧ t.slots = vmod s.slots h (fun x => { x with hub2Susp := true })) ∧
    (s.slots[h.val].tellerPath = 1 → s.slots[h.val].hub2Susp = true →
      ∃ t, exec (.usb2HubResume h) s = .next t ∧ t.slots = vmod s.slots h (fun x => { x with
        hub2Susp := false, hubWake := false }) ∧
        ∀ k : PortId, s.ownRelay h k = true → s.ports[k.val].hubSuspend = true → s.ports[k.val].state = .suspended →
          t.ports[k.val].state = .resuming) ∧
    (∀ (st : BitVec 2) (own : Bool), s.slots[h.val].ssSpeed ≠ 0 → s.slots[h.val].ssLink ≠ 3 →
      let allowed := st = 0 ∨ (st = 1 ∧ s.slots[h.val].u1En = true) ∨ (st = 2 ∧ s.slots[h.val].u2En = true)
      let barred := own = true ∧ st ≠ 0 ∧ (s.slots[h.val].subscribed = true ∨ s.slots[h.val].nextSubscribed = true ∨
        s.slots[h.val].till ≠ [])
      (allowed ∧ ¬barred → exec (.upstreamLinkU1U2 h st own) s = .next (s.modSlot h fun x => { x with ssLink := st })) ∧
      (¬allowed ∨ barred → exec (.upstreamLinkU1U2 h st own) s = .next s)) ∧
    (∀ (ts : Dword) (itp : Bool),
      (itp = false ∨ s.slots[h.val].tellerPath = 1 →
        exec (.upstreamSof h ts itp) s = .next (s.modSlot h fun x => { x with usofTs := ts })) ∧
      (itp = true → s.slots[h.val].tellerPath ≠ 1 → exec (.upstreamSof h ts itp) s = .next s))

/-- STANDARD_REQUEST (R104, R107, R108). -/
def Obligations.StandardRequestsAreAnswered : Prop :=
  ∀ (h : SlotId) (s : State),
    (∀ f, s.functionUp h f = true →
      (∀ v : Byte, 1 < v.toNat → exec (.standardRequest h f (.setConfiguration v)) s = .next (s.reply h .stall)) ∧
      exec (.standardRequest h f .vendor) s = .next (s.reply h .stall) ∧
      (∃ l, exec (.standardRequest h f (.getDescriptor 1 0)) s = .next (s.reply h (.data l)) ∧ leAt l 8 2 = 0x32B1 ∧
        leAt l 10 2 = s.slots[h.val].product f ∧ leAt l 12 2 = 0x00B0)) ∧
    (s.functionUp h .teller = true →
      (∀ a, exec (.standardRequest h .teller (.setAddress a)) s =
        .next ((s.modSlot h fun x => { x with tellerAddr := a }).reply h .ack)) ∧
      (∃ t, exec (.standardRequest h .teller (.setConfiguration 1)) s = .next t ∧ t.slots[h.val].tellerCfg = true ∧
        t.slots[h.val].ctl = .ack) ∧
      (∃ t, exec (.standardRequest h .teller (.setConfiguration 0)) s = .next t ∧ t.slots[h.val].tellerCfg = false ∧
        t.slots[h.val].ctl = .ack) ∧
      (∀ on, exec (.standardRequest h .teller (.remoteWake on)) s =
        .next ((s.modSlot h fun x => { x with wakeTeller := on }).reply h .ack))) ∧
    (s.functionUp h .hub2 = true →
      (∀ a, exec (.standardRequest h .hub2 (.setAddress a)) s =
        .next ((s.modSlot h fun x => { x with hub2Addr := a }).reply h .ack)) ∧
      exec (.standardRequest h .hub2 (.setConfiguration 1)) s =
        .next ((s.modSlot h fun x => { x with hub2Cfg := true }).reply h .ack) ∧
      (∀ on, exec (.standardRequest h .hub2 (.remoteWake on)) s =
        .next ((s.modSlot h fun x => { x with wakeHub2 := on }).reply h .ack))) ∧
    (s.functionUp h .ssHub = true →
      (∀ a, exec (.standardRequest h .ssHub (.setAddress a)) s =
        .next ((s.modSlot h fun x => { x with ssHubAddr := a }).reply h .ack)) ∧
      (∀ on, exec (.standardRequest h .ssHub (.u1Enable on)) s =
        .next ((s.modSlot h fun x => { x with u1En := on }).reply h .ack)) ∧
      (∀ on, exec (.standardRequest h .ssHub (.u2Enable on)) s =
        .next ((s.modSlot h fun x => { x with u2En := on }).reply h .ack))) ∧
    (s.functionUp h .hub2 = true → ∀ k : PortId,
      (∃ t, exec (.standardRequest h .hub2 (.clearPortFeature (some k) .cConnection)) s = .next t ∧
        t.slots[h.val].hub[k.val] = { s.slots[h.val].hub[k.val] with connection := false } ∧ t.slots[h.val].ctl = .ack ∧
        t.ports = s.ports) ∧
      (s.ownRelay h k = true → s.ports[k.val].state = .active →
        ∃ t, exec (.standardRequest h .hub2 (.clearPortFeature (some k) .enable)) s = .next t ∧
          t.ports[k.val].state = .disabled ∧ t.slots[h.val].ctl = .ack) ∧
      (s.ownRelay h k = false →
        exec (.standardRequest h .hub2 (.clearPortFeature (some k) .enable)) s = .next (s.reply h .ack)))

/-- SPLINE_FLIT_ERROR, SPLINE_LINK_DOWN, SPLINE_HOLDOVER_EXPIRY and SPLINE_LINK_UP (R17, R18, R78, R464). -/
def Obligations.SplineLinksGoAndCome : Prop :=
  ∀ (i : StileId) (s : State),
    (s.stiles[i.val].up = true →
      ∀ (place : BitVec 3) (seen : Option (List Byte)) (again : Bool),
      (seen = none ∨ (∃ l, seen = some l ∧ flitFails l = true) →
        (again = true → s.stiles[i.val].replayAt = some place → s.stiles[i.val].failedRetries < 15 →
          exec (.splineFlitError i place seen again) s = .next (s.modStile i fun x => { x with
            retry := satAdd x.retry 1, failedRetries := x.failedRetries + 1 })) ∧
        (again = true → s.stiles[i.val].replayAt = some place → 15 ≤ s.stiles[i.val].failedRetries →
          ∃ t, exec (.splineFlitError i place seen again) s = .next t ∧ t.stiles[i.val].up = false ∧
            t.stiles[i.val].down = satAdd s.stiles[i.val].down 1) ∧
        (again = false ∨ s.stiles[i.val].replayAt ≠ some place →
          exec (.splineFlitError i place seen again) s = .next (s.modStile i fun x => { x with
            retry := satAdd x.retry 1, replayAt := some place, failedRetries := 0 }))) ∧
      (∀ l, seen = some l → l.length = 12 → leAt l 10 2 = crc16 Config.flitCrcInit (l.take 10) →
        exec (.splineFlitError i place seen again) s = .next s)) ∧
    (s.stiles[i.val].up = true → (s.stiles[i.val].downTimes.filter fun t => decide (s.glb.clock < t + 80000)).length < 3 →
      ∃ t, exec (.splineLinkDown i) s = .next t ∧ t.stiles[i.val].up = false ∧ t.stiles[i.val].holdover = true ∧
        t.stiles[i.val].retraining = true ∧ t.stiles[i.val].down = satAdd s.stiles[i.val].down 1 ∧
        t.stiles[i.val].retry = satAdd s.stiles[i.val].retry s.stiles[i.val].retriesLeft ∧ t.pwr = s.pwr ∧
        t.ports = s.ports ∧ t.pd = s.pd) ∧
    (s.stiles[i.val].up = true → 3 ≤ (s.stiles[i.val].downTimes.filter fun t => decide (s.glb.clock < t + 80000)).length →
      ∃ t, exec (.splineLinkDown i) s = .next t ∧ t.stiles[i.val].up = false ∧ t.stiles[i.val].quarantined = true ∧
        ∀ k : PortId, stileOf k = i → t.pwr[k.val].gateL = false ∧ t.pwr[k.val].gateH = false) ∧
    (s.stiles[i.val].holdover = true →
      ∃ t, exec (.splineHoldoverExpiry i) s = .next t ∧ t.stiles[i.val].holdover = false ∧ t.stiles[i.val].shutdown = true ∧
        ∀ k : PortId, stileOf k = i → t.pwr[k.val].gateL = false ∧ t.pwr[k.val].gateH = false) ∧
    (s.awake = true → s.glb.clocksOk = true → s.glb.held = false → s.stiles[i.val].vgdOk = true → s.stiles[i.val].up = false →
      ∃ t, exec (.splineLinkUp i) s = .next t ∧ t.stiles[i.val].up = true ∧ t.stiles[i.val].holdover = false ∧
        t.stiles[i.val].shutdown = false ∧ t.stiles[i.val].retraining = false ∧ t.stiles[i.val].kept = [])

/-- SO_CREATE, SO_MODIFY, SO_DELETE, SO_QUERY, ORDER_TRANSACTION_DONE and ORDER_WINDOW_END (file 07). -/
def Obligations.OrdersAreAdmittedRunAndDeleted : Prop :=
  (∀ (a : CmdArgs) (s : State), s.takes opSoCreate a = true →
    let r := orderRecOf a.params
    (∀ st, s.recordStatus r none = some st → ∃ t, exec (.soCreate a) s = .next t ∧ t.answered opSoCreate a st 0 [] ∧
      (s.leaveS1 0x40).SameButAnswer t a.caller []) ∧
    (s.recordStatus r none = none → s.overBudget r none = none →
      (a.arg0 ≠ 0xFFFFFFFF → s.orders[(orderArg a).val].state = .free) →
      (a.arg0 = 0xFFFFFFFF → ∃ n : OrderId, s.orders[n.val].state = .free) →
      ∃ (t : State) (n : OrderId), exec (.soCreate a) s = .next t ∧ t.answered opSoCreate a .ok (toWord n.val) [] ∧
        (a.arg0 ≠ 0xFFFFFFFF → n = orderArg a) ∧ s.orders[n.val].state = .free ∧ t.orders[n.val].state = s.issuedState r ∧
        t.orders[n.val].cfg = some r ∧ t.orders[n.val].done = 0 ∧ t.orders[n.val].err = 0 ∧ t.orders[n.val].skip = 0 ∧
        t.orders[n.val].late = 0 ∧ t.orders[n.val].widx = 0 ∧ ∀ m : OrderId, m ≠ n → t.orders[m.val] = s.orders[m.val])) ∧
  (∀ (a : CmdArgs) (s : State), s.takes opSoModify a = true →
    let r := orderRecOf a.params
    let n := orderArg a
    let bound := s.orders[n.val].cfg.any fun old =>
      !(s.coveredBy old).isEmpty && old.bound r (s.frameSize old.firstCh old.nch none)
    s.orders[n.val].state ≠ .free → s.recordStatus r (some n) = none →
    (bound = true →
      ∃ t, exec (.soModify a) s = .next t ∧ t.answered opSoModify a .eRange 0 [] ∧
        (s.leaveS1 0x41).SameButAnswer t a.caller []) ∧
    (bound = false → s.overBudget r (some n) = none →
    ∃ t, exec (.soModify a) s = .next t ∧ t.answered opSoModify a .ok 0 [] ∧ t.orders[n.val].state = s.issuedState r ∧
      t.orders[n.val].cfg = some r ∧ t.orders[n.val].done = 0 ∧ t.orders[n.val].occ = s.orders[n.val].occ ∧
      ∀ m : OrderId, m ≠ n → t.orders[m.val] = s.orders[m.val])) ∧
  (∀ (a : CmdArgs) (r : OrderRec) (s : State), s.takes opSoDelete a = true →
    let n := orderArg a
    s.orders[n.val].state ≠ .free → s.orders[n.val].cfg = some r → s.servedBy r = [] →
    (s.orders[n.val].occ = none → ∃ t, exec (.soDelete a) s = .next t ∧ t.answered opSoDelete a .ok 0 [] ∧
      t.orders[n.val].state = .free ∧ t.orders[n.val].cfg = none ∧ t.orders[n.val].occ = none ∧
      t.orders[n.val].done = 0 ∧ t.orders[n.val].slot = {} ∧ ∀ m : OrderId, m ≠ n → t.orders[m.val] = s.orders[m.val]) ∧
    (s.orders[n.val].occ.isSome = true → ∃ t, exec (.soDelete a) s = .next t ∧
      t.inFlight opSoDelete a .dispatched (.soDelete n) ∧ t.orders = vmod s.orders n (fun o => { o with deleting := true }))) ∧
  (∀ (a : CmdArgs) (s : State), s.takes opSoQuery a = true → ∃ t data, exec (.soQuery a) s = .next t ∧
    t.answered opSoQuery a .ok 0 data ∧ data.length = 64 ∧
    data.take 32 = fitTo 32 ((s.orders[(orderArg a).val].cfg.map (·.raw)).getD []) ∧
    leAt data 40 4 = s.orders[(orderArg a).val].done.toNat ∧ (s.leaveS1 0x43).SameButAnswer t a.caller []) ∧
  (∀ (n : OrderId) (c : Occurrence) (r : XactResult) (late fits : Bool) (s : State), s.orders[n.val].occ = some c →
    s.isActive c.cfg.port = true → s.mayRun n c = true → s.orders[n.val].deleting = false →
    c.built = true ∨ (c.cfg.cls ≠ .mintOut ∧ c.cfg.dest ≠ .ledgerSrc) →
    (∀ d, c.step r late fits = some (.more d) → c.cfg.dest ≠ .ledgerSrc →
      ∃ t, exec (.orderTransactionDone n r late fits) s = .next t ∧ t.orders[n.val] = { s.orders[n.val] with
        occ := some { d with built := d.built && d.txn == c.txn }
        sent := if c.cfg.isIn then s.orders[n.val].sent else s.outBytes n c }) ∧
    (∀ d st, c.step r late fits = some (.over d st) → s.destLost c.cfg = false → d.cfg = c.cfg →
      ∃ t, exec (.orderTransactionDone n r late fits) s = .next t ∧ t.orders[n.val].occ = none ∧
        (st ≠ .babble → t.orders[n.val].last = st ∧ t.orders[n.val].ran = true ∧
          t.orders[n.val].done = satAdd s.orders[n.val].done (if st.good then 1 else 0) ∧
          t.orders[n.val].skip = satAdd s.orders[n.val].skip (if st = .skipped then 1 else 0)) ∧
        (st = .stall → s.orders[n.val].state = .active ∨ s.orders[n.val].state = .destLost →
          t.orders[n.val].state = .halted) ∧
        (st = .babble → t.ports[c.cfg.port.val].state = .disabled))) ∧
  (∀ (n : OrderId) (c : Occurrence) (r : XactResult) (late fits : Bool) (s : State), s.orders[n.val].occ = some c →
    s.mayRun n c = false → exec (.orderTransactionDone n r late fits) s = .next s) ∧
  (∀ (k : PortId) (w : OrderWindow) (s : State), ∃ t, exec (.orderWindowEnd k w) s = .next t ∧
    let ends := fun (c : Occurrence) => c.cfg.port = k ∧ windowEnds w (speedHigh s.ports[k.val].speed) c = true
    (∀ (n : OrderId) (c : Occurrence), s.orders[n.val].occ = some c → ends c →
      s.orders[n.val].deleting = false → t.orders[n.val].occ = none ∧ t.orders[n.val].ran = true ∧
        (s.destLost c.cfg = false → t.orders[n.val].last = if c.tries ≠ 0 then .error else .skipped)) ∧
    (∀ n : OrderId, (∀ c, s.orders[n.val].occ = some c → ¬ends c ∧
        (c.cfg.port = k → c.cfg.cls ≠ .mintOut ∧ c.cfg.dest ≠ .ledgerSrc)) →
      t.orders[n.val] = s.orders[n.val]))

/-- PRS_CFG, PRS_READ, PRS_READ_COPY_DONE, STMT_LAYOUT, STMT_SUBSCRIBE, STATEMENT_ASSEMBLY and STATEMENT_DELIVERY (file 07). -/
def Obligations.PursesAndStatementsCarryResults : Prop :=
  (∀ (a : CmdArgs) (h : SlotId) (s : State), s.takes opPrsCfg a = true → a.caller = .slot h →
    let n := purseArg a
    let b := leAt a.params 0 2
    let f : Byte := BitVec.ofNat 8 (leAt a.params 4 1)
    (0 < b → s.purses[n.val].blocks = 0 → s.purses[n.val].retired = false → b ≤ s.freeBlocks →
      ∃ t, exec (.prsCfg a) s = .next t ∧ t.answered opPrsCfg a .ok 0 [] ∧ t.purses[n.val].blocks = b ∧
        t.purses[n.val].owner = h ∧ t.purses[n.val].words = [] ∧ t.purses[n.val].watermark = leAt a.params 2 2 ∧
        t.purses[n.val].wmEvent = testBit f 0 ∧ t.purses[n.val].lossEvent = testBit f 1 ∧ t.purses[n.val].lost = 0 ∧
        ∀ m : PurseId, m ≠ n → t.purses[m.val] = s.purses[m.val]) ∧
    (b = 0 → s.purses[n.val].blocks ≠ 0 → ∃ t, exec (.prsCfg a) s = .next t ∧ t.answered opPrsCfg a .ok 0 [] ∧
      t.purses[n.val].blocks = 0 ∧ t.purses[n.val].words = [] ∧ ∀ m : PurseId, m ≠ n → t.purses[m.val] = s.purses[m.val]) ∧
    (0 < b → s.purses[n.val].retired = false → s.freeBlocks + s.purses[n.val].blocks < b →
      ∃ t, exec (.prsCfg a) s = .next t ∧ t.answered opPrsCfg a .eBusy 0 [] ∧ (s.leaveS1 0xB0).SameButAnswer t a.caller [])) ∧
  (∀ (a : CmdArgs) (s : State), s.takes opPrsRead a = true →
    let n := purseArg a
    let p := s.purses[n.val]
    let k := p.readCount (min a.arg1.toNat 8064)
    p.retired = false → p.pointersOk = true → p.badWord k = none →
    (0 < k → ∃ t, exec (.prsRead a) s = .next t ∧
      t.answered opPrsRead a .ok (toWord k) ((p.words.take k).flatMap (fun w => leBytes 8 w.data.toNat) ++
        endBitmap (p.words.take k) ++ p.statusWord false) ∧
      t.purses[n.val].words = p.words.drop k ∧ t.purses[n.val].detached = p.detached + k ∧ k ≤ a.arg1.toNat ∧
      (∀ d, p.draft = none → t.purses[n.val].draft = some d → s.ldg.drafts[d.val].busy = false ∧
        t.ldg.drafts[d.val].busy = true ∧ t.ldg.drafts[d.val].client = 3) ∧
      ∀ m : PurseId, m ≠ n → t.purses[m.val] = s.purses[m.val]) ∧
    (k = 0 → ∃ t, exec (.prsRead a) s = .next t ∧
      t.answered opPrsRead a .ok 0 (List.replicate 16 0 ++ p.statusWord true) ∧
      ((s.leaveS1 0xB1).modPurse n fun p => { p with armed := true }).SameButAnswer t a.caller [])) ∧
  (∀ (n : PurseId) (s : State), ∃ t, exec (.prsReadCopyDone n) s = .next t ∧
    t.purses = vmod s.purses n (fun p => { p with detached := 0, draft := none }) ∧
    ∀ d, s.purses[n.val].draft = some d → t.ldg.drafts[d.val].busy = false) ∧
  (∀ (a : CmdArgs) (h : SlotId) (s : State), a.caller = .slot h →
    (s.takes opStmtLayout a = true → layoutSize ((layoutDescs a.params).map s.elemOf) ≤
        (if s.slots[h.val].tellerPath = 2 then 4096 else 16384) →
      ∃ t, exec (.stmtLayout a) s = .next t ∧ t.answered opStmtLayout a .ok 0 [] ∧
        ((s.leaveS1 0x48).modSlot h fun x => { x with
          nextLayout := some ((layoutDescs a.params).map s.elemOf) }).SameButAnswer t a.caller [.orders]) ∧
    (s.takes opStmtSubscribe a = true →
      (testBit a.arg0 0 = true → s.slots[h.val].layout.isSome = true ∨ s.slots[h.val].nextLayout.isSome = true) →
      ∃ t, exec (.stmtSubscribe a) s = .next t ∧ t.answered opStmtSubscribe a .ok 0 [] ∧
        ((s.leaveS1 0x49).modSlot h fun x => { x with nextSubscribed := testBit a.arg0 0 }).SameButAnswer t a.caller
          [.orders])) ∧
  (∀ s : State, s.mint.sent = false ∨ s.glb.assembled = true → exec .statementAssembly s = .next s) ∧
  (∀ (h : SlotId) (l : List LayoutElem) (s : State), s.awake = true → s.tally.running = true →
    s.mint.sent = true → s.glb.assembled = false → s.slots[h.val].layout = some l → s.slots[h.val].assembles = true →
    ¬(s.slots[h.val].tellerPath = 2 ∧ 4096 < layoutSize l) →
    ∃ t st, exec .statementAssembly s = .next t ∧ t.glb.assembled = true ∧ st.n = s.nLow ∧ st.sofTime = s.tally.sofTime ∧
      st.gen = s.slots[h.val].layoutGen ∧ st.count = l.length ∧ st.truncated = false ∧
      st.newLayout = s.slots[h.val].newLayout ∧ 32 + st.body.length = layoutSize l ∧
      (s.slots[h.val].statements.length < 2 → t.slots[h.val].statements = s.slots[h.val].statements ++ [st] ∧
        t.slots[h.val].dropped = s.slots[h.val].dropped) ∧
      (2 ≤ s.slots[h.val].statements.length → t.slots[h.val].statements = s.slots[h.val].statements.drop 1 ++ [st] ∧
        t.slots[h.val].dropped = satAdd s.slots[h.val].dropped 1 ∧ t.slots[h.val].dropBefore = true)) ∧
  (∀ (h : SlotId) (st : Statement) (rest : List Statement) (s : State), s.pathOpen h = true →
    s.slots[h.val].statements = st :: rest → s.ldg.faulty inStatements = [] →
    exec (.statementDelivery h) s = .next (s.modSlot h fun x => { x with
      statements := rest, dropBefore := false, lastIn82 := st.bytes h x.dropBefore x.dropped }))

/-- MICROFRAME_BOUNDARY (R31, R237, R298). -/
def Obligations.BoundaryTakesTheSnapshot : Prop :=
  ∀ s : State, s.awake = true → s.tally.running = true →
    ∃ t, exec .microframeBoundary s = .next t ∧ t.tally.n = s.tally.n + 1 + BitVec.ofInt 64 s.tally.relabelN ∧
      t.tally.t = s.tally.t + 125000 + BitVec.ofInt 64 (125000 * s.tally.relabelT) ∧ t.tally.relabelT = 0 ∧
      t.tally.relabelN = 0 ∧ t.glb.clock = s.glb.clock + 1 ∧ t.mint.sent = false ∧ t.mint.pend = [] ∧ t.clr.pend = [] ∧
      (∀ h : SlotId, t.slots[h.val].keyHold = [] ∧ t.slots[h.val].subscribed = s.slots[h.val].nextSubscribed ∧
        (∀ l, s.slots[h.val].nextLayout = some l → t.slots[h.val].layout = some l ∧
          t.slots[h.val].layoutGen = s.slots[h.val].layoutGen + 1 ∧ t.slots[h.val].newLayout = true)) ∧
      t.teller.mbxKeyHold = [] ∧ (∀ m, s.tally.nextReq = some m → t.tally.req = m ∧ t.tally.nextReq = none) ∧
      t.tally.msiSnap = t.tally.msiCfg ∧
      (∀ c r x y, s.mint.pend = [.config c r x y] → t.mint.chans[c.val].cfg = some r) ∧
      (∀ g : GroupId, s.mint.groups[g.val].state = .idle →
        s.mint.groups[g.val].pend ≠ 0 → t.mint.groups[g.val].state = .held ∧
          ∀ i, i < 16 → testBit s.mint.groups[g.val].pend i = true → testBit t.mint.groups[g.val].cause i = true)

end
end

