-- ==== Sys2Proof/Laws/State.lean ====
section
/-! SUPPORT. The named updates of the state: one lemma per field per update, so that no later proof unfolds a record update, and
the laws of `vmod`. -/
namespace Sys2Proof.Machine

/-- The element changed. -/
@[simp] theorem vmod_same {α : Type} {n : Nat} (v : Vector α n) (i : Fin n) (f : α → α) : (vmod v i f)[i.val] = f v[i.val] := by
  simp [vmod]

/-- Any other element stays. -/
theorem vmod_other {α : Type} {n : Nat} (v : Vector α n) (i : Fin n) (f : α → α) (j : Nat) (hj : j < n) (h : i.val ≠ j) :
    (vmod v i f)[j] = v[j] := by
  simp [vmod, Vector.getElem_set_ne, h]

/-- Any element, by cases. -/
theorem vmod_get {α : Type} {n : Nat} (v : Vector α n) (i : Fin n) (f : α → α) (j : Nat) (hj : j < n) :
    (vmod v i f)[j] = if i.val = j then f v[j] else v[j] := by
  split
  · next h => subst h; simp
  · next h => exact vmod_other v i f j hj h

@[simp] theorem State.modSlot_glb (s : State) (h : SlotId) (f : Slot → Slot) : (s.modSlot h f).glb = s.glb := rfl
@[simp] theorem State.modSlot_teller (s : State) (h : SlotId) (f : Slot → Slot) : (s.modSlot h f).teller = s.teller := rfl
@[simp] theorem State.modSlot_fw (s : State) (h : SlotId) (f : Slot → Slot) : (s.modSlot h f).fw = s.fw := rfl
@[simp] theorem State.modSlot_slots (s : State) (h : SlotId) (f : Slot → Slot) : (s.modSlot h f).slots = vmod s.slots h f := rfl
@[simp] theorem State.modSlot_ports (s : State) (h : SlotId) (f : Slot → Slot) : (s.modSlot h f).ports = s.ports := rfl
@[simp] theorem State.modSlot_pd (s : State) (h : SlotId) (f : Slot → Slot) : (s.modSlot h f).pd = s.pd := rfl
@[simp] theorem State.modSlot_pwr (s : State) (h : SlotId) (f : Slot → Slot) : (s.modSlot h f).pwr = s.pwr := rfl
@[simp] theorem State.modSlot_stiles (s : State) (h : SlotId) (f : Slot → Slot) : (s.modSlot h f).stiles = s.stiles := rfl
@[simp] theorem State.modSlot_escrow (s : State) (h : SlotId) (f : Slot → Slot) : (s.modSlot h f).escrow = s.escrow := rfl
@[simp] theorem State.modSlot_orders (s : State) (h : SlotId) (f : Slot → Slot) : (s.modSlot h f).orders = s.orders := rfl
@[simp] theorem State.modSlot_purses (s : State) (h : SlotId) (f : Slot → Slot) : (s.modSlot h f).purses = s.purses := rfl
@[simp] theorem State.modSlot_tally (s : State) (h : SlotId) (f : Slot → Slot) : (s.modSlot h f).tally = s.tally := rfl
@[simp] theorem State.modSlot_dvt (s : State) (h : SlotId) (f : Slot → Slot) : (s.modSlot h f).dvt = s.dvt := rfl
@[simp] theorem State.modSlot_mint (s : State) (h : SlotId) (f : Slot → Slot) : (s.modSlot h f).mint = s.mint := rfl
@[simp] theorem State.modSlot_clr (s : State) (h : SlotId) (f : Slot → Slot) : (s.modSlot h f).clr = s.clr := rfl
@[simp] theorem State.modSlot_ldg (s : State) (h : SlotId) (f : Slot → Slot) : (s.modSlot h f).ldg = s.ldg := rfl
@[simp] theorem State.modSlot_vault (s : State) (h : SlotId) (f : Slot → Slot) : (s.modSlot h f).vault = s.vault := rfl
@[simp] theorem State.modSlot_nsf (s : State) (h : SlotId) (f : Slot → Slot) : (s.modSlot h f).nsf = s.nsf := rfl
@[simp] theorem State.modSlot_pending (s : State) (h : SlotId) (f : Slot → Slot) : (s.modSlot h f).pending = s.pending := rfl
@[simp] theorem State.modSlot_orphans (s : State) (h : SlotId) (f : Slot → Slot) : (s.modSlot h f).orphans = s.orphans := rfl
@[simp] theorem State.modPort_glb (s : State) (k : PortId) (f : Port → Port) : (s.modPort k f).glb = s.glb := rfl
@[simp] theorem State.modPort_teller (s : State) (k : PortId) (f : Port → Port) : (s.modPort k f).teller = s.teller := rfl
@[simp] theorem State.modPort_fw (s : State) (k : PortId) (f : Port → Port) : (s.modPort k f).fw = s.fw := rfl
@[simp] theorem State.modPort_slots (s : State) (k : PortId) (f : Port → Port) : (s.modPort k f).slots = s.slots := rfl
@[simp] theorem State.modPort_ports (s : State) (k : PortId) (f : Port → Port) : (s.modPort k f).ports = vmod s.ports k f := rfl
@[simp] theorem State.modPort_pd (s : State) (k : PortId) (f : Port → Port) : (s.modPort k f).pd = s.pd := rfl
@[simp] theorem State.modPort_pwr (s : State) (k : PortId) (f : Port → Port) : (s.modPort k f).pwr = s.pwr := rfl
@[simp] theorem State.modPort_stiles (s : State) (k : PortId) (f : Port → Port) : (s.modPort k f).stiles = s.stiles := rfl
@[simp] theorem State.modPort_escrow (s : State) (k : PortId) (f : Port → Port) : (s.modPort k f).escrow = s.escrow := rfl
@[simp] theorem State.modPort_orders (s : State) (k : PortId) (f : Port → Port) : (s.modPort k f).orders = s.orders := rfl
@[simp] theorem State.modPort_purses (s : State) (k : PortId) (f : Port → Port) : (s.modPort k f).purses = s.purses := rfl
@[simp] theorem State.modPort_tally (s : State) (k : PortId) (f : Port → Port) : (s.modPort k f).tally = s.tally := rfl
@[simp] theorem State.modPort_dvt (s : State) (k : PortId) (f : Port → Port) : (s.modPort k f).dvt = s.dvt := rfl
@[simp] theorem State.modPort_mint (s : State) (k : PortId) (f : Port → Port) : (s.modPort k f).mint = s.mint := rfl
@[simp] theorem State.modPort_clr (s : State) (k : PortId) (f : Port → Port) : (s.modPort k f).clr = s.clr := rfl
@[simp] theorem State.modPort_ldg (s : State) (k : PortId) (f : Port → Port) : (s.modPort k f).ldg = s.ldg := rfl
@[simp] theorem State.modPort_vault (s : State) (k : PortId) (f : Port → Port) : (s.modPort k f).vault = s.vault := rfl
@[simp] theorem State.modPort_nsf (s : State) (k : PortId) (f : Port → Port) : (s.modPort k f).nsf = s.nsf := rfl
@[simp] theorem State.modPort_pending (s : State) (k : PortId) (f : Port → Port) : (s.modPort k f).pending = s.pending := rfl
@[simp] theorem State.modPort_orphans (s : State) (k : PortId) (f : Port → Port) : (s.modPort k f).orphans = s.orphans := rfl
@[simp] theorem State.modPd_glb (s : State) (k : PortId) (f : Pd → Pd) : (s.modPd k f).glb = s.glb := rfl
@[simp] theorem State.modPd_teller (s : State) (k : PortId) (f : Pd → Pd) : (s.modPd k f).teller = s.teller := rfl
@[simp] theorem State.modPd_fw (s : State) (k : PortId) (f : Pd → Pd) : (s.modPd k f).fw = s.fw := rfl
@[simp] theorem State.modPd_slots (s : State) (k : PortId) (f : Pd → Pd) : (s.modPd k f).slots = s.slots := rfl
@[simp] theorem State.modPd_ports (s : State) (k : PortId) (f : Pd → Pd) : (s.modPd k f).ports = s.ports := rfl
@[simp] theorem State.modPd_pd (s : State) (k : PortId) (f : Pd → Pd) : (s.modPd k f).pd = vmod s.pd k f := rfl
@[simp] theorem State.modPd_pwr (s : State) (k : PortId) (f : Pd → Pd) : (s.modPd k f).pwr = s.pwr := rfl
@[simp] theorem State.modPd_stiles (s : State) (k : PortId) (f : Pd → Pd) : (s.modPd k f).stiles = s.stiles := rfl
@[simp] theorem State.modPd_escrow (s : State) (k : PortId) (f : Pd → Pd) : (s.modPd k f).escrow = s.escrow := rfl
@[simp] theorem State.modPd_orders (s : State) (k : PortId) (f : Pd → Pd) : (s.modPd k f).orders = s.orders := rfl
@[simp] theorem State.modPd_purses (s : State) (k : PortId) (f : Pd → Pd) : (s.modPd k f).purses = s.purses := rfl
@[simp] theorem State.modPd_tally (s : State) (k : PortId) (f : Pd → Pd) : (s.modPd k f).tally = s.tally := rfl
@[simp] theorem State.modPd_dvt (s : State) (k : PortId) (f : Pd → Pd) : (s.modPd k f).dvt = s.dvt := rfl
@[simp] theorem State.modPd_mint (s : State) (k : PortId) (f : Pd → Pd) : (s.modPd k f).mint = s.mint := rfl
@[simp] theorem State.modPd_clr (s : State) (k : PortId) (f : Pd → Pd) : (s.modPd k f).clr = s.clr := rfl
@[simp] theorem State.modPd_ldg (s : State) (k : PortId) (f : Pd → Pd) : (s.modPd k f).ldg = s.ldg := rfl
@[simp] theorem State.modPd_vault (s : State) (k : PortId) (f : Pd → Pd) : (s.modPd k f).vault = s.vault := rfl
@[simp] theorem State.modPd_nsf (s : State) (k : PortId) (f : Pd → Pd) : (s.modPd k f).nsf = s.nsf := rfl
@[simp] theorem State.modPd_pending (s : State) (k : PortId) (f : Pd → Pd) : (s.modPd k f).pending = s.pending := rfl
@[simp] theorem State.modPd_orphans (s : State) (k : PortId) (f : Pd → Pd) : (s.modPd k f).orphans = s.orphans := rfl
@[simp] theorem State.modPwr_glb (s : State) (k : PortId) (f : Pwr → Pwr) : (s.modPwr k f).glb = s.glb := rfl
@[simp] theorem State.modPwr_teller (s : State) (k : PortId) (f : Pwr → Pwr) : (s.modPwr k f).teller = s.teller := rfl
@[simp] theorem State.modPwr_fw (s : State) (k : PortId) (f : Pwr → Pwr) : (s.modPwr k f).fw = s.fw := rfl
@[simp] theorem State.modPwr_slots (s : State) (k : PortId) (f : Pwr → Pwr) : (s.modPwr k f).slots = s.slots := rfl
@[simp] theorem State.modPwr_ports (s : State) (k : PortId) (f : Pwr → Pwr) : (s.modPwr k f).ports = s.ports := rfl
@[simp] theorem State.modPwr_pd (s : State) (k : PortId) (f : Pwr → Pwr) : (s.modPwr k f).pd = s.pd := rfl
@[simp] theorem State.modPwr_pwr (s : State) (k : PortId) (f : Pwr → Pwr) : (s.modPwr k f).pwr = vmod s.pwr k f := rfl
@[simp] theorem State.modPwr_stiles (s : State) (k : PortId) (f : Pwr → Pwr) : (s.modPwr k f).stiles = s.stiles := rfl
@[simp] theorem State.modPwr_escrow (s : State) (k : PortId) (f : Pwr → Pwr) : (s.modPwr k f).escrow = s.escrow := rfl
@[simp] theorem State.modPwr_orders (s : State) (k : PortId) (f : Pwr → Pwr) : (s.modPwr k f).orders = s.orders := rfl
@[simp] theorem State.modPwr_purses (s : State) (k : PortId) (f : Pwr → Pwr) : (s.modPwr k f).purses = s.purses := rfl
@[simp] theorem State.modPwr_tally (s : State) (k : PortId) (f : Pwr → Pwr) : (s.modPwr k f).tally = s.tally := rfl
@[simp] theorem State.modPwr_dvt (s : State) (k : PortId) (f : Pwr → Pwr) : (s.modPwr k f).dvt = s.dvt := rfl
@[simp] theorem State.modPwr_mint (s : State) (k : PortId) (f : Pwr → Pwr) : (s.modPwr k f).mint = s.mint := rfl
@[simp] theorem State.modPwr_clr (s : State) (k : PortId) (f : Pwr → Pwr) : (s.modPwr k f).clr = s.clr := rfl
@[simp] theorem State.modPwr_ldg (s : State) (k : PortId) (f : Pwr → Pwr) : (s.modPwr k f).ldg = s.ldg := rfl
@[simp] theorem State.modPwr_vault (s : State) (k : PortId) (f : Pwr → Pwr) : (s.modPwr k f).vault = s.vault := rfl
@[simp] theorem State.modPwr_nsf (s : State) (k : PortId) (f : Pwr → Pwr) : (s.modPwr k f).nsf = s.nsf := rfl
@[simp] theorem State.modPwr_pending (s : State) (k : PortId) (f : Pwr → Pwr) : (s.modPwr k f).pending = s.pending := rfl
@[simp] theorem State.modPwr_orphans (s : State) (k : PortId) (f : Pwr → Pwr) : (s.modPwr k f).orphans = s.orphans := rfl
@[simp] theorem State.modStile_glb (s : State) (i : StileId) (f : Stile → Stile) : (s.modStile i f).glb = s.glb := rfl
@[simp] theorem State.modStile_teller (s : State) (i : StileId) (f : Stile → Stile) : (s.modStile i f).teller = s.teller := rfl
@[simp] theorem State.modStile_fw (s : State) (i : StileId) (f : Stile → Stile) : (s.modStile i f).fw = s.fw := rfl
@[simp] theorem State.modStile_slots (s : State) (i : StileId) (f : Stile → Stile) : (s.modStile i f).slots = s.slots := rfl
@[simp] theorem State.modStile_ports (s : State) (i : StileId) (f : Stile → Stile) : (s.modStile i f).ports = s.ports := rfl
@[simp] theorem State.modStile_pd (s : State) (i : StileId) (f : Stile → Stile) : (s.modStile i f).pd = s.pd := rfl
@[simp] theorem State.modStile_pwr (s : State) (i : StileId) (f : Stile → Stile) : (s.modStile i f).pwr = s.pwr := rfl
@[simp] theorem State.modStile_stiles (s : State) (i : StileId) (f : Stile → Stile) : (s.modStile i f).stiles = vmod s.stiles i f := rfl
@[simp] theorem State.modStile_escrow (s : State) (i : StileId) (f : Stile → Stile) : (s.modStile i f).escrow = s.escrow := rfl
@[simp] theorem State.modStile_orders (s : State) (i : StileId) (f : Stile → Stile) : (s.modStile i f).orders = s.orders := rfl
@[simp] theorem State.modStile_purses (s : State) (i : StileId) (f : Stile → Stile) : (s.modStile i f).purses = s.purses := rfl
@[simp] theorem State.modStile_tally (s : State) (i : StileId) (f : Stile → Stile) : (s.modStile i f).tally = s.tally := rfl
@[simp] theorem State.modStile_dvt (s : State) (i : StileId) (f : Stile → Stile) : (s.modStile i f).dvt = s.dvt := rfl
@[simp] theorem State.modStile_mint (s : State) (i : StileId) (f : Stile → Stile) : (s.modStile i f).mint = s.mint := rfl
@[simp] theorem State.modStile_clr (s : State) (i : StileId) (f : Stile → Stile) : (s.modStile i f).clr = s.clr := rfl
@[simp] theorem State.modStile_ldg (s : State) (i : StileId) (f : Stile → Stile) : (s.modStile i f).ldg = s.ldg := rfl
@[simp] theorem State.modStile_vault (s : State) (i : StileId) (f : Stile → Stile) : (s.modStile i f).vault = s.vault := rfl
@[simp] theorem State.modStile_nsf (s : State) (i : StileId) (f : Stile → Stile) : (s.modStile i f).nsf = s.nsf := rfl
@[simp] theorem State.modStile_pending (s : State) (i : StileId) (f : Stile → Stile) : (s.modStile i f).pending = s.pending := rfl
@[simp] theorem State.modStile_orphans (s : State) (i : StileId) (f : Stile → Stile) : (s.modStile i f).orphans = s.orphans := rfl
@[simp] theorem State.modOrder_glb (s : State) (n : OrderId) (f : Order → Order) : (s.modOrder n f).glb = s.glb := rfl
@[simp] theorem State.modOrder_teller (s : State) (n : OrderId) (f : Order → Order) : (s.modOrder n f).teller = s.teller := rfl
@[simp] theorem State.modOrder_fw (s : State) (n : OrderId) (f : Order → Order) : (s.modOrder n f).fw = s.fw := rfl
@[simp] theorem State.modOrder_slots (s : State) (n : OrderId) (f : Order → Order) : (s.modOrder n f).slots = s.slots := rfl
@[simp] theorem State.modOrder_ports (s : State) (n : OrderId) (f : Order → Order) : (s.modOrder n f).ports = s.ports := rfl
@[simp] theorem State.modOrder_pd (s : State) (n : OrderId) (f : Order → Order) : (s.modOrder n f).pd = s.pd := rfl
@[simp] theorem State.modOrder_pwr (s : State) (n : OrderId) (f : Order → Order) : (s.modOrder n f).pwr = s.pwr := rfl
@[simp] theorem State.modOrder_stiles (s : State) (n : OrderId) (f : Order → Order) : (s.modOrder n f).stiles = s.stiles := rfl
@[simp] theorem State.modOrder_escrow (s : State) (n : OrderId) (f : Order → Order) : (s.modOrder n f).escrow = s.escrow := rfl
@[simp] theorem State.modOrder_orders (s : State) (n : OrderId) (f : Order → Order) : (s.modOrder n f).orders = vmod s.orders n f := rfl
@[simp] theorem State.modOrder_purses (s : State) (n : OrderId) (f : Order → Order) : (s.modOrder n f).purses = s.purses := rfl
@[simp] theorem State.modOrder_tally (s : State) (n : OrderId) (f : Order → Order) : (s.modOrder n f).tally = s.tally := rfl
@[simp] theorem State.modOrder_dvt (s : State) (n : OrderId) (f : Order → Order) : (s.modOrder n f).dvt = s.dvt := rfl
@[simp] theorem State.modOrder_mint (s : State) (n : OrderId) (f : Order → Order) : (s.modOrder n f).mint = s.mint := rfl
@[simp] theorem State.modOrder_clr (s : State) (n : OrderId) (f : Order → Order) : (s.modOrder n f).clr = s.clr := rfl
@[simp] theorem State.modOrder_ldg (s : State) (n : OrderId) (f : Order → Order) : (s.modOrder n f).ldg = s.ldg := rfl
@[simp] theorem State.modOrder_vault (s : State) (n : OrderId) (f : Order → Order) : (s.modOrder n f).vault = s.vault := rfl
@[simp] theorem State.modOrder_nsf (s : State) (n : OrderId) (f : Order → Order) : (s.modOrder n f).nsf = s.nsf := rfl
@[simp] theorem State.modOrder_pending (s : State) (n : OrderId) (f : Order → Order) : (s.modOrder n f).pending = s.pending := rfl
@[simp] theorem State.modOrder_orphans (s : State) (n : OrderId) (f : Order → Order) : (s.modOrder n f).orphans = s.orphans := rfl
@[simp] theorem State.modPurse_glb (s : State) (n : PurseId) (f : Purse → Purse) : (s.modPurse n f).glb = s.glb := rfl
@[simp] theorem State.modPurse_teller (s : State) (n : PurseId) (f : Purse → Purse) : (s.modPurse n f).teller = s.teller := rfl
@[simp] theorem State.modPurse_fw (s : State) (n : PurseId) (f : Purse → Purse) : (s.modPurse n f).fw = s.fw := rfl
@[simp] theorem State.modPurse_slots (s : State) (n : PurseId) (f : Purse → Purse) : (s.modPurse n f).slots = s.slots := rfl
@[simp] theorem State.modPurse_ports (s : State) (n : PurseId) (f : Purse → Purse) : (s.modPurse n f).ports = s.ports := rfl
@[simp] theorem State.modPurse_pd (s : State) (n : PurseId) (f : Purse → Purse) : (s.modPurse n f).pd = s.pd := rfl
@[simp] theorem State.modPurse_pwr (s : State) (n : PurseId) (f : Purse → Purse) : (s.modPurse n f).pwr = s.pwr := rfl
@[simp] theorem State.modPurse_stiles (s : State) (n : PurseId) (f : Purse → Purse) : (s.modPurse n f).stiles = s.stiles := rfl
@[simp] theorem State.modPurse_escrow (s : State) (n : PurseId) (f : Purse → Purse) : (s.modPurse n f).escrow = s.escrow := rfl
@[simp] theorem State.modPurse_orders (s : State) (n : PurseId) (f : Purse → Purse) : (s.modPurse n f).orders = s.orders := rfl
@[simp] theorem State.modPurse_purses (s : State) (n : PurseId) (f : Purse → Purse) : (s.modPurse n f).purses = vmod s.purses n f := rfl
@[simp] theorem State.modPurse_tally (s : State) (n : PurseId) (f : Purse → Purse) : (s.modPurse n f).tally = s.tally := rfl
@[simp] theorem State.modPurse_dvt (s : State) (n : PurseId) (f : Purse → Purse) : (s.modPurse n f).dvt = s.dvt := rfl
@[simp] theorem State.modPurse_mint (s : State) (n : PurseId) (f : Purse → Purse) : (s.modPurse n f).mint = s.mint := rfl
@[simp] theorem State.modPurse_clr (s : State) (n : PurseId) (f : Purse → Purse) : (s.modPurse n f).clr = s.clr := rfl
@[simp] theorem State.modPurse_ldg (s : State) (n : PurseId) (f : Purse → Purse) : (s.modPurse n f).ldg = s.ldg := rfl
@[simp] theorem State.modPurse_vault (s : State) (n : PurseId) (f : Purse → Purse) : (s.modPurse n f).vault = s.vault := rfl
@[simp] theorem State.modPurse_nsf (s : State) (n : PurseId) (f : Purse → Purse) : (s.modPurse n f).nsf = s.nsf := rfl
@[simp] theorem State.modPurse_pending (s : State) (n : PurseId) (f : Purse → Purse) : (s.modPurse n f).pending = s.pending := rfl
@[simp] theorem State.modPurse_orphans (s : State) (n : PurseId) (f : Purse → Purse) : (s.modPurse n f).orphans = s.orphans := rfl
@[simp] theorem State.modChan_glb (s : State) (c : ChanId) (f : Chan → Chan) : (s.modChan c f).glb = s.glb := rfl
@[simp] theorem State.modChan_teller (s : State) (c : ChanId) (f : Chan → Chan) : (s.modChan c f).teller = s.teller := rfl
@[simp] theorem State.modChan_fw (s : State) (c : ChanId) (f : Chan → Chan) : (s.modChan c f).fw = s.fw := rfl
@[simp] theorem State.modChan_slots (s : State) (c : ChanId) (f : Chan → Chan) : (s.modChan c f).slots = s.slots := rfl
@[simp] theorem State.modChan_ports (s : State) (c : ChanId) (f : Chan → Chan) : (s.modChan c f).ports = s.ports := rfl
@[simp] theorem State.modChan_pd (s : State) (c : ChanId) (f : Chan → Chan) : (s.modChan c f).pd = s.pd := rfl
@[simp] theorem State.modChan_pwr (s : State) (c : ChanId) (f : Chan → Chan) : (s.modChan c f).pwr = s.pwr := rfl
@[simp] theorem State.modChan_stiles (s : State) (c : ChanId) (f : Chan → Chan) : (s.modChan c f).stiles = s.stiles := rfl
@[simp] theorem State.modChan_escrow (s : State) (c : ChanId) (f : Chan → Chan) : (s.modChan c f).escrow = s.escrow := rfl
@[simp] theorem State.modChan_orders (s : State) (c : ChanId) (f : Chan → Chan) : (s.modChan c f).orders = s.orders := rfl
@[simp] theorem State.modChan_purses (s : State) (c : ChanId) (f : Chan → Chan) : (s.modChan c f).purses = s.purses := rfl
@[simp] theorem State.modChan_tally (s : State) (c : ChanId) (f : Chan → Chan) : (s.modChan c f).tally = s.tally := rfl
@[simp] theorem State.modChan_dvt (s : State) (c : ChanId) (f : Chan → Chan) : (s.modChan c f).dvt = s.dvt := rfl
@[simp] theorem State.modChan_mint (s : State) (c : ChanId) (f : Chan → Chan) : (s.modChan c f).mint = { s.mint with chans := vmod s.mint.chans c f } := rfl
@[simp] theorem State.modChan_clr (s : State) (c : ChanId) (f : Chan → Chan) : (s.modChan c f).clr = s.clr := rfl
@[simp] theorem State.modChan_ldg (s : State) (c : ChanId) (f : Chan → Chan) : (s.modChan c f).ldg = s.ldg := rfl
@[simp] theorem State.modChan_vault (s : State) (c : ChanId) (f : Chan → Chan) : (s.modChan c f).vault = s.vault := rfl
@[simp] theorem State.modChan_nsf (s : State) (c : ChanId) (f : Chan → Chan) : (s.modChan c f).nsf = s.nsf := rfl
@[simp] theorem State.modChan_pending (s : State) (c : ChanId) (f : Chan → Chan) : (s.modChan c f).pending = s.pending := rfl
@[simp] theorem State.modChan_orphans (s : State) (c : ChanId) (f : Chan → Chan) : (s.modChan c f).orphans = s.orphans := rfl
@[simp] theorem State.modGroup_glb (s : State) (g : GroupId) (f : Group → Group) : (s.modGroup g f).glb = s.glb := rfl
@[simp] theorem State.modGroup_teller (s : State) (g : GroupId) (f : Group → Group) : (s.modGroup g f).teller = s.teller := rfl
@[simp] theorem State.modGroup_fw (s : State) (g : GroupId) (f : Group → Group) : (s.modGroup g f).fw = s.fw := rfl
@[simp] theorem State.modGroup_slots (s : State) (g : GroupId) (f : Group → Group) : (s.modGroup g f).slots = s.slots := rfl
@[simp] theorem State.modGroup_ports (s : State) (g : GroupId) (f : Group → Group) : (s.modGroup g f).ports = s.ports := rfl
@[simp] theorem State.modGroup_pd (s : State) (g : GroupId) (f : Group → Group) : (s.modGroup g f).pd = s.pd := rfl
@[simp] theorem State.modGroup_pwr (s : State) (g : GroupId) (f : Group → Group) : (s.modGroup g f).pwr = s.pwr := rfl
@[simp] theorem State.modGroup_stiles (s : State) (g : GroupId) (f : Group → Group) : (s.modGroup g f).stiles = s.stiles := rfl
@[simp] theorem State.modGroup_escrow (s : State) (g : GroupId) (f : Group → Group) : (s.modGroup g f).escrow = s.escrow := rfl
@[simp] theorem State.modGroup_orders (s : State) (g : GroupId) (f : Group → Group) : (s.modGroup g f).orders = s.orders := rfl
@[simp] theorem State.modGroup_purses (s : State) (g : GroupId) (f : Group → Group) : (s.modGroup g f).purses = s.purses := rfl
@[simp] theorem State.modGroup_tally (s : State) (g : GroupId) (f : Group → Group) : (s.modGroup g f).tally = s.tally := rfl
@[simp] theorem State.modGroup_dvt (s : State) (g : GroupId) (f : Group → Group) : (s.modGroup g f).dvt = s.dvt := rfl
@[simp] theorem State.modGroup_mint (s : State) (g : GroupId) (f : Group → Group) : (s.modGroup g f).mint = { s.mint with groups := vmod s.mint.groups g f } := rfl
@[simp] theorem State.modGroup_clr (s : State) (g : GroupId) (f : Group → Group) : (s.modGroup g f).clr = s.clr := rfl
@[simp] theorem State.modGroup_ldg (s : State) (g : GroupId) (f : Group → Group) : (s.modGroup g f).ldg = s.ldg := rfl
@[simp] theorem State.modGroup_vault (s : State) (g : GroupId) (f : Group → Group) : (s.modGroup g f).vault = s.vault := rfl
@[simp] theorem State.modGroup_nsf (s : State) (g : GroupId) (f : Group → Group) : (s.modGroup g f).nsf = s.nsf := rfl
@[simp] theorem State.modGroup_pending (s : State) (g : GroupId) (f : Group → Group) : (s.modGroup g f).pending = s.pending := rfl
@[simp] theorem State.modGroup_orphans (s : State) (g : GroupId) (f : Group → Group) : (s.modGroup g f).orphans = s.orphans := rfl
@[simp] theorem State.modTemplate_glb (s : State) (t : TemplId) (f : Template → Template) : (s.modTemplate t f).glb = s.glb := rfl
@[simp] theorem State.modTemplate_teller (s : State) (t : TemplId) (f : Template → Template) : (s.modTemplate t f).teller = s.teller := rfl
@[simp] theorem State.modTemplate_fw (s : State) (t : TemplId) (f : Template → Template) : (s.modTemplate t f).fw = s.fw := rfl
@[simp] theorem State.modTemplate_slots (s : State) (t : TemplId) (f : Template → Template) : (s.modTemplate t f).slots = s.slots := rfl
@[simp] theorem State.modTemplate_ports (s : State) (t : TemplId) (f : Template → Template) : (s.modTemplate t f).ports = s.ports := rfl
@[simp] theorem State.modTemplate_pd (s : State) (t : TemplId) (f : Template → Template) : (s.modTemplate t f).pd = s.pd := rfl
@[simp] theorem State.modTemplate_pwr (s : State) (t : TemplId) (f : Template → Template) : (s.modTemplate t f).pwr = s.pwr := rfl
@[simp] theorem State.modTemplate_stiles (s : State) (t : TemplId) (f : Template → Template) : (s.modTemplate t f).stiles = s.stiles := rfl
@[simp] theorem State.modTemplate_escrow (s : State) (t : TemplId) (f : Template → Template) : (s.modTemplate t f).escrow = s.escrow := rfl
@[simp] theorem State.modTemplate_orders (s : State) (t : TemplId) (f : Template → Template) : (s.modTemplate t f).orders = s.orders := rfl
@[simp] theorem State.modTemplate_purses (s : State) (t : TemplId) (f : Template → Template) : (s.modTemplate t f).purses = s.purses := rfl
@[simp] theorem State.modTemplate_tally (s : State) (t : TemplId) (f : Template → Template) : (s.modTemplate t f).tally = s.tally := rfl
@[simp] theorem State.modTemplate_dvt (s : State) (t : TemplId) (f : Template → Template) : (s.modTemplate t f).dvt = s.dvt := rfl
@[simp] theorem State.modTemplate_mint (s : State) (t : TemplId) (f : Template → Template) : (s.modTemplate t f).mint = { s.mint with templates := vmod s.mint.templates t f } := rfl
@[simp] theorem State.modTemplate_clr (s : State) (t : TemplId) (f : Template → Template) : (s.modTemplate t f).clr = s.clr := rfl
@[simp] theorem State.modTemplate_ldg (s : State) (t : TemplId) (f : Template → Template) : (s.modTemplate t f).ldg = s.ldg := rfl
@[simp] theorem State.modTemplate_vault (s : State) (t : TemplId) (f : Template → Template) : (s.modTemplate t f).vault = s.vault := rfl
@[simp] theorem State.modTemplate_nsf (s : State) (t : TemplId) (f : Template → Template) : (s.modTemplate t f).nsf = s.nsf := rfl
@[simp] theorem State.modTemplate_pending (s : State) (t : TemplId) (f : Template → Template) : (s.modTemplate t f).pending = s.pending := rfl
@[simp] theorem State.modTemplate_orphans (s : State) (t : TemplId) (f : Template → Template) : (s.modTemplate t f).orphans = s.orphans := rfl
@[simp] theorem State.modBody_glb (s : State) (b : BodyId) (f : Body → Body) : (s.modBody b f).glb = s.glb := rfl
@[simp] theorem State.modBody_teller (s : State) (b : BodyId) (f : Body → Body) : (s.modBody b f).teller = s.teller := rfl
@[simp] theorem State.modBody_fw (s : State) (b : BodyId) (f : Body → Body) : (s.modBody b f).fw = s.fw := rfl
@[simp] theorem State.modBody_slots (s : State) (b : BodyId) (f : Body → Body) : (s.modBody b f).slots = s.slots := rfl
@[simp] theorem State.modBody_ports (s : State) (b : BodyId) (f : Body → Body) : (s.modBody b f).ports = s.ports := rfl
@[simp] theorem State.modBody_pd (s : State) (b : BodyId) (f : Body → Body) : (s.modBody b f).pd = s.pd := rfl
@[simp] theorem State.modBody_pwr (s : State) (b : BodyId) (f : Body → Body) : (s.modBody b f).pwr = s.pwr := rfl
@[simp] theorem State.modBody_stiles (s : State) (b : BodyId) (f : Body → Body) : (s.modBody b f).stiles = s.stiles := rfl
@[simp] theorem State.modBody_escrow (s : State) (b : BodyId) (f : Body → Body) : (s.modBody b f).escrow = s.escrow := rfl
@[simp] theorem State.modBody_orders (s : State) (b : BodyId) (f : Body → Body) : (s.modBody b f).orders = s.orders := rfl
@[simp] theorem State.modBody_purses (s : State) (b : BodyId) (f : Body → Body) : (s.modBody b f).purses = s.purses := rfl
@[simp] theorem State.modBody_tally (s : State) (b : BodyId) (f : Body → Body) : (s.modBody b f).tally = s.tally := rfl
@[simp] theorem State.modBody_dvt (s : State) (b : BodyId) (f : Body → Body) : (s.modBody b f).dvt = s.dvt := rfl
@[simp] theorem State.modBody_mint (s : State) (b : BodyId) (f : Body → Body) : (s.modBody b f).mint = s.mint := rfl
@[simp] theorem State.modBody_clr (s : State) (b : BodyId) (f : Body → Body) : (s.modBody b f).clr = { s.clr with bodies := vmod s.clr.bodies b f } := rfl
@[simp] theorem State.modBody_ldg (s : State) (b : BodyId) (f : Body → Body) : (s.modBody b f).ldg = s.ldg := rfl
@[simp] theorem State.modBody_vault (s : State) (b : BodyId) (f : Body → Body) : (s.modBody b f).vault = s.vault := rfl
@[simp] theorem State.modBody_nsf (s : State) (b : BodyId) (f : Body → Body) : (s.modBody b f).nsf = s.nsf := rfl
@[simp] theorem State.modBody_pending (s : State) (b : BodyId) (f : Body → Body) : (s.modBody b f).pending = s.pending := rfl
@[simp] theorem State.modBody_orphans (s : State) (b : BodyId) (f : Body → Body) : (s.modBody b f).orphans = s.orphans := rfl
@[simp] theorem State.modPair_glb (s : State) (p : PairId) (f : Pair → Pair) : (s.modPair p f).glb = s.glb := rfl
@[simp] theorem State.modPair_teller (s : State) (p : PairId) (f : Pair → Pair) : (s.modPair p f).teller = s.teller := rfl
@[simp] theorem State.modPair_fw (s : State) (p : PairId) (f : Pair → Pair) : (s.modPair p f).fw = s.fw := rfl
@[simp] theorem State.modPair_slots (s : State) (p : PairId) (f : Pair → Pair) : (s.modPair p f).slots = s.slots := rfl
@[simp] theorem State.modPair_ports (s : State) (p : PairId) (f : Pair → Pair) : (s.modPair p f).ports = s.ports := rfl
@[simp] theorem State.modPair_pd (s : State) (p : PairId) (f : Pair → Pair) : (s.modPair p f).pd = s.pd := rfl
@[simp] theorem State.modPair_pwr (s : State) (p : PairId) (f : Pair → Pair) : (s.modPair p f).pwr = s.pwr := rfl
@[simp] theorem State.modPair_stiles (s : State) (p : PairId) (f : Pair → Pair) : (s.modPair p f).stiles = s.stiles := rfl
@[simp] theorem State.modPair_escrow (s : State) (p : PairId) (f : Pair → Pair) : (s.modPair p f).escrow = s.escrow := rfl
@[simp] theorem State.modPair_orders (s : State) (p : PairId) (f : Pair → Pair) : (s.modPair p f).orders = s.orders := rfl
@[simp] theorem State.modPair_purses (s : State) (p : PairId) (f : Pair → Pair) : (s.modPair p f).purses = s.purses := rfl
@[simp] theorem State.modPair_tally (s : State) (p : PairId) (f : Pair → Pair) : (s.modPair p f).tally = s.tally := rfl
@[simp] theorem State.modPair_dvt (s : State) (p : PairId) (f : Pair → Pair) : (s.modPair p f).dvt = s.dvt := rfl
@[simp] theorem State.modPair_mint (s : State) (p : PairId) (f : Pair → Pair) : (s.modPair p f).mint = s.mint := rfl
@[simp] theorem State.modPair_clr (s : State) (p : PairId) (f : Pair → Pair) : (s.modPair p f).clr = { s.clr with pairs := vmod s.clr.pairs p f } := rfl
@[simp] theorem State.modPair_ldg (s : State) (p : PairId) (f : Pair → Pair) : (s.modPair p f).ldg = s.ldg := rfl
@[simp] theorem State.modPair_vault (s : State) (p : PairId) (f : Pair → Pair) : (s.modPair p f).vault = s.vault := rfl
@[simp] theorem State.modPair_nsf (s : State) (p : PairId) (f : Pair → Pair) : (s.modPair p f).nsf = s.nsf := rfl
@[simp] theorem State.modPair_pending (s : State) (p : PairId) (f : Pair → Pair) : (s.modPair p f).pending = s.pending := rfl
@[simp] theorem State.modPair_orphans (s : State) (p : PairId) (f : Pair → Pair) : (s.modPair p f).orphans = s.orphans := rfl
@[simp] theorem State.modGlb_glb (s : State) (f : Glb → Glb) : (s.modGlb f).glb = f s.glb := rfl
@[simp] theorem State.modGlb_teller (s : State) (f : Glb → Glb) : (s.modGlb f).teller = s.teller := rfl
@[simp] theorem State.modGlb_fw (s : State) (f : Glb → Glb) : (s.modGlb f).fw = s.fw := rfl
@[simp] theorem State.modGlb_slots (s : State) (f : Glb → Glb) : (s.modGlb f).slots = s.slots := rfl
@[simp] theorem State.modGlb_ports (s : State) (f : Glb → Glb) : (s.modGlb f).ports = s.ports := rfl
@[simp] theorem State.modGlb_pd (s : State) (f : Glb → Glb) : (s.modGlb f).pd = s.pd := rfl
@[simp] theorem State.modGlb_pwr (s : State) (f : Glb → Glb) : (s.modGlb f).pwr = s.pwr := rfl
@[simp] theorem State.modGlb_stiles (s : State) (f : Glb → Glb) : (s.modGlb f).stiles = s.stiles := rfl
@[simp] theorem State.modGlb_escrow (s : State) (f : Glb → Glb) : (s.modGlb f).escrow = s.escrow := rfl
@[simp] theorem State.modGlb_orders (s : State) (f : Glb → Glb) : (s.modGlb f).orders = s.orders := rfl
@[simp] theorem State.modGlb_purses (s : State) (f : Glb → Glb) : (s.modGlb f).purses = s.purses := rfl
@[simp] theorem State.modGlb_tally (s : State) (f : Glb → Glb) : (s.modGlb f).tally = s.tally := rfl
@[simp] theorem State.modGlb_dvt (s : State) (f : Glb → Glb) : (s.modGlb f).dvt = s.dvt := rfl
@[simp] theorem State.modGlb_mint (s : State) (f : Glb → Glb) : (s.modGlb f).mint = s.mint := rfl
@[simp] theorem State.modGlb_clr (s : State) (f : Glb → Glb) : (s.modGlb f).clr = s.clr := rfl
@[simp] theorem State.modGlb_ldg (s : State) (f : Glb → Glb) : (s.modGlb f).ldg = s.ldg := rfl
@[simp] theorem State.modGlb_vault (s : State) (f : Glb → Glb) : (s.modGlb f).vault = s.vault := rfl
@[simp] theorem State.modGlb_nsf (s : State) (f : Glb → Glb) : (s.modGlb f).nsf = s.nsf := rfl
@[simp] theorem State.modGlb_pending (s : State) (f : Glb → Glb) : (s.modGlb f).pending = s.pending := rfl
@[simp] theorem State.modGlb_orphans (s : State) (f : Glb → Glb) : (s.modGlb f).orphans = s.orphans := rfl
@[simp] theorem State.modTeller_glb (s : State) (f : Teller → Teller) : (s.modTeller f).glb = s.glb := rfl
@[simp] theorem State.modTeller_teller (s : State) (f : Teller → Teller) : (s.modTeller f).teller = f s.teller := rfl
@[simp] theorem State.modTeller_fw (s : State) (f : Teller → Teller) : (s.modTeller f).fw = s.fw := rfl
@[simp] theorem State.modTeller_slots (s : State) (f : Teller → Teller) : (s.modTeller f).slots = s.slots := rfl
@[simp] theorem State.modTeller_ports (s : State) (f : Teller → Teller) : (s.modTeller f).ports = s.ports := rfl
@[simp] theorem State.modTeller_pd (s : State) (f : Teller → Teller) : (s.modTeller f).pd = s.pd := rfl
@[simp] theorem State.modTeller_pwr (s : State) (f : Teller → Teller) : (s.modTeller f).pwr = s.pwr := rfl
@[simp] theorem State.modTeller_stiles (s : State) (f : Teller → Teller) : (s.modTeller f).stiles = s.stiles := rfl
@[simp] theorem State.modTeller_escrow (s : State) (f : Teller → Teller) : (s.modTeller f).escrow = s.escrow := rfl
@[simp] theorem State.modTeller_orders (s : State) (f : Teller → Teller) : (s.modTeller f).orders = s.orders := rfl
@[simp] theorem State.modTeller_purses (s : State) (f : Teller → Teller) : (s.modTeller f).purses = s.purses := rfl
@[simp] theorem State.modTeller_tally (s : State) (f : Teller → Teller) : (s.modTeller f).tally = s.tally := rfl
@[simp] theorem State.modTeller_dvt (s : State) (f : Teller → Teller) : (s.modTeller f).dvt = s.dvt := rfl
@[simp] theorem State.modTeller_mint (s : State) (f : Teller → Teller) : (s.modTeller f).mint = s.mint := rfl
@[simp] theorem State.modTeller_clr (s : State) (f : Teller → Teller) : (s.modTeller f).clr = s.clr := rfl
@[simp] theorem State.modTeller_ldg (s : State) (f : Teller → Teller) : (s.modTeller f).ldg = s.ldg := rfl
@[simp] theorem State.modTeller_vault (s : State) (f : Teller → Teller) : (s.modTeller f).vault = s.vault := rfl
@[simp] theorem State.modTeller_nsf (s : State) (f : Teller → Teller) : (s.modTeller f).nsf = s.nsf := rfl
@[simp] theorem State.modTeller_pending (s : State) (f : Teller → Teller) : (s.modTeller f).pending = s.pending := rfl
@[simp] theorem State.modTeller_orphans (s : State) (f : Teller → Teller) : (s.modTeller f).orphans = s.orphans := rfl
@[simp] theorem State.modEscrow_glb (s : State) (f : Escrow → Escrow) : (s.modEscrow f).glb = s.glb := rfl
@[simp] theorem State.modEscrow_teller (s : State) (f : Escrow → Escrow) : (s.modEscrow f).teller = s.teller := rfl
@[simp] theorem State.modEscrow_fw (s : State) (f : Escrow → Escrow) : (s.modEscrow f).fw = s.fw := rfl
@[simp] theorem State.modEscrow_slots (s : State) (f : Escrow → Escrow) : (s.modEscrow f).slots = s.slots := rfl
@[simp] theorem State.modEscrow_ports (s : State) (f : Escrow → Escrow) : (s.modEscrow f).ports = s.ports := rfl
@[simp] theorem State.modEscrow_pd (s : State) (f : Escrow → Escrow) : (s.modEscrow f).pd = s.pd := rfl
@[simp] theorem State.modEscrow_pwr (s : State) (f : Escrow → Escrow) : (s.modEscrow f).pwr = s.pwr := rfl
@[simp] theorem State.modEscrow_stiles (s : State) (f : Escrow → Escrow) : (s.modEscrow f).stiles = s.stiles := rfl
@[simp] theorem State.modEscrow_escrow (s : State) (f : Escrow → Escrow) : (s.modEscrow f).escrow = f s.escrow := rfl
@[simp] theorem State.modEscrow_orders (s : State) (f : Escrow → Escrow) : (s.modEscrow f).orders = s.orders := rfl
@[simp] theorem State.modEscrow_purses (s : State) (f : Escrow → Escrow) : (s.modEscrow f).purses = s.purses := rfl
@[simp] theorem State.modEscrow_tally (s : State) (f : Escrow → Escrow) : (s.modEscrow f).tally = s.tally := rfl
@[simp] theorem State.modEscrow_dvt (s : State) (f : Escrow → Escrow) : (s.modEscrow f).dvt = s.dvt := rfl
@[simp] theorem State.modEscrow_mint (s : State) (f : Escrow → Escrow) : (s.modEscrow f).mint = s.mint := rfl
@[simp] theorem State.modEscrow_clr (s : State) (f : Escrow → Escrow) : (s.modEscrow f).clr = s.clr := rfl
@[simp] theorem State.modEscrow_ldg (s : State) (f : Escrow → Escrow) : (s.modEscrow f).ldg = s.ldg := rfl
@[simp] theorem State.modEscrow_vault (s : State) (f : Escrow → Escrow) : (s.modEscrow f).vault = s.vault := rfl
@[simp] theorem State.modEscrow_nsf (s : State) (f : Escrow → Escrow) : (s.modEscrow f).nsf = s.nsf := rfl
@[simp] theorem State.modEscrow_pending (s : State) (f : Escrow → Escrow) : (s.modEscrow f).pending = s.pending := rfl
@[simp] theorem State.modEscrow_orphans (s : State) (f : Escrow → Escrow) : (s.modEscrow f).orphans = s.orphans := rfl
@[simp] theorem State.modTally_glb (s : State) (f : Tally → Tally) : (s.modTally f).glb = s.glb := rfl
@[simp] theorem State.modTally_teller (s : State) (f : Tally → Tally) : (s.modTally f).teller = s.teller := rfl
@[simp] theorem State.modTally_fw (s : State) (f : Tally → Tally) : (s.modTally f).fw = s.fw := rfl
@[simp] theorem State.modTally_slots (s : State) (f : Tally → Tally) : (s.modTally f).slots = s.slots := rfl
@[simp] theorem State.modTally_ports (s : State) (f : Tally → Tally) : (s.modTally f).ports = s.ports := rfl
@[simp] theorem State.modTally_pd (s : State) (f : Tally → Tally) : (s.modTally f).pd = s.pd := rfl
@[simp] theorem State.modTally_pwr (s : State) (f : Tally → Tally) : (s.modTally f).pwr = s.pwr := rfl
@[simp] theorem State.modTally_stiles (s : State) (f : Tally → Tally) : (s.modTally f).stiles = s.stiles := rfl
@[simp] theorem State.modTally_escrow (s : State) (f : Tally → Tally) : (s.modTally f).escrow = s.escrow := rfl
@[simp] theorem State.modTally_orders (s : State) (f : Tally → Tally) : (s.modTally f).orders = s.orders := rfl
@[simp] theorem State.modTally_purses (s : State) (f : Tally → Tally) : (s.modTally f).purses = s.purses := rfl
@[simp] theorem State.modTally_tally (s : State) (f : Tally → Tally) : (s.modTally f).tally = f s.tally := rfl
@[simp] theorem State.modTally_dvt (s : State) (f : Tally → Tally) : (s.modTally f).dvt = s.dvt := rfl
@[simp] theorem State.modTally_mint (s : State) (f : Tally → Tally) : (s.modTally f).mint = s.mint := rfl
@[simp] theorem State.modTally_clr (s : State) (f : Tally → Tally) : (s.modTally f).clr = s.clr := rfl
@[simp] theorem State.modTally_ldg (s : State) (f : Tally → Tally) : (s.modTally f).ldg = s.ldg := rfl
@[simp] theorem State.modTally_vault (s : State) (f : Tally → Tally) : (s.modTally f).vault = s.vault := rfl
@[simp] theorem State.modTally_nsf (s : State) (f : Tally → Tally) : (s.modTally f).nsf = s.nsf := rfl
@[simp] theorem State.modTally_pending (s : State) (f : Tally → Tally) : (s.modTally f).pending = s.pending := rfl
@[simp] theorem State.modTally_orphans (s : State) (f : Tally → Tally) : (s.modTally f).orphans = s.orphans := rfl
@[simp] theorem State.modDvt_glb (s : State) (f : Dovetail → Dovetail) : (s.modDvt f).glb = s.glb := rfl
@[simp] theorem State.modDvt_teller (s : State) (f : Dovetail → Dovetail) : (s.modDvt f).teller = s.teller := rfl
@[simp] theorem State.modDvt_fw (s : State) (f : Dovetail → Dovetail) : (s.modDvt f).fw = s.fw := rfl
@[simp] theorem State.modDvt_slots (s : State) (f : Dovetail → Dovetail) : (s.modDvt f).slots = s.slots := rfl
@[simp] theorem State.modDvt_ports (s : State) (f : Dovetail → Dovetail) : (s.modDvt f).ports = s.ports := rfl
@[simp] theorem State.modDvt_pd (s : State) (f : Dovetail → Dovetail) : (s.modDvt f).pd = s.pd := rfl
@[simp] theorem State.modDvt_pwr (s : State) (f : Dovetail → Dovetail) : (s.modDvt f).pwr = s.pwr := rfl
@[simp] theorem State.modDvt_stiles (s : State) (f : Dovetail → Dovetail) : (s.modDvt f).stiles = s.stiles := rfl
@[simp] theorem State.modDvt_escrow (s : State) (f : Dovetail → Dovetail) : (s.modDvt f).escrow = s.escrow := rfl
@[simp] theorem State.modDvt_orders (s : State) (f : Dovetail → Dovetail) : (s.modDvt f).orders = s.orders := rfl
@[simp] theorem State.modDvt_purses (s : State) (f : Dovetail → Dovetail) : (s.modDvt f).purses = s.purses := rfl
@[simp] theorem State.modDvt_tally (s : State) (f : Dovetail → Dovetail) : (s.modDvt f).tally = s.tally := rfl
@[simp] theorem State.modDvt_dvt (s : State) (f : Dovetail → Dovetail) : (s.modDvt f).dvt = f s.dvt := rfl
@[simp] theorem State.modDvt_mint (s : State) (f : Dovetail → Dovetail) : (s.modDvt f).mint = s.mint := rfl
@[simp] theorem State.modDvt_clr (s : State) (f : Dovetail → Dovetail) : (s.modDvt f).clr = s.clr := rfl
@[simp] theorem State.modDvt_ldg (s : State) (f : Dovetail → Dovetail) : (s.modDvt f).ldg = s.ldg := rfl
@[simp] theorem State.modDvt_vault (s : State) (f : Dovetail → Dovetail) : (s.modDvt f).vault = s.vault := rfl
@[simp] theorem State.modDvt_nsf (s : State) (f : Dovetail → Dovetail) : (s.modDvt f).nsf = s.nsf := rfl
@[simp] theorem State.modDvt_pending (s : State) (f : Dovetail → Dovetail) : (s.modDvt f).pending = s.pending := rfl
@[simp] theorem State.modDvt_orphans (s : State) (f : Dovetail → Dovetail) : (s.modDvt f).orphans = s.orphans := rfl
@[simp] theorem State.modLdg_glb (s : State) (f : Ledger → Ledger) : (s.modLdg f).glb = s.glb := rfl
@[simp] theorem State.modLdg_teller (s : State) (f : Ledger → Ledger) : (s.modLdg f).teller = s.teller := rfl
@[simp] theorem State.modLdg_fw (s : State) (f : Ledger → Ledger) : (s.modLdg f).fw = s.fw := rfl
@[simp] theorem State.modLdg_slots (s : State) (f : Ledger → Ledger) : (s.modLdg f).slots = s.slots := rfl
@[simp] theorem State.modLdg_ports (s : State) (f : Ledger → Ledger) : (s.modLdg f).ports = s.ports := rfl
@[simp] theorem State.modLdg_pd (s : State) (f : Ledger → Ledger) : (s.modLdg f).pd = s.pd := rfl
@[simp] theorem State.modLdg_pwr (s : State) (f : Ledger → Ledger) : (s.modLdg f).pwr = s.pwr := rfl
@[simp] theorem State.modLdg_stiles (s : State) (f : Ledger → Ledger) : (s.modLdg f).stiles = s.stiles := rfl
@[simp] theorem State.modLdg_escrow (s : State) (f : Ledger → Ledger) : (s.modLdg f).escrow = s.escrow := rfl
@[simp] theorem State.modLdg_orders (s : State) (f : Ledger → Ledger) : (s.modLdg f).orders = s.orders := rfl
@[simp] theorem State.modLdg_purses (s : State) (f : Ledger → Ledger) : (s.modLdg f).purses = s.purses := rfl
@[simp] theorem State.modLdg_tally (s : State) (f : Ledger → Ledger) : (s.modLdg f).tally = s.tally := rfl
@[simp] theorem State.modLdg_dvt (s : State) (f : Ledger → Ledger) : (s.modLdg f).dvt = s.dvt := rfl
@[simp] theorem State.modLdg_mint (s : State) (f : Ledger → Ledger) : (s.modLdg f).mint = s.mint := rfl
@[simp] theorem State.modLdg_clr (s : State) (f : Ledger → Ledger) : (s.modLdg f).clr = s.clr := rfl
@[simp] theorem State.modLdg_ldg (s : State) (f : Ledger → Ledger) : (s.modLdg f).ldg = f s.ldg := rfl
@[simp] theorem State.modLdg_vault (s : State) (f : Ledger → Ledger) : (s.modLdg f).vault = s.vault := rfl
@[simp] theorem State.modLdg_nsf (s : State) (f : Ledger → Ledger) : (s.modLdg f).nsf = s.nsf := rfl
@[simp] theorem State.modLdg_pending (s : State) (f : Ledger → Ledger) : (s.modLdg f).pending = s.pending := rfl
@[simp] theorem State.modLdg_orphans (s : State) (f : Ledger → Ledger) : (s.modLdg f).orphans = s.orphans := rfl
@[simp] theorem State.modNsf_glb (s : State) (f : Nightsafe → Nightsafe) : (s.modNsf f).glb = s.glb := rfl
@[simp] theorem State.modNsf_teller (s : State) (f : Nightsafe → Nightsafe) : (s.modNsf f).teller = s.teller := rfl
@[simp] theorem State.modNsf_fw (s : State) (f : Nightsafe → Nightsafe) : (s.modNsf f).fw = s.fw := rfl
@[simp] theorem State.modNsf_slots (s : State) (f : Nightsafe → Nightsafe) : (s.modNsf f).slots = s.slots := rfl
@[simp] theorem State.modNsf_ports (s : State) (f : Nightsafe → Nightsafe) : (s.modNsf f).ports = s.ports := rfl
@[simp] theorem State.modNsf_pd (s : State) (f : Nightsafe → Nightsafe) : (s.modNsf f).pd = s.pd := rfl
@[simp] theorem State.modNsf_pwr (s : State) (f : Nightsafe → Nightsafe) : (s.modNsf f).pwr = s.pwr := rfl
@[simp] theorem State.modNsf_stiles (s : State) (f : Nightsafe → Nightsafe) : (s.modNsf f).stiles = s.stiles := rfl
@[simp] theorem State.modNsf_escrow (s : State) (f : Nightsafe → Nightsafe) : (s.modNsf f).escrow = s.escrow := rfl
@[simp] theorem State.modNsf_orders (s : State) (f : Nightsafe → Nightsafe) : (s.modNsf f).orders = s.orders := rfl
@[simp] theorem State.modNsf_purses (s : State) (f : Nightsafe → Nightsafe) : (s.modNsf f).purses = s.purses := rfl
@[simp] theorem State.modNsf_tally (s : State) (f : Nightsafe → Nightsafe) : (s.modNsf f).tally = s.tally := rfl
@[simp] theorem State.modNsf_dvt (s : State) (f : Nightsafe → Nightsafe) : (s.modNsf f).dvt = s.dvt := rfl
@[simp] theorem State.modNsf_mint (s : State) (f : Nightsafe → Nightsafe) : (s.modNsf f).mint = s.mint := rfl
@[simp] theorem State.modNsf_clr (s : State) (f : Nightsafe → Nightsafe) : (s.modNsf f).clr = s.clr := rfl
@[simp] theorem State.modNsf_ldg (s : State) (f : Nightsafe → Nightsafe) : (s.modNsf f).ldg = s.ldg := rfl
@[simp] theorem State.modNsf_vault (s : State) (f : Nightsafe → Nightsafe) : (s.modNsf f).vault = s.vault := rfl
@[simp] theorem State.modNsf_nsf (s : State) (f : Nightsafe → Nightsafe) : (s.modNsf f).nsf = f s.nsf := rfl
@[simp] theorem State.modNsf_pending (s : State) (f : Nightsafe → Nightsafe) : (s.modNsf f).pending = s.pending := rfl
@[simp] theorem State.modNsf_orphans (s : State) (f : Nightsafe → Nightsafe) : (s.modNsf f).orphans = s.orphans := rfl

end Sys2Proof.Machine
end

