-- ==== Sys2Proof/Laws/Issue.lean ====
section
/-! SUPPORT. What the shared operations of every command can do: `issue` on a command that Teller takes, and what answering leaves
and changes. -/
namespace Sys2Proof.Machine

/-- Whether a command is free depends on the Tills and the mailbox only. -/
theorem anyFree_congr {s t : State} (hs : t.slots = s.slots) (he : t.teller.mbxEntry = s.teller.mbxEntry)
    (hk : t.teller.mbxKeyHold = s.teller.mbxKeyHold) : t.anyFree = s.anyFree := by
  simp only [State.anyFree, State.mbxFree, hs, he, hk]

/-- Whether Teller has started depends on PHASE and on what Teller does. -/
theorem tellerStarted_congr {s t : State} (hg : t.glb = s.glb) (hr : t.teller.run = s.teller.run) :
    t.tellerStarted = s.tellerStarted := by
  unfold State.tellerStarted; rw [hg, hr]

/-- Writing the mailbox command leaves the Global block. -/
@[simp] theorem State.writeMbx_glb (s : State) (op : Byte) (a : CmdArgs) : (s.writeMbx op a).glb = s.glb := by
  simp [State.writeMbx]

/-- A part of the Ledger without a faulty line halts no Draft. -/
theorem State.haltJob_clean (s : State) (p : Nat → Bool) (h : s.ldg.faulty p = []) : s.haltJob p = (false, s) := by
  simp [State.haltJob, State.meets, h]

/-- Parameters in good lines are fetched as they are. -/
theorem State.fetchParams_clean (s : State) (e : TillEntry)
    (h : ∀ g, e.args.caller = .slot g → e.args.params = [] ∨ s.ldg.faulty (inParams g) = []) : s.fetchParams e = (false, s) := by
  unfold State.fetchParams
  split
  · next g hg =>
    rcases h g hg with h | h
    · simp [h]
    · split
      · rfl
      · exact s.haltJob_clean _ h
  · rfl

/-! ### A slot that signals remote wake, and one that takes a completion -/

@[simp] theorem Slot.wakeIfArmed_vbus (x : Slot) : x.wakeIfArmed.vbus = x.vbus := by unfold Slot.wakeIfArmed; split <;> rfl
@[simp] theorem Slot.wakeIfArmed_u1En (x : Slot) : x.wakeIfArmed.u1En = x.u1En := by unfold Slot.wakeIfArmed; split <;> rfl
@[simp] theorem Slot.wakeIfArmed_u2En (x : Slot) : x.wakeIfArmed.u2En = x.u2En := by unfold Slot.wakeIfArmed; split <;> rfl
@[simp] theorem Slot.wakeIfArmed_stmtOn (x : Slot) : x.wakeIfArmed.stmtOn = x.stmtOn := by unfold Slot.wakeIfArmed; split <;> rfl
@[simp] theorem Slot.wakeIfArmed_hubWake (x : Slot) : x.wakeIfArmed.hubWake = x.hubWake := by unfold Slot.wakeIfArmed; split <;> rfl
@[simp] theorem Slot.wakeIfArmed_owed (x : Slot) : x.wakeIfArmed.owed = x.owed := by unfold Slot.wakeIfArmed; split <;> rfl
@[simp] theorem Slot.wakeIfArmed_used (x : Slot) : x.wakeIfArmed.used = x.used := by unfold Slot.wakeIfArmed; split <;> rfl
@[simp] theorem Slot.wakeIfArmed_orient (x : Slot) : x.wakeIfArmed.orient = x.orient := by unfold Slot.wakeIfArmed; split <;> rfl
@[simp] theorem Slot.wakeIfArmed_presented (x : Slot) : x.wakeIfArmed.presented = x.presented := by unfold Slot.wakeIfArmed; split <;> rfl
@[simp] theorem Slot.wakeIfArmed_ssTerm (x : Slot) : x.wakeIfArmed.ssTerm = x.ssTerm := by unfold Slot.wakeIfArmed; split <;> rfl
@[simp] theorem Slot.wakeIfArmed_ssSpeed (x : Slot) : x.wakeIfArmed.ssSpeed = x.ssSpeed := by unfold Slot.wakeIfArmed; split <;> rfl
@[simp] theorem Slot.wakeIfArmed_ssLink (x : Slot) : x.wakeIfArmed.ssLink = x.ssLink := by unfold Slot.wakeIfArmed; split <;> rfl
@[simp] theorem Slot.wakeIfArmed_ssPll (x : Slot) : x.wakeIfArmed.ssPll = x.ssPll := by unfold Slot.wakeIfArmed; split <;> rfl
@[simp] theorem Slot.wakeIfArmed_hub2Susp (x : Slot) : x.wakeIfArmed.hub2Susp = x.hub2Susp := by unfold Slot.wakeIfArmed; split <;> rfl
@[simp] theorem Slot.wakeIfArmed_hs (x : Slot) : x.wakeIfArmed.hs = x.hs := by unfold Slot.wakeIfArmed; split <;> rfl
@[simp] theorem Slot.wakeIfArmed_tellerPath (x : Slot) : x.wakeIfArmed.tellerPath = x.tellerPath := by unfold Slot.wakeIfArmed; split <;> rfl
@[simp] theorem Slot.wakeIfArmed_tellerCfg (x : Slot) : x.wakeIfArmed.tellerCfg = x.tellerCfg := by unfold Slot.wakeIfArmed; split <;> rfl
@[simp] theorem Slot.wakeIfArmed_suspended (x : Slot) : x.wakeIfArmed.suspended = x.suspended := by unfold Slot.wakeIfArmed; split <;> rfl
@[simp] theorem Slot.wakeIfArmed_wakeHub2 (x : Slot) : x.wakeIfArmed.wakeHub2 = x.wakeHub2 := by unfold Slot.wakeIfArmed; split <;> rfl
@[simp] theorem Slot.wakeIfArmed_wakeTeller (x : Slot) : x.wakeIfArmed.wakeTeller = x.wakeTeller := by unfold Slot.wakeIfArmed; split <;> rfl
@[simp] theorem Slot.wakeIfArmed_tellerAddr (x : Slot) : x.wakeIfArmed.tellerAddr = x.tellerAddr := by unfold Slot.wakeIfArmed; split <;> rfl
@[simp] theorem Slot.wakeIfArmed_hub2Addr (x : Slot) : x.wakeIfArmed.hub2Addr = x.hub2Addr := by unfold Slot.wakeIfArmed; split <;> rfl
@[simp] theorem Slot.wakeIfArmed_ssHubAddr (x : Slot) : x.wakeIfArmed.ssHubAddr = x.ssHubAddr := by unfold Slot.wakeIfArmed; split <;> rfl
@[simp] theorem Slot.wakeIfArmed_ssHubCfg (x : Slot) : x.wakeIfArmed.ssHubCfg = x.ssHubCfg := by unfold Slot.wakeIfArmed; split <;> rfl
@[simp] theorem Slot.wakeIfArmed_hub2Cfg (x : Slot) : x.wakeIfArmed.hub2Cfg = x.hub2Cfg := by unfold Slot.wakeIfArmed; split <;> rfl
@[simp] theorem Slot.wakeIfArmed_hub (x : Slot) : x.wakeIfArmed.hub = x.hub := by unfold Slot.wakeIfArmed; split <;> rfl
@[simp] theorem Slot.wakeIfArmed_port25Change (x : Slot) : x.wakeIfArmed.port25Change = x.port25Change := by unfold Slot.wakeIfArmed; split <;> rfl
@[simp] theorem Slot.wakeIfArmed_ctl (x : Slot) : x.wakeIfArmed.ctl = x.ctl := by unfold Slot.wakeIfArmed; split <;> rfl
@[simp] theorem Slot.wakeIfArmed_till (x : Slot) : x.wakeIfArmed.till = x.till := by unfold Slot.wakeIfArmed; split <;> rfl
@[simp] theorem Slot.wakeIfArmed_entryCredits (x : Slot) : x.wakeIfArmed.entryCredits = x.entryCredits := by unfold Slot.wakeIfArmed; split <;> rfl
@[simp] theorem Slot.wakeIfArmed_lineCredits (x : Slot) : x.wakeIfArmed.lineCredits = x.lineCredits := by unfold Slot.wakeIfArmed; split <;> rfl
@[simp] theorem Slot.wakeIfArmed_keyHold (x : Slot) : x.wakeIfArmed.keyHold = x.keyHold := by unfold Slot.wakeIfArmed; split <;> rfl
@[simp] theorem Slot.wakeIfArmed_records (x : Slot) : x.wakeIfArmed.records = x.records := by unfold Slot.wakeIfArmed; split <;> rfl
@[simp] theorem Slot.wakeIfArmed_seq (x : Slot) : x.wakeIfArmed.seq = x.seq := by unfold Slot.wakeIfArmed; split <;> rfl
@[simp] theorem Slot.wakeIfArmed_lastIn81 (x : Slot) : x.wakeIfArmed.lastIn81 = x.lastIn81 := by unfold Slot.wakeIfArmed; split <;> rfl
@[simp] theorem Slot.wakeIfArmed_lastIn82 (x : Slot) : x.wakeIfArmed.lastIn82 = x.lastIn82 := by unfold Slot.wakeIfArmed; split <;> rfl
@[simp] theorem Slot.wakeIfArmed_layout (x : Slot) : x.wakeIfArmed.layout = x.layout := by unfold Slot.wakeIfArmed; split <;> rfl
@[simp] theorem Slot.wakeIfArmed_nextLayout (x : Slot) : x.wakeIfArmed.nextLayout = x.nextLayout := by unfold Slot.wakeIfArmed; split <;> rfl
@[simp] theorem Slot.wakeIfArmed_layoutGen (x : Slot) : x.wakeIfArmed.layoutGen = x.layoutGen := by unfold Slot.wakeIfArmed; split <;> rfl
@[simp] theorem Slot.wakeIfArmed_newLayout (x : Slot) : x.wakeIfArmed.newLayout = x.newLayout := by unfold Slot.wakeIfArmed; split <;> rfl
@[simp] theorem Slot.wakeIfArmed_subscribed (x : Slot) : x.wakeIfArmed.subscribed = x.subscribed := by unfold Slot.wakeIfArmed; split <;> rfl
@[simp] theorem Slot.wakeIfArmed_nextSubscribed (x : Slot) : x.wakeIfArmed.nextSubscribed = x.nextSubscribed := by unfold Slot.wakeIfArmed; split <;> rfl
@[simp] theorem Slot.wakeIfArmed_statements (x : Slot) : x.wakeIfArmed.statements = x.statements := by unfold Slot.wakeIfArmed; split <;> rfl
@[simp] theorem Slot.wakeIfArmed_dropped (x : Slot) : x.wakeIfArmed.dropped = x.dropped := by unfold Slot.wakeIfArmed; split <;> rfl
@[simp] theorem Slot.wakeIfArmed_dropBefore (x : Slot) : x.wakeIfArmed.dropBefore = x.dropBefore := by unfold Slot.wakeIfArmed; split <;> rfl
@[simp] theorem Slot.wakeIfArmed_lastDropEvent (x : Slot) : x.wakeIfArmed.lastDropEvent = x.lastDropEvent := by unfold Slot.wakeIfArmed; split <;> rfl
@[simp] theorem Slot.wakeIfArmed_truncating (x : Slot) : x.wakeIfArmed.truncating = x.truncating := by unfold Slot.wakeIfArmed; split <;> rfl
@[simp] theorem Slot.wakeIfArmed_noAccess (x : Slot) : x.wakeIfArmed.noAccess = x.noAccess := by unfold Slot.wakeIfArmed; split <;> rfl
@[simp] theorem Slot.wakeIfArmed_usofTs (x : Slot) : x.wakeIfArmed.usofTs = x.usofTs := by unfold Slot.wakeIfArmed; split <;> rfl
@[simp] theorem Slot.wakeIfArmed_unlocked (x : Slot) : x.wakeIfArmed.unlocked = x.unlocked := by unfold Slot.wakeIfArmed; split <;> rfl
@[simp] theorem Slot.wakeIfArmed_domainOn (x : Slot) : x.wakeIfArmed.domainOn = x.domainOn := by unfold Slot.wakeIfArmed; split <;> rfl
@[simp] theorem Slot.addCompletion_vbus (x : Slot) (c : Completion) (n : Bool) : (x.addCompletion c n).vbus = x.vbus := by
  unfold Slot.addCompletion; dsimp only; split <;> simp
@[simp] theorem Slot.addCompletion_u1En (x : Slot) (c : Completion) (n : Bool) : (x.addCompletion c n).u1En = x.u1En := by
  unfold Slot.addCompletion; dsimp only; split <;> simp
@[simp] theorem Slot.addCompletion_u2En (x : Slot) (c : Completion) (n : Bool) : (x.addCompletion c n).u2En = x.u2En := by
  unfold Slot.addCompletion; dsimp only; split <;> simp
@[simp] theorem Slot.addCompletion_stmtOn (x : Slot) (c : Completion) (n : Bool) : (x.addCompletion c n).stmtOn = x.stmtOn := by
  unfold Slot.addCompletion; dsimp only; split <;> simp
@[simp] theorem Slot.addCompletion_hubWake (x : Slot) (c : Completion) (n : Bool) : (x.addCompletion c n).hubWake = x.hubWake := by
  unfold Slot.addCompletion; dsimp only; split <;> simp
@[simp] theorem Slot.addCompletion_owed (x : Slot) (c : Completion) (n : Bool) : (x.addCompletion c n).owed = x.owed := by
  unfold Slot.addCompletion; dsimp only; split <;> simp
@[simp] theorem Slot.addCompletion_used (x : Slot) (c : Completion) (n : Bool) : (x.addCompletion c n).used = x.used := by
  unfold Slot.addCompletion; dsimp only; split <;> simp
@[simp] theorem Slot.addCompletion_orient (x : Slot) (c : Completion) (n : Bool) : (x.addCompletion c n).orient = x.orient := by
  unfold Slot.addCompletion; dsimp only; split <;> simp
@[simp] theorem Slot.addCompletion_presented (x : Slot) (c : Completion) (n : Bool) : (x.addCompletion c n).presented = x.presented := by
  unfold Slot.addCompletion; dsimp only; split <;> simp
@[simp] theorem Slot.addCompletion_ssTerm (x : Slot) (c : Completion) (n : Bool) : (x.addCompletion c n).ssTerm = x.ssTerm := by
  unfold Slot.addCompletion; dsimp only; split <;> simp
@[simp] theorem Slot.addCompletion_ssSpeed (x : Slot) (c : Completion) (n : Bool) : (x.addCompletion c n).ssSpeed = x.ssSpeed := by
  unfold Slot.addCompletion; dsimp only; split <;> simp
@[simp] theorem Slot.addCompletion_ssLink (x : Slot) (c : Completion) (n : Bool) : (x.addCompletion c n).ssLink = x.ssLink := by
  unfold Slot.addCompletion; dsimp only; split <;> simp
@[simp] theorem Slot.addCompletion_ssPll (x : Slot) (c : Completion) (n : Bool) : (x.addCompletion c n).ssPll = x.ssPll := by
  unfold Slot.addCompletion; dsimp only; split <;> simp
@[simp] theorem Slot.addCompletion_hub2Susp (x : Slot) (c : Completion) (n : Bool) : (x.addCompletion c n).hub2Susp = x.hub2Susp := by
  unfold Slot.addCompletion; dsimp only; split <;> simp
@[simp] theorem Slot.addCompletion_hs (x : Slot) (c : Completion) (n : Bool) : (x.addCompletion c n).hs = x.hs := by
  unfold Slot.addCompletion; dsimp only; split <;> simp
@[simp] theorem Slot.addCompletion_tellerPath (x : Slot) (c : Completion) (n : Bool) : (x.addCompletion c n).tellerPath = x.tellerPath := by
  unfold Slot.addCompletion; dsimp only; split <;> simp
@[simp] theorem Slot.addCompletion_tellerCfg (x : Slot) (c : Completion) (n : Bool) : (x.addCompletion c n).tellerCfg = x.tellerCfg := by
  unfold Slot.addCompletion; dsimp only; split <;> simp
@[simp] theorem Slot.addCompletion_suspended (x : Slot) (c : Completion) (n : Bool) : (x.addCompletion c n).suspended = x.suspended := by
  unfold Slot.addCompletion; dsimp only; split <;> simp
@[simp] theorem Slot.addCompletion_wakeHub2 (x : Slot) (c : Completion) (n : Bool) : (x.addCompletion c n).wakeHub2 = x.wakeHub2 := by
  unfold Slot.addCompletion; dsimp only; split <;> simp
@[simp] theorem Slot.addCompletion_wakeTeller (x : Slot) (c : Completion) (n : Bool) : (x.addCompletion c n).wakeTeller = x.wakeTeller := by
  unfold Slot.addCompletion; dsimp only; split <;> simp
@[simp] theorem Slot.addCompletion_tellerAddr (x : Slot) (c : Completion) (n : Bool) : (x.addCompletion c n).tellerAddr = x.tellerAddr := by
  unfold Slot.addCompletion; dsimp only; split <;> simp
@[simp] theorem Slot.addCompletion_hub2Addr (x : Slot) (c : Completion) (n : Bool) : (x.addCompletion c n).hub2Addr = x.hub2Addr := by
  unfold Slot.addCompletion; dsimp only; split <;> simp
@[simp] theorem Slot.addCompletion_ssHubAddr (x : Slot) (c : Completion) (n : Bool) : (x.addCompletion c n).ssHubAddr = x.ssHubAddr := by
  unfold Slot.addCompletion; dsimp only; split <;> simp
@[simp] theorem Slot.addCompletion_ssHubCfg (x : Slot) (c : Completion) (n : Bool) : (x.addCompletion c n).ssHubCfg = x.ssHubCfg := by
  unfold Slot.addCompletion; dsimp only; split <;> simp
@[simp] theorem Slot.addCompletion_hub2Cfg (x : Slot) (c : Completion) (n : Bool) : (x.addCompletion c n).hub2Cfg = x.hub2Cfg := by
  unfold Slot.addCompletion; dsimp only; split <;> simp
@[simp] theorem Slot.addCompletion_hub (x : Slot) (c : Completion) (n : Bool) : (x.addCompletion c n).hub = x.hub := by
  unfold Slot.addCompletion; dsimp only; split <;> simp
@[simp] theorem Slot.addCompletion_port25Change (x : Slot) (c : Completion) (n : Bool) : (x.addCompletion c n).port25Change = x.port25Change := by
  unfold Slot.addCompletion; dsimp only; split <;> simp
@[simp] theorem Slot.addCompletion_ctl (x : Slot) (c : Completion) (n : Bool) : (x.addCompletion c n).ctl = x.ctl := by
  unfold Slot.addCompletion; dsimp only; split <;> simp
@[simp] theorem Slot.addCompletion_till (x : Slot) (c : Completion) (n : Bool) : (x.addCompletion c n).till = x.till := by
  unfold Slot.addCompletion; dsimp only; split <;> simp
@[simp] theorem Slot.addCompletion_keyHold (x : Slot) (c : Completion) (n : Bool) : (x.addCompletion c n).keyHold = x.keyHold := by
  unfold Slot.addCompletion; dsimp only; split <;> simp
@[simp] theorem Slot.addCompletion_seq (x : Slot) (c : Completion) (n : Bool) : (x.addCompletion c n).seq = x.seq := by
  unfold Slot.addCompletion; dsimp only; split <;> simp
@[simp] theorem Slot.addCompletion_lastIn81 (x : Slot) (c : Completion) (n : Bool) : (x.addCompletion c n).lastIn81 = x.lastIn81 := by
  unfold Slot.addCompletion; dsimp only; split <;> simp
@[simp] theorem Slot.addCompletion_lastIn82 (x : Slot) (c : Completion) (n : Bool) : (x.addCompletion c n).lastIn82 = x.lastIn82 := by
  unfold Slot.addCompletion; dsimp only; split <;> simp
@[simp] theorem Slot.addCompletion_layout (x : Slot) (c : Completion) (n : Bool) : (x.addCompletion c n).layout = x.layout := by
  unfold Slot.addCompletion; dsimp only; split <;> simp
@[simp] theorem Slot.addCompletion_nextLayout (x : Slot) (c : Completion) (n : Bool) : (x.addCompletion c n).nextLayout = x.nextLayout := by
  unfold Slot.addCompletion; dsimp only; split <;> simp
@[simp] theorem Slot.addCompletion_layoutGen (x : Slot) (c : Completion) (n : Bool) : (x.addCompletion c n).layoutGen = x.layoutGen := by
  unfold Slot.addCompletion; dsimp only; split <;> simp
@[simp] theorem Slot.addCompletion_newLayout (x : Slot) (c : Completion) (n : Bool) : (x.addCompletion c n).newLayout = x.newLayout := by
  unfold Slot.addCompletion; dsimp only; split <;> simp
@[simp] theorem Slot.addCompletion_subscribed (x : Slot) (c : Completion) (n : Bool) : (x.addCompletion c n).subscribed = x.subscribed := by
  unfold Slot.addCompletion; dsimp only; split <;> simp
@[simp] theorem Slot.addCompletion_nextSubscribed (x : Slot) (c : Completion) (n : Bool) : (x.addCompletion c n).nextSubscribed = x.nextSubscribed := by
  unfold Slot.addCompletion; dsimp only; split <;> simp
@[simp] theorem Slot.addCompletion_statements (x : Slot) (c : Completion) (n : Bool) : (x.addCompletion c n).statements = x.statements := by
  unfold Slot.addCompletion; dsimp only; split <;> simp
@[simp] theorem Slot.addCompletion_dropped (x : Slot) (c : Completion) (n : Bool) : (x.addCompletion c n).dropped = x.dropped := by
  unfold Slot.addCompletion; dsimp only; split <;> simp
@[simp] theorem Slot.addCompletion_dropBefore (x : Slot) (c : Completion) (n : Bool) : (x.addCompletion c n).dropBefore = x.dropBefore := by
  unfold Slot.addCompletion; dsimp only; split <;> simp
@[simp] theorem Slot.addCompletion_lastDropEvent (x : Slot) (c : Completion) (n : Bool) : (x.addCompletion c n).lastDropEvent = x.lastDropEvent := by
  unfold Slot.addCompletion; dsimp only; split <;> simp
@[simp] theorem Slot.addCompletion_truncating (x : Slot) (c : Completion) (n : Bool) : (x.addCompletion c n).truncating = x.truncating := by
  unfold Slot.addCompletion; dsimp only; split <;> simp
@[simp] theorem Slot.addCompletion_noAccess (x : Slot) (c : Completion) (n : Bool) : (x.addCompletion c n).noAccess = x.noAccess := by
  unfold Slot.addCompletion; dsimp only; split <;> simp
@[simp] theorem Slot.addCompletion_usofTs (x : Slot) (c : Completion) (n : Bool) : (x.addCompletion c n).usofTs = x.usofTs := by
  unfold Slot.addCompletion; dsimp only; split <;> simp
@[simp] theorem Slot.addCompletion_unlocked (x : Slot) (c : Completion) (n : Bool) : (x.addCompletion c n).unlocked = x.unlocked := by
  unfold Slot.addCompletion; dsimp only; split <;> simp
@[simp] theorem Slot.addCompletion_domainOn (x : Slot) (c : Completion) (n : Bool) : (x.addCompletion c n).domainOn = x.domainOn := by
  unfold Slot.addCompletion; dsimp only; split <;> simp
/-- The completion is posted: behind every record, or ahead of the waiting events while the function is not configured (R125). -/
theorem Slot.addCompletion_records (x : Slot) (c : Completion) (n : Bool) : (x.addCompletion c n).records =
    if x.tellerCfg then x.records ++ [.completion c]
    else x.records.filter (fun r => !isEvent r) ++ [.completion c] ++ x.records.filter isEvent := by
  unfold Slot.addCompletion; dsimp only; split <;> simp
/-- The completion is among the records. -/
theorem Slot.mem_addCompletion (x : Slot) (c : Completion) (n : Bool) : Record.completion c ∈ (x.addCompletion c n).records := by
  rw [Slot.addCompletion_records]; split <;> simp
/-- The completion returns its entry (R172). -/
@[simp] theorem Slot.addCompletion_entryCredits (x : Slot) (c : Completion) (n : Bool) :
    (x.addCompletion c n).entryCredits = if c.entry then x.entryCredits + 1 else x.entryCredits := by
  unfold Slot.addCompletion; dsimp only; split <;> simp
/-- The completion returns its lines (R172). -/
@[simp] theorem Slot.addCompletion_lineCredits (x : Slot) (c : Completion) (n : Bool) :
    (x.addCompletion c n).lineCredits = x.lineCredits + c.lines := by
  unfold Slot.addCompletion; dsimp only; split <;> simp

/-! ### Answering changes the caller's slot, or the mailbox, and nothing else -/

/-- Completing an entry posts the completion the opcode's row gives. -/
theorem finish_answered (o : OpSpec) (a : CmdArgs) (s₀ s : State) (st : Status) (r0 : Word) (data : List Byte) :
    (s.finish a.caller (o.entryOf a s₀) st r0 data).answered o a st r0 data := by
  rcases hc : a.caller with g | _
  · simp only [State.answered, hc, State.finish, State.finishSlot, State.modSlot_slots, vmod_same]
    refine ⟨?_, ?_⟩
    · have h : completionOf o a st r0 data = (o.entryOf a s₀).completion st r0 data := by
        simp [completionOf, hc, TillEntry.completion, OpSpec.entryOf, mkEntry]
      rw [h]; exact Slot.mem_addCompletion _ _ _
    · intro e he
      simp only [Slot.addCompletion_till, List.mem_filter] at he
      simpa [OpSpec.entryOf, mkEntry] using he.2
  · simp only [State.answered, hc, State.finish, State.finishMbx, State.modTeller_teller, completionOf, OpSpec.entryOf, mkEntry,
      true_and]
    intro i hi hl
    simp only [Bool.false_eq_true, if_false] at hl
    simp only [overlay, Vector.getElem_ofFn, wordsOf]
    rw [List.getD_eq_getElem?_getD, List.getElem?_map, List.getElem?_range (by omega)]
    rfl

@[simp] theorem State.finish_fw (s : State) (c : Caller) (e : TillEntry) (st : Status) (r0 : Word) (d : List Byte) :
    (s.finish c e st r0 d).fw = s.fw := by cases c <;> rfl
@[simp] theorem State.finish_ports (s : State) (c : Caller) (e : TillEntry) (st : Status) (r0 : Word) (d : List Byte) :
    (s.finish c e st r0 d).ports = s.ports := by cases c <;> rfl
@[simp] theorem State.finish_pd (s : State) (c : Caller) (e : TillEntry) (st : Status) (r0 : Word) (d : List Byte) :
    (s.finish c e st r0 d).pd = s.pd := by cases c <;> rfl
@[simp] theorem State.finish_pwr (s : State) (c : Caller) (e : TillEntry) (st : Status) (r0 : Word) (d : List Byte) :
    (s.finish c e st r0 d).pwr = s.pwr := by cases c <;> rfl
@[simp] theorem State.finish_stiles (s : State) (c : Caller) (e : TillEntry) (st : Status) (r0 : Word) (d : List Byte) :
    (s.finish c e st r0 d).stiles = s.stiles := by cases c <;> rfl
@[simp] theorem State.finish_escrow (s : State) (c : Caller) (e : TillEntry) (st : Status) (r0 : Word) (d : List Byte) :
    (s.finish c e st r0 d).escrow = s.escrow := by cases c <;> rfl
@[simp] theorem State.finish_orders (s : State) (c : Caller) (e : TillEntry) (st : Status) (r0 : Word) (d : List Byte) :
    (s.finish c e st r0 d).orders = s.orders := by cases c <;> rfl
@[simp] theorem State.finish_purses (s : State) (c : Caller) (e : TillEntry) (st : Status) (r0 : Word) (d : List Byte) :
    (s.finish c e st r0 d).purses = s.purses := by cases c <;> rfl
@[simp] theorem State.finish_tally (s : State) (c : Caller) (e : TillEntry) (st : Status) (r0 : Word) (d : List Byte) :
    (s.finish c e st r0 d).tally = s.tally := by cases c <;> rfl
@[simp] theorem State.finish_dvt (s : State) (c : Caller) (e : TillEntry) (st : Status) (r0 : Word) (d : List Byte) :
    (s.finish c e st r0 d).dvt = s.dvt := by cases c <;> rfl
@[simp] theorem State.finish_mint (s : State) (c : Caller) (e : TillEntry) (st : Status) (r0 : Word) (d : List Byte) :
    (s.finish c e st r0 d).mint = s.mint := by cases c <;> rfl
@[simp] theorem State.finish_clr (s : State) (c : Caller) (e : TillEntry) (st : Status) (r0 : Word) (d : List Byte) :
    (s.finish c e st r0 d).clr = s.clr := by cases c <;> rfl
@[simp] theorem State.finish_ldg (s : State) (c : Caller) (e : TillEntry) (st : Status) (r0 : Word) (d : List Byte) :
    (s.finish c e st r0 d).ldg = s.ldg := by cases c <;> rfl
@[simp] theorem State.finish_vault (s : State) (c : Caller) (e : TillEntry) (st : Status) (r0 : Word) (d : List Byte) :
    (s.finish c e st r0 d).vault = s.vault := by cases c <;> rfl
@[simp] theorem State.finish_nsf (s : State) (c : Caller) (e : TillEntry) (st : Status) (r0 : Word) (d : List Byte) :
    (s.finish c e st r0 d).nsf = s.nsf := by cases c <;> rfl
@[simp] theorem State.finish_pending (s : State) (c : Caller) (e : TillEntry) (st : Status) (r0 : Word) (d : List Byte) :
    (s.finish c e st r0 d).pending = s.pending := by cases c <;> rfl
@[simp] theorem State.finish_orphans (s : State) (c : Caller) (e : TillEntry) (st : Status) (r0 : Word) (d : List Byte) :
    (s.finish c e st r0 d).orphans = s.orphans := by cases c <;> rfl
@[simp] theorem State.finish_glb (s : State) (c : Caller) (e : TillEntry) (st : Status) (r0 : Word) (d : List Byte) :
    (s.finish c e st r0 d).glb = s.glb := by cases c <;> rfl
@[simp] theorem State.holdKey_fw (s : State) (c : Caller) (k : Key) : (s.holdKey c k).fw = s.fw := by cases c <;> rfl
@[simp] theorem State.holdKey_ports (s : State) (c : Caller) (k : Key) : (s.holdKey c k).ports = s.ports := by cases c <;> rfl
@[simp] theorem State.holdKey_pd (s : State) (c : Caller) (k : Key) : (s.holdKey c k).pd = s.pd := by cases c <;> rfl
@[simp] theorem State.holdKey_pwr (s : State) (c : Caller) (k : Key) : (s.holdKey c k).pwr = s.pwr := by cases c <;> rfl
@[simp] theorem State.holdKey_stiles (s : State) (c : Caller) (k : Key) : (s.holdKey c k).stiles = s.stiles := by cases c <;> rfl
@[simp] theorem State.holdKey_escrow (s : State) (c : Caller) (k : Key) : (s.holdKey c k).escrow = s.escrow := by cases c <;> rfl
@[simp] theorem State.holdKey_orders (s : State) (c : Caller) (k : Key) : (s.holdKey c k).orders = s.orders := by cases c <;> rfl
@[simp] theorem State.holdKey_purses (s : State) (c : Caller) (k : Key) : (s.holdKey c k).purses = s.purses := by cases c <;> rfl
@[simp] theorem State.holdKey_tally (s : State) (c : Caller) (k : Key) : (s.holdKey c k).tally = s.tally := by cases c <;> rfl
@[simp] theorem State.holdKey_dvt (s : State) (c : Caller) (k : Key) : (s.holdKey c k).dvt = s.dvt := by cases c <;> rfl
@[simp] theorem State.holdKey_mint (s : State) (c : Caller) (k : Key) : (s.holdKey c k).mint = s.mint := by cases c <;> rfl
@[simp] theorem State.holdKey_clr (s : State) (c : Caller) (k : Key) : (s.holdKey c k).clr = s.clr := by cases c <;> rfl
@[simp] theorem State.holdKey_ldg (s : State) (c : Caller) (k : Key) : (s.holdKey c k).ldg = s.ldg := by cases c <;> rfl
@[simp] theorem State.holdKey_vault (s : State) (c : Caller) (k : Key) : (s.holdKey c k).vault = s.vault := by cases c <;> rfl
@[simp] theorem State.holdKey_nsf (s : State) (c : Caller) (k : Key) : (s.holdKey c k).nsf = s.nsf := by cases c <;> rfl
@[simp] theorem State.holdKey_pending (s : State) (c : Caller) (k : Key) : (s.holdKey c k).pending = s.pending := by cases c <;> rfl
@[simp] theorem State.holdKey_orphans (s : State) (c : Caller) (k : Key) : (s.holdKey c k).orphans = s.orphans := by cases c <;> rfl
@[simp] theorem State.holdKey_glb (s : State) (c : Caller) (k : Key) : (s.holdKey c k).glb = s.glb := by cases c <;> rfl
@[simp] theorem State.keepEntry_fw (s : State) (c : Caller) (n : Nat) (e : TillEntry) :
    (s.keepEntry c n e).fw = s.fw := by cases c <;> rfl
@[simp] theorem State.keepEntry_ports (s : State) (c : Caller) (n : Nat) (e : TillEntry) :
    (s.keepEntry c n e).ports = s.ports := by cases c <;> rfl
@[simp] theorem State.keepEntry_pd (s : State) (c : Caller) (n : Nat) (e : TillEntry) :
    (s.keepEntry c n e).pd = s.pd := by cases c <;> rfl
@[simp] theorem State.keepEntry_pwr (s : State) (c : Caller) (n : Nat) (e : TillEntry) :
    (s.keepEntry c n e).pwr = s.pwr := by cases c <;> rfl
@[simp] theorem State.keepEntry_stiles (s : State) (c : Caller) (n : Nat) (e : TillEntry) :
    (s.keepEntry c n e).stiles = s.stiles := by cases c <;> rfl
@[simp] theorem State.keepEntry_escrow (s : State) (c : Caller) (n : Nat) (e : TillEntry) :
    (s.keepEntry c n e).escrow = s.escrow := by cases c <;> rfl
@[simp] theorem State.keepEntry_orders (s : State) (c : Caller) (n : Nat) (e : TillEntry) :
    (s.keepEntry c n e).orders = s.orders := by cases c <;> rfl
@[simp] theorem State.keepEntry_purses (s : State) (c : Caller) (n : Nat) (e : TillEntry) :
    (s.keepEntry c n e).purses = s.purses := by cases c <;> rfl
@[simp] theorem State.keepEntry_tally (s : State) (c : Caller) (n : Nat) (e : TillEntry) :
    (s.keepEntry c n e).tally = s.tally := by cases c <;> rfl
@[simp] theorem State.keepEntry_dvt (s : State) (c : Caller) (n : Nat) (e : TillEntry) :
    (s.keepEntry c n e).dvt = s.dvt := by cases c <;> rfl
@[simp] theorem State.keepEntry_mint (s : State) (c : Caller) (n : Nat) (e : TillEntry) :
    (s.keepEntry c n e).mint = s.mint := by cases c <;> rfl
@[simp] theorem State.keepEntry_clr (s : State) (c : Caller) (n : Nat) (e : TillEntry) :
    (s.keepEntry c n e).clr = s.clr := by cases c <;> rfl
@[simp] theorem State.keepEntry_ldg (s : State) (c : Caller) (n : Nat) (e : TillEntry) :
    (s.keepEntry c n e).ldg = s.ldg := by cases c <;> rfl
@[simp] theorem State.keepEntry_vault (s : State) (c : Caller) (n : Nat) (e : TillEntry) :
    (s.keepEntry c n e).vault = s.vault := by cases c <;> rfl
@[simp] theorem State.keepEntry_nsf (s : State) (c : Caller) (n : Nat) (e : TillEntry) :
    (s.keepEntry c n e).nsf = s.nsf := by cases c <;> rfl
@[simp] theorem State.keepEntry_pending (s : State) (c : Caller) (n : Nat) (e : TillEntry) :
    (s.keepEntry c n e).pending = s.pending := by cases c <;> rfl
@[simp] theorem State.keepEntry_orphans (s : State) (c : Caller) (n : Nat) (e : TillEntry) :
    (s.keepEntry c n e).orphans = s.orphans := by cases c <;> rfl
@[simp] theorem State.keepEntry_glb (s : State) (c : Caller) (n : Nat) (e : TillEntry) :
    (s.keepEntry c n e).glb = s.glb := by cases c <;> rfl

/-- Giving an event changes the slot's records and the held events, nothing else. -/
@[simp] theorem State.give_fw (s : State) (h : SlotId) (e : Event) : (s.give h e).fw = s.fw := by
  unfold State.give; dsimp only; split <;> (try split) <;> rfl
@[simp] theorem State.slotEvent_fw (s : State) (h : SlotId) (c : Nat) (p : Option PortId) (x d : Nat) :
    (s.slotEvent h c p x d).fw = s.fw := by simp [State.slotEvent]
@[simp] theorem State.give_ports (s : State) (h : SlotId) (e : Event) : (s.give h e).ports = s.ports := by
  unfold State.give; dsimp only; split <;> (try split) <;> rfl
@[simp] theorem State.slotEvent_ports (s : State) (h : SlotId) (c : Nat) (p : Option PortId) (x d : Nat) :
    (s.slotEvent h c p x d).ports = s.ports := by simp [State.slotEvent]
@[simp] theorem State.give_pd (s : State) (h : SlotId) (e : Event) : (s.give h e).pd = s.pd := by
  unfold State.give; dsimp only; split <;> (try split) <;> rfl
@[simp] theorem State.slotEvent_pd (s : State) (h : SlotId) (c : Nat) (p : Option PortId) (x d : Nat) :
    (s.slotEvent h c p x d).pd = s.pd := by simp [State.slotEvent]
@[simp] theorem State.give_pwr (s : State) (h : SlotId) (e : Event) : (s.give h e).pwr = s.pwr := by
  unfold State.give; dsimp only; split <;> (try split) <;> rfl
@[simp] theorem State.slotEvent_pwr (s : State) (h : SlotId) (c : Nat) (p : Option PortId) (x d : Nat) :
    (s.slotEvent h c p x d).pwr = s.pwr := by simp [State.slotEvent]
@[simp] theorem State.give_stiles (s : State) (h : SlotId) (e : Event) : (s.give h e).stiles = s.stiles := by
  unfold State.give; dsimp only; split <;> (try split) <;> rfl
@[simp] theorem State.slotEvent_stiles (s : State) (h : SlotId) (c : Nat) (p : Option PortId) (x d : Nat) :
    (s.slotEvent h c p x d).stiles = s.stiles := by simp [State.slotEvent]
@[simp] theorem State.give_escrow (s : State) (h : SlotId) (e : Event) : (s.give h e).escrow = s.escrow := by
  unfold State.give; dsimp only; split <;> (try split) <;> rfl
@[simp] theorem State.slotEvent_escrow (s : State) (h : SlotId) (c : Nat) (p : Option PortId) (x d : Nat) :
    (s.slotEvent h c p x d).escrow = s.escrow := by simp [State.slotEvent]
@[simp] theorem State.give_orders (s : State) (h : SlotId) (e : Event) : (s.give h e).orders = s.orders := by
  unfold State.give; dsimp only; split <;> (try split) <;> rfl
@[simp] theorem State.slotEvent_orders (s : State) (h : SlotId) (c : Nat) (p : Option PortId) (x d : Nat) :
    (s.slotEvent h c p x d).orders = s.orders := by simp [State.slotEvent]
@[simp] theorem State.give_purses (s : State) (h : SlotId) (e : Event) : (s.give h e).purses = s.purses := by
  unfold State.give; dsimp only; split <;> (try split) <;> rfl
@[simp] theorem State.slotEvent_purses (s : State) (h : SlotId) (c : Nat) (p : Option PortId) (x d : Nat) :
    (s.slotEvent h c p x d).purses = s.purses := by simp [State.slotEvent]
@[simp] theorem State.give_tally (s : State) (h : SlotId) (e : Event) : (s.give h e).tally = s.tally := by
  unfold State.give; dsimp only; split <;> (try split) <;> rfl
@[simp] theorem State.slotEvent_tally (s : State) (h : SlotId) (c : Nat) (p : Option PortId) (x d : Nat) :
    (s.slotEvent h c p x d).tally = s.tally := by simp [State.slotEvent]
@[simp] theorem State.give_dvt (s : State) (h : SlotId) (e : Event) : (s.give h e).dvt = s.dvt := by
  unfold State.give; dsimp only; split <;> (try split) <;> rfl
@[simp] theorem State.slotEvent_dvt (s : State) (h : SlotId) (c : Nat) (p : Option PortId) (x d : Nat) :
    (s.slotEvent h c p x d).dvt = s.dvt := by simp [State.slotEvent]
@[simp] theorem State.give_mint (s : State) (h : SlotId) (e : Event) : (s.give h e).mint = s.mint := by
  unfold State.give; dsimp only; split <;> (try split) <;> rfl
@[simp] theorem State.slotEvent_mint (s : State) (h : SlotId) (c : Nat) (p : Option PortId) (x d : Nat) :
    (s.slotEvent h c p x d).mint = s.mint := by simp [State.slotEvent]
@[simp] theorem State.give_clr (s : State) (h : SlotId) (e : Event) : (s.give h e).clr = s.clr := by
  unfold State.give; dsimp only; split <;> (try split) <;> rfl
@[simp] theorem State.slotEvent_clr (s : State) (h : SlotId) (c : Nat) (p : Option PortId) (x d : Nat) :
    (s.slotEvent h c p x d).clr = s.clr := by simp [State.slotEvent]
@[simp] theorem State.give_ldg (s : State) (h : SlotId) (e : Event) : (s.give h e).ldg = s.ldg := by
  unfold State.give; dsimp only; split <;> (try split) <;> rfl
@[simp] theorem State.slotEvent_ldg (s : State) (h : SlotId) (c : Nat) (p : Option PortId) (x d : Nat) :
    (s.slotEvent h c p x d).ldg = s.ldg := by simp [State.slotEvent]
@[simp] theorem State.give_vault (s : State) (h : SlotId) (e : Event) : (s.give h e).vault = s.vault := by
  unfold State.give; dsimp only; split <;> (try split) <;> rfl
@[simp] theorem State.slotEvent_vault (s : State) (h : SlotId) (c : Nat) (p : Option PortId) (x d : Nat) :
    (s.slotEvent h c p x d).vault = s.vault := by simp [State.slotEvent]
@[simp] theorem State.give_nsf (s : State) (h : SlotId) (e : Event) : (s.give h e).nsf = s.nsf := by
  unfold State.give; dsimp only; split <;> (try split) <;> rfl
@[simp] theorem State.slotEvent_nsf (s : State) (h : SlotId) (c : Nat) (p : Option PortId) (x d : Nat) :
    (s.slotEvent h c p x d).nsf = s.nsf := by simp [State.slotEvent]
@[simp] theorem State.give_pending (s : State) (h : SlotId) (e : Event) : (s.give h e).pending = s.pending := by
  unfold State.give; dsimp only; split <;> (try split) <;> rfl
@[simp] theorem State.give_orphans (s : State) (h : SlotId) (e : Event) : (s.give h e).orphans = s.orphans := by
  unfold State.give; dsimp only; split <;> (try split) <;> rfl
@[simp] theorem State.slotEvent_pending (s : State) (h : SlotId) (c : Nat) (p : Option PortId) (x d : Nat) :
    (s.slotEvent h c p x d).pending = s.pending := by simp [State.slotEvent]
@[simp] theorem State.slotEvent_orphans (s : State) (h : SlotId) (c : Nat) (p : Option PortId) (x d : Nat) :
    (s.slotEvent h c p x d).orphans = s.orphans := by simp [State.slotEvent]
@[simp] theorem State.give_glb (s : State) (h : SlotId) (e : Event) : (s.give h e).glb = s.glb := by
  unfold State.give; dsimp only; split <;> (try split) <;> rfl
@[simp] theorem State.slotEvent_glb (s : State) (h : SlotId) (c : Nat) (p : Option PortId) (x d : Nat) :
    (s.slotEvent h c p x d).glb = s.glb := by simp [State.slotEvent]

/-- A fold keeps what each of its steps keeps. -/
theorem foldl_keeps {α β : Type} (p : State → β) (f : State → α → State) (hf : ∀ s x, p (f s x) = p s) (l : List α) (s : State) :
    p (l.foldl f s) = p s := by
  induction l generalizing s with
  | nil => rfl
  | cons x l ih => rw [List.foldl_cons, ih, hf]

@[simp] theorem State.everySlotEvent_fw (s : State) (c x d : Nat) : (s.everySlotEvent c x d).fw = s.fw :=
  foldl_keeps (·.fw) _ (fun s h => by split <;> simp) _ _
@[simp] theorem State.everySlotEvent_ports (s : State) (c x d : Nat) : (s.everySlotEvent c x d).ports = s.ports :=
  foldl_keeps (·.ports) _ (fun s h => by split <;> simp) _ _
@[simp] theorem State.everySlotEvent_pd (s : State) (c x d : Nat) : (s.everySlotEvent c x d).pd = s.pd :=
  foldl_keeps (·.pd) _ (fun s h => by split <;> simp) _ _
@[simp] theorem State.everySlotEvent_pwr (s : State) (c x d : Nat) : (s.everySlotEvent c x d).pwr = s.pwr :=
  foldl_keeps (·.pwr) _ (fun s h => by split <;> simp) _ _
@[simp] theorem State.everySlotEvent_stiles (s : State) (c x d : Nat) : (s.everySlotEvent c x d).stiles = s.stiles :=
  foldl_keeps (·.stiles) _ (fun s h => by split <;> simp) _ _
@[simp] theorem State.everySlotEvent_escrow (s : State) (c x d : Nat) : (s.everySlotEvent c x d).escrow = s.escrow :=
  foldl_keeps (·.escrow) _ (fun s h => by split <;> simp) _ _
@[simp] theorem State.everySlotEvent_orders (s : State) (c x d : Nat) : (s.everySlotEvent c x d).orders = s.orders :=
  foldl_keeps (·.orders) _ (fun s h => by split <;> simp) _ _
@[simp] theorem State.everySlotEvent_purses (s : State) (c x d : Nat) : (s.everySlotEvent c x d).purses = s.purses :=
  foldl_keeps (·.purses) _ (fun s h => by split <;> simp) _ _
@[simp] theorem State.everySlotEvent_tally (s : State) (c x d : Nat) : (s.everySlotEvent c x d).tally = s.tally :=
  foldl_keeps (·.tally) _ (fun s h => by split <;> simp) _ _
@[simp] theorem State.everySlotEvent_dvt (s : State) (c x d : Nat) : (s.everySlotEvent c x d).dvt = s.dvt :=
  foldl_keeps (·.dvt) _ (fun s h => by split <;> simp) _ _
@[simp] theorem State.everySlotEvent_mint (s : State) (c x d : Nat) : (s.everySlotEvent c x d).mint = s.mint :=
  foldl_keeps (·.mint) _ (fun s h => by split <;> simp) _ _
@[simp] theorem State.everySlotEvent_clr (s : State) (c x d : Nat) : (s.everySlotEvent c x d).clr = s.clr :=
  foldl_keeps (·.clr) _ (fun s h => by split <;> simp) _ _
@[simp] theorem State.everySlotEvent_ldg (s : State) (c x d : Nat) : (s.everySlotEvent c x d).ldg = s.ldg :=
  foldl_keeps (·.ldg) _ (fun s h => by split <;> simp) _ _
@[simp] theorem State.everySlotEvent_vault (s : State) (c x d : Nat) : (s.everySlotEvent c x d).vault = s.vault :=
  foldl_keeps (·.vault) _ (fun s h => by split <;> simp) _ _
@[simp] theorem State.everySlotEvent_nsf (s : State) (c x d : Nat) : (s.everySlotEvent c x d).nsf = s.nsf :=
  foldl_keeps (·.nsf) _ (fun s h => by split <;> simp) _ _
@[simp] theorem State.everySlotEvent_pending (s : State) (c x d : Nat) : (s.everySlotEvent c x d).pending = s.pending :=
  foldl_keeps (·.pending) _ (fun s h => by split <;> simp) _ _
@[simp] theorem State.everySlotEvent_orphans (s : State) (c x d : Nat) : (s.everySlotEvent c x d).orphans = s.orphans :=
  foldl_keeps (·.orphans) _ (fun s h => by split <;> simp) _ _
@[simp] theorem State.everySlotEvent_glb (s : State) (c x d : Nat) : (s.everySlotEvent c x d).glb = s.glb :=
  foldl_keeps (·.glb) _ (fun s h => by split <;> simp) _ _
@[simp] theorem State.atDispatch_fw (s : State) (o : OpSpec) (a : CmdArgs) : (s.atDispatch o a).fw = s.fw := by
  unfold State.atDispatch State.leaveS1 State.writeMbx; dsimp only; split <;> split <;> simp
@[simp] theorem State.atDispatch_ports (s : State) (o : OpSpec) (a : CmdArgs) : (s.atDispatch o a).ports = s.ports := by
  unfold State.atDispatch State.leaveS1 State.writeMbx; dsimp only; split <;> split <;> simp
@[simp] theorem State.atDispatch_pd (s : State) (o : OpSpec) (a : CmdArgs) : (s.atDispatch o a).pd = s.pd := by
  unfold State.atDispatch State.leaveS1 State.writeMbx; dsimp only; split <;> split <;> simp
@[simp] theorem State.atDispatch_pwr (s : State) (o : OpSpec) (a : CmdArgs) : (s.atDispatch o a).pwr = s.pwr := by
  unfold State.atDispatch State.leaveS1 State.writeMbx; dsimp only; split <;> split <;> simp
@[simp] theorem State.atDispatch_stiles (s : State) (o : OpSpec) (a : CmdArgs) : (s.atDispatch o a).stiles = s.stiles := by
  unfold State.atDispatch State.leaveS1 State.writeMbx; dsimp only; split <;> split <;> simp
@[simp] theorem State.atDispatch_escrow (s : State) (o : OpSpec) (a : CmdArgs) : (s.atDispatch o a).escrow = s.escrow := by
  unfold State.atDispatch State.leaveS1 State.writeMbx; dsimp only; split <;> split <;> simp
@[simp] theorem State.atDispatch_orders (s : State) (o : OpSpec) (a : CmdArgs) : (s.atDispatch o a).orders = s.orders := by
  unfold State.atDispatch State.leaveS1 State.writeMbx; dsimp only; split <;> split <;> simp
@[simp] theorem State.atDispatch_purses (s : State) (o : OpSpec) (a : CmdArgs) : (s.atDispatch o a).purses = s.purses := by
  unfold State.atDispatch State.leaveS1 State.writeMbx; dsimp only; split <;> split <;> simp
@[simp] theorem State.atDispatch_tally (s : State) (o : OpSpec) (a : CmdArgs) : (s.atDispatch o a).tally = s.tally := by
  unfold State.atDispatch State.leaveS1 State.writeMbx; dsimp only; split <;> split <;> simp
@[simp] theorem State.atDispatch_dvt (s : State) (o : OpSpec) (a : CmdArgs) : (s.atDispatch o a).dvt = s.dvt := by
  unfold State.atDispatch State.leaveS1 State.writeMbx; dsimp only; split <;> split <;> simp
@[simp] theorem State.atDispatch_mint (s : State) (o : OpSpec) (a : CmdArgs) : (s.atDispatch o a).mint = s.mint := by
  unfold State.atDispatch State.leaveS1 State.writeMbx; dsimp only; split <;> split <;> simp
@[simp] theorem State.atDispatch_clr (s : State) (o : OpSpec) (a : CmdArgs) : (s.atDispatch o a).clr = s.clr := by
  unfold State.atDispatch State.leaveS1 State.writeMbx; dsimp only; split <;> split <;> simp
@[simp] theorem State.atDispatch_ldg (s : State) (o : OpSpec) (a : CmdArgs) : (s.atDispatch o a).ldg = s.ldg := by
  unfold State.atDispatch State.leaveS1 State.writeMbx; dsimp only; split <;> split <;> simp
@[simp] theorem State.atDispatch_vault (s : State) (o : OpSpec) (a : CmdArgs) : (s.atDispatch o a).vault = s.vault := by
  unfold State.atDispatch State.leaveS1 State.writeMbx; dsimp only; split <;> split <;> simp
@[simp] theorem State.atDispatch_nsf (s : State) (o : OpSpec) (a : CmdArgs) : (s.atDispatch o a).nsf = s.nsf := by
  unfold State.atDispatch State.leaveS1 State.writeMbx; dsimp only; split <;> split <;> simp
@[simp] theorem State.atDispatch_pending (s : State) (o : OpSpec) (a : CmdArgs) : (s.atDispatch o a).pending = s.pending := by
  unfold State.atDispatch State.leaveS1 State.writeMbx; dsimp only; split <;> split <;> simp
@[simp] theorem State.atDispatch_orphans (s : State) (o : OpSpec) (a : CmdArgs) : (s.atDispatch o a).orphans = s.orphans := by
  unfold State.atDispatch State.leaveS1 State.writeMbx; dsimp only; split <;> split <;> simp

/-! ### A command that completes at once leaves everything else -/

/-- While Teller runs, an event changes its slot only. -/
theorem State.give_running (s : State) (h : SlotId) (e : Event) (hr : s.teller.run = .running) :
    s.give h e = s.modSlot h fun x => ({ x with seq := x.seq + 1 }).queueEvent e := by
  simp [State.give, hr, State.modSlot, vmod]

/-- While Teller runs, an event leaves Teller. -/
theorem State.everySlotEvent_teller (s : State) (c x d : Nat) (hr : s.teller.run = .running) :
    (s.everySlotEvent c x d).teller = s.teller := by
  have key : ∀ (l : List SlotId) (t : State), t.teller = s.teller →
      (l.foldl (fun s h => if s.slots[h.val].tellerCfg then s.slotEvent h c none x d else s) t).teller = s.teller := by
    intro l
    induction l with
    | nil => exact fun t h => h
    | cons g l ih =>
      intro t h
      rw [List.foldl_cons]
      apply ih
      split
      · rw [State.slotEvent, State.give_running _ _ _ (by rw [h]; exact hr)]; exact h
      · exact h
  exact key _ _ rfl

/-- One slot after an event that went to every configured slot, Teller running. -/
def Slot.afterEvent (x : Slot) (n : Word) (c aux d : Nat) : Slot :=
  if x.tellerCfg then
    ({ x with seq := x.seq + 1 }).queueEvent
      { code := BitVec.ofNat 8 c, seq := x.seq, port := 0xFF, aux := BitVec.ofNat 16 aux, data := toWord d, mf := n, ext := false,
        payload := [] }
  else x

/-- Changing an element to itself changes nothing. -/
theorem vmod_id {α : Type} {n : Nat} (v : Vector α n) (i : Fin n) (f : α → α) (h : f v[i.val] = v[i.val]) : vmod v i f = v := by
  ext j hj; rw [vmod_get]; split
  · next e => subst e; exact h
  · rfl

/-- While Teller runs, an event to every configured slot is an event to each of them. -/
theorem State.everySlotEvent_slots (s : State) (c x d : Nat) (hr : s.teller.run = .running) (g : SlotId) :
    (s.everySlotEvent c x d).slots[g.val] = s.slots[g.val].afterEvent s.nLow c x d := by
  have key : ∀ (l : List SlotId) (t : State), l.Nodup → t.teller = s.teller → t.nLow = s.nLow →
      (l.foldl (fun s h => if s.slots[h.val].tellerCfg then s.slotEvent h c none x d else s) t).slots[g.val]
        = if g ∈ l then t.slots[g.val].afterEvent s.nLow c x d else t.slots[g.val] := by
    intro l
    induction l with
    | nil => intro t _ _ _; rfl
    | cons b l ih =>
      intro t hn ht hc
      have hstep : (if t.slots[b.val].tellerCfg then t.slotEvent b c none x d else t)
          = t.modSlot b fun y => y.afterEvent s.nLow c x d := by
        split
        · next h =>
          rw [State.slotEvent, State.give_running _ _ _ (by rw [ht]; exact hr)]
          simp only [State.modSlot, State.mk.injEq, true_and, and_true]
          ext j hj; rw [vmod_get, vmod_get]; split
          · next e => subst e; simp only [Slot.afterEvent, h, if_true, State.mkEvent, hc]; rfl
          · rfl
        · next h =>
          have : vmod t.slots b (fun y => y.afterEvent s.nLow c x d) = t.slots := vmod_id _ _ _ (by simp [Slot.afterEvent, h])
          simp only [State.modSlot, this]
      rw [List.foldl_cons, hstep, ih _ (List.nodup_cons.mp hn).2 (by simpa using ht) (by simpa [State.nLow] using hc)]
      have hb : b ∉ l := (List.nodup_cons.mp hn).1
      by_cases e : g = b
      · subst e; simp [hb]
      · have : b.val ≠ g.val := fun q => e (Fin.ext q.symm)
        simp [e, State.modSlot, vmod_get, this]
  have := key allSlots s (List.nodup_finRange 4) rfl rfl
  rw [if_pos (show g ∈ allSlots from List.mem_finRange g)] at this
  exact this

/-- Credits play no part in a wake-up. -/
theorem Slot.wakeIfArmed_credits (x : Slot) (ec lc : Nat) :
    ({ x with entryCredits := ec, lineCredits := lc }).wakeIfArmed
      = { x.wakeIfArmed with entryCredits := ec, lineCredits := lc } := by
  by_cases h : (x.suspended && x.wakeArmed) = true
  · have h' : (({ x with entryCredits := ec, lineCredits := lc } : Slot).suspended
        && ({ x with entryCredits := ec, lineCredits := lc } : Slot).wakeArmed) = true := h
    rw [Slot.wakeIfArmed, if_pos h', Slot.wakeIfArmed, if_pos h]
  · have h' : ¬ (({ x with entryCredits := ec, lineCredits := lc } : Slot).suspended
        && ({ x with entryCredits := ec, lineCredits := lc } : Slot).wakeArmed) = true := h
    rw [Slot.wakeIfArmed, if_neg h', Slot.wakeIfArmed, if_neg h]

/-- Credits play no part in queueing an event. -/
theorem Slot.queueEvent_credits (x : Slot) (e : Event) (ec lc : Nat) :
    ({ x with entryCredits := ec, lineCredits := lc }).queueEvent e
      = { x.queueEvent e with entryCredits := ec, lineCredits := lc } := by
  by_cases q : (x.records.filter isEvent).length < 1024 ∧ (x.records.map recordPayload).sum + e.payload.length ≤ 16384
  · have l : ({ x with entryCredits := ec, lineCredits := lc }).queueEvent e
        = ({ x with entryCredits := ec, lineCredits := lc, records := x.records ++ [Record.event e] }).wakeIfArmed := if_pos q
    have r : x.queueEvent e = ({ x with records := x.records ++ [Record.event e] }).wakeIfArmed := if_pos q
    rw [l, r]
    exact Slot.wakeIfArmed_credits { x with records := x.records ++ [Record.event e] } ec lc
  · have l : ({ x with entryCredits := ec, lineCredits := lc }).queueEvent e
        = { x with entryCredits := ec, lineCredits := lc } := if_neg q
    have r : x.queueEvent e = x := if_neg q
    rw [l, r]

/-- Credits play no part in an event. -/
theorem Slot.afterEvent_credits (x : Slot) (n : Word) (c aux d ec lc : Nat) :
    ({ x with entryCredits := ec, lineCredits := lc }).afterEvent n c aux d
      = { x.afterEvent n c aux d with entryCredits := ec, lineCredits := lc } := by
  by_cases h : x.tellerCfg = true
  · have l : ∀ y : Slot, y.tellerCfg = true → y.afterEvent n c aux d = ({ y with seq := y.seq + 1 }).queueEvent
        { code := BitVec.ofNat 8 c, seq := y.seq, port := 0xFF, aux := BitVec.ofNat 16 aux, data := toWord d, mf := n, ext := false,
          payload := [] } := fun y hy => if_pos hy
    rw [l x h, l { x with entryCredits := ec, lineCredits := lc } h]
    exact Slot.queueEvent_credits { x with seq := x.seq + 1 } _ ec lc
  · have l : ∀ y : Slot, ¬ y.tellerCfg = true → y.afterEvent n c aux d = y := fun y hy => if_neg hy
    rw [l x h, l { x with entryCredits := ec, lineCredits := lc } h]

/-- An event leaves a slot's Till, credits and held keys, and every record that was there. -/
theorem Slot.afterEvent_frame (x : Slot) (n : Word) (c aux d : Nat) :
    (x.afterEvent n c aux d).till = x.till ∧ (x.afterEvent n c aux d).entryCredits = x.entryCredits ∧
    (x.afterEvent n c aux d).lineCredits = x.lineCredits ∧ (x.afterEvent n c aux d).keyHold = x.keyHold := by
  unfold Slot.afterEvent Slot.queueEvent
  split
  · dsimp only; split <;> simp
  · simp

/-- One slot as a command finds it: S1 has ended, where it has. -/
theorem State.leaveS1_slots (s : State) (op : Nat) (hr : s.teller.run = .running) (g : SlotId) :
    (s.leaveS1 op).slots[g.val] =
      if s.glb.core = .s1 ∧ op ≠ 0xC1 ∧ op ≠ 0x00 then s.slots[g.val].afterEvent s.nLow 0x48 0x2 0 else s.slots[g.val] := by
  unfold State.leaveS1
  split
  · rw [State.everySlotEvent_slots _ _ _ _ (by simpa using hr)]; simp [State.nLow]
  · rfl

/-- Ending S1 leaves Teller. -/
theorem State.leaveS1_teller (s : State) (op : Nat) (hr : s.teller.run = .running) : (s.leaveS1 op).teller = s.teller := by
  unfold State.leaveS1
  split
  · rw [State.everySlotEvent_teller _ _ _ _ (by simpa using hr)]; simp
  · rfl


/-- A wake-up changes the wake signal only. -/
theorem Slot.wakeIfArmed_eq (x : Slot) : ∃ w, x.wakeIfArmed = { x with wakeSignal := w } := by
  by_cases h : (x.suspended && x.wakeArmed) = true
  · exact ⟨true, if_pos h⟩
  · exact ⟨x.wakeSignal, if_neg h⟩

/-- A slot that takes a completion changes in its records, its credits and its wake-up. -/
theorem Slot.addCompletion_eq (x : Slot) (c : Completion) (n : Bool) : ∃ w, x.addCompletion c n = { x with
    records := if x.tellerCfg then x.records ++ [.completion c]
      else x.records.filter (fun r => !isEvent r) ++ [.completion c] ++ x.records.filter isEvent
    entryCredits := if c.entry then x.entryCredits + 1 else x.entryCredits
    lineCredits := x.lineCredits + c.lines, wakeSignal := w } := by
  unfold Slot.addCompletion
  cases n
  · exact ⟨x.wakeSignal, rfl⟩
  · simp only [if_true]
    exact Slot.wakeIfArmed_eq _

/-- A slot's command as it is dispatched: its slot has given the credits, and S1 has ended. -/
theorem State.atDispatch_slots (s : State) (o : OpSpec) (a : CmdArgs) (hr : s.teller.run = .running) (g : SlotId) :
    (s.atDispatch o a).slots[g.val] = if a.caller = .slot g then
      { (s.leaveS1 o.code).slots[g.val] with
        entryCredits := s.slots[g.val].entryCredits - 1
        lineCredits := s.slots[g.val].lineCredits - lineCount a.params.length }
      else (s.leaveS1 o.code).slots[g.val] := by
  rcases hc : a.caller with b | _
  · simp only [State.atDispatch, hc]
    rw [State.leaveS1_slots _ _ (by simpa using hr), State.leaveS1_slots _ _ hr]
    have hn : ∀ f, (s.modSlot b f).nLow = s.nLow := fun f => rfl
    by_cases e : g = b
    · subst e
      simp only [State.modSlot_glb, State.modSlot_slots, vmod_same, hn, if_true]
      split
      · rw [Slot.afterEvent_credits]
      · rfl
    · have : b.val ≠ g.val := fun q => e (Fin.ext q.symm)
      have e' : ¬ (Caller.slot b = Caller.slot g) := by intro q; injection q with q; exact e q.symm
      rw [if_neg e']
      simp only [State.modSlot_glb, State.modSlot_slots, hn, vmod_other _ _ _ _ _ this]
  · simp only [State.atDispatch, hc, reduceCtorEq, if_false]
    have e1 : ∀ f, ((s.writeMbx (BitVec.ofNat 8 o.code) a).modTeller f).slots = s.slots := fun f => by simp [State.writeMbx]
    have e2 : ∀ f, ((s.writeMbx (BitVec.ofNat 8 o.code) a).modTeller f).nLow = s.nLow := fun f => by
      simp [State.writeMbx, State.nLow]
    rw [State.leaveS1_slots _ _ (by simpa [State.writeMbx] using hr), State.leaveS1_slots _ _ hr, State.modTeller_glb,
      State.writeMbx_glb, e1, e2]

/-- Teller as a command finds it. -/
theorem State.atDispatch_teller (s : State) (o : OpSpec) (a : CmdArgs) (hr : s.teller.run = .running) :
    (a.caller ≠ .mbx → (s.atDispatch o a).teller = s.teller) ∧
    (a.caller = .mbx → ∃ m, (s.atDispatch o a).teller = { s.teller with mbxCmd := m, go := true, done := false }) := by
  rcases hc : a.caller with b | _
  · refine ⟨fun _ => ?_, fun h => by cases h⟩
    simp only [State.atDispatch, hc]
    rw [State.leaveS1_teller _ _ (by simpa using hr)]; simp
  · refine ⟨fun h => absurd rfl h, fun _ => ⟨((s.writeMbx (BitVec.ofNat 8 o.code) a).teller.mbxCmd), ?_⟩⟩
    simp only [State.atDispatch, hc]
    rw [State.leaveS1_teller _ _ (by simpa [State.writeMbx] using hr)]
    simp only [State.writeMbx, State.modTeller_teller]

/-- Ending S1 changes the Carcass's state in the Global block. -/
theorem State.leaveS1_glb (s : State) (op : Nat) : (s.leaveS1 op).glb =
    if s.glb.core = .s1 ∧ op ≠ 0xC1 ∧ op ≠ 0x00 then { s.glb with core := .s0 } else s.glb := by
  unfold State.leaveS1; split <;> simp

/-- The Global block as a command finds it. -/
theorem State.atDispatch_glb (s : State) (o : OpSpec) (a : CmdArgs) : (s.atDispatch o a).glb = (s.leaveS1 o.code).glb := by
  rcases hc : a.caller with b | _ <;> simp only [State.atDispatch, hc] <;> rw [State.leaveS1_glb, State.leaveS1_glb]
  · rw [State.modSlot_glb]
  · rw [State.modTeller_glb, State.writeMbx_glb]

/-- What `takes` says of a slot's command. -/
theorem takes_slot {o : OpSpec} {a : CmdArgs} {s : State} (h : s.takes o a = true) (g : SlotId) (hc : a.caller = .slot g) :
    s.slots[g.val].room a.params.length = true ∧ s.slots[g.val].tagInFlight a.tag = false ∧ a.tag.toNat ≤ 511 := by
  simp only [State.takes, hc, Bool.and_eq_true, Bool.not_eq_true', decide_eq_true_eq] at h
  obtain ⟨⟨⟨⟨⟨⟨⟨⟨⟨⟨-, hr⟩, ht⟩, hf⟩, -⟩, -⟩, -⟩, -⟩, -⟩, -⟩, -⟩ := h
  exact ⟨hr, hf, ht⟩

/-- Teller runs when it takes a command. -/
theorem takes_running {o : OpSpec} {a : CmdArgs} {s : State} (h : s.takes o a = true) : s.teller.run = .running := by
  rcases hc : a.caller with b | _ <;> simp only [State.takes, hc, Bool.and_eq_true, beq_iff_eq] at h
  · exact h.1.1.1.1.1.1.2
  · exact h.1.1.1.1.2

/-- A command that completes at once leaves everything but the answer as its body left it. -/
theorem finish_same {o : OpSpec} {a : CmdArgs} {s s' : State} (st : Status) (r0 : Word) (d : List Byte)
    (h : s.takes o a = true) (hs : s'.slots = (s.atDispatch o a).slots) (ht : s'.teller = (s.atDispatch o a).teller) :
    State.SameButAnswer { s' with slots := (s.leaveS1 o.code).slots, teller := s.teller }
      (s'.finish a.caller (o.entryOf a s) st r0 d) a.caller [] := by
  have hr := takes_running h
  have htel := State.atDispatch_teller s o a hr
  refine ⟨?_, ?_, ?_, ?_, ?_, ?_, ?_, ?_, ?_, ?_, ?_, ?_, ?_, ?_, ?_, ?_, ?_, ?_, ?_, ?_, ?_, ?_⟩
  iterate 18 simp
  · intro g hg
    rcases hc : a.caller with b | _
    · have e : b.val ≠ g.val := fun q => hg (by rw [hc, Fin.ext q])
      simp only [State.finish, State.finishSlot, State.modSlot_slots, vmod_other _ _ _ _ _ e, hs, State.atDispatch_slots s o a hr,
        if_neg hg]
    · simp only [State.finish, State.finishMbx, State.modTeller_slots, hs, State.atDispatch_slots s o a hr, if_neg hg]
  · intro g hg
    obtain ⟨hroom, hfl, -⟩ := takes_slot h g hg
    simp only [hg, State.finish, State.finishSlot, State.modSlot_slots, vmod_same]
    obtain ⟨w, hw⟩ := Slot.addCompletion_eq
      { s'.slots[g.val] with till := s'.slots[g.val].till.filter fun y => y.args.tag != (o.entryOf a s).args.tag }
      ((o.entryOf a s).completion st r0 d) (notifyOf (o.entryOf a s).args)
    have hbase := State.atDispatch_slots s o a hr g
    rw [if_pos hg] at hbase
    have hl := State.leaveS1_slots s o.code hr g
    have hsame : (s.leaveS1 o.code).slots[g.val].till = s.slots[g.val].till ∧
        (s.leaveS1 o.code).slots[g.val].entryCredits = s.slots[g.val].entryCredits ∧
        (s.leaveS1 o.code).slots[g.val].lineCredits = s.slots[g.val].lineCredits := by
      rw [hl]; split
      · exact ⟨(Slot.afterEvent_frame _ _ _ _ _).1, (Slot.afterEvent_frame _ _ _ _ _).2.1, (Slot.afterEvent_frame _ _ _ _ _).2.2.1⟩
      · exact ⟨rfl, rfl, rfl⟩
    have htill : (s.leaveS1 o.code).slots[g.val].till.filter (fun y => y.args.tag != (o.entryOf a s).args.tag)
        = (s.leaveS1 o.code).slots[g.val].till := by
      rw [List.filter_eq_self, hsame.1]
      intro y hy
      simp only [Slot.tagInFlight, Bool.or_eq_false_iff, List.any_eq_false] at hfl
      simpa [OpSpec.entryOf, mkEntry] using hfl.1 y hy
    simp only [Slot.room, Bool.and_eq_true, decide_eq_true_eq] at hroom
    have hcr : (if ((o.entryOf a s).completion st r0 d).entry = true then s.slots[g.val].entryCredits - 1 + 1
        else s.slots[g.val].entryCredits - 1) = (s.leaveS1 o.code).slots[g.val].entryCredits := by
      rw [hsame.2.1]; simp only [TillEntry.completion, OpSpec.entryOf, mkEntry, if_true]; omega
    have hln : s.slots[g.val].lineCredits - lineCount a.params.length + ((o.entryOf a s).completion st r0 d).lines
        = (s.leaveS1 o.code).slots[g.val].lineCredits := by
      rw [hsame.2.2]; simp only [TillEntry.completion, OpSpec.entryOf, mkEntry, if_true]; omega
    rw [hw]
    simp only [hs, hbase, htill, hcr, hln, List.append_nil]
    refine ⟨_, w, rfl, ?_⟩
    intro r hrm
    split
    · simp [hrm]
    · simp only [List.mem_append, List.mem_filter]
      cases hv : isEvent r <;> simp [hrm]
  · intro hc
    rcases hc' : a.caller with b | _
    · simp only [State.finish, State.finishSlot, State.modSlot_teller, ht, htel.1 hc]
    · exact absurd hc' hc
  · intro hc
    obtain ⟨m, hm⟩ := htel.2 hc
    simp only [hc, State.finish, State.finishMbx, State.modTeller_teller, ht, hm, List.append_nil]
    exact ⟨_, _, _, rfl⟩

/-- A held key plays no part in a completion. -/
theorem Slot.addCompletion_keyHold_comm (x : Slot) (c : Completion) (n : Bool) (l : List Key) :
    ({ x with keyHold := l }).addCompletion c n = { x.addCompletion c n with keyHold := l } := by
  unfold Slot.addCompletion
  cases n
  · rfl
  · simp only [if_true]
    have hw : ∀ z : Slot, ({ z with keyHold := l }).wakeIfArmed = { z.wakeIfArmed with keyHold := l } := by
      intro z
      by_cases h : (z.suspended && z.wakeArmed) = true
      · rw [Slot.wakeIfArmed, if_pos (show (({ z with keyHold := l } : Slot).suspended
          && ({ z with keyHold := l } : Slot).wakeArmed) = true from h), Slot.wakeIfArmed, if_pos h]
      · rw [Slot.wakeIfArmed, if_neg (show ¬ (({ z with keyHold := l } : Slot).suspended
          && ({ z with keyHold := l } : Slot).wakeArmed) = true from h), Slot.wakeIfArmed, if_neg h]
    exact hw { x with
      records := if x.tellerCfg then x.records ++ [.completion c]
        else x.records.filter (fun r => !isEvent r) ++ [.completion c] ++ x.records.filter isEvent
      entryCredits := if c.entry then x.entryCredits + 1 else x.entryCredits
      lineCredits := x.lineCredits + c.lines }

/-- Two changes of one element are one change. -/
theorem vmod_vmod {α : Type} {n : Nat} (v : Vector α n) (i : Fin n) (f g : α → α) : vmod (vmod v i f) i g = vmod v i (g ∘ f) := by
  ext j hj; rw [vmod_get, vmod_get, vmod_get]; split <;> rfl

/-- Holding a key and posting the completion may be taken in either order. -/
theorem State.finish_holdKey (s : State) (c : Caller) (k : Key) (e : TillEntry) (st : Status) (r0 : Word) (d : List Byte) :
    (s.holdKey c k).finish c e st r0 d = (s.finish c e st r0 d).holdKey c k := by
  rcases c with g | _
  · simp only [State.finish, State.finishSlot, State.holdKey, State.modSlot, vmod_vmod]
    congr 1
    congr 1
    funext x
    simp only [Function.comp, Slot.addCompletion_keyHold]
    exact Slot.addCompletion_keyHold_comm { x with till := x.till.filter fun y => y.args.tag != e.args.tag } _ _ (x.keyHold ++ [k])
  · rfl

/-- A command whose effect point is the next snapshot completes at once, its key held; everything else is as its body left
it. -/
theorem snap_same {o : OpSpec} {a : CmdArgs} {s s' : State} (st : Status) (r0 : Word) (d : List Byte) (k : Key)
    (h : s.takes o a = true) (hs : s'.slots = (s.atDispatch o a).slots) (ht : s'.teller = (s.atDispatch o a).teller) :
    State.SameButAnswer { s' with slots := (s.leaveS1 o.code).slots, teller := s.teller }
      ((s'.holdKey a.caller k).finish a.caller (o.entryOf a s) st r0 d) a.caller [k] := by
  rw [State.finish_holdKey]
  have q := finish_same st r0 d h hs ht
  generalize s'.finish a.caller (o.entryOf a s) st r0 d = t at q
  obtain ⟨q1, q2, q3, q4, q5, q6, q7, q8, q9, q10, q11, q12, q13, q14, q15, q16, q17, q18, qo, qw, qt, qm⟩ := q
  refine ⟨?_, ?_, ?_, ?_, ?_, ?_, ?_, ?_, ?_, ?_, ?_, ?_, ?_, ?_, ?_, ?_, ?_, ?_, ?_, ?_, ?_, ?_⟩
  iterate 18 simpa
  · intro g hg
    rw [← qo g hg]
    rcases hc : a.caller with b | _
    · have e : b.val ≠ g.val := fun q => hg (by rw [hc, Fin.ext q])
      simp only [State.holdKey, State.modSlot_slots, vmod_other _ _ _ _ _ e]
    · rfl
  · intro g hg
    obtain ⟨r, w, he, hr⟩ := qw g hg
    simp only [hg, State.holdKey, State.modSlot_slots, vmod_same, he]
    exact ⟨r, w, by simp, hr⟩
  · intro hc
    rcases hc' : a.caller with b | _
    · simpa [State.holdKey] using qt hc
    · exact absurd hc' hc
  · intro hc
    obtain ⟨cmd, rsp, nt, he⟩ := qm hc
    simp only [hc, State.holdKey, State.modTeller_teller, he]
    exact ⟨cmd, rsp, nt, by simp⟩

/-! ### The Global block as a command finds it: only the end of S1 changes it -/

@[simp] theorem State.atDispatch_glb_held (s : State) (o : OpSpec) (a : CmdArgs) : (s.atDispatch o a).glb.held = s.glb.held := by
  rw [State.atDispatch_glb, State.leaveS1_glb]; split <;> rfl
@[simp] theorem State.atDispatch_glb_phase (s : State) (o : OpSpec) (a : CmdArgs) : (s.atDispatch o a).glb.phase = s.glb.phase := by
  rw [State.atDispatch_glb, State.leaveS1_glb]; split <;> rfl
@[simp] theorem State.atDispatch_glb_resetCause (s : State) (o : OpSpec) (a : CmdArgs) : (s.atDispatch o a).glb.resetCause = s.glb.resetCause := by
  rw [State.atDispatch_glb, State.leaveS1_glb]; split <;> rfl
@[simp] theorem State.atDispatch_glb_unsealed (s : State) (o : OpSpec) (a : CmdArgs) : (s.atDispatch o a).glb.unsealed = s.glb.unsealed := by
  rw [State.atDispatch_glb, State.leaveS1_glb]; split <;> rfl
@[simp] theorem State.atDispatch_glb_inlayBoot (s : State) (o : OpSpec) (a : CmdArgs) : (s.atDispatch o a).glb.inlayBoot = s.glb.inlayBoot := by
  rw [State.atDispatch_glb, State.leaveS1_glb]; split <;> rfl
@[simp] theorem State.atDispatch_glb_failB (s : State) (o : OpSpec) (a : CmdArgs) : (s.atDispatch o a).glb.failB = s.glb.failB := by
  rw [State.atDispatch_glb, State.leaveS1_glb]; split <;> rfl
@[simp] theorem State.atDispatch_glb_failA (s : State) (o : OpSpec) (a : CmdArgs) : (s.atDispatch o a).glb.failA = s.glb.failA := by
  rw [State.atDispatch_glb, State.leaveS1_glb]; split <;> rfl
@[simp] theorem State.atDispatch_glb_dvt (s : State) (o : OpSpec) (a : CmdArgs) : (s.atDispatch o a).glb.dvt = s.glb.dvt := by
  rw [State.atDispatch_glb, State.leaveS1_glb]; split <;> rfl
@[simp] theorem State.atDispatch_glb_image (s : State) (o : OpSpec) (a : CmdArgs) : (s.atDispatch o a).glb.image = s.glb.image := by
  rw [State.atDispatch_glb, State.leaveS1_glb]; split <;> rfl
@[simp] theorem State.atDispatch_glb_cascadeEn (s : State) (o : OpSpec) (a : CmdArgs) : (s.atDispatch o a).glb.cascadeEn = s.glb.cascadeEn := by
  rw [State.atDispatch_glb, State.leaveS1_glb]; split <;> rfl
@[simp] theorem State.atDispatch_glb_bootSlot (s : State) (o : OpSpec) (a : CmdArgs) : (s.atDispatch o a).glb.bootSlot = s.glb.bootSlot := by
  rw [State.atDispatch_glb, State.leaveS1_glb]; split <;> rfl
@[simp] theorem State.atDispatch_glb_clocksOk (s : State) (o : OpSpec) (a : CmdArgs) : (s.atDispatch o a).glb.clocksOk = s.glb.clocksOk := by
  rw [State.atDispatch_glb, State.leaveS1_glb]; split <;> rfl
@[simp] theorem State.atDispatch_glb_pllRetry (s : State) (o : OpSpec) (a : CmdArgs) : (s.atDispatch o a).glb.pllRetry = s.glb.pllRetry := by
  rw [State.atDispatch_glb, State.leaveS1_glb]; split <;> rfl
@[simp] theorem State.atDispatch_glb_fVault (s : State) (o : OpSpec) (a : CmdArgs) : (s.atDispatch o a).glb.fVault = s.glb.fVault := by
  rw [State.atDispatch_glb, State.leaveS1_glb]; split <;> rfl
@[simp] theorem State.atDispatch_glb_fParity (s : State) (o : OpSpec) (a : CmdArgs) : (s.atDispatch o a).glb.fParity = s.glb.fParity := by
  rw [State.atDispatch_glb, State.leaveS1_glb]; split <;> rfl
@[simp] theorem State.atDispatch_glb_fInlay (s : State) (o : OpSpec) (a : CmdArgs) : (s.atDispatch o a).glb.fInlay = s.glb.fInlay := by
  rw [State.atDispatch_glb, State.leaveS1_glb]; split <;> rfl
@[simp] theorem State.atDispatch_glb_fLedger (s : State) (o : OpSpec) (a : CmdArgs) : (s.atDispatch o a).glb.fLedger = s.glb.fLedger := by
  rw [State.atDispatch_glb, State.leaveS1_glb]; split <;> rfl
@[simp] theorem State.atDispatch_glb_fFirmware (s : State) (o : OpSpec) (a : CmdArgs) : (s.atDispatch o a).glb.fFirmware = s.glb.fFirmware := by
  rw [State.atDispatch_glb, State.leaveS1_glb]; split <;> rfl
@[simp] theorem State.atDispatch_glb_fClock (s : State) (o : OpSpec) (a : CmdArgs) : (s.atDispatch o a).glb.fClock = s.glb.fClock := by
  rw [State.atDispatch_glb, State.leaveS1_glb]; split <;> rfl
@[simp] theorem State.atDispatch_glb_fPurse (s : State) (o : OpSpec) (a : CmdArgs) : (s.atDispatch o a).glb.fPurse = s.glb.fPurse := by
  rw [State.atDispatch_glb, State.leaveS1_glb]; split <;> rfl
@[simp] theorem State.atDispatch_glb_fPorts (s : State) (o : OpSpec) (a : CmdArgs) : (s.atDispatch o a).glb.fPorts = s.glb.fPorts := by
  rw [State.atDispatch_glb, State.leaveS1_glb]; split <;> rfl
@[simp] theorem State.atDispatch_glb_lock (s : State) (o : OpSpec) (a : CmdArgs) : (s.atDispatch o a).glb.lock = s.glb.lock := by
  rw [State.atDispatch_glb, State.leaveS1_glb]; split <;> rfl
@[simp] theorem State.atDispatch_glb_lockWritten (s : State) (o : OpSpec) (a : CmdArgs) : (s.atDispatch o a).glb.lockWritten = s.glb.lockWritten := by
  rw [State.atDispatch_glb, State.leaveS1_glb]; split <;> rfl
@[simp] theorem State.atDispatch_glb_mgmtUnlocked (s : State) (o : OpSpec) (a : CmdArgs) : (s.atDispatch o a).glb.mgmtUnlocked = s.glb.mgmtUnlocked := by
  rw [State.atDispatch_glb, State.leaveS1_glb]; split <;> rfl
@[simp] theorem State.atDispatch_glb_vioSource (s : State) (o : OpSpec) (a : CmdArgs) : (s.atDispatch o a).glb.vioSource = s.glb.vioSource := by
  rw [State.atDispatch_glb, State.leaveS1_glb]; split <;> rfl
@[simp] theorem State.atDispatch_glb_vioCode (s : State) (o : OpSpec) (a : CmdArgs) : (s.atDispatch o a).glb.vioCode = s.glb.vioCode := by
  rw [State.atDispatch_glb, State.leaveS1_glb]; split <;> rfl
@[simp] theorem State.atDispatch_glb_vioCount (s : State) (o : OpSpec) (a : CmdArgs) : (s.atDispatch o a).glb.vioCount = s.glb.vioCount := by
  rw [State.atDispatch_glb, State.leaveS1_glb]; split <;> rfl
@[simp] theorem State.atDispatch_glb_vioAddr (s : State) (o : OpSpec) (a : CmdArgs) : (s.atDispatch o a).glb.vioAddr = s.glb.vioAddr := by
  rw [State.atDispatch_glb, State.leaveS1_glb]; split <;> rfl
@[simp] theorem State.atDispatch_glb_parityAddr (s : State) (o : OpSpec) (a : CmdArgs) : (s.atDispatch o a).glb.parityAddr = s.glb.parityAddr := by
  rw [State.atDispatch_glb, State.leaveS1_glb]; split <;> rfl
@[simp] theorem State.atDispatch_glb_parityBad (s : State) (o : OpSpec) (a : CmdArgs) : (s.atDispatch o a).glb.parityBad = s.glb.parityBad := by
  rw [State.atDispatch_glb, State.leaveS1_glb]; split <;> rfl
@[simp] theorem State.atDispatch_glb_drainLimit (s : State) (o : OpSpec) (a : CmdArgs) : (s.atDispatch o a).glb.drainLimit = s.glb.drainLimit := by
  rw [State.atDispatch_glb, State.leaveS1_glb]; split <;> rfl
@[simp] theorem State.atDispatch_glb_portGrpOn (s : State) (o : OpSpec) (a : CmdArgs) : (s.atDispatch o a).glb.portGrpOn = s.glb.portGrpOn := by
  rw [State.atDispatch_glb, State.leaveS1_glb]; split <;> rfl
@[simp] theorem State.atDispatch_glb_drain (s : State) (o : OpSpec) (a : CmdArgs) : (s.atDispatch o a).glb.drain = s.glb.drain := by
  rw [State.atDispatch_glb, State.leaveS1_glb]; split <;> rfl
@[simp] theorem State.atDispatch_glb_drained (s : State) (o : OpSpec) (a : CmdArgs) : (s.atDispatch o a).glb.drained = s.glb.drained := by
  rw [State.atDispatch_glb, State.leaveS1_glb]; split <;> rfl
@[simp] theorem State.atDispatch_glb_mgmtOut (s : State) (o : OpSpec) (a : CmdArgs) : (s.atDispatch o a).glb.mgmtOut = s.glb.mgmtOut := by
  rw [State.atDispatch_glb, State.leaveS1_glb]; split <;> rfl
@[simp] theorem State.atDispatch_glb_mgmtAck (s : State) (o : OpSpec) (a : CmdArgs) : (s.atDispatch o a).glb.mgmtAck = s.glb.mgmtAck := by
  rw [State.atDispatch_glb, State.leaveS1_glb]; split <;> rfl
@[simp] theorem State.atDispatch_glb_soSkipped (s : State) (o : OpSpec) (a : CmdArgs) : (s.atDispatch o a).glb.soSkipped = s.glb.soSkipped := by
  rw [State.atDispatch_glb, State.leaveS1_glb]; split <;> rfl
@[simp] theorem State.atDispatch_glb_skippedNow (s : State) (o : OpSpec) (a : CmdArgs) : (s.atDispatch o a).glb.skippedNow = s.glb.skippedNow := by
  rw [State.atDispatch_glb, State.leaveS1_glb]; split <;> rfl
@[simp] theorem State.atDispatch_glb_clock (s : State) (o : OpSpec) (a : CmdArgs) : (s.atDispatch o a).glb.clock = s.glb.clock := by
  rw [State.atDispatch_glb, State.leaveS1_glb]; split <;> rfl
@[simp] theorem State.atDispatch_glb_assembled (s : State) (o : OpSpec) (a : CmdArgs) : (s.atDispatch o a).glb.assembled = s.glb.assembled := by
  rw [State.atDispatch_glb, State.leaveS1_glb]; split <;> rfl
@[simp] theorem State.atDispatch_glb_fv (s : State) (o : OpSpec) (a : CmdArgs) : (s.atDispatch o a).glb.fv = s.glb.fv := by
  rw [State.atDispatch_glb, State.leaveS1_glb]; split <;> rfl

/-! ### Equality of states, part by part -/

@[simp] theorem State.leaveS1_fw (s : State) (op : Nat) : (s.leaveS1 op).fw = s.fw := by
  unfold State.leaveS1; split <;> simp
@[simp] theorem State.leaveS1_ports (s : State) (op : Nat) : (s.leaveS1 op).ports = s.ports := by
  unfold State.leaveS1; split <;> simp
@[simp] theorem State.leaveS1_pd (s : State) (op : Nat) : (s.leaveS1 op).pd = s.pd := by
  unfold State.leaveS1; split <;> simp
@[simp] theorem State.leaveS1_pwr (s : State) (op : Nat) : (s.leaveS1 op).pwr = s.pwr := by
  unfold State.leaveS1; split <;> simp
@[simp] theorem State.leaveS1_stiles (s : State) (op : Nat) : (s.leaveS1 op).stiles = s.stiles := by
  unfold State.leaveS1; split <;> simp
@[simp] theorem State.leaveS1_escrow (s : State) (op : Nat) : (s.leaveS1 op).escrow = s.escrow := by
  unfold State.leaveS1; split <;> simp
@[simp] theorem State.leaveS1_orders (s : State) (op : Nat) : (s.leaveS1 op).orders = s.orders := by
  unfold State.leaveS1; split <;> simp
@[simp] theorem State.leaveS1_purses (s : State) (op : Nat) : (s.leaveS1 op).purses = s.purses := by
  unfold State.leaveS1; split <;> simp
@[simp] theorem State.leaveS1_tally (s : State) (op : Nat) : (s.leaveS1 op).tally = s.tally := by
  unfold State.leaveS1; split <;> simp
@[simp] theorem State.leaveS1_dvt (s : State) (op : Nat) : (s.leaveS1 op).dvt = s.dvt := by
  unfold State.leaveS1; split <;> simp
@[simp] theorem State.leaveS1_mint (s : State) (op : Nat) : (s.leaveS1 op).mint = s.mint := by
  unfold State.leaveS1; split <;> simp
@[simp] theorem State.leaveS1_clr (s : State) (op : Nat) : (s.leaveS1 op).clr = s.clr := by
  unfold State.leaveS1; split <;> simp
@[simp] theorem State.leaveS1_ldg (s : State) (op : Nat) : (s.leaveS1 op).ldg = s.ldg := by
  unfold State.leaveS1; split <;> simp
@[simp] theorem State.leaveS1_vault (s : State) (op : Nat) : (s.leaveS1 op).vault = s.vault := by
  unfold State.leaveS1; split <;> simp
@[simp] theorem State.leaveS1_nsf (s : State) (op : Nat) : (s.leaveS1 op).nsf = s.nsf := by
  unfold State.leaveS1; split <;> simp
@[simp] theorem State.leaveS1_pending (s : State) (op : Nat) : (s.leaveS1 op).pending = s.pending := by
  unfold State.leaveS1; split <;> simp
@[simp] theorem State.leaveS1_orphans (s : State) (op : Nat) : (s.leaveS1 op).orphans = s.orphans := by
  unfold State.leaveS1; split <;> simp
/-- States with the same parts are the same. -/
theorem State.eq_of_parts {s t : State} (h0 : s.glb = t.glb) (h1 : s.teller = t.teller) (h2 : s.fw = t.fw) (h3 : s.slots = t.slots) (h4 : s.ports = t.ports) (h5 : s.pd = t.pd) (h6 : s.pwr = t.pwr) (h7 : s.stiles = t.stiles) (h8 : s.escrow = t.escrow) (h9 : s.orders = t.orders) (h10 : s.purses = t.purses) (h11 : s.tally = t.tally) (h12 : s.dvt = t.dvt) (h13 : s.mint = t.mint) (h14 : s.clr = t.clr) (h15 : s.ldg = t.ldg) (h16 : s.vault = t.vault) (h17 : s.nsf = t.nsf) (h18 : s.pending = t.pending) (h19 : s.orphans = t.orphans) : s = t := by
  cases s; cases t; simp_all
/-- `SameButAnswer` from another description of the same state. -/
theorem State.SameButAnswer.of_eq {u v t : State} {c : Caller} {k : List Key} (h : u.SameButAnswer t c k) (e : u = v) :
    v.SameButAnswer t c k := e ▸ h

/-! ### A command that Teller takes -/

/-- No swap bars a command while Teller runs. -/
theorem State.swapBars_running (s : State) (op : Byte) (h : s.teller.run = .running) : s.swapBars op = false := by
  simp [State.swapBars, h]

/-- A command that finds its checks passed, its parameters good and its slot not draining is answered as its body says. -/
theorem runEntry_answers (o : OpSpec) (s : State) (e : TillEntry) (pos : Nat) (he : e.early = false)
    (hd : dispatchCheck o e.args (s.leaveS1 o.code) = none)
    (hf : (s.leaveS1 o.code).fetchParams e = (false, s.leaveS1 o.code))
    (hc : (s.leaveS1 o.code).callerDraining o e.args.caller = false) :
    runEntry o s e pos = (o.body (s.leaveS1 o.code) e.args).answer e.args.caller e pos := by
  unfold runEntry
  dsimp only
  rw [if_neg (by simp [he])]
  simp only [runBody, hd, hf, hc, Bool.false_and, Bool.false_eq_true, if_false]
  cases o.body (s.leaveS1 o.code) e.args <;> rfl

/-- Ending S1 leaves the drain. -/
theorem State.leaveS1_drain (s : State) (op : Nat) : (s.leaveS1 op).glb.drain = s.glb.drain := by
  rw [State.leaveS1_glb]; split <;> rfl

/-- A command that Teller takes runs its body at once, and is answered as the body says. -/
theorem issue_takes (o : OpSpec) (a : CmdArgs) (s : State) (h : s.takes o a = true) :
    issue o a s = (o.body (s.atDispatch o a) a).answer a.caller (o.entryOf a s) (s.tillPos a.caller) := by
  rcases hc : a.caller with g | _
  · simp only [State.takes, hc, Bool.and_eq_true, Option.isNone_iff_eq_none, Bool.not_eq_true', decide_eq_true_eq,
      beq_iff_eq, Bool.or_eq_true, List.isEmpty_iff] at h
    obtain ⟨⟨⟨⟨⟨⟨⟨⟨⟨⟨hp, hr⟩, ht⟩, hf⟩, hrun⟩, hb⟩, hfree⟩, hl⟩, hdr⟩, hs⟩, hd⟩ := h
    have hnt : ¬ (a.tag.toNat > 511 ∨ s.slots[g.val].tagInFlight a.tag = true) := by
      rw [hf]; simp; omega
    have hcode : BitVec.ofNat 8 o.code = (4 : Byte) ∨ (!s.anyFree) = true := by
      rcases hb with hb | hb
      · left; rw [hb]; rfl
      · right; rw [hb]; rfl
    simp only [issue, hc, hp, hr, Bool.and_true, if_true, State.enter, if_neg hnt]
    simp only [State.modSlot_teller, hs, hrun, true_and, State.modSlot_slots, vmod_same, reduceCtorEq, if_false,
      State.swapBars]
    simp only [OpSpec.entryOf, Slot.poolUsed] at hfree
    rw [if_neg (by simp), if_pos ⟨hcode, hfree⟩, runEntry_answers]
    · simp [mkEntry, State.atDispatch, hc, OpSpec.entryOf, State.tillPos]
    · rfl
    · simpa [State.atDispatch, hc, mkEntry] using hd
    · exact State.fetchParams_clean _ _ fun b hb => by
        simp only [mkEntry, hc, Caller.slot.injEq] at hb; subst hb
        rw [State.leaveS1_ldg]; exact hl
    · simpa [State.callerDraining, mkEntry, hc, State.leaveS1_drain] using hdr
  · simp only [State.takes, hc, Bool.and_eq_true, Option.isNone_iff_eq_none, Bool.not_eq_true',
      beq_iff_eq] at h
    obtain ⟨⟨⟨⟨⟨⟨⟨⟨haw, hk⟩, hg⟩, hst⟩, hrun⟩, hb⟩, hfree⟩, hs⟩, hd⟩ := h
    have hst' : ((s.writeMbx (BitVec.ofNat 8 o.code) a).modTeller fun t => { t with go := true, done := false }).tellerStarted = true := by
      rw [tellerStarted_congr (s := s) (by simp [State.writeMbx]) (by simp [State.writeMbx])]; exact hst
    have hb' : (s.writeMbx (BitVec.ofNat 8 o.code) a).anyFree = false := by
      rw [← hb]; exact anyFree_congr (by simp [State.writeMbx]) (by simp [State.writeMbx]) (by simp [State.writeMbx])
    have hrun2 : (s.writeMbx (BitVec.ofNat 8 o.code) a).teller.run = .running := by simpa [State.writeMbx] using hrun
    simp only [issue, hc, haw, hk, hg, Bool.and_true, Bool.not_false, if_true, State.startMbx, hb']
    simp only [hst', Bool.not_true, Bool.false_or, State.modTeller_teller, hrun2, hs]
    simp only [decide_eq_true_eq, reduceCtorEq, if_false, true_and]
    rw [State.swapBars_running _ _ (by simpa using hrun2)]
    simp only [Bool.false_eq_true, if_false]
    rw [if_pos (by simpa [State.writeMbx, OpSpec.entryOf] using hfree), runEntry_answers]
    · simp [mkEntry, State.atDispatch, hc, OpSpec.entryOf, State.tillPos]
    · rfl
    · simpa [State.atDispatch, hc, mkEntry] using hd
    · exact State.fetchParams_clean _ _ fun b hb => by simp [mkEntry, hc] at hb
    · simp [State.callerDraining, mkEntry, hc]

end Sys2Proof.Machine
end

