-- ==== Sys2Proof/Laws/Memory.lean ====
section
/-! SUPPORT. The stored bytes of the Ledger: a read after a write, that every operation over memory keeps the canonical form, and
that every operation over the Ledger keeps `Ledger.Ok`. -/
namespace Sys2Proof.Machine

/-! ### One byte -/

/-- A canonical memory from a higher address on is one from a lower. -/
theorem memWfFrom_le {lo lo' : Nat} {m : List Host.Cell} (h : lo' ≤ lo) (hm : memWfFrom lo m = true) : memWfFrom lo' m = true := by
  cases m with
  | nil => rfl
  | cons c l => simp only [memWfFrom, Bool.and_eq_true, decide_eq_true_eq] at hm ⊢; exact ⟨⟨by omega, hm.1.2⟩, hm.2⟩

/-- An address below a canonical memory reads 0. -/
theorem memGet_below {a lo : Nat} {m : List Host.Cell} (h : a < lo) (hm : memWfFrom lo m = true) : memGet a m = 0 := by
  induction m generalizing lo with
  | nil => rfl
  | cons c l ih =>
    simp only [memWfFrom, Bool.and_eq_true, decide_eq_true_eq] at hm
    rw [memGet, if_neg (by omega)]
    exact ih (lo := c.1 + 1) (by omega) hm.2

/-- Writing a byte keeps the canonical form. -/
theorem memSet_wfFrom {a lo : Nat} {b : Byte} {m : List Host.Cell} (h : lo ≤ a) (hm : memWfFrom lo m = true) :
    memWfFrom lo (memSet a b m) = true := by
  induction m generalizing lo with
  | nil =>
    unfold memSet
    split
    · rfl
    · next hb =>
      simp only [memWfFrom, Bool.and_eq_true, decide_eq_true_eq]
      exact ⟨⟨h, by simpa using hb⟩, trivial⟩
  | cons c l ih =>
    have hm' := hm
    simp only [memWfFrom, Bool.and_eq_true, decide_eq_true_eq] at hm
    unfold memSet
    split
    · by_cases hb : b = 0
      · simpa [hb] using hm'
      · simp only [hb, if_false, memWfFrom, Bool.and_eq_true, decide_eq_true_eq]
        exact ⟨⟨h, by simpa using hb⟩, ⟨by omega, hm.1.2⟩, hm.2⟩
    · split
      · next he =>
        by_cases hb : b = 0
        · simp only [hb, if_true]; exact memWfFrom_le (by omega) hm.2
        · simp only [hb, if_false, memWfFrom, Bool.and_eq_true, decide_eq_true_eq]
          exact ⟨⟨h, by simpa using hb⟩, by rw [he]; exact hm.2⟩
      · simp only [memWfFrom, Bool.and_eq_true, decide_eq_true_eq]
        exact ⟨hm.1, ih (by omega) hm.2⟩

/-- Writing a byte keeps the canonical form. -/
theorem memSet_wf {a : Nat} {b : Byte} {m : List Host.Cell} (hm : Memory.wf m = true) : Memory.wf (memSet a b m) = true :=
  memSet_wfFrom (Nat.zero_le a) hm

/-- A read after a write: the byte written at its address, and every other byte as it was. -/
theorem memGet_memSet_from {a lo x : Nat} {b : Byte} {m : List Host.Cell} (hm : memWfFrom lo m = true) :
    memGet x (memSet a b m) = if x = a then b else memGet x m := by
  induction m generalizing lo with
  | nil =>
    unfold memSet
    split
    · next hb => simp [memGet, hb]
    · simp only [memGet]
      by_cases hx : x = a
      · rw [if_pos hx.symm, if_pos hx]
      · rw [if_neg (fun h => hx h.symm), if_neg hx]
  | cons c l ih =>
    simp only [memWfFrom, Bool.and_eq_true, decide_eq_true_eq] at hm
    have hbelow : ∀ y, y ≤ c.1 → memGet y l = 0 := fun y hy => memGet_below (lo := c.1 + 1) (by omega) hm.2
    unfold memSet
    split
    · next hlt =>
      by_cases hb : b = 0
      · by_cases hx : x = a
        · subst hx; rw [if_pos hb, if_pos rfl, memGet, if_neg (by omega), hbelow x (by omega), hb]
        · simp [hb, hx]
      · by_cases hx : x = a
        · subst hx; rw [if_neg hb, if_pos rfl]; simp [memGet]
        · rw [if_neg hb, if_neg hx, memGet, if_neg (fun h => hx h.symm)]
    · split
      · next he =>
        by_cases hb : b = 0
        · by_cases hx : x = a
          · subst hx; rw [if_pos hb, if_pos rfl, hbelow x (by omega), hb]
          · rw [if_pos hb, if_neg hx, memGet, if_neg (by omega)]
        · by_cases hx : x = a
          · subst hx; rw [if_neg hb, if_pos rfl]; simp [memGet]
          · rw [if_neg hb, if_neg hx, memGet, memGet, if_neg (fun h => hx h.symm), if_neg (by omega)]
      · next h1 h2 =>
        simp only [memGet]
        by_cases hc : c.1 = x
        · rw [if_pos hc, if_neg (by omega), if_pos hc]
        · rw [if_neg hc, if_neg hc, ih hm.2]

/-- A read after a write. -/
theorem memGet_memSet {a x : Nat} {b : Byte} {m : List Host.Cell} (hm : Memory.wf m = true) :
    memGet x (memSet a b m) = if x = a then b else memGet x m := memGet_memSet_from hm

/-- A cell of a written memory is the one written, or was there. -/
theorem mem_memSet {a : Nat} {b : Byte} {m : List Host.Cell} {c : Host.Cell} (h : c ∈ memSet a b m) : c.1 = a ∨ c ∈ m := by
  induction m with
  | nil =>
    by_cases hb : b = 0
    · simp [memSet, hb] at h
    · simp only [memSet, hb, if_false, List.mem_singleton] at h; left; rw [h]
  | cons d l ih =>
    unfold memSet at h
    split at h
    · split at h
      · exact .inr h
      · rcases List.mem_cons.1 h with h | h
        · left; rw [h]
        · exact .inr h
    · split at h
      · split at h
        · exact .inr (List.mem_cons_of_mem _ h)
        · rcases List.mem_cons.1 h with h | h
          · left; rw [h]
          · exact .inr (List.mem_cons_of_mem _ h)
      · rcases List.mem_cons.1 h with h | h
        · right; rw [h]; exact List.mem_cons_self
        · rcases ih h with h | h
          · exact .inl h
          · exact .inr (List.mem_cons_of_mem _ h)

/-! ### Several bytes -/

/-- Writing bytes keeps the canonical form. -/
theorem memWrite_wf {a : Nat} {l : List Byte} {m : List Host.Cell} (hm : Memory.wf m = true) : Memory.wf (memWrite a l m) = true := by
  induction l generalizing a m with
  | nil => exact hm
  | cons b l ih => exact ih (memSet_wf hm)

/-- A read after a write of bytes: byte `x - a` of what was written inside, and every other byte as it was. -/
theorem memGet_memWrite {a x : Nat} {l : List Byte} {m : List Host.Cell} (hm : Memory.wf m = true) :
    memGet x (memWrite a l m) = if a ≤ x ∧ x < a + l.length then l.getD (x - a) 0 else memGet x m := by
  induction l generalizing a m with
  | nil => rw [if_neg (by simp)]; rfl
  | cons b l ih =>
    rw [memWrite, ih (memSet_wf hm), memGet_memSet hm]
    by_cases h1 : a + 1 ≤ x ∧ x < a + 1 + l.length
    · rw [if_pos h1, if_pos (by simp only [List.length_cons]; omega)]
      obtain ⟨k, rfl⟩ : ∃ k, x = a + 1 + k := ⟨x - (a + 1), by omega⟩
      rw [show a + 1 + k - (a + 1) = k by omega, show a + 1 + k - a = k + 1 by omega]
      simp
    · rw [if_neg h1]
      by_cases h2 : x = a
      · rw [if_pos h2, if_pos (by simp only [List.length_cons]; omega), h2, Nat.sub_self]; rfl
      · rw [if_neg h2, if_neg (by simp only [List.length_cons]; omega)]

/-- A cell of a memory with bytes written is among the bytes, or was there. -/
theorem mem_memWrite {a : Nat} {l : List Byte} {m : List Host.Cell} {c : Host.Cell} (h : c ∈ memWrite a l m) :
    (a ≤ c.1 ∧ c.1 < a + l.length) ∨ c ∈ m := by
  induction l generalizing a m with
  | nil => exact .inr h
  | cons b l ih =>
    rcases ih h with h | h
    · left; simp only [List.length_cons]; omega
    · rcases mem_memSet h with h | h
      · left; simp only [List.length_cons]; omega
      · exact .inr h

/-- A part of a canonical memory is canonical. -/
theorem memWfFrom_filter {lo : Nat} {m : List Host.Cell} (p : Host.Cell → Bool) (hm : memWfFrom lo m = true) :
    memWfFrom lo (m.filter p) = true := by
  induction m generalizing lo with
  | nil => rfl
  | cons c l ih =>
    simp only [memWfFrom, Bool.and_eq_true, decide_eq_true_eq] at hm
    rw [List.filter_cons]
    split
    · simp only [memWfFrom, Bool.and_eq_true, decide_eq_true_eq]; exact ⟨hm.1, ih hm.2⟩
    · exact memWfFrom_le (by omega) (ih hm.2)

/-! ### The Ledger's data -/

/-- A number put into a rising list is there with those that were. -/
theorem mem_insertRising {x y : Nat} {l : List Nat} : y ∈ insertRising x l ↔ y = x ∨ y ∈ l := by
  induction l with
  | nil => simp [insertRising]
  | cons z l ih =>
    unfold insertRising
    split
    · simp
    · split
      · next h => subst h; simp
      · simp [ih]; tauto

/-- `fitTo` gives the length asked for. -/
@[simp] theorem fitTo_length (n : Nat) (l : List Byte) : (fitTo n l).length = n := by simp [fitTo]; omega

/-- Two Ledgers with the same bytes, written lines and payload are `Ok` together. -/
theorem Ledger.Ok.of_eq {g k : Ledger} (h : g.Ok) (hm : k.mem = g.mem) (hw : k.written = g.written)
    (hp : k.payloadLines = g.payloadLines) : k.Ok :=
  ⟨by rw [hm]; exact h.mem, by rw [hp]; exact h.payload, by rw [hm, hw]; exact h.written⟩

@[simp] theorem Ledger.setDiff_mem (g : Ledger) (line : Nat) (d : Word) : (g.setDiff line d).mem = g.mem := rfl
@[simp] theorem Ledger.setDiff_written (g : Ledger) (line : Nat) (d : Word) : (g.setDiff line d).written = g.written := rfl
@[simp] theorem Ledger.setDiff_payloadLines (g : Ledger) (line : Nat) (d : Word) :
    (g.setDiff line d).payloadLines = g.payloadLines := rfl

/-- Putting 64 bytes into a line keeps `Ok`. -/
theorem Ledger.Ok.put {g : Ledger} (h : g.Ok) (line : Nat) (l : List Byte) (d : Word) : (g.put line l d).Ok := by
  refine ⟨memWrite_wf h.mem, h.payload, fun c hc => ?_⟩
  have hc : c ∈ memWrite (64 * line) (fitTo 64 l) g.mem := hc
  show (insertRising line g.written).contains (c.1 / 64) = true
  rw [List.contains_iff_mem, mem_insertRising]
  rcases mem_memWrite hc with hc | hc
  · rw [fitTo_length] at hc; left; omega
  · right; exact List.contains_iff_mem.1 (h.written c hc)

/-- The bytes of a line that is put, and of every other line: at each address a read gives the new byte inside, the old
outside. -/
theorem Ledger.put_mem (g : Ledger) (h : g.Ok) (line : Nat) (l : List Byte) (d : Word) (x : Nat) :
    memGet x (g.put line l d).mem =
      if 64 * line ≤ x ∧ x < 64 * line + 64 then (fitTo 64 l).getD (x - 64 * line) 0 else memGet x g.mem := by
  show memGet x (memWrite (64 * line) (fitTo 64 l) g.mem) = _
  rw [memGet_memWrite h.mem, fitTo_length]

/-- S2 keeps `Ok`. -/
theorem Ledger.Ok.bank0 {g : Ledger} (h : g.Ok) : g.bank0.Ok := by
  refine ⟨memWfFrom_filter _ h.mem, h.payload, fun c hc => ?_⟩
  simp only [Ledger.bank0, List.mem_filter, decide_eq_true_eq] at hc
  simp only [Ledger.bank0, List.contains_iff_mem, List.mem_filter, decide_eq_true_eq]
  exact ⟨List.contains_iff_mem.1 (h.written c hc.1), by omega⟩

/-- Loading an image payload keeps `Ok`. -/
theorem Ledger.Ok.loadPayload {g : Ledger} (h : g.Ok) (slot : Bool) (len p : Nat) : (g.loadPayload slot len p).Ok := by
  refine ⟨memWfFrom_filter _ h.mem, Nat.min_le_left _ _, fun c hc => ?_⟩
  simp only [Ledger.loadPayload, List.mem_filter, decide_eq_true_eq] at hc
  simp only [Ledger.loadPayload, List.contains_iff_mem, List.mem_filter, decide_eq_true_eq]
  exact ⟨List.contains_iff_mem.1 (h.written c hc.1), by omega⟩

/-- The Ledger of power-on is `Ok`. -/
theorem Ledger.ok_default : ({} : Ledger).Ok := ⟨rfl, Nat.zero_le _, fun _ hc => by cases hc⟩

/-! ### The shared operations over the Ledger -/

/-- A fold over steps that keep a property keeps it. -/
theorem foldl_inv {α β : Type} (P : β → Prop) (f : β → α → β) (hf : ∀ b a, P b → P (f b a)) (l : List α) (b : β) (hb : P b) :
    P (l.foldl f b) := by
  induction l generalizing b with
  | nil => exact hb
  | cons a l ih => exact ih _ (hf b a hb)
@[simp] theorem State.ledgerEvent_ldg (s : State) (x d : Nat) : (s.ledgerEvent x d).ldg = s.ldg := by
  unfold State.ledgerEvent State.everySlotEvent
  refine foldl_inv (fun t : State => t.ldg = s.ldg) _ (fun t h ht => ?_) _ _ rfl
  split
  · rw [State.slotEvent_ldg]; exact ht
  · exact ht

/-- A SUSPECT line leaves the stored bytes. -/
theorem State.suspectLine_ok {s : State} (h : s.ldg.Ok) (line : Nat) : (s.suspectLine line).ldg.Ok := by
  unfold State.suspectLine
  split
  · exact h
  · dsimp only
    split
    · exact h.of_eq rfl rfl rfl
    · split
      · rw [State.ledgerEvent_ldg]; exact h.of_eq rfl rfl rfl
      · exact h.of_eq rfl rfl rfl
/-- A corrected read keeps `Ok`. -/
theorem State.noteCorrected_ok {s : State} (h : s.ldg.Ok) (line : Nat) (f : Finder) : (s.noteCorrected line f).ldg.Ok := by
  unfold State.noteCorrected
  dsimp only
  split
  · rw [State.ledgerEvent_ldg]; exact (State.suspectLine_ok h line).of_eq rfl rfl rfl
  · exact (State.suspectLine_ok h line).of_eq rfl rfl rfl
/-- An uncorrectable read keeps `Ok`. -/
theorem State.noteUncorrectable_ok {s : State} (h : s.ldg.Ok) (line : Nat) (f : Finder) :
    (s.noteUncorrectable line f).ldg.Ok := by
  unfold State.noteUncorrectable
  dsimp only
  split
  · rw [State.ledgerEvent_ldg]; exact (State.suspectLine_ok h line).of_eq rfl rfl rfl
  · exact (State.suspectLine_ok h line).of_eq rfl rfl rfl
/-- An Inlay lookup keeps `Ok`. -/
theorem State.inlayCheck_ok {s : State} (h : s.ldg.Ok) (line : Nat) : (s.inlayCheck line).2.ldg.Ok := by
  unfold State.inlayCheck
  split
  · split
    · exact h
    · dsimp only
      split
      · exact h.of_eq rfl rfl rfl
      · exact h
  · exact h
/-- A clean source changes no stored byte. -/
theorem State.cleanSource_ldg (s : State) (line : Nat) : (s.cleanSource line).2.ldg = s.ldg := by
  unfold State.cleanSource
  split
  all_goals rfl
/-- A line that may have been written keeps `Ok`. -/
theorem State.openLine_ok {s : State} (h : s.ldg.Ok) (line : Nat) : (s.openLine line).2.2.ldg.Ok := by
  unfold State.openLine
  dsimp only
  split
  · exact h
  · split <;> exact h
/-- A read of one line keeps `Ok`. -/
theorem State.readLine_ok {s : State} (h : s.ldg.Ok) (f : Finder) (line : Nat) : (s.readLine f line).2.2.ldg.Ok := by
  unfold State.readLine
  dsimp only
  split
  · split
    · exact State.openLine_ok h line
    · exact h
  · have hc := State.inlayCheck_ok h line
    split
    · exact State.noteUncorrectable_ok hc line f
    · split
      · exact hc
      · have hs := (s.inlayCheck line).2.cleanSource_ldg line
        split
        · exact State.noteCorrected_ok (hs ▸ hc) line f
        · exact State.noteUncorrectable_ok (hs ▸ hc) line f
/-- A read of several lines keeps `Ok`. -/
theorem State.readLines_ok {s : State} (h : s.ldg.Ok) (f : Finder) (line n : Nat) : (s.readLines f line n).2.ldg.Ok :=
  foldl_inv (fun a : LedgerRead × State => a.2.ldg.Ok) _ (fun _ i ha => State.readLine_ok ha f (line + i)) _ _ h
/-- A read of bytes keeps `Ok`. -/
theorem State.readLedger_ok {s : State} (h : s.ldg.Ok) (f : Finder) (a len : Nat) : (s.readLedger f a len).2.ldg.Ok :=
  State.readLines_ok h f _ _
/-- The check of a record keeps `Ok`. -/
theorem State.checkRecord_ok {s : State} (h : s.ldg.Ok) (a len : Nat) : (s.checkRecord a len).2.ldg.Ok :=
  State.readLedger_ok h _ a len

/-- A remap keeps `Ok`. -/
theorem State.remap_ok {s : State} (h : s.ldg.Ok) (line : Nat) (l : List Byte) : (s.remap line l).ldg.Ok := by
  unfold State.remap
  split
  · exact h
  · split
    · rw [State.ledgerEvent_ldg]; exact h.of_eq rfl rfl rfl
    · split
      · rw [State.ledgerEvent_ldg]; exact h.of_eq rfl rfl rfl
      · dsimp only
        rw [State.ledgerEvent_ldg]
        exact (h.put line l 0).of_eq rfl rfl rfl
/-- The read that follows a write keeps `Ok`. -/
theorem State.verifyLine_ok {s : State} (h : s.ldg.Ok) (line : Nat) (l : List Byte) : (s.verifyLine line l).ldg.Ok := by
  unfold State.verifyLine
  split
  · exact h.of_eq rfl rfl rfl
  · exact State.remap_ok h line l
/-- Storing a line keeps `Ok`. -/
theorem State.storeLine_ok {s : State} (h : s.ldg.Ok) (line : Nat) (l : List Byte) (d : Word) : (s.storeLine line l d).ldg.Ok :=
  (h.put line l 0).of_eq rfl rfl rfl
/-- A write to one line keeps `Ok`. -/
theorem State.writeLine_ok {s : State} (h : s.ldg.Ok) (line off : Nat) (l : List Byte) : (s.writeLine line off l).ldg.Ok := by
  unfold State.writeLine
  have hc := State.inlayCheck_ok h line
  generalize (s.inlayCheck line).2 = s at hc
  dsimp only
  split
  · split
    · exact State.verifyLine_ok (State.storeLine_ok hc line l 0) line l
    · exact State.storeLine_ok hc line l 0
  · split
    · exact State.storeLine_ok hc line _ 0
    · have hr := State.readLine_ok hc .merge line
      split
      · next e =>
          rw [e] at hr
          split
          · exact State.storeLine_ok hr line _ _
          · exact State.storeLine_ok (s := (State.freeBytes 64 _).2) hr line _ 0
      · next e => rw [e] at hr; exact State.storeLine_ok hr line _ 0
/-- A write by class keeps `Ok`. -/
theorem State.writeClassed_ok {s : State} (h : s.ldg.Ok) (line off : Nat) (l : List Byte) :
    (s.writeClassed line off l).ldg.Ok := by
  unfold State.writeClassed
  split
  · exact State.writeLine_ok (State.writeLine_ok h line off l) _ off l
  · exact State.writeLine_ok h line off l
/-- A write of bytes keeps `Ok`. -/
theorem State.ledgerWrite_ok {f a : Nat} {l : List Byte} {s : State} (h : s.ldg.Ok) : (State.ledgerWrite f a l s).ldg.Ok := by
  induction f generalizing a l s with
  | zero => exact h
  | succ f ih =>
    unfold State.ledgerWrite
    split
    · exact h
    · exact ih (State.writeClassed_ok h _ _ _)
/-- A write of bytes keeps `Ok`. -/
theorem State.writeLedger_ok {s : State} (h : s.ldg.Ok) (a : Nat) (l : List Byte) : (s.writeLedger a l).ldg.Ok :=
  State.ledgerWrite_ok h
/-- An order record written keeps `Ok`. -/
theorem State.writeOrderRecord_ok {s : State} (h : s.ldg.Ok) (n : OrderId) (l : List Byte) : (s.writeOrderRecord n l).ldg.Ok :=
  State.writeLedger_ok h _ l
/-- A channel record written keeps `Ok`. -/
theorem State.writeChanRecord_ok {s : State} (h : s.ldg.Ok) (c : ChanId) (l : List Byte) : (s.writeChanRecord c l).ldg.Ok :=
  State.writeLedger_ok h _ l

/-- Plane's rewrite keeps `Ok`. -/
theorem State.planeRewrite_ok {s : State} (h : s.ldg.Ok) (line : Nat) (l : List Byte) : (s.planeRewrite line l).ldg.Ok :=
  State.verifyLine_ok (State.storeLine_ok h line l 0) line l
/-- Plane's visit to a line keeps `Ok`. -/
theorem State.planeLine_ok {s : State} (h : s.ldg.Ok) (line : Nat) (b : Bool) : (s.planeLine line b).ldg.Ok := by
  unfold State.planeLine
  have hc : (if s.ldg.isWritten line then (s.inlayCheck line).2 else s).ldg.Ok := by
    split
    · exact State.inlayCheck_ok h line
    · exact h
  generalize (if s.ldg.isWritten line then (s.inlayCheck line).2 else s) = s at hc
  dsimp only
  split
  · exact hc
  · split
    · split
      · exact State.noteUncorrectable_ok hc line _
      · exact hc
    · split
      · have hs := s.cleanSource_ldg line
        split
        · exact State.planeRewrite_ok (State.noteCorrected_ok (hs ▸ hc) line _) line _
        · exact State.noteUncorrectable_ok (hs ▸ hc) line _
      · exact State.planeRewrite_ok hc line _
    all_goals
      split
      · have hr := State.readLine_ok hc .plane line
        split
        · next e => rw [e] at hr; exact State.planeRewrite_ok hr line _
        · next e => rw [e] at hr; exact hr
      · exact State.planeRewrite_ok hc line _
/-- Plane's visit keeps `Ok`. -/
theorem State.planeVisit_ok {s : State} (h : s.ldg.Ok) : s.planeVisit.ldg.Ok := by
  unfold State.planeVisit
  split
  · refine State.planeLine_ok ?_ _ _
    exact h.of_eq rfl rfl rfl
  · refine State.planeLine_ok ?_ _ _
    show Ledger.Ok (if _ then _ else _)
    split
    · exact h.of_eq rfl rfl rfl
    · exact h.of_eq rfl rfl rfl
/-- A test store keeps `Ok`. -/
theorem State.testStore_ok {s : State} (h : s.ldg.Ok) (l : List Byte) (c : Word) : (s.testStore l c).ldg.Ok :=
  (h.put s.ldg.testAddr.toNat l 0).of_eq rfl rfl rfl

/-! ### The hardware's own writes and reads -/

/-- The hardware's own write of one line keeps `Ok`. -/
theorem State.writeOwn_ok {s : State} (h : s.ldg.Ok) (line : Nat) : (s.writeOwn line).ldg.Ok := by
  unfold State.writeOwn
  split
  · exact State.storeLine_ok h line _ 0
  · have hf := State.storeLine_ok (s := (s.freeBytes 64).2) h line (s.freeBytes 64).1 0
    dsimp only
    split
    · exact State.storeLine_ok hf _ _ 0
    · exact hf
/-- The hardware's own writes keep `Ok`. -/
theorem State.ownWrites_ok {s : State} (h : s.ldg.Ok) (p : Nat → Bool) : (s.ownWrites p).ldg.Ok :=
  foldl_inv (fun t : State => t.ldg.Ok) _ (fun t line ht => by
    dsimp only
    split
    · exact State.writeOwn_ok (s := (t.freeBit).2) ht line
    · exact ht) _ _ h
/-- The hardware's own reads keep `Ok`. -/
theorem State.ownReads_ok {s : State} (h : s.ldg.Ok) (f : Finder) (p : Nat → Bool) : (s.ownReads f p).2.ldg.Ok :=
  foldl_inv (fun a : Option Nat × State => a.2.ldg.Ok) _ (fun a line ha => by
    dsimp only
    split
    · exact ha
    · exact State.readLine_ok (s := (a.2.freeBit).2) ha f line) _ _ h
/-- The faulty lines a job meets keep `Ok`. -/
theorem State.meets_ok {s : State} (h : s.ldg.Ok) (p : Nat → Bool) : (s.meets p).2.ldg.Ok :=
  foldl_inv (fun a : List Nat × State => a.2.ldg.Ok) _ (fun a line ha => by
    dsimp only
    split
    · exact ha
    · split
      · exact State.writeOwn_ok (s := (a.2.freeBit).2) ha line
      · exact ha) _ _ h
/-- A Draft that halts keeps `Ok`. -/
theorem State.draftHalts_ok {s : State} (h : s.ldg.Ok) (line : Nat) : (s.draftHalts line).ldg.Ok := h.of_eq rfl rfl rfl
/-- A job in HALT mode keeps `Ok`. -/
theorem State.haltJob_ok {s : State} (h : s.ldg.Ok) (p : Nat → Bool) : (s.haltJob p).2.ldg.Ok := by
  have hm := State.meets_ok h p
  unfold State.haltJob
  dsimp only
  split
  · exact hm
  · exact State.draftHalts_ok (State.noteUncorrectable_ok hm _ _) _
/-- A command's parameter fetch keeps `Ok`. -/
theorem State.fetchParams_ok {s : State} (h : s.ldg.Ok) (e : TillEntry) : (s.fetchParams e).2.ldg.Ok := by
  unfold State.fetchParams
  split
  · split
    · exact h
    · exact State.haltJob_ok h _
  · exact h

end Sys2Proof.Machine
end

