-- ==== Sys2Proof/Laws/Events.lean ====
section
/-! SUPPORT. What an event can do (R165 to R167, R464, R473), whoever raises it: records, sequence numbers and wake-up signals
of the slots, records held for Teller, and records a Stile keeps. Everything else stays. -/
namespace Sys2Proof.Machine

/-- `t` is `s` but for what events leave. -/
structure State.Evented (s t : State) : Prop where
  glb : t.glb = s.glb
  fw : t.fw = s.fw
  ports : t.ports = s.ports
  pd : t.pd = s.pd
  pwr : t.pwr = s.pwr
  escrow : t.escrow = s.escrow
  orders : t.orders = s.orders
  purses : t.purses = s.purses
  tally : t.tally = s.tally
  dvt : t.dvt = s.dvt
  mint : t.mint = s.mint
  clr : t.clr = s.clr
  ldg : t.ldg = s.ldg
  vault : t.vault = s.vault
  nsf : t.nsf = s.nsf
  orphans : t.orphans = s.orphans
  pending : t.pending = s.pending
  teller : t.teller = { s.teller with heldEvents := t.teller.heldEvents }
  slots : ∀ g : SlotId, t.slots[g.val] = { s.slots[g.val] with
    seq := t.slots[g.val].seq, records := t.slots[g.val].records, wakeSignal := t.slots[g.val].wakeSignal }
  stiles : ∀ i : StileId, t.stiles[i.val] = { s.stiles[i.val] with kept := t.stiles[i.val].kept }

/-- No event. -/
theorem State.Evented.refl (s : State) : s.Evented s :=
  ⟨rfl, rfl, rfl, rfl, rfl, rfl, rfl, rfl, rfl, rfl, rfl, rfl, rfl, rfl, rfl, rfl, rfl, rfl, fun _ => rfl, fun _ => rfl⟩

/-- Events, one after the other. -/
theorem State.Evented.trans {s t u : State} (h : s.Evented t) (k : t.Evented u) : s.Evented u where
  glb := k.glb.trans h.glb
  fw := k.fw.trans h.fw
  ports := k.ports.trans h.ports
  pd := k.pd.trans h.pd
  pwr := k.pwr.trans h.pwr
  escrow := k.escrow.trans h.escrow
  orders := k.orders.trans h.orders
  purses := k.purses.trans h.purses
  tally := k.tally.trans h.tally
  dvt := k.dvt.trans h.dvt
  mint := k.mint.trans h.mint
  clr := k.clr.trans h.clr
  ldg := k.ldg.trans h.ldg
  vault := k.vault.trans h.vault
  nsf := k.nsf.trans h.nsf
  orphans := k.orphans.trans h.orphans
  pending := k.pending.trans h.pending
  teller := by rw [k.teller, h.teller]
  slots g := by rw [k.slots g, h.slots g]
  stiles i := by rw [k.stiles i, h.stiles i]

/-- Events given one by one over a list. -/
theorem State.Evented.foldl {α : Type} (f : State → α → State) (hf : ∀ (s : State) (a : α), s.Evented (f s a)) (l : List α) (s : State) :
    s.Evented (l.foldl f s) :=
  foldl_inv (fun t => s.Evented t) f (fun t a h => h.trans (hf t a)) l s (.refl s)

/-- Queueing an event changes a slot's records and its wake-up signal. -/
theorem Slot.queueEvent_eq (x : Slot) (e : Event) :
    x.queueEvent e = { x with
      seq := (x.queueEvent e).seq, records := (x.queueEvent e).records, wakeSignal := (x.queueEvent e).wakeSignal } := by
  unfold Slot.queueEvent; dsimp only
  split
  · unfold Slot.wakeIfArmed; split <;> rfl
  · rfl

/-- A slot changed in its records, its wake-up signal and its SEQ only. -/
theorem State.Evented.modSlot (s : State) (h : SlotId) (f : Slot → Slot)
    (hf : ∀ x, f x = { x with seq := (f x).seq, records := (f x).records, wakeSignal := (f x).wakeSignal }) :
    s.Evented (s.modSlot h f) := by
  refine ⟨rfl, rfl, rfl, rfl, rfl, rfl, rfl, rfl, rfl, rfl, rfl, rfl, rfl, rfl, rfl, rfl, rfl, rfl, fun g => ?_, fun _ => rfl⟩
  rw [State.modSlot_slots, vmod_get]
  split
  · exact hf _
  · rfl

/-- Giving a slot an event. -/
theorem State.give_evented (s : State) (h : SlotId) (e : Event) : s.Evented (s.give h e) := by
  have h1 := State.Evented.modSlot s h (fun x => { x with seq := x.seq + 1 }) (fun _ => rfl)
  unfold State.give
  dsimp only
  split
  · split
    · exact h1.trans ⟨rfl, rfl, rfl, rfl, rfl, rfl, rfl, rfl, rfl, rfl, rfl, rfl, rfl, rfl, rfl, rfl, rfl, rfl, fun _ => rfl, fun _ => rfl⟩
    · exact h1
  · exact h1.trans (State.Evented.modSlot _ h _ fun x => x.queueEvent_eq e)

/-- An event to one slot. -/
theorem State.slotEvent_evented (s : State) (h : SlotId) (c : Nat) (k : Option PortId) (x d : Nat) :
    s.Evented (s.slotEvent h c k x d) := s.give_evented h _
/-- An event with a payload to one slot. -/
theorem State.slotEventExt_evented (s : State) (h : SlotId) (c : Nat) (k : Option PortId) (d : Nat) (l : List Byte) :
    s.Evented (s.slotEventExt h c k d l) := s.give_evented h _
/-- An event of a port. -/
theorem State.portEvent_evented (s : State) (k : PortId) (c x d : Nat) : s.Evented (s.portEvent k c x d) := by
  unfold State.portEvent; split
  · exact s.slotEvent_evented _ c _ x d
  · exact .refl s
/-- An event to every configured slot. -/
theorem State.everySlotEvent_evented (s : State) (c x d : Nat) : s.Evented (s.everySlotEvent c x d) :=
  .foldl _ (fun t h => by
    split
    · exact t.slotEvent_evented h c _ x d
    · exact .refl t) _ s
/-- An event to some slots. -/
theorem State.slotsEvent_evented (s : State) (hs : List SlotId) (c x d : Nat) : s.Evented (s.slotsEvent hs c x d) :=
  .foldl _ (fun t h => by
    split
    · exact t.slotEvent_evented h c _ x d
    · exact .refl t) _ s
/-- The events held for Teller are posted. -/
theorem State.postHeld_evented (s : State) : s.Evented s.postHeld := by
  refine State.Evented.trans (t := s.modTeller fun t => { t with heldEvents := [] }) ?_ ?_
  · exact ⟨rfl, rfl, rfl, rfl, rfl, rfl, rfl, rfl, rfl, rfl, rfl, rfl, rfl, rfl, rfl, rfl, rfl, rfl, fun _ => rfl, fun _ => rfl⟩
  · exact .foldl _ (fun t (p : SlotId × Event) => State.Evented.modSlot t p.1 (fun x => x.queueEvent p.2) fun x => x.queueEvent_eq p.2) _ _
/-- The records that a Stile keeps are changed. -/
theorem State.Evented.modKept (s : State) (i : StileId) (l : List (PortId × Event)) :
    s.Evented (s.modStile i fun x => { x with kept := l }) := by
  refine ⟨rfl, rfl, rfl, rfl, rfl, rfl, rfl, rfl, rfl, rfl, rfl, rfl, rfl, rfl, rfl, rfl, rfl, rfl, fun _ => rfl, fun j => ?_⟩
  rw [State.modStile_stiles, vmod_get]
  split <;> rfl
/-- An event of a Stile's port. -/
theorem State.stileEvent_evented (s : State) (k : PortId) (c x d : Nat) (l : Option (List Byte)) :
    s.Evented (s.stileEvent k c x d l) := by
  unfold State.stileEvent
  split
  · exact .refl s
  · dsimp only
    split
    · exact s.give_evented _ _
    · split
      · exact (State.Evented.modKept s _ _).trans (State.Evented.modSlot _ _ _ fun _ => rfl)
      · exact State.Evented.modKept s _ _
/-- The events that a Stile kept are delivered. -/
theorem State.deliverKept_evented (s : State) (i : StileId) : s.Evented (s.deliverKept i) := by
  refine State.Evented.trans (State.Evented.modKept s i []) ?_
  exact .foldl _ (fun t p => by
    dsimp only
    split
    · exact t.give_evented _ _
    · exact .refl t) _ _
/-- An event to the owners of the ports that carry some channels. -/
theorem State.mintEvent_evented (s : State) (cs : List ChanId) (x d : Nat) : s.Evented (s.mintEvent cs x d) := by
  unfold State.mintEvent; exact s.slotsEvent_evented _ _ x d
/-- A LEDGER event. -/
theorem State.ledgerEvent_evented (s : State) (x d : Nat) : s.Evented (s.ledgerEvent x d) := by
  unfold State.ledgerEvent; exact s.everySlotEvent_evented _ x d
/-- A STATEMENT event. -/
theorem State.stmtEvent_evented (s : State) (h : SlotId) (x d : Nat) : s.Evented (s.stmtEvent h x d) := by
  unfold State.stmtEvent; exact s.slotEvent_evented h _ _ x d
/-- A PURSE event. -/
theorem State.purseEvent_evented (s : State) (n : PurseId) (x d : Nat) : s.Evented (s.purseEvent n x d) := by
  unfold State.purseEvent; exact s.slotEvent_evented _ _ _ x _

/-! ### Holds -/

/-- A hold that is raised pends on its group, with its raiser where the group had none. -/
theorem State.raiseHold_group (s : State) (g : GroupId) (c : Cause) (who : Option ChanId) :
    (s.raiseHold g c who).mint.groups[g.val] = { s.mint.groups[g.val] with
      pend := s.mint.groups[g.val].pend ||| BitVec.ofNat 16 (2 ^ c.bit)
      raiser := s.mint.groups[g.val].raiser <|> who } := by
  unfold State.raiseHold
  rw [State.modGroup_mint]
  dsimp only
  rw [vmod_same]
  cases s.mint.groups[g.val].raiser <;> rfl

/-- A hold that is raised on a group leaves every other. -/
theorem State.raiseHold_other (s : State) (g j : GroupId) (c : Cause) (who : Option ChanId) (h : g ≠ j) :
    (s.raiseHold g c who).mint.groups[j.val] = s.mint.groups[j.val] := by
  unfold State.raiseHold
  rw [State.modGroup_mint]
  exact vmod_other _ _ _ _ j.isLt fun e => h (Fin.ext e)

end Sys2Proof.Machine
end

