-- ==== Sys2Proof/Laws/Completions.lean ====
section
/-! SUPPORT. What completing commands and running a command's row can do (R163, R164, R171, R178, R192): the slots and Teller
alone change when commands are answered, with what a port notes of the tags that ended and the transfers that outlasted
theirs, and what every answer and a row's body keep, `issue` keeps. -/
namespace Sys2Proof.Machine

/-- `t` is `s` but for the slots and Teller. -/
structure State.Answering (s t : State) : Prop where
  glb : t.glb = s.glb
  fw : t.fw = s.fw
  ports : ∀ k : PortId, t.ports[k.val] = { s.ports[k.val] with endedTags := t.ports[k.val].endedTags }
  pd : t.pd = s.pd
  pwr : t.pwr = s.pwr
  stiles : t.stiles = s.stiles
  escrow : t.escrow = s.escrow
  orders : t.orders = s.orders
  purses : t.purses = s.purses
  tally : t.tally = s.tally
  dvt : t.dvt = s.dvt
  mint : t.mint = s.mint
  clr : t.clr = s.clr
  ldg : t.ldg = s.ldg
  vault : t.vault = s.vault
  nsf : t.nsf = s.nsf
  pending : t.pending = s.pending

/-- Nothing answered. -/
theorem State.Answering.refl (s : State) : s.Answering s :=
  ⟨rfl, rfl, fun _ => rfl, rfl, rfl, rfl, rfl, rfl, rfl, rfl, rfl, rfl, rfl, rfl, rfl, rfl, rfl⟩
/-- Answers, one after the other. -/
theorem State.Answering.trans {s t u : State} (h : s.Answering t) (k : t.Answering u) : s.Answering u :=
  ⟨k.glb.trans h.glb, k.fw.trans h.fw, fun i => by rw [k.ports i, h.ports i], k.pd.trans h.pd, k.pwr.trans h.pwr, k.stiles.trans h.stiles,
    k.escrow.trans h.escrow, k.orders.trans h.orders, k.purses.trans h.purses, k.tally.trans h.tally, k.dvt.trans h.dvt,
    k.mint.trans h.mint, k.clr.trans h.clr, k.ldg.trans h.ldg, k.vault.trans h.vault, k.nsf.trans h.nsf,
    k.pending.trans h.pending⟩
/-- Answers given one by one over a list. -/
theorem State.Answering.foldl {α : Type} (f : State → α → State) (hf : ∀ (s : State) (a : α), s.Answering (f s a)) (l : List α)
    (s : State) : s.Answering (l.foldl f s) :=
  foldl_inv (fun t => s.Answering t) f (fun t a h => h.trans (hf t a)) l s (.refl s)
/-- A slot changed. -/
theorem State.Answering.modSlot (s : State) (h : SlotId) (f : Slot → Slot) : s.Answering (s.modSlot h f) :=
  ⟨rfl, rfl, fun _ => rfl, rfl, rfl, rfl, rfl, rfl, rfl, rfl, rfl, rfl, rfl, rfl, rfl, rfl, rfl⟩
/-- Teller changed. -/
theorem State.Answering.modTeller (s : State) (f : Teller → Teller) : s.Answering (s.modTeller f) :=
  ⟨rfl, rfl, fun _ => rfl, rfl, rfl, rfl, rfl, rfl, rfl, rfl, rfl, rfl, rfl, rfl, rfl, rfl, rfl⟩

/-- A slot's command is completed. -/
theorem State.finishSlot_answering (s : State) (h : SlotId) (e : TillEntry) (st : Status) (r0 : Word) (d : List Byte) :
    s.Answering (s.finishSlot h e st r0 d) := .modSlot s h _
/-- The mailbox command is completed. -/
theorem State.finishMbx_answering (s : State) (e : TillEntry) (st : Status) (r0 : Word) (d : List Byte) :
    s.Answering (s.finishMbx e st r0 d) := by
  unfold State.finishMbx; exact .modTeller s _
/-- A command of any source is completed. -/
theorem State.finish_answering (s : State) (c : Caller) (e : TillEntry) (st : Status) (r0 : Word) (d : List Byte) :
    s.Answering (s.finish c e st r0 d) := by
  unfold State.finish; split
  · exact s.finishSlot_answering _ e st r0 d
  · exact s.finishMbx_answering e st r0 d
/-- A command is kept, waiting. -/
theorem State.keepEntry_answering (s : State) (c : Caller) (pos : Nat) (e : TillEntry) : s.Answering (s.keepEntry c pos e) := by
  unfold State.keepEntry; split
  · exact .modSlot s _ _
  · exact .modTeller s _
/-- The mailbox command is written. -/
theorem State.writeMbx_answering (s : State) (op : Byte) (a : CmdArgs) : s.Answering (s.writeMbx op a) := by
  unfold State.writeMbx; exact .modTeller s _
/-- A key is held. -/
theorem State.holdKey_answering (s : State) (c : Caller) (k : Key) : s.Answering (s.holdKey c k) := by
  unfold State.holdKey; split
  · exact .modSlot s _ _
  · exact .modTeller s _
/-- A port notes a tag that has ended. -/
theorem State.noteEnded_answering (s : State) (h : SlotId) (e : TillEntry) (st : Status) : s.Answering (s.noteEnded h e st) := by
  unfold State.noteEnded
  split
  · next k _ =>
    dsimp only
    split
    · exact .refl s
    · refine ⟨rfl, rfl, fun i => ?_, rfl, rfl, rfl, rfl, rfl, rfl, rfl, rfl, rfl, rfl, rfl, rfl, rfl, rfl⟩
      rw [State.modPort_ports, vmod_get]
      split <;> rfl
  · exact .refl s
/-- Commands of a slot end. -/
theorem State.endSlotTags_answering (s : State) (h : SlotId) (p : TillEntry → Bool) (st : Status) :
    s.Answering (s.endSlotTags h p st) :=
  .foldl _ (fun t e => (t.finishSlot_answering h e st _ _).trans (State.noteEnded_answering _ h e st)) _ s
/-- The mailbox command ends. -/
theorem State.endMbxTag_answering (s : State) (p : TillEntry → Bool) (st : Status) : s.Answering (s.endMbxTag p st) := by
  unfold State.endMbxTag
  split
  · split
    · exact s.finishMbx_answering _ st _ _
    · exact .refl s
  · exact .refl s
/-- Orphans end. -/
theorem State.Answering.orphans (s : State) (l : List TillEntry) : s.Answering { s with orphans := l } :=
  ⟨rfl, rfl, fun _ => rfl, rfl, rfl, rfl, rfl, rfl, rfl, rfl, rfl, rfl, rfl, rfl, rfl, rfl, rfl⟩
/-- Commands end. -/
theorem State.endTags_answering (s : State) (p : TillEntry → Bool) (st : Status) : s.Answering (s.endTags p st) := by
  unfold State.endTags
  dsimp only
  exact ((State.Answering.orphans s _).trans
    (State.Answering.foldl _ (fun t h => t.endSlotTags_answering h p st) _ _)).trans (State.endMbxTag_answering _ p st)
/-- Commands end that wait for one thing. -/
theorem State.endWaits_answering (s : State) (p : Wait → Bool) (st : Status) : s.Answering (s.endWaits p st) :=
  s.endTags_answering _ st
/-- Commands end with one RESULT0. -/
theorem State.endWith_answering (s : State) (p : TillEntry → Bool) (st : Status) (r0 : Word) :
    s.Answering (s.endWith p st r0) := by
  have h := State.Answering.foldl (fun (t : State) (h : SlotId) =>
    (t.slots[h.val].till.filter p).foldl (fun s e => s.finishSlot h e st r0 []) t)
    (fun t h => .foldl _ (fun t e => t.finishSlot_answering h e st r0 []) _ t) allSlots s
  unfold State.endWith
  dsimp only
  split
  · split
    · exact h.trans (State.finishMbx_answering _ _ st r0 [])
    · exact h
  · exact h
/-- Waits are changed. -/
theorem State.modEntries_answering (s : State) (p : TillEntry → Bool) (f : TillEntry → TillEntry) : s.Answering (s.modEntries p f) :=
  ⟨rfl, rfl, fun _ => rfl, rfl, rfl, rfl, rfl, rfl, rfl, rfl, rfl, rfl, rfl, rfl, rfl, rfl, rfl⟩

/-! ### What `issue` keeps -/

/-- The state that a body leaves. -/
def Res.state : Res → State
  | .done _ _ _ s => s
  | .snap _ s => s
  | .wait _ _ s => s

/-- What answering, a parameter fetch and a row's body keep, the body and its checks keep. -/
theorem runBody_keeps (P : State → Prop) (o : OpSpec) (s : State) (e : TillEntry) (pos : Nat)
    (ha : ∀ s t : State, s.Answering t → P s → P t) (hf : ∀ s : State, P s → P (s.fetchParams e).2)
    (hb : ∀ s : State, P s → P (o.body s e.args).state) (h : P s) : P (runBody o s e pos) := by
  unfold runBody
  dsimp only
  split
  · exact ha _ _ (State.finish_answering _ _ _ _ _ _) h
  · split
    · exact ha _ _ (State.finish_answering _ _ _ _ _ _) (hf s h)
    · split
      · exact ha _ _ (State.finish_answering _ _ _ _ _ _) (hf s h)
      · have hr := hb _ (hf s h)
        split
        · next e' => rw [e'] at hr; exact ha _ _ (State.finish_answering _ _ _ _ _ _) hr
        · next e' =>
          rw [e'] at hr
          exact ha _ _ ((State.holdKey_answering _ _ _).trans (State.finish_answering _ _ _ _ _ _)) hr
        · next e' => rw [e'] at hr; exact ha _ _ (State.keepEntry_answering _ _ _ _) hr

/-- What answering, leaving S1, a parameter fetch, a drain set aside and a row's body keep, dispatching its command keeps. -/
theorem runEntry_keeps (P : State → Prop) (o : OpSpec) (s : State) (e : TillEntry) (pos : Nat)
    (ha : ∀ s t : State, s.Answering t → P s → P t) (h1 : ∀ s : State, P s → P (s.leaveS1 o.code))
    (hf : ∀ s : State, P s → P (s.fetchParams e).2) (hu : ∀ s : State, P s → P s.undrained)
    (hd : ∀ s u : State, P s → P (s.drainAs u))
    (hb : ∀ s : State, P s → P (o.body s e.args).state) (h : P s) : P (runEntry o s e pos) := by
  unfold runEntry
  dsimp only
  split
  · exact hd _ _ (runBody_keeps P o _ e pos ha hf hb (hu _ (h1 s h)))
  · exact runBody_keeps P o _ e pos ha hf hb (h1 s h)

/-- What answering, leaving S1, a parameter fetch, a drain set aside and a row's body keep, `issue` keeps. -/
theorem issue_keeps (P : State → Prop) (o : OpSpec) (a : CmdArgs) (s : State)
    (ha : ∀ s t : State, s.Answering t → P s → P t) (h1 : ∀ s : State, P s → P (s.leaveS1 o.code))
    (hf : ∀ (s : State) (e : TillEntry), P s → P (s.fetchParams e).2) (hu : ∀ s : State, P s → P s.undrained)
    (hd : ∀ s u : State, P s → P (s.drainAs u))
    (hb : ∀ s : State, P s → P (o.body s a).state) (h : P s) : P (issue o a s) := by
  unfold issue
  dsimp only
  split
  · split
    · unfold State.enter
      dsimp only
      split
      · exact ha _ _ (.modSlot s _ _) h
      · split
        · exact ha _ _ (State.finish_answering _ _ _ _ _ _) (ha _ _ (.modSlot s _ _) h)
        · split
          · exact ha _ _ (State.finish_answering _ _ _ _ _ _) (ha _ _ (.modSlot s _ _) h)
          · exact ha _ _ (.modSlot s _ _) h
          · split
            · exact ha _ _ (State.finish_answering _ _ _ _ _ _) (ha _ _ (.modSlot s _ _) h)
            split
            · exact runEntry_keeps P _ _ _ _ ha (by simp_all) (hf · _) hu hd (by simp_all [mkEntry]) (ha _ _ (.modSlot s _ _) h)
            · exact ha _ _ (State.keepEntry_answering _ _ _ _) (ha _ _ (.modSlot s _ _) h)
    · exact h
  · split
    · unfold State.startMbx
      dsimp only
      have h2 := ha _ _ ((s.writeMbx_answering (BitVec.ofNat 8 o.code) a).trans
        (.modTeller _ fun t => { t with go := true, done := false })) h
      split
      · exact ha _ _ (State.finishMbx_answering _ _ _ _ _) h2
      · split
        · exact ha _ _ (State.finishMbx_answering _ _ _ _ _) h2
        · exact h2
        · split
          · exact ha _ _ (State.finishMbx_answering _ _ _ _ _) h2
          split
          · exact runEntry_keeps P _ _ _ _ ha (by simp_all) (hf · _) hu hd (by simp_all [mkEntry]) h2
          · exact ha _ _ (State.keepEntry_answering _ _ _ _) h2
    · exact h

end Sys2Proof.Machine
end

