-- ==== Sys2Proof/WellFormed.lean ====
section
/-! DEFINITION. Which commands are well formed: operands that the row's own carrier can carry (the 32-bit PLEN field, the four
address bytes of MGMT, a PD message's length, the Ledger's lines and spares, the parts of an image). `exec` has a meaning for
every term; this says which terms the outside world can send. -/
namespace Sys2Proof

/-- PLEN is a 32-bit field (R163). -/
def CmdArgs.wf (a : CmdArgs) : Bool := decide (a.params.length < 4294967296)

/-- A direct transaction (R191): at most four address bytes, data only after all four and only in a write, a count only in a
read. [DEDUCED, log 120] -/
def MgmtXact.wf (x : MgmtXact) : Bool :=
  decide (x.addr.length ≤ 4) && (x.data.isEmpty || (decide (x.addr.length = 4) && !x.isRead)) && (x.isRead || decide (x.count = 0))

/-- At most `n` bytes of data in one transaction. -/
def XactResult.wf (n : Nat) : XactResult → Bool
  | .data l => decide (l.length ≤ n)
  | _ => true

/-- A PD message: a 2-byte header and at most 260 data bytes with an extended header (R333). [DEDUCED, log 120] -/
def pdWf (m : List Byte) : Bool := decide (2 ≤ m.length) && decide (m.length ≤ 264)

/-- An image: a 32-byte key hash, and a boot profile of at most 24 ports (R81, R84). [DEDUCED, log 120] -/
def ImageInfo.wf (i : ImageInfo) : Bool := decide (i.keyHash.length = 32) && decide (i.profile.ports.length ≤ 24)

/-- What the boot ROM reads of the flash. -/
def FlashView.wf (f : FlashView) : Bool := f.a.wf && f.b.wf

/-- A frame on DOVE_IN has at most `n` bytes between its control characters (R252). -/
def DoveFrame.wf (n : Nat) (f : DoveFrame) : Bool := decide (f.bytes.length ≤ n)

/-- Whether a command is well formed. [DEDUCED, log 120] -/
def Instr.wellFormed : Instr → Bool
  | .nop a => a.wf
  | .echo a => a.wf
  | .getInfo a => a.wf
  | .fence a => a.wf
  | .cancel a => a.wf
  | .regRd a => a.wf
  | .regWr a => a.wf
  | .regRmw a => a.wf
  | .portMode a => a.wf
  | .portPower a => a.wf
  | .portReset a => a.wf
  | .portSuspend a => a.wf
  | .portResume a => a.wf
  | .deedRelease a => a.wf
  | .deedClaim a => a.wf
  | .deedSeize a => a.wf
  | .deedView a => a.wf
  | .ctrlXfer a => a.wf
  | .bulkXfer a => a.wf
  | .intXfer a => a.wf
  | .isoXfer a => a.wf
  | .soCreate a => a.wf
  | .soModify a => a.wf
  | .soDelete a => a.wf
  | .soQuery a => a.wf
  | .stmtLayout a => a.wf
  | .stmtSubscribe a => a.wf
  | .mntCfg a => a.wf
  | .mntSeg a => a.wf
  | .mntStart a => a.wf
  | .mntHold a => a.wf
  | .mntRelease a => a.wf
  | .mntQuery a => a.wf
  | .mntFbtemplate a => a.wf
  | .clrBody a => a.wf
  | .clrPair a => a.wf
  | .clrArm a => a.wf
  | .clrDisarm a => a.wf
  | .tlySet a => a.wf
  | .tlyMode a => a.wf
  | .tlyQuery a => a.wf
  | .ccCfg a => a.wf
  | .pdCfg a => a.wf
  | .pdTx a => a.wf
  | .pdHardreset a => a.wf
  | .escBudget a => a.wf
  | .escPriority a => a.wf
  | .gateCfg a => a.wf
  | .modelCfg a => a.wf
  | .escQuery a => a.wf
  | .ldgRd a => a.wf
  | .ldgWr a => a.wf
  | .planeCfg a => a.wf
  | .inlayQuery a => a.wf
  | .prsCfg a => a.wf
  | .prsRead a => a.wf
  | .pwrDomain a => a.wf
  | .sleep a => a.wf
  | .fwStage a => a.wf
  | .fwCommit a => a.wf
  | .fwSwap a => a.wf
  | .otpWrite a => a.wf
  | .vaultLock a => a.wf
  | .commandTransfer _ _ => true
  | .commandDispatch => true
  | .recordDelivery _ => true
  | .statementDelivery _ => true
  | .mgmtMbxGo _ => true
  | .mgmtTransaction x => x.wf
  | .glbUnlock _ _ => true
  | .glbLock _ _ => true
  | .presenceClose _ => true
  | .ldgTestLoad _ => true
  | .ldgTestStoreData _ => true
  | .ldgTestStoreCheck _ => true
  | .ldgTestStoreBoth _ => true
  | .ldgFlip _ _ => true
  | .forceOffClear _ _ => true
  | .registerWrite _ _ _ => true
  | .setPortPower _ _ => true
  | .clearPortPower _ _ => true
  | .setPortReset _ _ => true
  | .setPortSuspend _ _ => true
  | .clearPortSuspend _ _ => true
  | .setPortIndicator _ _ _ => true
  | .getPortStatus _ _ => true
  | .setPortTest _ _ _ => true
  | .clearTtBuffer _ _ _ => true
  | .resetTt _ _ => true
  | .getTtState _ _ => true
  | .stopTt _ _ => true
  | .slotVbusRise _ _ => true
  | .slotVbusLoss _ => true
  | .ssTrainingTimeout _ => true
  | .ssLinkFailure _ => true
  | .slotBusReset _ _ => true
  | .slotSuspend _ => true
  | .slotResume _ => true
  | .upstreamSof _ _ _ => true
  | .proxyRemoteWake _ => true
  | .relayRemoteWake _ => true
  | .microframeBoundary => true
  | .feedbackMissing _ => true
  | .mntStartAbandon _ => true
  | .mintSend => true
  | .clearanceSlot _ => true
  | .youngCountExpiry _ => true
  | .statementAssembly => true
  | .orderTransactionDone _ r _ _ => r.wf 1024
  | .orderWindowEnd _ _ => true
  | .prsReadCopyDone _ => true
  | .msyncInEdge _ _ _ => true
  | .msyncInMissing => true
  | .msyncOutPulse => true
  | .dovetailTrainReceived f _ => f.wf 5
  | .dovetailTrainTimeout => true
  | .dovetailSyncLaunch => true
  | .dovetailSyncReceived f _ => f.wf 20
  | .dovetailHoldReceived f => f.wf 3
  | .doveInLoss _ => true
  | .doveInReturn => true
  | .usbConnect _ _ => true
  | .usbDisconnect _ => true
  | .connectDebounceEnd _ => true
  | .portResetEnd _ _ _ => true
  | .enumRequestDone _ r => r.wf 65535
  | .enumRequestTimeout _ => true
  | .portBabble _ => true
  | .xferTransactionDone _ _ _ r => r.wf 1024
  | .xferTimeout _ _ _ => true
  | .resumeSignallingEnd _ => true
  | .ttStartSplit _ _ _ _ _ => true
  | .ttResultDiscard _ _ => true
  | .powerCycleNoConnect _ => true
  | .seatPinChange _ _ _ => true
  | .seatingConfirmed _ => true
  | .seatingLost _ => true
  | .ccChange _ _ _ => true
  | .ccAttachConfirmed _ => true
  | .ccDetach _ => true
  | .drpToggle _ => true
  | .trySrcTimeout _ => true
  | .sourcePartnerBackoff _ => true
  | .pdMessageReceived _ sop msg _ => pdWf msg && sop != 3
  | .pdRequestReceived _ msg => pdWf msg
  | .softResetReceived _ sop => sop != 3
  | .eprKeepaliveReceived _ => true
  | .hardResetReceived _ => true
  | .bistReceived _ _ => true
  | .psRdyReceived _ => true
  | .goodcrcReceived _ => true
  | .crcReceiveTimeout _ => true
  | .autoResponse _ => true
  | .waitTimerExpiry _ => true
  | .sinkTxWaitEnd _ => true
  | .exchangeEnd _ => true
  | .srcTransitionEnd _ => true
  | .eprKeepaliveTimeout _ => true
  | .eprVbusGuard _ => true
  | .vconnSourceTimeout _ => true
  | .vconnSwapPsRdySend _ => true
  | .hardResetPathsOff _ => true
  | .hardResetVsafe0v _ => true
  | .hardResetRecover _ => true
  | .bistCarrierEnd _ => true
  | .vconnTrip _ => true
  | .escrowGrant => true
  | .rampPrechargeEnd _ => true
  | .rampSlewEnd _ _ => true
  | .portPowerGood _ _ _ => true
  | .rampTimeout _ => true
  | .transitionSettled _ _ => true
  | .dischargeTo5v _ => true
  | .dischargeFailure _ => true
  | .switchOffDischarged _ _ => true
  | .switchOffDischTimeout _ _ => true
  | .currentLimit _ _ => true
  | .limitingEnd _ => true
  | .fastTrip _ _ _ => true
  | .overVoltage _ _ => true
  | .vbusLow _ _ => true
  | .thermalModelStep _ _ => true
  | .cooldownEnd _ => true
  | .boardTempUpdate => true
  | .vgdUndervoltage _ => true
  | .vgdRecover _ => true
  | .vgdLoss _ => true
  | .vgdPresent _ => true
  | .splineFlitError _ _ seen _ => (seen.map fun l => decide (l.length = 12)).getD true
  | .splineLinkDown _ => true
  | .splineHoldoverExpiry _ => true
  | .splineLinkUp _ => true
  | .stileResetLine _ => true
  | .planeVisit => true
  | .cabKeyDebounced => true
  | .presenceWindowExpiry => true
  | .sealBit _ => true
  | .adcSample _ => true
  | .wakeSource _ => true
  | .sleepDecision _ _ => true
  | .drainEnd => true
  | .drainTimeout => true
  | .latchedWake => true
  | .xt32Switch => true
  | .vsvcRise _ _ _ => true
  | .vsvcLoss => true
  | .porNLow => true
  | .resetNLow _ _ => true
  | .supplyMonitorReset => true
  | .powerGood _ _ => true
  | .pllLockTimeout _ => true
  | .ledgerSelfTestEnd badLines badSpares => badLines.all (fun l => decide (l < 131072)) && badSpares.all (fun l => decide (l < 64))
  | .imageCheckEnd f bl bs => f.wf && bl.all (fun l => decide (l < 131072)) && bs.all (fun l => decide (l < 64))
  | .clockLoss => true
  | .tellerWatchdogExpiry => true
  | .tellerRestartEnd => true
  | .swapRollback => true
  | .cabKeyRelease => true
  | .ssLinkTrained _ _ => true
  | .standardRequest _ _ _ => true
  | .sclLowTimeout x => x.wf
  | .ttCompleteSplit _ _ _ _ => true
  | .clocksStable _ => true
  | .swapReady => true
  | .nightsafeCycle => true
  | .usb2HubSuspend _ => true
  | .usb2HubResume _ => true
  | .upstreamLinkU1U2 _ _ _ => true
  | .rail5vInRange _ _ => true

end Sys2Proof
end

