-- ==== Sys2Proof/Tests/Slice0.lean ====
section
/-! SUPPORT. Tests: ill-formed terms that each check of `Instr.wellFormed` refuses; values that the spec's worked examples and
tables give; and for every statement of `Obligations.lean` with hypotheses, states and operands that meet them, clause by
clause (`witness_<statement>_<clause>`). -/
set_option linter.all false
set_option maxRecDepth 20000
set_option Elab.async false

namespace Sys2Proof.Tests
open Sys2Proof Sys2Proof.Machine

/-! ### `Instr.wellFormed` refuses -/

/-- A parameter string whose length PLEN cannot hold. -/
theorem test_wf_plen : Instr.wellFormed (.nop ⟨.slot 0, 0, 0, 0, 0, List.replicate 4294967296 0⟩) = false := by
  simp only [Instr.wellFormed, CmdArgs.wf, List.length_replicate]; rfl
/-- Five address bytes. -/
theorem test_wf_mgmt_addr : Instr.wellFormed (.mgmtTransaction ⟨0x38, [1, 2, 3, 4, 5], true, [], 4⟩) = false := by decide
/-- Data before all four address bytes have come. -/
theorem test_wf_mgmt_early : Instr.wellFormed (.mgmtTransaction ⟨0x38, [1, 2], false, [9], 0⟩) = false := by decide
/-- Data in a read. -/
theorem test_wf_mgmt_read : Instr.wellFormed (.mgmtTransaction ⟨0x38, [1, 2, 3, 4], true, [9], 4⟩) = false := by decide
/-- A byte count in a write. -/
theorem test_wf_mgmt_count : Instr.wellFormed (.sclLowTimeout ⟨0x38, [1, 2, 3, 4], false, [9], 4⟩) = false := by decide
/-- More data than a transaction of a standing order carries. -/
theorem test_wf_order_data : Instr.wellFormed (.orderTransactionDone 0 (.data (List.replicate 1025 0)) false true) = false := by
  decide +kernel
/-- More data than a transaction of a transfer carries. -/
theorem test_wf_xfer_data : Instr.wellFormed (.xferTransactionDone 0 1 0 (.data (List.replicate 1025 0))) = false := by
  decide +kernel
/-- More data than a standard request's wLength. -/
theorem test_wf_enum_data : Instr.wellFormed (.enumRequestDone 0 (.data (List.replicate 65536 0))) = false := by decide +kernel
/-- A PD message without its header. -/
theorem test_wf_pd_short : Instr.wellFormed (.pdRequestReceived 0 [1]) = false := by decide
/-- A PD message longer than an extended one. -/
theorem test_wf_pd_long : Instr.wellFormed (.pdMessageReceived 0 0 (List.replicate 265 0) false) = false := by decide +kernel
/-- A fourth kind of SOP. -/
theorem test_wf_sop : Instr.wellFormed (.softResetReceived 0 3) = false := by decide
/-- A fourth kind of SOP on a message. -/
theorem test_wf_sop_message : Instr.wellFormed (.pdMessageReceived 0 3 [1, 2] false) = false := by decide
/-- A line beyond the eight banks. -/
theorem test_wf_line : Instr.wellFormed (.ledgerSelfTestEnd [131072] []) = false := by decide
/-- A spare beyond the eight of each bank. -/
theorem test_wf_spare : Instr.wellFormed (.ledgerSelfTestEnd [] [64]) = false := by decide
/-- A key hash that is not 32 bytes long. -/
theorem test_wf_image_key : Instr.wellFormed (.imageCheckEnd ⟨true, { (default : ImageInfo) with keyHash := [1] }, default⟩ [] []) = false := by
  decide +kernel
/-- A boot profile of 25 ports. -/
theorem test_wf_image_profile : Instr.wellFormed (.imageCheckEnd ⟨true, { (default : ImageInfo) with
    keyHash := List.replicate 32 0, profile := { (default : BootProfile) with ports := List.replicate 25 default } }, default⟩ [] []) =
    false := by decide +kernel
/-- Failing lines of discarded banks beyond the eight banks. -/
theorem test_wf_image_line : Instr.wellFormed (.imageCheckEnd ⟨true, { (default : ImageInfo) with keyHash := List.replicate 32 0 },
    { (default : ImageInfo) with keyHash := List.replicate 32 0 }⟩ [131072] []) = false := by decide +kernel
/-- Failing spares beyond the eight of each bank. -/
theorem test_wf_image_spare : Instr.wellFormed (.imageCheckEnd ⟨true, { (default : ImageInfo) with keyHash := List.replicate 32 0 },
    { (default : ImageInfo) with keyHash := List.replicate 32 0 }⟩ [] [64]) = false := by decide +kernel
/-- A TRAIN frame longer than its five bytes. -/
theorem test_wf_train : Instr.wellFormed (.dovetailTrainReceived ⟨List.replicate 6 0, false, 0, false⟩ 0) = false := by decide
/-- A SYNC frame longer than its twenty bytes. -/
theorem test_wf_sync : Instr.wellFormed (.dovetailSyncReceived ⟨List.replicate 21 0, false, 0, false⟩ 0) = false := by decide
/-- A HOLD frame longer than its three bytes. -/
theorem test_wf_hold : Instr.wellFormed (.dovetailHoldReceived ⟨List.replicate 4 0, false, 0, false⟩) = false := by decide
/-- A flit that is not 96 bits long. -/
theorem test_wf_flit : Instr.wellFormed (.splineFlitError 0 0 (some [1]) true) = false := by decide
/-- And it admits an ordinary command. -/
theorem test_wf_ok : Instr.wellFormed (.regRd ⟨.slot 0, 11, 0, 0x20400, 1, []⟩) = true := by decide

/-! ### The spec's worked examples -/

/-- File 06, "reading PRT_STATE of P01": the command's header. -/
theorem test_header : header 0x10 ⟨.slot 0, 11, 0, 0x20400, 1, []⟩ =
    [0x10, 0, 0x0B, 0, 0, 0, 0, 0, 0, 4, 2, 0, 1, 0, 0, 0] := by decide
/-- File 06, "reading PRT_STATE of P01": its completion. -/
theorem test_completion : (⟨0x10, 11, .ok, true, 0, 0x8D03, [3, 0x8D, 0, 0]⟩ : Completion).bytes =
    [1, 0x10, 0x0B, 0, 0, 0, 0, 0x80, 4, 0, 0, 0, 3, 0x8D, 0, 0] := by decide
/-- File 06, "switches off P13": the header the board controller writes. -/
theorem test_header_mailbox : header 0x21 ⟨.mbx, 0, 0, 13, 0, []⟩ = [0x21, 0, 0, 0, 0, 0, 0, 0, 0x0D, 0, 0, 0, 0, 0, 0, 0] := by decide
/-- File 06, "six commands in one transfer": 3,000 bytes take 47 lines. -/
theorem test_lines : lineCount 3000 = 47 := by decide

/-- File 07, "admitting the orders": the Mint frame's order. -/
def exOrder4 : OrderRec := ⟨1, 1, false, .mintOut, false, false, 0, 0, 512, 192, .mintFrame, 0, 0, 0, 4, 4, []⟩
/-- Its feedback order. -/
def exOrder5 : OrderRec := ⟨1, 2, true, .feedback, false, true, 0, 0, 512, 64, .template, 1, 0, 0, 0, 0, []⟩
/-- Its status order. -/
def exOrder6 : OrderRec := ⟨1, 3, true, .other, false, false, 3, 3, 64, 16, .purse, 17, 0, 0, 0, 0, []⟩
/-- Its diagnostics order, as asked for. -/
def exOrder7 : OrderRec := ⟨1, 4, true, .other, false, false, 0, 0, 1024, 3072, .ledger, 0, 0x300000, 8, 0, 0, []⟩
/-- The costs of the four orders in byte times. -/
theorem test_order_costs : [exOrder4, exOrder5, exOrder6, exOrder7].map (OrderRec.cost 3) = [262, 113, 57, 3699] := by decide +kernel
/-- Order 7 is refused for the late window (0x5); with e = 2 and LENGTH 1,024 it is admitted. -/
theorem test_order_budget : budget 3 [exOrder6, exOrder5, exOrder4] exOrder7 = some 5 ∧
    budget 3 [exOrder6, exOrder5, exOrder4] { exOrder7 with e := 2, length := 1024 } = none := by decide +kernel

/-- File 07, "the Statements of H0 and H2": 896 and 864 bytes. -/
theorem test_layout_size :
    layoutSize ([⟨6, 0, 0, 16⟩, ⟨5, 0, 0x33FF, 96⟩, ⟨7, 17, 0, 8⟩] ++ List.replicate 10 ⟨1, 0, 0, 64⟩) = 896 ∧
    layoutSize ([⟨6, 0, 0, 16⟩, ⟨5, 0, 0x3FF, 80⟩] ++ List.replicate 10 ⟨1, 0, 0, 64⟩) = 864 := by decide +kernel

/-- File 07, "Purse 17 fills": 42 packets of three words in two blocks. -/
def exPurse : State := State.reset.modPurse 17 fun p => { p with
  blocks := 2, words := (List.replicate 42 (packetWords 16 0 0 (List.replicate 16 1))).flatten, wr := 126, wr2 := 126 }
/-- Packet 43 displaces packet 1: LOST = 3, PKTS = 42, WORDS = 126. -/
theorem test_purse_overwrite :
    let p := (exPurse.pursePush 17 (packetWords 16 0 1 (List.replicate 16 2))).purses[17]
    p.lost = 3 ∧ p.pkts = 42 ∧ p.words.length = 126 := by decide +kernel
/-- PRS_READ of 8,192 words then takes all 126. -/
theorem test_purse_read : exPurse.purses[17].readCount 8064 = 126 := by decide +kernel

/-- File 09, "first motion of X1": segment 1. -/
def exSeg1 : Segment := ⟨80, false, false, 0, 0, 0, 0x0004000000000000, 0, 0⟩
/-- Segment 2. -/
def exSeg2 : Segment := ⟨80, false, false, 0, 0x00012C0000000000, 0x0003C00000000000, -0x0004000000000000, 0, 0⟩
/-- Segment 1 ends at 8,000 counts, 300 counts per microframe and 7.5. -/
theorem test_segment1 : (exSeg1.setpoint 0 80).p = 8000 * 2 ^ 32 ∧ (exSeg1.setpoint 0 80).v = 300 * 2 ^ 40 ∧
    (exSeg1.setpoint 0 80).a = 15 * 2 ^ 47 := by decide +kernel
/-- Segment 2 ends at 40,000, 600 and 0; at τ = 36 from 1,258,000 it is at 1,272,931. -/
theorem test_segment2 : (exSeg2.setpoint 0 80).p = 40000 * 2 ^ 32 ∧ (exSeg2.setpoint 0 80).v = 600 * 2 ^ 40 ∧
    (exSeg2.setpoint 0 80).a = 0 ∧ (exSeg2.setpoint (1258000 * 2 ^ 32) 36).p = 1272931 * 2 ^ 32 := by decide +kernel
/-- File 09, "a following-error stop on X1": the stop limits of M000. -/
def exStop : StopProfile :=
  stopProfile { enable := true, seed := true, bcast := true, fmtPos := false, port := 0, group := 0, feLag := 2, missLimit := 4
                startPos := 0, feLimit := 0, vmax := 0, amax := 0, vjump := 0, stopA := 0x0007800000000000
                stopJ := 0x0030000000000000, raw := [] }
    (exSeg2.setpoint (1258000 * 2 ^ 32) 40)
/-- Its phases: 60, 35 and 40 microframes. -/
theorem test_stop_phases : exStop.phases.map (·.dur) = [60, 35, 40] := by decide +kernel
/-- Its first setpoint: a0 = 1,275,526.84375, a1 = 528.65625, a2 = 1.78125. -/
theorem test_stop_first : (exStop.setpoint 1).p * 32 = 40816859 * 2 ^ 32 ∧ (exStop.setpoint 1).v * 32 = 16917 * 2 ^ 40 ∧
    (exStop.setpoint 1).a2 * 32 = 57 * 2 ^ 48 := by decide +kernel
/-- At rest after 135 microframes, at 0x0014_1DC7_C000_0000. -/
theorem test_stop_end : (exStop.setpoint 134).atRest = false ∧ (exStop.setpoint 135).atRest = true ∧
    (exStop.setpoint 135).p = 0x00141DC7C0000000 := by decide +kernel

/-- File 10, "the two heads": a box of 120 mm by 90 mm by 100 mm. -/
def exHead : BodyRec := ⟨false, [], 2500, (0, 0, 0), [], (600000, 450000, 500000), 0⟩
/-- d_25 = 100,006 and d_26 = 99,975. -/
theorem test_clearance_distance : bodyDist exHead exHead (0, 5000244, 0) (0, 6000250, 0) = 100006 ∧
    bodyDist exHead exHead (0, 5000275, 0) (0, 6000250, 0) = 99975 := by decide +kernel

/-- File 12, "a jammed feeder": 62.48 W in the FET. -/
theorem test_path_power : pathPower { rshunt := 20000 } {} 3300 24000 5000 = 312411 / 5000 := by decide +kernel

/-! ### States of the witnesses -/

/-- A running part: slot 0 is configured, all three Stiles work, every port is OFF. -/
def up : State :=
  let s : State := State.reset
  let s : State := { s with
    glb := { s.glb with core := .s0, held := false, phase := 6, clocksOk := true, unsealed := true }
    teller := { s.teller with run := .running }
    nsf := { s.nsf with running := true, railEn := true }
    stiles := Vector.replicate 3 { vgdPresent := true, vgdOk := true, up := true, resetLine := false, vconnMv := 5000 } }
  s.modSlot 0 fun x => { x with vbus := true, presented := true, tellerPath := 1, tellerCfg := true }
/-- A command of slot 0 with tag 1. -/
def cmd (a0 a1 : Nat) (p : List Byte := []) (fl : Byte := 0) : CmdArgs := ⟨.slot 0, 1, fl, toWord a0, toWord a1, p⟩
/-- A command of the mailbox. -/
def mcmd (a0 a1 : Nat) (p : List Byte := []) : CmdArgs := ⟨.mbx, 0, 0, toWord a0, toWord a1, p⟩
/-- A command that waits in slot 0's Till. -/
def waiting (op tag : Nat) (fl : Byte := 0) : TillEntry :=
  mkEntry (BitVec.ofNat 8 op) ⟨.slot 0, BitVec.ofNat 16 tag, fl, 0, 0, []⟩ 0
/-- `up` with entries in slot 0's Till. -/
def withTill (l : List TillEntry) : State := up.modSlot 0 fun x => { x with till := l }

/-- `up` with both sources unlocked. -/
def unlocked : State :=
  (up.modGlb fun g => { g with mgmtUnlocked := true }).modSlot 0 fun x => { x with unlocked := true }
/-- `unlocked` with a test address in the host region. -/
def testing : State := unlocked.modLdg fun g => { g with testAddr := 0xC000, flipAddr := 0xFFFF, written := [0xC000] }

/-- A good image. -/
def img : ImageInfo :=
  { headerOk := true, length := 64, keyHash := List.replicate 32 0, signatureOk := true, listsB0 := true, version := 7
    timesOut := false, tableFormat := 1, oldestFormat := 1, payload := 5
    profile := { ports := [⟨.proxy, 0, 4, .ua330, 5⟩, ⟨.off, 0, 0, .ua80, 0⟩, ⟨.relay, 1, 0, .ua180, 2⟩], budgetW := 100 } }
/-- An image that fails its header check. -/
def badImg : ImageInfo := { img with headerOk := false }
/-- A flash with two good images. -/
def flash : FlashView := ⟨true, img, { img with version := 8 }⟩
/-- `up` in a given boot phase, its clocks not yet stable. -/
def inPhase (n : Nat) : State := up.modGlb fun g => { g with phase := BitVec.ofNat 4 n, clocksOk := decide (1 < n) }
/-- `up` with an image committed and a swap under way. -/
def swapping : State :=
  { up.modTeller (fun t => { t with run := .swapping }) with fw := { slotA := some img, slotB := some { img with version := 9 }, committed := true, format := 1, version := 7 } }

/-- `up` with level 1 locked and presence proved. -/
def lockedOnce : State :=
  let s : State := up.modNsf fun n => { n with presence := 9 }
  { s with vault := vmod s.vault 0x2C fun r => { r with val := 0x4C4B0001, programmed := true } }

/-- `lockedOnce` with level 2 locked. -/
def lockedTwice : State := { lockedOnce with vault := vmod lockedOnce.vault 0x2D fun r => { r with val := 0x4C4B0002, programmed := true } }
/-- `up` with a rollback floor of 1 and presence proved. -/
def floorSet : State :=
  let s : State := up.modNsf fun n => { n with presence := 9 }
  { s with vault := vmod s.vault 0x18 fun r => { r with val := 1, programmed := true } }

/-- `up` with Tally running. -/
def ticking : State := up.modTally fun t => { t with running := true }
/-- Tally LOCKED to MSYNC_IN, rising edges every microframe. -/
def locked : State := up.modTally fun t => { t with
  running := true, mode := .locked, everLocked := true, refOk := true, msiSnap := 0x80020000, msiFirst := some 0 }
/-- `ticking` in step 6 with Dovetail running. -/
def ringed : State := (ticking.modGlb fun g => { g with cascadeEn := true, phase := 5 }).modDvt fun d => { d with linkIn := true }
/-- The follower at position 1 of a trained ring. -/
def follower : State := ringed.modDvt fun d => { d with trained := true, chainPos := 1, ringSize := 2, holdSnap := 0xFFFF }
/-- A channel record of port 0 and group 2. -/
def chRec : ChanRec := ⟨true, true, false, false, 0, 2, 0, 0, 0, 0, 0, 0, 0, 1, 1, []⟩
/-- Its 64 bytes. -/
def chBytes : List Byte := [3, 0, 2] ++ List.replicate 45 0 ++ [1, 0, 0, 0, 0, 0, 0, 0, 1, 0, 0, 0, 0, 0, 0, 0]
/-- A MINT_OUT order over channel 5. -/
def mintOrder : OrderRec := ⟨0, 2, false, .mintOut, false, false, 0, 0, 64, 128, .mintFrame, 0, 0, 0, 5, 1, []⟩
/-- `ticking` with port 0 a PROXY port of slot 0 and a MINT_OUT order. -/
def owned : State :=
  let s : State := ticking.modPort 0 fun p => { p with deed := { owner := some 0, mode := .proxy }, state := .active }
  { s with orders := vmod s.orders 7 fun o => { o with state := .active, cfg := some mintOrder } }
/-- `owned` with channel 5 configured and its group in a given state. -/
def axis (g : GroupState) : State :=
  let m : Mint := owned.mint
  { owned with mint := { m with
    chans := vmod m.chans 5 fun c => { c with cfg := some chRec, history := true, missDue := true }
    groups := vmod m.groups 2 fun x => { x with state := g } } }
/-- `ticking` with two sphere bodies and the pair of bodies 0 and 1, armed, in an open microframe. -/
def armedPair : State :=
  let b : BodyRec := ⟨false, [5], 0, (0, 0, 0), [(0, 0, 0)], (0, 0, 0), 1⟩
  let x : Clearance := ticking.clr
  { ticking with clr := { x with
    bodies := vmod (vmod x.bodies 0 fun y => { y with cfg := some b }) 1 fun y => { y with cfg := some b, path := [(9, 0, 0), (9, 0, 0)] }
    pairs := vmod x.pairs 0 fun y => { y with cfg := some ⟨5, 6, 1, false, 0x8001⟩, armed := true, d0 := 9 }
    open_ := true } }

/-- `owned` with port 0 seated, and a change of its power and PD halves. -/
def port (f : Pwr → Pwr) (g : Pd → Pd) : State :=
  (owned.modPwr 0 fun w => f { w with seatA := true, seatB := true, seatOk := true }).modPd 0 g
/-- Port 0 attached and powered at 5 V. -/
def powered (f : Pwr → Pwr) (g : Pd → Pd) : State :=
  port (fun w => f { w with gateL := true, vbusOn := true, vbusMv := 5000, want := true, chgL := 15000 })
    (fun p => g { p with cc := .attachedSrc, term1 := .rd, orient := 1, partner := 1 })
/-- A PD message being sent. -/
def sendingTx (n : Nat) : PdTx := ⟨[6, 0], 1, n, 0, .owner, none, false⟩

/-- A configuration descriptor set with a bulk IN endpoint 0x81 and a bulk OUT endpoint 0x02. -/
def cfgBytes : List Byte :=
  [9, 2, 32, 0, 1, 1, 0, 0xA0, 50, 9, 4, 0, 0, 2, 255, 0, 0, 0, 7, 5, 0x81, 2, 0, 2, 0, 7, 5, 0x02, 2, 0, 2, 0]
/-- Port 0 with a device connected, its Carcass half changed. -/
def device (f : Port → Port) : State :=
  (powered id id).modPort 0 fun p => f { p with
    connected := true, speed := 3, mps0 := 64, cfgDescs := [cfgBytes], recorded := [[0, 9, 1, 0, 0, 0, 0, 0]], state := .active }
/-- The time of non-periodic traffic in a microframe. -/
def late (s : State) : State := s.modGlb fun g => { g with assembled := true }
/-- The same in RELAY mode. -/
def relay (f : Port → Port) : State := device fun p => f { p with deed := { owner := some 0, mode := .relay } }
/-- A bulk IN transfer of 600 bytes with 512 moved. -/
def bulkIn : Xfer := ⟨0x31, 0, 1, true, 600, [], [], List.replicate 512 7, 512, 0, 0, 0, 0, 0, []⟩
/-- Its Till entry. -/
def bulkEntry : TillEntry := { mkEntry 0x31 (cmd 0x00018100 600) 0 with point := .effected, wait := .xfer bulkIn }
/-- `device` with that transfer under way. -/
def moving : State := (device id).modSlot 0 fun x => { x with till := [bulkEntry] }
/-- Slot 0 presented, its Teller on a path. -/
def onPath (n : Nat) (f : Slot → Slot) : State :=
  up.modSlot 0 fun x => f { x with ssTerm := true, ssSpeed := 2, tellerPath := BitVec.ofNat 2 n, ssHubCfg := true }

/-- An order record: bulk IN transactions of 64 bytes on endpoint 0x81 of port 0, results discarded. -/
def orderBytes : List Byte := [0, 0x81, 0, 0, 0, 0, 64, 0, 64, 0] ++ List.replicate 22 0
/-- The order of `orderBytes`, ACTIVE. -/
def anOrder : Order := { state := .active, cfg := some (orderRecOf orderBytes) }
/-- An occurrence of that order. -/
def anOcc : Occurrence := { cfg := orderRecOf orderBytes, n := 0, txn := 0, tries := 0, got := [], src := [] }
/-- `device` with order 3 alone, as given, once the Mint frames are complete. -/
def ordered (o : Order) : State :=
  { device id with mint := { (device id).mint with sent := true }, orders := vmod (Vector.replicate 1024 {}) 3 fun _ => o }
/-- Slot 0 owns Purse 5 of two blocks. -/
def pursed (f : Purse → Purse) : State := up.modPurse 5 fun p => f { p with blocks := 2, owner := 0 }
/-- One packet of a header and one word. -/
def packet : List PurseWord := packetWords 8 0 7 [1, 2, 3, 4, 5, 6, 7, 8]

/-- `Ledger.Ok` from its decidable form. -/
theorem okOf (g : Ledger)
    (h : Memory.wf g.mem = true ∧ g.payloadLines ≤ 0x4000 ∧ (g.mem.all fun c => g.written.contains (c.1 / 64)) = true) : g.Ok :=
  ⟨h.1, h.2.1, fun c hc => List.all_eq_true.1 h.2.2 c hc⟩
/-- The budget of an order beside which there is no other. -/
theorem overBudget_alone (s : State) (r : OrderRec) (n : Option OrderId)
    (h : (s.orders.toList.zipIdx.all fun x => x.1.state == .free || (n.map (·.val)) == some x.2) = true) :
    s.overBudget r n = budget s.ports[r.port.val].speed [] r := by
  have hp : s.portOrders r.port n = [] := by
    unfold State.portOrders
    rw [List.filterMap_eq_nil_iff]
    intro m _
    have hm := List.all_eq_true.1 h (s.orders[m.val], m.val) (by
      rw [List.mem_zipIdx_iff_getElem?]
      simp)
    simp only [Bool.or_eq_true, beq_iff_eq] at hm
    dsimp only
    rw [if_pos]
    rcases hm with hm | hm
    · exact .inl hm
    · right; right
      cases n with
      | none => simp at hm
      | some k => simp at hm; rw [Option.some.injEq]; exact Fin.ext hm.symm
  unfold State.overBudget; rw [hp]
/-- A list without repeats in which `f` finds something at one place only. -/
theorem filterMap_alone {α β : Type} (f : α → Option β) (a : α) (b : β) (hb : f a = some b) :
    ∀ l : List α, l.Nodup → a ∈ l → (∀ x ∈ l, x ≠ a → f x = none) → l.filterMap f = [b]
  | [], _, h, _ => by cases h
  | x :: l, hn, h, ho => by
    obtain ⟨hx, hl⟩ := List.nodup_cons.1 hn
    by_cases e : x = a
    · subst e
      have : l.filterMap f = [] := by
        rw [List.filterMap_eq_nil_iff]
        exact fun y hy => ho y (List.mem_cons_of_mem _ hy) fun e => hx (e ▸ hy)
      simp [List.filterMap_cons, hb, this]
    · have ha : a ∈ l := (List.mem_cons.1 h).resolve_left fun e' => e e'.symm
      rw [List.filterMap_cons, ho x (List.mem_cons_self ..) e]
      exact filterMap_alone f a b hb l hl ha fun y hy => ho y (List.mem_cons_of_mem _ hy)
/-- An attempt of the only open occurrence can be on the bus once the Mint frames are complete. -/
theorem mayRun_alone (s : State) (n : OrderId) (c : Occurrence) (hc : s.orders[n.val].occ = some c) (hs : s.mint.sent = true)
    (h : (s.orders.toList.zipIdx.all fun x => x.1.occ.isNone || x.2 == n.val) = true) : s.mayRun n c = true := by
  have ho : s.openOn c.cfg.port = [(n, c)] := by
    unfold State.openOn
    refine filterMap_alone _ n _ (by simp [hc]) _ (List.nodup_finRange _) (List.mem_finRange _) fun m _ hm => ?_
    have h1 := List.all_eq_true.1 h (s.orders[m.val], m.val) (by
      rw [List.mem_zipIdx_iff_getElem?]
      simp)
    have h2 : s.orders[m.val].occ = none := by
      simpa [Fin.val_inj, hm] using h1
    rw [h2]
  unfold State.mayRun State.nextFirst State.turnOn
  simp only [ho, hs, Bool.true_or, Bool.true_and]
  cases hw : c.cfg.cls <;> by_cases hq : c.tries = 0 <;> simp [hw, hq]
/-- The CRC of a flit fits in its 16 bits, whatever the initial value. -/
theorem crc16_lt (i : Nat) : crc16 i (List.replicate 10 0) < 65536 := by
  have h : ∀ c b, crcBitMsb 16 0x1021 c b < 2 ^ 16 := by
    intro c b
    unfold crcBitMsb
    dsimp only
    split
    · exact Nat.xor_lt_two_pow (Nat.mod_lt _ (by decide)) (by decide)
    · exact Nat.mod_lt _ (by decide)
  exact h _ _
/-- A number of two bytes is read back as it was written, behind a flit's ten. -/
theorem leAt_flit (v : Nat) (h : v < 65536) : leAt (List.replicate 10 0 ++ leBytes 2 v) 10 2 = v := by
  show (BitVec.ofNat 8 v).toNat + 256 * ((BitVec.ofNat 8 (v / 256)).toNat + 256 * 0) = v
  simp only [BitVec.toNat_ofNat]
  omega
/-- No order names a template where no order is a FEEDBACK order. -/
theorem feedbackOrder_none (s : State) (t : TemplId)
    (h : (s.orders.toList.all fun o => o.state == .free || (o.cfg.map fun r => r.cls != .feedback).getD true) = true) :
    s.feedbackOrder t = none := by
  unfold State.feedbackOrder
  rw [List.findSome?_eq_none_iff]
  intro m _
  have hm := List.all_eq_true.1 h s.orders[m.val] (by simp)
  dsimp only
  split
  · next r hr =>
    rw [hr] at hm
    rw [if_neg]
    rintro ⟨h1, h2, _⟩
    simp [h1, h2] at hm
  · rfl

/-! ### The witnesses -/

/-! Witnesses of StepRunsTheFrontCommand. -/
theorem witness_StepRunsTheFrontCommand_1 :
    let s : State := up
    s.pending = [] := by
  decide +kernel +zetaReduce

/-! Witnesses of EveryStepKeepsTheLedgerCanonical. -/
theorem witness_EveryStepKeepsTheLedgerCanonical_0 :
    let s : State := up
    let t : State := up
    s.ldg.Ok ∧ step s = .next t := by
  exact ⟨okOf _ (by decide +kernel), rfl⟩

/-! Witnesses of VaultRowsAreProgrammedOnce. -/
theorem witness_VaultRowsAreProgrammedOnce_0 :
    let s : State := up
    let t : State := up
    step s = .next t := by
  exact rfl

/-! Witnesses of RecordsBeginWithTheirKind. -/
theorem witness_RecordsBeginWithTheirKind_1 :
    let c : Completion := ⟨0x10, 1, .ok, true, 1024, 5, [1,2,3]⟩
    c.lines ≤ 1024 ∧ c.data.length ≤ 65536 := by
  decide +kernel +zetaReduce

/-! Witnesses of CommandsThatFailTheEntryChecksChangeNothing. -/
theorem witness_CommandsThatFailTheEntryChecksChangeNothing_0 :
    let a : CmdArgs := cmd 0 0
    let s : State := State.reset
    let h : SlotId := 0
    a.caller = .slot h ∧ (s.pathOpen h = false ∨ s.slots[h.val].room a.params.length = false) := by
  decide +kernel +zetaReduce
theorem witness_CommandsThatFailTheEntryChecksChangeNothing_1 :
    let a : CmdArgs := ⟨.slot 0, 512, 0, 0, 0, []⟩
    let s : State := up
    let h : SlotId := 0
    a.caller = .slot h ∧ s.pathOpen h = true ∧ s.slots[h.val].room a.params.length = true ∧
      (511 < a.tag.toNat ∨ s.slots[h.val].tagInFlight a.tag = true) := by
  decide +kernel +zetaReduce
theorem witness_CommandsThatFailTheEntryChecksChangeNothing_2 :
    let o : OpSpec := opNop
    let a : CmdArgs := ⟨.slot 0, 511, 0, 0, 0, [1]⟩
    let s : State := up
    let h : SlotId := 0
    let st := (.eLen : Status)
    a.caller = .slot h ∧ s.pathOpen h = true ∧ s.slots[h.val].room a.params.length = true ∧ a.tag.toNat ≤ 511 ∧
      s.slots[h.val].tagInFlight a.tag = false ∧ s.teller.run ≠ .halted ∧ syntaxCheck (some o) a = some st := by
  decide +kernel +zetaReduce
theorem witness_CommandsThatFailTheEntryChecksChangeNothing_3 :
    let o : OpSpec := opNop
    let a : CmdArgs := mcmd 0 0 [1]
    let s : State := up
    let st := (.eLen : Status)
    a.caller = .mbx ∧ s.awake = true ∧ s.glb.clocksOk = true ∧ s.teller.go = false ∧ s.tellerStarted = true ∧
      s.teller.run ≠ .halted ∧ syntaxCheck (some o) a = some st := by
  decide +kernel +zetaReduce

/-! Witnesses of GeneralCommandsAnswer. -/
theorem witness_GeneralCommandsAnswer_0 :
    let a : CmdArgs := cmd 0 0 [] 15
    let s : State := up
    s.takes opNop a = true := by
  decide +kernel +zetaReduce
theorem witness_GeneralCommandsAnswer_1 :
    let a : CmdArgs := cmd 0 0
    let s : State := { up with glb := { up.glb with core := .s1 } }
    s.takes opFence a = true := by
  decide +kernel +zetaReduce
theorem witness_GeneralCommandsAnswer_2 :
    let a : CmdArgs := mcmd 9 8 [1,2,3]
    let s : State := { up with glb := { up.glb with core := .s1 } }
    s.takes opEcho a = true := by
  decide +kernel +zetaReduce
theorem witness_GeneralCommandsAnswer_3 :
    let a : CmdArgs := mcmd 0 0
    let s : State := up
    s.takes opGetInfo a = true := by
  decide +kernel +zetaReduce
theorem witness_GeneralCommandsAnswer_4 :
    let a : CmdArgs := cmd 5 0
    let s : State := up
    let h : SlotId := 0
    let target := s.slots[h.val].till.find? fun e => e.args.tag.toNat == a.arg0.toNat
    s.takes opCancel a = true ∧ a.caller = .slot h ∧ target = none := by
  decide +kernel +zetaReduce
theorem witness_GeneralCommandsAnswer_5 :
    let a : CmdArgs := cmd 5 0
    let s : State := withTill [{ waiting 0x01 5 with point := .effected }]
    let h : SlotId := 0
    let target := s.slots[h.val].till.find? fun e => e.args.tag.toNat == a.arg0.toNat
    let e := (({ waiting 0x01 5 with point := .effected }) : TillEntry)
    s.takes opCancel a = true ∧ a.caller = .slot h ∧ target = some e ∧ e.point = .effected := by
  decide +kernel +zetaReduce
theorem witness_GeneralCommandsAnswer_6 :
    let a : CmdArgs := cmd 5 0
    let s : State := withTill [{ waiting 0x03 4 with point := .dispatched }, waiting 0x11 5 1, waiting 3 6]
    let h : SlotId := 0
    let target := s.slots[h.val].till.find? fun e => e.args.tag.toNat == a.arg0.toNat
    let e := (waiting 0x11 5 1 : TillEntry)
    s.takes opCancel a = true ∧ a.caller = .slot h ∧ target = some e ∧ e.point = .waiting ∧ e.wait = .none := by
  decide +kernel +zetaReduce

/-! Witnesses of TransfersCarryCommandsAndRecords. -/
theorem witness_TransfersCarryCommandsAndRecords_0 :
    let h : SlotId := 0
    let a : CmdArgs := cmd 9 0 [1,2,3]
    let s : State := up
    s.pathOpen h = true ∧ a.caller = .slot h ∧ a.params.length < 4294967296 ∧ s.slots[h.val].room a.params.length = true := by
  decide +kernel +zetaReduce
theorem witness_TransfersCarryCommandsAndRecords_1 :
    let h : SlotId := 0
    let b : List Byte := List.replicate 15 1
    let s : State := up
    s.pathOpen h = true ∧ b ≠ [] ∧ b.length < 16 := by
  decide +kernel +zetaReduce
theorem witness_TransfersCarryCommandsAndRecords_2 :
    let s : State := up
    s.anyFree = false := by
  decide +kernel +zetaReduce
theorem witness_TransfersCarryCommandsAndRecords_3 :
    let s : State := withTill [waiting 3 6 , waiting 0x11 5 2]
    let i : Nat := 0
    let pos : Nat := 0
    let e : TillEntry := (waiting 3 6 : TillEntry)
    let o : OpSpec := opFence
    s.awake = true ∧ s.teller.run = .running ∧ s.pickSource = some (i, pos, e) ∧ opOf opTable e.op = some o := by
  intros
  and_intros <;> first | exact okOf _ (by decide +kernel +zetaReduce) | decide +kernel +zetaReduce | rfl
theorem witness_TransfersCarryCommandsAndRecords_4 :
    let s : State := withTill [waiting 0 6 , waiting 0x11 5 4]
    let i : Nat := 0
    let pos : Nat := 1
    let e : TillEntry := (waiting 0x11 5 4 : TillEntry)
    let o : OpSpec := opRegWr
    let j := 0
    let x := ((1, waiting 0x11 5 4) : Nat × TillEntry)
    s.awake = true ∧ s.teller.run = .running ∧ s.pickSource = some (i, pos, e) ∧ opOf opTable e.op = some o ∧ j < 5 ∧
      s.offer j = some x := by
  intros
  and_intros <;> first | exact okOf _ (by decide +kernel +zetaReduce) | decide +kernel +zetaReduce | rfl
theorem witness_TransfersCarryCommandsAndRecords_5 :
    let h : SlotId := 0
    let s : State := up.modSlot 0 fun x => { x with records := [.event ⟨0,0,0,0,0,0,false,[]⟩, .completion ⟨1,2,.ok,true,1,5,[1,2,3]⟩] }
    s.pathOpen h = true ∧ s.ldg.faulty (inResults h) = [] := by
  decide +kernel +zetaReduce

/-! Witnesses of RegisterCommandsReadAndWrite. -/
theorem witness_RegisterCommandsReadAndWrite_0 :
    let a : CmdArgs := cmd 0x60024 1
    let s : State := up
    let r : Reg := .tlyMsoCfg
    s.takes opRegRd a = true ∧ a.arg1 = 1 ∧ regAt a.arg0.toNat = some r ∧ readsTime a.arg0.toNat 1 = false ∧
      s.glb.parityBad = [] ∧ ((∀ w : Fin 128, s.vault[w.val].copyBad = false)) := by
  decide +kernel +zetaReduce
theorem witness_RegisterCommandsReadAndWrite_1 :
    let a : CmdArgs := mcmd 0x34 64
    let s : State := up
    s.takes opRegRd a = true := by
  decide +kernel +zetaReduce
theorem witness_RegisterCommandsReadAndWrite_2 :
    let a : CmdArgs := cmd 0x35 1
    let s : State := up
    s.takes opRegRd a = true ∧ a.arg1 = 1 ∧ regAt a.arg0.toNat = none := by
  decide +kernel +zetaReduce
theorem witness_RegisterCommandsReadAndWrite_3 :
    let a : CmdArgs := cmd 0x60028 0 [5,0,0,0]
    let s : State := up
    let r : Reg := .tlyMsoWid
    let v := toWord (leAt a.params 0 4)
    let p := pathOf a.caller
    s.takes opRegWr a = true ∧ a.params.length = 4 ∧ regAt a.arg0.toNat = some r ∧ r ≠ .mbxGo ∧
      s.writeRefused p r v = none ∧ v &&& r.wk = 0 ∧ s.regLocked r v = false := by
  decide +kernel +zetaReduce
theorem witness_RegisterCommandsReadAndWrite_4 :
    let a : CmdArgs := mcmd 0x100000 0 [5,0,0,0]
    let s : State := up
    s.takes opRegWr a = true ∧ a.params.length = 4 ∧ regAt a.arg0.toNat = none := by
  decide +kernel +zetaReduce
theorem witness_RegisterCommandsReadAndWrite_5 :
    let a : CmdArgs := cmd 0x60024 0 [1,0,0,0, 0xff,0,0,0]
    let s : State := up
    let r : Reg := .tlyMsoCfg
    let p := pathOf a.caller
    let old := (s.atDispatch opRegRmw a).regValue p 0 r
    let mask := toWord (leAt a.params 0 4)
    let v := (old &&& ~~~mask) ||| (toWord (leAt a.params 4 4) &&& mask)
    s.takes opRegRmw a = true ∧ regAt a.arg0.toNat = some r ∧ r ≠ .mbxGo ∧ readsTime a.arg0.toNat 1 = false ∧
      s.glb.parityBad = [] ∧ ((∀ w : Fin 128, s.vault[w.val].copyBad = false)) ∧ s.writeRefused p r v = none ∧
      v &&& r.wk = 0 ∧ s.regLocked r v = false := by
  decide +kernel +zetaReduce

/-! Witnesses of RegisterRowsWriteTheirRegister. -/
theorem witness_RegisterRowsWriteTheirRegister_0 :
    let p : Path := .slot 0
    let s : State := up
    s.pathReady p = true := by
  decide +kernel +zetaReduce
theorem witness_RegisterRowsWriteTheirRegister_1 :
    let p : Path := .mgmt
    let s : State := up
    let v : Word := 0x0C1A5E18
    s.pathReady p = true ∧ v ≠ 0x0C1A5E17 := by
  decide +kernel +zetaReduce
theorem witness_RegisterRowsWriteTheirRegister_2 :
    let p : Path := .mbx
    let s : State := up
    let v : Word := 15
    s.pathReady p = true ∧ v.toNat < 16 ∧ s.glb.lockWritten = false := by
  decide +kernel +zetaReduce
theorem witness_RegisterRowsWriteTheirRegister_3 :
    let p : Path := .mgmt
    let s : State := up.modGlb (fun g => { g with lockWritten := true })
    let v : Word := 15
    s.pathReady p = true ∧ v.toNat < 16 ∧ s.glb.lockWritten = true := by
  decide +kernel +zetaReduce
theorem witness_RegisterRowsWriteTheirRegister_4 :
    let p : Path := .slot 0
    let s : State := up.modNsf fun n => { n with presence := 1 }
    s.pathReady p = true ∧ s.nsf.presence ≠ 0 := by
  decide +kernel +zetaReduce
theorem witness_RegisterRowsWriteTheirRegister_5 :
    let p : Path := .slot 0
    let s : State := unlocked
    s.pathReady p = true ∧ s.unlockedBy p = true ∧ testBit s.glb.lock 2 = false := by
  decide +kernel +zetaReduce
theorem witness_RegisterRowsWriteTheirRegister_6 :
    let p : Path := .mgmt
    let s : State := up
    s.pathReady p = true ∧ s.unlockedBy p = false := by
  decide +kernel +zetaReduce
theorem witness_RegisterRowsWriteTheirRegister_7 :
    let p : Path := .slot 0
    let s : State := up
    s.pathReady p = true ∧ p ≠ .mbx ∧ s.teller.go = false := by
  decide +kernel +zetaReduce
theorem witness_RegisterRowsWriteTheirRegister_8 :
    let p : Path := .slot 0
    let s : State := up
    let addr : Word := 0x60028
    let v : Word := 9
    let r : Reg := .tlyMsoWid
    s.pathReady p = true ∧ ((∀ h, p = .slot h → s.slotMayWrite h addr.toNat = true)) ∧ regAt addr.toNat = some r ∧
      r ≠ .mbxGo ∧ s.writeRefused p r v = none ∧ v &&& r.wk = 0 ∧ s.regLocked r v = false := by
  decide +kernel +zetaReduce
theorem witness_RegisterRowsWriteTheirRegister_9 :
    let p : Path := .slot 0
    let s : State := up
    let addr : Word := 0xE0000
    s.pathReady p = true ∧ ((∀ h, p = .slot h → s.slotMayWrite h addr.toNat = true)) ∧ regAt addr.toNat = none := by
  decide +kernel +zetaReduce

/-! Witnesses of LedgerTestModesStoreWhatTheySay. -/
theorem witness_LedgerTestModesStoreWhatTheySay_0 :
    let p : Path := .slot 0
    let s : State := testing
    let line := s.ldg.testAddr.toNat
    s.pathReady p = true ∧ s.ldg.Ok ∧ testBit s.glb.lock 3 = false ∧ hostLine line = true ∧ s.unlockedBy p = true ∧
      (s.ldg.flip = 0 ∨ s.ldg.flipAddr ≠ s.ldg.testAddr) := by
  intros
  and_intros <;> first | exact okOf _ (by decide +kernel +zetaReduce) | decide +kernel +zetaReduce | rfl
theorem witness_LedgerTestModesStoreWhatTheySay_1 :
    let p : Path := .mgmt
    let s : State := testing.modLdg fun g => { g with testAddr := 0xFFFF, testData := Vector.replicate 16 7 }
    let line := s.ldg.testAddr.toNat
    s.pathReady p = true ∧ s.ldg.Ok ∧ testBit s.glb.lock 3 = false ∧ hostLine line = true ∧ s.unlockedBy p = true ∧
      (s.ldg.flip = 0 ∨ s.ldg.flipAddr ≠ s.ldg.testAddr) := by
  intros
  and_intros <;> first | exact okOf _ (by decide +kernel +zetaReduce) | decide +kernel +zetaReduce | rfl
theorem witness_LedgerTestModesStoreWhatTheySay_2 :
    let p : Path := .mgmt
    let s : State := testing
    let line := s.ldg.testAddr.toNat
    s.pathReady p = true ∧ s.ldg.Ok ∧ testBit s.glb.lock 3 = false ∧ hostLine line = true ∧ s.unlockedBy p = true ∧
      (s.ldg.flip = 0 ∨ s.ldg.flipAddr ≠ s.ldg.testAddr) := by
  intros
  and_intros <;> first | exact okOf _ (by decide +kernel +zetaReduce) | decide +kernel +zetaReduce | rfl
theorem witness_LedgerTestModesStoreWhatTheySay_3 :
    let p : Path := .slot 0
    let s : State := testing.modLdg fun g => { g with testData := Vector.replicate 16 7 }
    let line := s.ldg.testAddr.toNat
    s.pathReady p = true ∧ s.ldg.Ok ∧ testBit s.glb.lock 3 = false ∧ hostLine line = true ∧ s.unlockedBy p = true ∧
      (s.ldg.flip = 0 ∨ s.ldg.flipAddr ≠ s.ldg.testAddr) := by
  intros
  and_intros <;> first | exact okOf _ (by decide +kernel +zetaReduce) | decide +kernel +zetaReduce | rfl
theorem witness_LedgerTestModesStoreWhatTheySay_4 :
    let p : Path := .mgmt
    let s : State := testing
    let v : Word := 1
    s.pathReady p = true ∧ s.ldg.Ok ∧ testBit s.glb.lock 3 = false ∧ hostLine s.ldg.flipAddr.toNat = true ∧
      s.unlockedBy p = true ∧ v ≠ 0 := by
  intros
  and_intros <;> first | exact okOf _ (by decide +kernel +zetaReduce) | decide +kernel +zetaReduce | rfl
theorem witness_LedgerTestModesStoreWhatTheySay_5 :
    let p : Path := .mbx
    let s : State := testing
    s.pathReady p = true ∧ s.ldg.Ok ∧ testBit s.glb.lock 3 = false := by
  intros
  and_intros <;> first | exact okOf _ (by decide +kernel +zetaReduce) | decide +kernel +zetaReduce | rfl
theorem witness_LedgerTestModesStoreWhatTheySay_6 :
    let p : Path := .mgmt
    let s : State := testing.modGlb (fun g => { g with mgmtUnlocked := false })
    let line := s.ldg.testAddr.toNat
    s.pathReady p = true ∧ s.ldg.Ok ∧ testBit s.glb.lock 3 = false ∧ hostLine line = true ∧ s.unlockedBy p = false := by
  intros
  and_intros <;> first | exact okOf _ (by decide +kernel +zetaReduce) | decide +kernel +zetaReduce | rfl

/-! Witnesses of MgmtTransactionsAccessWords. -/
theorem witness_MgmtTransactionsAccessWords_0 :
    let s : State := up
    let addr : List Byte := leBytes 4 0x60028
    let data : List Byte := [5,0,0,0]
    s.awake = true ∧ s.glb.clocksOk = true ∧ addr.length = 4 ∧ leAt addr 0 4 % 4 = 0 ∧ data.length = 4 ∧
      (regAt (leAt addr 0 4)).isSome = true := by
  decide +kernel +zetaReduce
theorem witness_MgmtTransactionsAccessWords_1 :
    let s : State := up
    let addr : List Byte := leBytes 4 0x60028
    let r : Reg := .tlyMsoWid
    s.awake = true ∧ s.glb.clocksOk = true ∧ addr.length = 4 ∧ regAt (leAt addr 0 4) = some r ∧
      readsTime (leAt addr 0 4) 1 = false ∧ s.glb.parityBad = [] ∧ ((∀ w : Fin 128, s.vault[w.val].copyBad = false)) := by
  decide +kernel +zetaReduce
theorem witness_MgmtTransactionsAccessWords_2 :
    let s : State := up
    let addr : List Byte := leBytes 4 0x60028
    let data : List Byte := [5,0,0,0,1]
    s.awake = true ∧ s.glb.clocksOk = true ∧ addr.length = 4 ∧ data.length = 5 ∧
      s.pecOf (addr ++ data.take 4) ≠ leAt data 4 1 := by
  decide +kernel +zetaReduce
theorem witness_MgmtTransactionsAccessWords_3 :
    let s : State := up
    let addr : List Byte := [1,0,0,0]
    let n : Nat := 1
    s.awake = true ∧ s.glb.clocksOk = true ∧ addr.length = 4 ∧ leAt addr 0 4 % 4 ≠ 0 ∧ 0 < n := by
  decide +kernel +zetaReduce
theorem witness_MgmtTransactionsAccessWords_4 :
    let s : State := up
    let addr : List Byte := [1,2,3]
    s.awake = true ∧ s.glb.clocksOk = true ∧ 0 < addr.length ∧ addr.length < 4 := by
  decide +kernel +zetaReduce
theorem witness_MgmtTransactionsAccessWords_5 :
    let s : State := up
    let addr : List Byte := leBytes 4 0x60028
    let data : List Byte := [5,0,0,0,1,1]
    s.awake = true ∧ s.glb.clocksOk = true ∧ addr.length = 4 ∧ leAt addr 0 4 % 4 = 0 ∧ data.length = 6 ∧
      (regAt (leAt addr 0 4)).isSome = true := by
  decide +kernel +zetaReduce
theorem witness_MgmtTransactionsAccessWords_6 :
    let s : State := up
    let dev := s.mgmtAddress
    let x : MgmtXact := ⟨0x12, [0, 0, 0, 0], true, [], 4⟩
    s.awake = true ∧ s.glb.clocksOk = true ∧ x.dev ≠ dev := by
  decide +kernel +zetaReduce

/-! Witnesses of VsvcLossIsAPowerOnReset. -/
theorem witness_VsvcLossIsAPowerOnReset_0 :
    let s : State := up
    s.nsf.running = true := by
  decide +kernel +zetaReduce

/-! Witnesses of CarcassResetsTakeAndKeep. -/
theorem witness_CarcassResetsTakeAndKeep_0 :
    let s : State := up
    s.glb.held = false := by
  decide +kernel +zetaReduce
theorem witness_CarcassResetsTakeAndKeep_1 :
    let s : State := up
    s.glb.held = false := by
  decide +kernel +zetaReduce
theorem witness_CarcassResetsTakeAndKeep_2 :
    let s : State := up
    s.glb.held = false ∧ s.glb.clocksOk = true := by
  decide +kernel +zetaReduce

/-! Witnesses of BringUpGoesStepByStep. -/
theorem witness_BringUpGoesStepByStep_0 :
    let s : State := State.reset
    s.nsf.running = false := by
  decide +kernel +zetaReduce
theorem witness_BringUpGoesStepByStep_1 :
    let s : State := up
    s.nsf.running = true := by
  decide +kernel +zetaReduce
theorem witness_BringUpGoesStepByStep_2 :
    let s : State := State.reset.modNsf fun n => { n with running := true, railEn := true }
    s.glb.held = true ∧ s.nsf.running = true ∧ s.nsf.railEn = true ∧ s.nsf.asleep = none := by
  decide +kernel +zetaReduce
theorem witness_BringUpGoesStepByStep_3 :
    let s : State := inPhase 1
    s.awake = true ∧ s.glb.phase = 1 ∧ s.glb.clocksOk = false ∧ s.glb.fClock = false := by
  decide +kernel +zetaReduce
theorem witness_BringUpGoesStepByStep_4 :
    let s : State := inPhase 1
    s.awake = true ∧ s.glb.phase = 1 ∧ s.glb.clocksOk = false ∧ s.glb.pllRetry = false := by
  decide +kernel +zetaReduce
theorem witness_BringUpGoesStepByStep_5 :
    let s : State := (inPhase 1).modGlb fun g => { g with pllRetry := true }
    s.awake = true ∧ s.glb.phase = 1 ∧ s.glb.clocksOk = false ∧ s.glb.pllRetry = true := by
  decide +kernel +zetaReduce
theorem witness_BringUpGoesStepByStep_6 :
    let s : State := inPhase 1
    s.awake = true ∧ s.glb.phase = 1 ∧ s.glb.clocksOk = false := by
  decide +kernel +zetaReduce
theorem witness_BringUpGoesStepByStep_7 :
    let s : State := inPhase 2
    s.awake = true ∧ s.glb.phase = 2 ∧ s.nsf.retained = none := by
  decide +kernel +zetaReduce
theorem witness_BringUpGoesStepByStep_8 :
    let s : State := inPhase 2
    let line := 131071
    s.awake = true ∧ s.glb.phase = 2 ∧ s.nsf.retained = none ∧ line < 131072 := by
  decide +kernel +zetaReduce
theorem witness_BringUpGoesStepByStep_9 :
    let s : State := inPhase 2
    let lines : List Nat := [0,1,2,3,4,5,6,7,131071]
    s.awake = true ∧ s.glb.phase = 2 ∧ s.nsf.retained = none ∧ lines.Nodup ∧ ((∀ x ∈ lines, x < 131072)) ∧
      9 ≤ lines.length := by
  decide +kernel +zetaReduce
theorem witness_BringUpGoesStepByStep_10 :
    let f : FlashView := flash
    let s : State := inPhase 3
    let first := if s.glb.bootSlot then f.b else f.a
    s.awake = true ∧ s.glb.phase = 3 ∧ s.nsf.retained = none ∧ s.imageFail f.sfdpOk first = 0 := by
  decide +kernel +zetaReduce
theorem witness_BringUpGoesStepByStep_11 :
    let f : FlashView := ⟨true, badImg, badImg⟩
    let s : State := inPhase 3
    let first := if s.glb.bootSlot then f.b else f.a
    let second := if s.glb.bootSlot then f.a else f.b
    s.awake = true ∧ s.glb.phase = 3 ∧ s.nsf.retained = none ∧ s.imageFail f.sfdpOk first ≠ 0 ∧
      s.imageFail f.sfdpOk first ≠ 1 ∧ s.imageFail f.sfdpOk second ≠ 0 := by
  decide +kernel +zetaReduce

/-! Witnesses of FirmwareIsStagedCommittedAndSwapped. -/
theorem witness_FirmwareIsStagedCommittedAndSwapped_0 :
    let a : CmdArgs := mcmd 256 0 (List.replicate 256 1)
    let s : State := up
    (s.anyEntry (fun e => e.wait == .swap) = false) ∧ s.takes opFwStage a = true := by
  decide +kernel +zetaReduce
theorem witness_FirmwareIsStagedCommittedAndSwapped_1 :
    let a : CmdArgs := cmd 0 0
    let s : State := up
    (s.anyEntry (fun e => e.wait == .swap) = false) ∧ s.takes opFwCommit a = true ∧ s.fw.staged = false := by
  decide +kernel +zetaReduce
theorem witness_FirmwareIsStagedCommittedAndSwapped_2 :
    let a : CmdArgs := mcmd 0 0
    let s : State := { up with fw := { staged := true, sfdpOk := true } }
    (s.anyEntry (fun e => e.wait == .swap) = false) ∧ s.takes opFwCommit a = true ∧ s.fw.staged = true := by
  decide +kernel +zetaReduce
theorem witness_FirmwareIsStagedCommittedAndSwapped_3 :
    let a : CmdArgs := cmd 0 0
    let s : State := { up with fw := { committed := true, slotB := some img, format := 1 } }
    let i := img
    (s.anyEntry (fun e => e.wait == .swap) = false) ∧ s.takes opFwSwap a = true ∧ s.fw.committed = true ∧
      s.otherImage = some i ∧ s.formatOk i = true := by
  decide +kernel +zetaReduce
theorem witness_FirmwareIsStagedCommittedAndSwapped_4 :
    let s : State := swapping
    let i := ({ img with version := 9 } : ImageInfo)
    s.teller.run = .swapping ∧ s.otherImage = some i := by
  decide +kernel +zetaReduce
theorem witness_FirmwareIsStagedCommittedAndSwapped_5 :
    let s : State := swapping
    s.teller.run = .swapping := by
  decide +kernel +zetaReduce
theorem witness_FirmwareIsStagedCommittedAndSwapped_6 :
    let s : State := up.modTeller fun t => { t with restarts := [0] }
    let recent := s.teller.restarts.filter fun x => decide (s.glb.clock < x + 80000)
    s.teller.run = .running ∧ s.hubSide = true ∧ recent.length < 2 := by
  decide +kernel +zetaReduce
theorem witness_FirmwareIsStagedCommittedAndSwapped_7 :
    let s : State := up.modTeller fun t => { t with restarts := [0, 0] }
    let recent := s.teller.restarts.filter fun x => decide (s.glb.clock < x + 80000)
    s.teller.run = .running ∧ s.hubSide = true ∧ 2 ≤ recent.length ∧ s.otherImage = none := by
  decide +kernel +zetaReduce
theorem witness_FirmwareIsStagedCommittedAndSwapped_8 :
    let s : State := up.modTeller fun t => { t with run := .restarting, heldEvents := [] }
    s.teller.run = .restarting ∧ (∀ c ∈ s.ldg.chk, s.ldg.payloadLines ≤ c.1) := by
  decide +kernel +zetaReduce
theorem witness_FirmwareIsStagedCommittedAndSwapped_0b :
    let a : CmdArgs := cmd 4096 0 (List.replicate 4096 1)
    let s : State := up
    (s.anyEntry (fun e => e.wait == .swap) = false) ∧ s.takes opFwStage a = true := by
  decide +kernel +zetaReduce
theorem witness_FirmwareIsStagedCommittedAndSwapped_3b :
    let a : CmdArgs := cmd 0 0
    let s : State := up
    (s.anyEntry (fun e => e.wait == .swap) = false) ∧ s.takes opFwSwap a = true ∧ s.fw.committed = false := by
  decide +kernel +zetaReduce
theorem witness_FirmwareIsStagedCommittedAndSwapped_9 :
    let a : CmdArgs := cmd 0 0 (List.replicate 4096 0)
    let h : SlotId := 0
    let s : State := swapping
    s.teller.run = .swapping ∧ a.caller = .slot h ∧ s.pathOpen h = true ∧
      s.slots[h.val].room a.params.length = true ∧ a.tag.toNat ≤ 511 ∧ s.slots[h.val].tagInFlight a.tag = false ∧
      syntaxCheck (some opFwStage) a = none := by
  decide +kernel +zetaReduce
theorem witness_FirmwareIsStagedCommittedAndSwapped_10 :
    let a : CmdArgs := cmd 0 0
    let h : SlotId := 0
    let s : State := swapping
    s.teller.run = .swapping ∧ a.caller = .slot h ∧ s.pathOpen h = true ∧
      s.slots[h.val].room a.params.length = true ∧ a.tag.toNat ≤ 511 ∧ s.slots[h.val].tagInFlight a.tag = false ∧
      syntaxCheck (some opFwCommit) a = none := by
  decide +kernel +zetaReduce
theorem witness_FirmwareIsStagedCommittedAndSwapped_11 :
    let a : CmdArgs := cmd 0 0
    let h : SlotId := 0
    let s : State := swapping
    s.teller.run = .swapping ∧ a.caller = .slot h ∧ s.pathOpen h = true ∧
      s.slots[h.val].room a.params.length = true ∧ a.tag.toNat ≤ 511 ∧ s.slots[h.val].tagInFlight a.tag = false ∧
      syntaxCheck (some opFwSwap) a = none := by
  decide +kernel +zetaReduce
theorem witness_FirmwareIsStagedCommittedAndSwapped_7b :
    let s : State := { up.modTeller (fun t => { t with restarts := [0, 0] }) with fw := { sfdpOk := true, slotB := some img, slotA := some img, format := 1, version := 7 } }
    let recent := s.teller.restarts.filter fun x => decide (s.glb.clock < x + 80000)
    let i := img
    s.teller.run = .running ∧ s.hubSide = true ∧ 2 ≤ recent.length ∧ s.otherImage = some i ∧
      s.imageFail s.fw.sfdpOk i = 0 ∧ s.teller.lastFault = none := by
  decide +kernel +zetaReduce
theorem witness_FirmwareIsStagedCommittedAndSwapped_4b :
    let h : SlotId := 0
    let e : TillEntry := { mkEntry 0xD2 (cmd 0 0) 0 with point := .effected, wait := .swap }
    let i : ImageInfo := { img with version := 9 }
    let s : State := swapping.modSlot 0 fun x => { x with till := [{ mkEntry 0xD2 (cmd 0 0) 0 with point := .effected, wait := .swap }] }
    s.teller.run = .swapping ∧ s.otherImage = some i ∧ e ∈ s.slots[h.val].till ∧ e.wait = .swap := by
  decide +kernel +zetaReduce
theorem witness_FirmwareIsStagedCommittedAndSwapped_6b :
    let h : SlotId := 0
    let e : TillEntry := waiting 0 6
    let s : State := withTill [waiting 0 6]
    let recent := s.teller.restarts.filter fun x => decide (s.glb.clock < x + 80000)
    s.teller.run = .running ∧ s.hubSide = true ∧ recent.length < 2 ∧ e ∈ s.slots[h.val].till := by
  decide +kernel +zetaReduce

/-! Witnesses of VaultCommandsProgramBlankRows. -/
theorem witness_VaultCommandsProgramBlankRows_0 :
    let a : CmdArgs := cmd 0x18 0 [1,0,0,0]
    let s : State := floorSet
    let r := a.arg0.toNat
    let v := toWord (ofLe a.params)
    s.takes opOtpWrite a = true ∧ 0x18 ≤ r ∧ r < 0x20 ∧ v.toNat ≤ s.floor := by
  decide +kernel +zetaReduce
theorem witness_VaultCommandsProgramBlankRows_1 :
    let a : CmdArgs := mcmd 0x10 0 [1,0,0,0]
    let s : State := lockedOnce
    let r := a.arg0.toNat
    let v := toWord (ofLe a.params)
    s.takes opOtpWrite a = true ∧ ¬(0x18 ≤ r ∧ r < 0x20 ∧ v.toNat ≤ s.floor) ∧
      (s.vaultProgrammed r = true ∨ otpClosed s.lockLevel r = true) := by
  decide +kernel +zetaReduce
theorem witness_VaultCommandsProgramBlankRows_2 :
    let a : CmdArgs := mcmd 0x7F 0 [1,0,0,0]
    let s : State := up.modNsf fun n => { n with presence := 9 }
    let r := a.arg0.toNat
    let v := toWord (ofLe a.params)
    s.takes opOtpWrite a = true ∧ ¬(0x18 ≤ r ∧ r < 0x20 ∧ v.toNat ≤ s.floor) ∧ s.vaultProgrammed r = false ∧
      otpClosed s.lockLevel r = false := by
  decide +kernel +zetaReduce
theorem witness_VaultCommandsProgramBlankRows_3 :
    let a : CmdArgs := mcmd 1 0
    let s : State := lockedTwice
    let n := a.arg0.toNat
    s.takes opVaultLock a = true ∧ n < s.lockLevel := by
  decide +kernel +zetaReduce
theorem witness_VaultCommandsProgramBlankRows_4 :
    let a : CmdArgs := mcmd 1 0
    let s : State := lockedOnce
    let n := a.arg0.toNat
    s.takes opVaultLock a = true ∧ n = s.lockLevel := by
  decide +kernel +zetaReduce
theorem witness_VaultCommandsProgramBlankRows_5 :
    let a : CmdArgs := mcmd 3 0
    let s : State := up.modNsf fun n => { n with presence := 9 }
    let n := a.arg0.toNat
    s.takes opVaultLock a = true ∧ s.lockLevel < n ∧ s.keyPartial = false := by
  decide +kernel +zetaReduce

/-! Witnesses of PresenceAndSealFollowTheirPins. -/
theorem witness_PresenceAndSealFollowTheirPins_0 :
    let s : State := up.modNsf fun n => { n with keyArmed := true, tamper := true }
    s.nsf.running = true ∧ s.nsf.keyArmed = true := by
  decide +kernel +zetaReduce
theorem witness_PresenceAndSealFollowTheirPins_1 :
    let s : State := up
    s.nsf.running = true ∧ s.nsf.keyArmed = false := by
  decide +kernel +zetaReduce
theorem witness_PresenceAndSealFollowTheirPins_2 :
    let s : State := up
    s.nsf.running = true := by
  decide +kernel +zetaReduce
theorem witness_PresenceAndSealFollowTheirPins_3 :
    let s : State := up.modNsf fun n => { n with presence := 1 }
    s.nsf.running = true ∧ s.nsf.presence ≠ 0 := by
  decide +kernel +zetaReduce
theorem witness_PresenceAndSealFollowTheirPins_4 :
    let s : State := up
    s.nsf.running = true ∧ s.nsf.sealOpen = false := by
  decide +kernel +zetaReduce
theorem witness_PresenceAndSealFollowTheirPins_5 :
    let s : State := up.modNsf fun n => { n with sealOpen := true }
    s.nsf.running = true ∧ s.nsf.sealOpen = true ∧ s.nsf.sealCount = 0 := by
  decide +kernel +zetaReduce
theorem witness_PresenceAndSealFollowTheirPins_6 :
    let s : State := up.modNsf fun n => { n with sealOpen := true, sealCount := 1, tamper := true }
    s.nsf.running = true ∧ s.nsf.sealOpen = true ∧ s.nsf.sealCount = 1 := by
  decide +kernel +zetaReduce
theorem witness_PresenceAndSealFollowTheirPins_7 :
    let s : State := up.modNsf (fun n => { n with sealCount := 1 })
    s.nsf.running = true ∧ s.nsf.sealOpen = false ∧ s.nsf.sealCount = 1 := by
  decide +kernel +zetaReduce

/-! Witnesses of AdcRulesAndBoardTemperature. -/
theorem witness_AdcRulesAndBoardTemperature_0 :
    let s : State := up
    s.nsf.running = true ∧ s.nsf.nextInput = none := by
  decide +kernel +zetaReduce
theorem witness_AdcRulesAndBoardTemperature_1 :
    let x : BitVec 12 := 0xFFF
    let s : State := up.modNsf (fun n => { n with ain := vmod n.ain 3 fun x => { x with cfg := 0x8400012B }, lastIn := 2, rules := vmod n.rules 5 fun r => { r with cfg := 0x83000010, act := 0x114 } })
    let i : Fin 16 := 3
    s.nsf.running = true ∧ s.nsf.nextInput = some i := by
  decide +kernel +zetaReduce
theorem witness_AdcRulesAndBoardTemperature_1b :
    let x : BitVec 12 := 0xFFF
    let s : State := up.modNsf (fun n => { n with ain := vmod n.ain 3 fun x => { x with cfg := 0x8400012B, primed := true }, lastIn := 2, rules := vmod n.rules 5 fun r => { r with cfg := 0x83000010, act := 0x114 } })
    let i : Fin 16 := 3
    s.nsf.running = true ∧ s.nsf.nextInput = some i := by
  decide +kernel +zetaReduce
theorem witness_AdcRulesAndBoardTemperature_2 :
    let s : State := up
    s.awake = true ∧ s.nsf.boardInput = none := by
  decide +kernel +zetaReduce

/-! Witnesses of NightsafeTicksAndWakes. -/
theorem witness_NightsafeTicksAndWakes_0 :
    let s : State := up.modNsf fun n => { n with rtcSub := 32767, presence := 2 }
    s.nsf.running = true ∧ s.glb.parityBad = [] ∧ s.nsf.entering = none ∧ s.nsf.posted = [] := by
  decide +kernel +zetaReduce
theorem witness_NightsafeTicksAndWakes_1 :
    let s : State := up.modNsf (fun n => { n with posted := [{ addr := 0xA0020, val := 5, ticks := 1 }] })
    let v := (5 : Word)
    s.nsf.running = true ∧ s.glb.parityBad = [] ∧ s.nsf.entering = none ∧
      s.nsf.posted = [{ addr := 0xA0020, val := v, ticks := 1 }] := by
  decide +kernel +zetaReduce
theorem witness_NightsafeTicksAndWakes_2 :
    let p : BitVec 8 := 0
    let level : BitVec 2 := 3
    let s : State := up.modNsf fun n => { n with sleepReq := some 3 }
    s.nsf.sleepReq = some level ∧ p &&& s.nsf.wakeEn = 0 := by
  decide +kernel +zetaReduce
theorem witness_NightsafeTicksAndWakes_3 :
    let p : BitVec 8 := 0x81
    let level : BitVec 2 := 2
    let s : State := up.modNsf fun n => { n with sleepReq := some 2 }
    s.nsf.sleepReq = some level ∧ p &&& s.nsf.wakeEn ≠ 0 := by
  decide +kernel +zetaReduce
theorem witness_NightsafeTicksAndWakes_4 :
    let w : WakeCode := .cabKey
    let d : Byte := 0
    let s : State := up.modNsf (fun n => { n with asleep := some 3 })
    let level := (3 : BitVec 2)
    s.nsf.running = true ∧ testBit s.nsf.wakeEn (wakeNum w - 1) = true ∧ s.wakeOccurs w d = true ∧
      s.nsf.asleep = some level := by
  decide +kernel +zetaReduce
theorem witness_NightsafeTicksAndWakes_5 :
    let w : WakeCode := .mgmt
    let d : Byte := 0
    let s : State := up.modNsf fun n => { n with entering := some 2 }
    s.nsf.running = true ∧ testBit s.nsf.wakeEn (wakeNum w - 1) = true ∧ s.wakeOccurs w d = true ∧
      s.nsf.asleep = none ∧ s.nsf.entering.isSome = true := by
  decide +kernel +zetaReduce
theorem witness_NightsafeTicksAndWakes_6 :
    let w : WakeCode := .rtc
    let d : Byte := 0
    let level : BitVec 2 := 2
    let s : State := up.modNsf fun n => { n with asleep := some 2, latched := [(.rtc, 0)] }
    s.nsf.asleep = some level ∧ s.nsf.latched = [(w, d)] := by
  decide +kernel +zetaReduce
theorem witness_NightsafeTicksAndWakes_4b :
    let w : WakeCode := .cabKey
    let d : Byte := 0
    let v : WakeCode := .rtc
    let x : Byte := 0
    let level : BitVec 2 := 2
    let l := [(WakeCode.rtc, (0 : Byte)), (.cabKey, 0)]
    let s : State := up.modNsf fun n => { n with asleep := some 2, alarm := 5, rtcSec := 5 }
    s.nsf.running = true ∧ testBit s.nsf.wakeEn (wakeNum w - 1) = true ∧ s.wakeOccurs w d = true ∧
      s.nsf.asleep = some level ∧ testBit s.nsf.wakeEn (wakeNum v - 1) = true ∧ s.wakeOccurs v x = true ∧
      wakeNum w < wakeNum v ∧ (l = [(w, d), (v, x)] ∨ l = [(v, x), (w, d)]) := by
  decide +kernel +zetaReduce
theorem witness_NightsafeTicksAndWakes_7 :
    let x : MgmtXact := ⟨up.mgmtAddress, [], true, [], 0⟩
    let level : BitVec 2 := 3
    let s : State := (up.modNsf fun n => { n with asleep := some 3 }).modGlb fun g => { g with core := .inReset }
    s.nsf.running = true ∧ s.awake = false ∧ s.nsf.asleep = some level ∧ testBit s.nsf.wakeEn 0 = true ∧
      x.dev = s.mgmtAddress := by
  decide +kernel +zetaReduce

/-! Witnesses of SleepAndDomainsDrainFirst. -/
theorem witness_SleepAndDomainsDrainFirst_0 :
    let a : CmdArgs := mcmd 1 0
    let s : State := up
    s.takes opSleep a = true ∧ a.arg0 = 1 ∧ s.glb.core = .s0 := by
  decide +kernel +zetaReduce
theorem witness_SleepAndDomainsDrainFirst_1 :
    let a : CmdArgs := cmd 3 0
    let s : State := up
    s.takes opSleep a = true ∧ a.arg0 ≠ 1 ∧ s.sleepBusy = false := by
  decide +kernel +zetaReduce
theorem witness_SleepAndDomainsDrainFirst_2 :
    let a : CmdArgs := mcmd 2 0
    let s : State := up.modGlb fun g => { g with drain := .domain 3 }
    s.takes opSleep a = true ∧ a.arg0 ≠ 1 ∧ s.sleepBusy = true := by
  decide +kernel +zetaReduce
theorem witness_SleepAndDomainsDrainFirst_3 :
    let a : CmdArgs := cmd 14 1
    let s : State := up
    let d := a.arg0.toNat
    s.takes opPwrDomain a = true ∧ s.domainOn d = testBit a.arg1 0 := by
  decide +kernel +zetaReduce
theorem witness_SleepAndDomainsDrainFirst_4 :
    let a : CmdArgs := cmd 11 1
    let s : State := up.modGlb fun g => { g with portGrpOn := 0x1F }
    let d := a.arg0.toNat
    s.takes opPwrDomain a = true ∧ s.domainOn d = false ∧ testBit a.arg1 0 = true ∧ 6 ≤ d := by
  decide +kernel +zetaReduce
theorem witness_SleepAndDomainsDrainFirst_5 :
    let a : CmdArgs := mcmd 2 0
    let s : State := up
    let d := a.arg0.toNat
    s.takes opPwrDomain a = true ∧ s.domainOn d = true ∧ testBit a.arg1 0 = false ∧
      ((callerSlot a.caller).map (fun h => h.val + 2) ≠ some d) ∧ s.glb.drain = .none := by
  decide +kernel +zetaReduce
theorem witness_SleepAndDomainsDrainFirst_6 :
    let a : CmdArgs := cmd 2 0
    let s : State := up
    let d := a.arg0.toNat
    s.takes opPwrDomain a = true ∧ s.domainOn d = true ∧ testBit a.arg1 0 = false ∧
      ((callerSlot a.caller).map (fun h => h.val + 2) = some d) := by
  decide +kernel +zetaReduce
theorem witness_SleepAndDomainsDrainFirst_7 :
    let s : State := up.modGlb (fun g => { g with drain := .domain 11 })
    let d := 11
    s.draining = [] ∧ s.glb.drain = .domain d ∧ 2 ≤ d := by
  decide +kernel +zetaReduce
theorem witness_SleepAndDomainsDrainFirst_8 :
    let s : State := up.modGlb fun g => { g with drain := .sleep }
    s.draining = [] ∧ s.glb.drain = .sleep := by
  decide +kernel +zetaReduce
theorem witness_SleepAndDomainsDrainFirst_9 :
    let s : State := up.modGlb fun g => { g with drain := .sleep }
    s.glb.drain ≠ .none := by
  decide +kernel +zetaReduce
theorem witness_SleepAndDomainsDrainFirst_4b :
    let a : CmdArgs := cmd 3 1
    let h : SlotId := 1
    let s : State := up.modSlot 1 fun x => { x with domainOn := false, vbus := true, ssPll := true }
    let d := a.arg0.toNat
    s.takes opPwrDomain a = true ∧ s.domainOn d = false ∧ testBit a.arg1 0 = true ∧ h.val + 2 = d ∧
      s.slots[h.val].presented = false ∧ s.slots[h.val].vbus = true ∧ s.nsf.entryOff = false ∧ s.hubSide = true ∧
      s.glb.phase ≠ 0xE := by
  decide +kernel +zetaReduce
theorem witness_SleepAndDomainsDrainFirst_4c :
    let a : CmdArgs := cmd 3 1
    let h : SlotId := 1
    let s : State := up.modSlot 1 fun x => { x with domainOn := false }
    let d := a.arg0.toNat
    s.takes opPwrDomain a = true ∧ s.domainOn d = false ∧ testBit a.arg1 0 = true ∧ h.val + 2 = d ∧
      s.slots[h.val].presented = false ∧ s.slots[h.val].vbus = false := by
  decide +kernel +zetaReduce

/-! Witnesses of LedgerCommandsReadWriteAndRepair. -/
theorem witness_LedgerCommandsReadWriteAndRepair_0 :
    let a : CmdArgs := cmd 0x300000 64
    let s : State := testing.modLdg fun g => { g with written := [0xC000], mem := [(0x300000, 9)] }
    let addr := a.arg0.toNat
    let len := a.arg1.toNat
    s.ldg.Ok ∧ s.takes opLdgRd a = true ∧ addr % 8 = 0 ∧ len % 8 = 0 ∧ 0x300000 ≤ addr ∧ addr + len ≤ 0x400000 ∧
      ((∀ line, addr / 64 ≤ line → 64 * line < addr + len → s.ldg.isWritten line = true ∧ s.ldg.diff line = 0 ∧
      ∀ e ∈ s.ldg.inlay, e.line = line → e.agree = true)) := by
  intro a s addr len
  refine ⟨okOf _ (by decide +kernel +zetaReduce), by decide +kernel +zetaReduce, by decide, by decide, by decide, by decide,
    fun line h1 h2 => ?_⟩
  obtain rfl : line = 0xC000 := by
    have e1 : addr / 64 = 0xC000 := by decide +kernel +zetaReduce
    have e2 : addr + len = 0x300040 := by decide +kernel +zetaReduce
    omega
  exact ⟨by decide +kernel +zetaReduce, by decide +kernel +zetaReduce, fun e he => by cases he⟩
theorem witness_LedgerCommandsReadWriteAndRepair_1 :
    let a : CmdArgs := cmd 0x3FFFC0 64
    let s : State := up
    let addr := a.arg0.toNat
    let len := a.arg1.toNat
    s.ldg.Ok ∧ s.takes opLdgRd a = true ∧ addr % 64 = 0 ∧ len = 64 ∧ 0x300000 ≤ addr ∧ addr + len ≤ 0x400000 ∧
      s.ldg.isWritten (addr / 64) = false := by
  intros
  and_intros <;> first | exact okOf _ (by decide +kernel +zetaReduce) | decide +kernel +zetaReduce | rfl
theorem witness_LedgerCommandsReadWriteAndRepair_2 :
    let a : CmdArgs := cmd 0x300004 8
    let s : State := up
    let addr := a.arg0.toNat
    let len := a.arg1.toNat
    s.ldg.Ok ∧ s.takes opLdgRd a = true ∧ (addr % 8 ≠ 0 ∨ len % 8 ≠ 0) := by
  intros
  and_intros <;> first | exact okOf _ (by decide +kernel +zetaReduce) | decide +kernel +zetaReduce | rfl
theorem witness_LedgerCommandsReadWriteAndRepair_3 :
    let a : CmdArgs := cmd 0x3FFFF8 0 [1,2,3,4,5,6,7,8]
    let s : State := up
    let addr := a.arg0.toNat
    let len := a.params.length
    s.ldg.Ok ∧ s.takes opLdgWr a = true ∧ addr % 8 = 0 ∧ len % 8 = 0 := by
  intros
  and_intros <;> first | exact okOf _ (by decide +kernel +zetaReduce) | decide +kernel +zetaReduce | rfl
theorem witness_LedgerCommandsReadWriteAndRepair_4 :
    let a : CmdArgs := cmd 0x300000 0 [1,2,3,4,5,6,7,8,9]
    let s : State := up
    let addr := a.arg0.toNat
    let len := a.params.length
    s.ldg.Ok ∧ s.takes opLdgWr a = true ∧ (addr % 8 ≠ 0 ∨ len % 8 ≠ 0) := by
  intros
  and_intros <;> first | exact okOf _ (by decide +kernel +zetaReduce) | decide +kernel +zetaReduce | rfl
theorem witness_LedgerCommandsReadWriteAndRepair_5 :
    let a : CmdArgs := cmd 4096 0
    let s : State := up
    s.takes opPlaneCfg a = true := by
  decide +kernel +zetaReduce
theorem witness_LedgerCommandsReadWriteAndRepair_6 :
    let a : CmdArgs := cmd 0 0
    let s : State := up
    s.takes opInlayQuery a = true := by
  decide +kernel +zetaReduce
theorem witness_LedgerCommandsReadWriteAndRepair_7 :
    let s : State := up.modLdg fun g => { g with visit := 131071 }
    let k := s.ldg.visit.toNat
    s.hubSide = true ∧ s.ldg.queue = [] ∧ s.ldg.diff (0x4000 * (k % 8) + k / 8) = 0 ∧
      s.ldg.suspect.contains (0x4000 * (k % 8) + k / 8) = false ∧
      (∀ e ∈ s.ldg.inlay, e.agree = true) := by
  decide +kernel +zetaReduce
theorem witness_LedgerCommandsReadWriteAndRepair_8 :
    let s : State := up.modLdg (fun g => { g with queue := [0x4C00], written := [0x4C00, 0x14C00], chk := [(0x4C00, 1)] })
    let line := 0x4C00
    let rest := ([] : List Nat)
    s.hubSide = true ∧ s.ldg.Ok ∧ s.ldg.queue = line :: rest ∧ classOf line = .mirror ∧ s.ldg.isWritten line = true ∧
      s.ldg.diff line ≠ 0 ∧ s.ldg.isWritten (twinOf line) = true ∧ s.ldg.diff (twinOf line) = 0 ∧
      ((∀ e ∈ s.ldg.inlay, e.line ≠ line)) ∧ s.ldg.flip = 0 ∧ s.ldg.badLines.contains line = false := by
  intros
  and_intros <;> first | exact okOf _ (by decide +kernel +zetaReduce) | decide +kernel +zetaReduce | rfl

/-! Witnesses of TallyFollowsCommandsAndPins. -/
theorem witness_TallyFollowsCommandsAndPins_0 :
    let a : CmdArgs := cmd 0 0 (List.replicate 8 0)
    let s : State := follower
    s.takes opTlySet a = true ∧ s.tally.req = .locked ∧ s.followsDvt = true := by
  decide +kernel +zetaReduce
theorem witness_TallyFollowsCommandsAndPins_1 :
    let a : CmdArgs := cmd 0 0 (List.replicate 8 1)
    let s : State := ticking
    s.takes opTlySet a = true ∧ ¬(s.tally.req = .locked ∧ s.followsDvt = true) := by
  decide +kernel +zetaReduce
theorem witness_TallyFollowsCommandsAndPins_2 :
    let a : CmdArgs := cmd 2 0
    let s : State := ticking
    s.takes opTlyMode a = true := by
  decide +kernel +zetaReduce
theorem witness_TallyFollowsCommandsAndPins_3 :
    let a : CmdArgs := mcmd 0 0
    let s : State := ticking
    s.takes opTlyQuery a = true := by
  decide +kernel +zetaReduce
theorem witness_TallyFollowsCommandsAndPins_4 :
    let rising : Bool := true
    let ts : Dword := 5
    let w := 50
    let s : State := ticking.modTally fun t => { t with msiSnap := 0x80020000, mode := .locked, req := .slew }
    let locked := s.tally.mode = .locked ∧ s.tally.req = .locked
    s.tally.running = true ∧ s.followsMsync = true ∧ rising ≠ testBit s.tally.msiSnap 30 ∧ 50 ≤ w ∧ ¬locked := by
  decide +kernel +zetaReduce
theorem witness_TallyFollowsCommandsAndPins_5 :
    let rising : Bool := true
    let ts : Dword := 256000
    let w := 50
    let s : State := locked
    let d := (ts - s.tally.sofTime).toInt - 256 * (msOffset s.tally.msiSnap : Int)
    let e := reduceBy mfUnits d
    let locked := s.tally.mode = .locked ∧ s.tally.req = .locked
    let due := s.tally.edgeDue ((s.glb.clock : Int) + (d - e) / mfUnits)
    s.tally.running = true ∧ s.followsMsync = true ∧ rising ≠ testBit s.tally.msiSnap 30 ∧ 50 ≤ w ∧ locked ∧
      -256000 ≤ e ∧ e ≤ 256000 ∧ due = true := by
  decide +kernel +zetaReduce
theorem witness_TallyFollowsCommandsAndPins_6 :
    let rising : Bool := true
    let ts : Dword := 256001
    let w := 51
    let s : State := Tests.locked.modTally fun t => { t with bad := 3 }
    let d := (ts - s.tally.sofTime).toInt - 256 * (msOffset s.tally.msiSnap : Int)
    let e := reduceBy mfUnits d
    let locked := s.tally.mode = .locked ∧ s.tally.req = .locked
    let due := s.tally.edgeDue ((s.glb.clock : Int) + (d - e) / mfUnits)
    s.tally.running = true ∧ s.followsMsync = true ∧ rising ≠ testBit s.tally.msiSnap 30 ∧ 50 ≤ w ∧ locked ∧
      (e < -256000 ∨ 256000 < e) ∧ due = true := by
  decide +kernel +zetaReduce
theorem witness_TallyFollowsCommandsAndPins_6b :
    let rising : Bool := true
    let ts : Dword := 256001
    let w := 51
    let s : State := Tests.locked.modTally fun t => { t with bad := 2 }
    let d := (ts - s.tally.sofTime).toInt - 256 * (msOffset s.tally.msiSnap : Int)
    let e := reduceBy mfUnits d
    let locked := s.tally.mode = .locked ∧ s.tally.req = .locked
    let due := s.tally.edgeDue ((s.glb.clock : Int) + (d - e) / mfUnits)
    s.tally.running = true ∧ s.followsMsync = true ∧ rising ≠ testBit s.tally.msiSnap 30 ∧ 50 ≤ w ∧ locked ∧
      (e < -256000 ∨ 256000 < e) ∧ due = true := by
  decide +kernel +zetaReduce
theorem witness_TallyFollowsCommandsAndPins_7 :
    let s : State := locked
    s.tally.running = true ∧ s.followsMsync = true ∧ s.tally.msiFirst.isSome = true ∧ s.tally.missing.toNat ≠ 3 := by
  decide +kernel +zetaReduce
theorem witness_TallyFollowsCommandsAndPins_8 :
    let s : State := locked.modTally fun t => { t with missing := 3 }
    s.tally.running = true ∧ s.followsMsync = true ∧ s.tally.msiFirst.isSome = true ∧ s.tally.missing.toNat = 3 := by
  decide +kernel +zetaReduce
theorem witness_TallyFollowsCommandsAndPins_8b :
    let s : State := locked.modTally fun t => { t with missing := 3, everLocked := false }
    s.tally.running = true ∧ s.followsMsync = true ∧ s.tally.msiFirst.isSome = true ∧ s.tally.missing.toNat = 3 := by
  decide +kernel +zetaReduce
theorem witness_TallyFollowsCommandsAndPins_9 :
    let s : State := ticking.modTally fun t => { t with msoSnap := 0xA0000005 }
    s.tally.running = true ∧ testBit s.tally.msoSnap 31 = true ∧ s.tally.n.toNat % msPeriod s.tally.msoSnap = 0 := by
  decide +kernel +zetaReduce
theorem witness_TallyFollowsCommandsAndPins_4b :
    let rising : Bool := true
    let ts : Dword := 5
    let w := 49
    let s : State := locked
    w < 50 := by
  decide +kernel +zetaReduce
theorem witness_TallyFollowsCommandsAndPins_6c :
    let rising : Bool := true
    let ts : Dword := 0x2000000
    let w := 50
    let s : State := Tests.locked.modTally fun t => { t with msiSnap := 0x80040000 }
    let d := (ts - s.tally.sofTime).toInt - 256 * (msOffset s.tally.msiSnap : Int)
    let e := reduceBy mfUnits d
    let locked := s.tally.mode = .locked ∧ s.tally.req = .locked
    let due := s.tally.edgeDue ((s.glb.clock : Int) + (d - e) / mfUnits)
    s.tally.running = true ∧ s.followsMsync = true ∧ rising ≠ testBit s.tally.msiSnap 30 ∧ 50 ≤ w ∧ locked ∧
      due = false := by
  decide +kernel +zetaReduce

/-! Witnesses of DovetailFramesTrainTimeAndHold. -/
theorem witness_DovetailFramesTrainTimeAndHold_0 :
    let s : State := ringed.modDvt (fun d => { d with bypass := true })
    s.dvtRuns = true ∧ s.dvt.bypass = true := by
  decide +kernel +zetaReduce
theorem witness_DovetailFramesTrainTimeAndHold_1 :
    let s : State := ringed
    let f : DoveFrame := ⟨[2, 0, 0, 0, 0], false, 0, false⟩
    s.dvtRuns = true ∧ s.dvt.bypass = false ∧ (f.broken = true ∨ crc16Ok 3 f.bytes = false) := by
  decide +kernel +zetaReduce
theorem witness_DovetailFramesTrainTimeAndHold_2 :
    let s : State := ringed
    let o : BitVec 7 := 0x38
    s.dvtRuns = true ∧ s.dvt.bypass = false ∧ o ≠ s.mgmtAddress := by
  decide +kernel +zetaReduce
theorem witness_DovetailFramesTrainTimeAndHold_3 :
    let s : State := ringed.modDvt (fun d => { d with heard := [(0x3A, 0), (0x39, 1)], rounds := 15, candidate := (3, 2) })
    let hop : Byte := 2
    let size := hop.toNat + 1
    let pos := positionOf s.mgmtAddress s.dvt.heard
    s.dvtRuns = true ∧ s.dvt.bypass = false ∧ s.dvt.trained = false ∧ s.dvt.conflict = false ∧
      s.dvt.heard.length + 1 = size ∧ s.dvt.candidate = (size, pos) ∧ s.dvt.rounds = 15 ∧ size ≤ 3 ∧ pos < 3 := by
  decide +kernel +zetaReduce
theorem witness_DovetailFramesTrainTimeAndHold_4 :
    let s : State := ringed
    s.dvtRuns = true ∧ s.glb.phase = 5 ∧ s.dvt.trained = false := by
  decide +kernel +zetaReduce
theorem witness_DovetailFramesTrainTimeAndHold_5 :
    let s : State := follower
    s.dvtRuns = true ∧ s.tally.running = true ∧ s.dvt.trained = true := by
  decide +kernel +zetaReduce
theorem witness_DovetailFramesTrainTimeAndHold_6 :
    let s : State := follower
    s.dvtRuns = true ∧ s.dvt.bypass = false ∧ s.dvt.trained = true ∧ s.followsDvt = true ∧ s.tally.running = true := by
  decide +kernel +zetaReduce
theorem witness_DovetailFramesTrainTimeAndHold_6b :
    let s : State := follower
    s.dvtRuns = true ∧ s.dvt.bypass = false ∧ s.dvt.trained = true ∧ s.followsDvt = true ∧ s.tally.running = true := by
  decide +kernel +zetaReduce
theorem witness_DovetailFramesTrainTimeAndHold_7 :
    let s : State := follower
    let o : BitVec 2 := 0
    let cause : Nat := 63
    let q : Byte := 5
    s.dvtRuns = true ∧ s.dvt.bypass = false ∧ s.dvt.trained = true ∧ cause < 64 ∧ o ≠ s.dvt.chainPos ∧
      ((∀ y ∈ s.dvt.seen, y.1 = o → y.2.1 = q → y.2.2 + 8 ≤ s.glb.clock)) := by
  decide +kernel +zetaReduce
theorem witness_DovetailFramesTrainTimeAndHold_7b :
    let s : State := (follower.modDvt fun d => { d with seen := [(0, 5, 0)] }).modGlb (fun g => { g with clock := 8 })
    let o : BitVec 2 := 0
    let cause : Nat := 63
    let q : Byte := 5
    s.dvtRuns = true ∧ s.dvt.bypass = false ∧ s.dvt.trained = true ∧ cause < 64 ∧ o ≠ s.dvt.chainPos ∧
      ((∀ y ∈ s.dvt.seen, y.1 = o → y.2.1 = q → y.2.2 + 8 ≤ s.glb.clock)) := by
  decide +kernel +zetaReduce
theorem witness_DovetailFramesTrainTimeAndHold_8 :
    let s : State := follower
    s.dvtRuns = true ∧ s.dvt.linkIn = true := by
  decide +kernel +zetaReduce
theorem witness_DovetailFramesTrainTimeAndHold_9 :
    let s : State := ringed.modDvt fun d => { d with linkIn := false }
    s.dvtRuns = true ∧ s.dvt.linkIn = false := by
  decide +kernel +zetaReduce
theorem witness_DovetailFramesTrainTimeAndHold_1b :
    let s : State := ringed
    let f : DoveFrame := ⟨trainFrame 0x3A 0, true, 3, false⟩
    s.dvtRuns = true ∧ s.dvt.bypass = false ∧ (f.broken = true ∨ crc16Ok 3 f.bytes = false) := by
  decide +kernel +zetaReduce
theorem witness_DovetailFramesTrainTimeAndHold_2b :
    let s : State := ringed
    s.dvtRuns = true ∧ s.dvt.bypass = false ∧ s.dvt.trained = false := by
  decide +kernel +zetaReduce
theorem witness_DovetailFramesTrainTimeAndHold_7c :
    let s : State := { follower with mint := { follower.mint with sent := true } }
    let o : BitVec 2 := 0
    let cause : Nat := 1
    let q : Byte := 5
    s.dvtRuns = true ∧ s.dvt.bypass = false ∧ s.dvt.trained = true ∧ cause < 64 ∧ o ≠ s.dvt.chainPos ∧
      (∀ y ∈ s.dvt.seen, y.1 = o → y.2.1 = q → y.2.2 + 8 ≤ s.glb.clock) ∧ s.mint.sent = true := by
  decide +kernel +zetaReduce

/-! Witnesses of MintCommandsTakeEffectAtSnapshots. -/
theorem witness_MintCommandsTakeEffectAtSnapshots_0 :
    let a : CmdArgs := cmd 5 0 chBytes
    let s : State := owned
    let c := chanArg a
    let r := chanRecOf a.params
    s.takes opMntCfg a = true ∧ ((r.enable = true → s.mode r.port = .proxy ∧ ∃ o, s.coveringOn c r.port = [o] ∧
      s.frameSize o.firstCh o.nch (some (c, r)) ≤ o.length)) ∧ s.leavesFeedback c r.port = false ∧
      s.groupBusy r.group = false ∧ ((∀ g, s.chanGroup c = some g → s.groupBusy g = false)) ∧
      ((∀ g, s.chanGroup c = some g → g ≠ r.group → s.groupHeld g = false ∧ s.groupHeld r.group = false)) := by
  intros; refine ⟨?_, fun _ => ⟨?_, mintOrder, ?_, ?_⟩, ?_, ?_, ?_, ?_⟩ <;> decide +kernel +zetaReduce
theorem witness_MintCommandsTakeEffectAtSnapshots_1 :
    let a : CmdArgs := cmd 5 0 (List.replicate 1 1 ++ List.replicate 47 0)
    let s : State := axis .idle
    let c := chanArg a
    let n := a.params.length / 48
    s.takes opMntSeg a = true ∧ s.chanEnabled c = true ∧
      ((∀ g, s.chanGroup c = some g → s.mint.groups[g.val].state ≠ .holding ∧ s.mint.groups[g.val].state ≠ .held)) ∧
      n ≤ s.queueFree c := by
  decide +kernel +zetaReduce
theorem witness_MintCommandsTakeEffectAtSnapshots_2 :
    let a : CmdArgs := cmd 4 0
    let s : State := axis .idle
    let next : Dword := s.tally.n + 1
    let ahead : Int := if a.arg1 = 0 then 0 else (a.arg1 - next.setWidth 32).toInt
    s.takes opMntStart a = true ∧ 0 ≤ ahead ∧ ahead < 8000000 ∧ ((∀ g ∈ groupsArg a, s.groupEnabled g ≠ [] ∧
      (s.mint.groups[g.val].state = .idle ∨ (s.mint.groups[g.val].state = .running ∧
      s.mint.groups[g.val].armedRun = none)))) := by
  decide +kernel +zetaReduce
theorem witness_MintCommandsTakeEffectAtSnapshots_2b :
    let a : CmdArgs := cmd 4 8000000
    let s : State := axis .running
    let next : Dword := s.tally.n + 1
    let ahead : Int := if a.arg1 = 0 then 0 else (a.arg1 - next.setWidth 32).toInt
    s.takes opMntStart a = true ∧ 0 ≤ ahead ∧ ahead < 8000000 ∧ ((∀ g ∈ groupsArg a, s.groupEnabled g ≠ [] ∧
      (s.mint.groups[g.val].state = .idle ∨ (s.mint.groups[g.val].state = .running ∧
      s.mint.groups[g.val].armedRun = none)))) := by
  decide +kernel +zetaReduce
theorem witness_MintCommandsTakeEffectAtSnapshots_3 :
    let a : CmdArgs := cmd 0xFFFF 0
    let s : State := axis .running
    s.takes opMntHold a = true ∧ testBit a.arg1 0 = false := by
  decide +kernel +zetaReduce
theorem witness_MintCommandsTakeEffectAtSnapshots_4 :
    let a : CmdArgs := cmd 4 1
    let s : State := axis .running
    s.takes opMntHold a = true ∧ testBit a.arg1 0 = true ∧ a.arg0 ≠ 0 := by
  decide +kernel +zetaReduce
theorem witness_MintCommandsTakeEffectAtSnapshots_5 :
    let a : CmdArgs := cmd 4 0
    let s : State := axis .held
    s.takes opMntRelease a = true ∧ ((∀ g ∈ groupsArg a, s.mint.groups[g.val].state ≠ .holding ∧
      (s.groupHeld g = true → ∀ k ∈ s.portsOfChans (s.groupEnabled g), s.isActive k = true))) := by
  decide +kernel +zetaReduce
theorem witness_MintCommandsTakeEffectAtSnapshots_6 :
    let a : CmdArgs := cmd 5 0
    let s : State := axis .idle
    s.takes opMntQuery a = true := by
  decide +kernel +zetaReduce
theorem witness_MintCommandsTakeEffectAtSnapshots_7 :
    let a : CmdArgs := cmd 63 0 (List.replicate 8 0)
    let s : State := axis .idle
    let u := templArg a
    let p := programOf a.params
    let old := s.mint.templates[u.val].prog
    s.takes opMntFbtemplate a = true ∧ ((∀ w, w ≠ u → ∀ c ∈ templChans (s.templAfter w), c ∉ templChans p)) ∧
      ((p = [] → s.feedbackOrder u = none)) ∧ ((∀ c ∈ templChans old, s.chanEnabled c = false)) := by
  intros
  refine ⟨by decide +kernel +zetaReduce, fun w _ c _ hc => ?_, fun _ => feedbackOrder_none _ _ (by decide +kernel +zetaReduce),
    by decide +kernel +zetaReduce⟩
  have hc : c ∈ templChans [] := hc
  simp [templChans] at hc
theorem witness_MintCommandsTakeEffectAtSnapshots_8 :
    let c : ChanId := 5
    let g : GroupId := 2
    let s : State := axis .running
    s.mint.chans[c.val].missDue = true ∧ s.chanGroup c = some g := by
  decide +kernel +zetaReduce
theorem witness_MintCommandsTakeEffectAtSnapshots_9 :
    let g : GroupId := 2
    let ns : Dword := 0
    let s : State := ({ axis .armed with mint := { (axis .armed).mint with groups := vmod (axis .armed).mint.groups 2 fun x => { x with armed := some 0 } } } : State).modTally fun t => { t with n := 800 }
    s.mint.groups[g.val].state = .armed ∧ s.mint.groups[g.val].armed = some ns ∧ 800 ≤ s.since ns := by
  decide +kernel +zetaReduce
theorem witness_MintCommandsTakeEffectAtSnapshots_10 :
    let s : State := axis .holding
    s.tally.running = true ∧ s.mint.sent = false := by
  decide +kernel +zetaReduce

/-! Witnesses of ClearanceArmsJudgesAndHolds. -/
theorem witness_ClearanceArmsJudgesAndHolds_0 :
    let a : CmdArgs := cmd 0 0 ([0, 1, 5, 0, 0, 0, 0, 0, 1] ++ List.replicate 71 0)
    let s : State := axis .idle
    let r := if a.params.isEmpty then none else some (bodyRecOf a.params)
    s.takes opClrBody a = true ∧ ((∀ c ∈ bodyChans r, s.mint.chans[c.val].cfg.isSome = true)) ∧
      ((∀ p : PairId, inPair (bodyArg a) p = true → s.clr.pairs[p.val].armedNow = false)) := by
  decide +kernel +zetaReduce
theorem witness_ClearanceArmsJudgesAndHolds_1 :
    let a : CmdArgs := cmd 0x0706 0
    let s : State := up
    s.takes opClrPair a = true ∧ s.clr.pairs[(pairArg a).val].armedNow = false := by
  decide +kernel +zetaReduce
theorem witness_ClearanceArmsJudgesAndHolds_2 :
    let a : CmdArgs := cmd 1 0
    let s : State := { axis .idle with clr := armedPair.clr }
    s.takes opClrArm a = true ∧ ((∀ p ∈ pairsOf (pairMaskArg a), (s.pairAfter p).isSome = true ∧
      s.bodyUnfit (pairBodies p).1 = false ∧ s.bodyUnfit (pairBodies p).2 = false)) := by
  decide +kernel +zetaReduce
theorem witness_ClearanceArmsJudgesAndHolds_3 :
    let a : CmdArgs := cmd 0x0FFFFFFF 0
    let s : State := up
    s.takes opClrDisarm a = true := by
  decide +kernel +zetaReduce
theorem witness_ClearanceArmsJudgesAndHolds_4 :
    let i : Fin 896 := 0
    let p : PairId := 0
    let r : PairRec := ⟨5, 6, 1, false, 0x8001⟩
    let s : State := { armedPair with clr := { armedPair.clr with bodies := vmod armedPair.clr.bodies 1 fun y => { y with path := [(9, 0, 0), (4, 0, 0)] } } }
    s.clr.open_ = true ∧ p.val = i.val % 28 ∧ s.clr.pairs[p.val].cfg = some r ∧ s.pairRuns p = true ∧
      s.pairUnres p = false ∧ i.val / 28 + 1 ≤ r.look ∧ s.clr.pairs[p.val].runFirst = 0 ∧
      (r.clear : Int) ≤ s.clr.pairs[p.val].d0 ∧ s.pairDist p (i.val / 28 + 1) < r.clear := by
  decide +kernel +zetaReduce
theorem witness_ClearanceArmsJudgesAndHolds_5 :
    let i : Fin 896 := 0
    let p : PairId := 0
    let r : PairRec := ⟨5, 6, 1, false, 0x8001⟩
    let s : State := armedPair
    s.clr.open_ = true ∧ p.val = i.val % 28 ∧ s.clr.pairs[p.val].cfg = some r ∧ s.pairRuns p = true ∧
      s.pairUnres p = false ∧ i.val / 28 + 1 ≤ r.look ∧ s.clr.pairs[p.val].runFirst = 0 ∧
      (r.clear : Int) ≤ s.clr.pairs[p.val].d0 ∧ (r.clear : Int) ≤ s.pairDist p (i.val / 28 + 1) := by
  decide +kernel +zetaReduce
theorem witness_ClearanceArmsJudgesAndHolds_6 :
    let s : State := armedPair
    s.clr.open_ = true := by
  decide +kernel +zetaReduce
theorem witness_ClearanceArmsJudgesAndHolds_7 :
    let b : BodyId := 7
    let s : State := up
    s.clr.bodies[b.val].young = 0 := by
  decide +kernel +zetaReduce

/-! Witnesses of PowerCommandsSetTheirRecords. -/
theorem witness_PowerCommandsSetTheirRecords_0 :
    let a : CmdArgs := cmd 0 0 ([0x70, 0x17] ++ List.replicate 30 0)
    let s : State := port id id
    s.takes opGateCfg a = true ∧ leAt a.params 0 2 ≤ s.fusedMa (portArg a) ∧ s.portDown (portArg a) = false ∧
      s.linkUp (portArg a) = true ∧ s.pwr[(portArg a).val].cfgBusy = false := by
  decide +kernel +zetaReduce
theorem witness_PowerCommandsSetTheirRecords_1 :
    let a : CmdArgs := cmd 0 0 (List.replicate 32 0)
    let s : State := port id id
    s.takes opModelCfg a = true ∧ s.portDown (portArg a) = false ∧ s.linkUp (portArg a) = true ∧
      s.pwr[(portArg a).val].cfgBusy = false := by
  decide +kernel +zetaReduce
theorem witness_PowerCommandsSetTheirRecords_2 :
    let a : CmdArgs := cmd 0 7
    let s : State := port id id
    s.takes opEscPriority a = true ∧ s.portDown (portArg a) = false := by
  decide +kernel +zetaReduce
theorem witness_PowerCommandsSetTheirRecords_3 :
    let a : CmdArgs := mcmd 0 0
    let s : State := up
    s.takes opEscQuery a = true := by
  decide +kernel +zetaReduce
theorem witness_PowerCommandsSetTheirRecords_4 :
    let a : CmdArgs := cmd 0 0 ([255,255,255,255] ++ List.replicate 8 0)
    let s : State := port (fun w => { w with queued := some 0 }) id
    s.takes opEscBudget a = true := by
  decide +kernel +zetaReduce

/-! Witnesses of PortPowerPlacesAndWithdraws. -/
theorem witness_PortPowerPlacesAndWithdraws_0 :
    let a : CmdArgs := cmd 0 1
    let s : State := powered id id
    let k := portArg a
    s.takes opPortPower a = true ∧ s.portDown (portArg a) = false ∧ s.mode (portArg a) ≠ .off ∧
      testBit a.arg1 0 = true ∧ s.pwr[k.val].vbusOn = true := by
  decide +kernel +zetaReduce
theorem witness_PortPowerPlacesAndWithdraws_1 :
    let a : CmdArgs := cmd 0 1
    let s0 : State := port id id
    let s : State := { s0 with escrow := { s0.escrow with budgetL := 60000 } }
    let k := portArg a
    s.takes opPortPower a = true ∧ s.portDown (portArg a) = false ∧ s.mode (portArg a) ≠ .off ∧
      testBit a.arg1 0 = true ∧ s.pwr[k.val].vbusOn = false ∧ s.attached k = false ∧ s.pwr[k.val].busy = false ∧
      s.rampCharge k ≤ s.escrow.budgetL.toNat := by
  decide +kernel +zetaReduce
theorem witness_PortPowerPlacesAndWithdraws_4 :
    let a : CmdArgs := cmd 0 1
    let s0 : State := port id id
    let s : State := { s0 with escrow := { s0.escrow with budgetL := 0 } }
    let k := portArg a
    s.takes opPortPower a = true ∧ s.portDown (portArg a) = false ∧ s.mode (portArg a) ≠ .off ∧
      testBit a.arg1 0 = true ∧ s.pwr[k.val].vbusOn = false ∧ s.pwr[k.val].busy = false ∧
      s.escrow.budgetL.toNat < s.rampCharge k := by
  decide +kernel +zetaReduce
theorem witness_PortPowerPlacesAndWithdraws_2 :
    let a : CmdArgs := cmd 0 0
    let s : State := powered id id
    let k := portArg a
    s.takes opPortPower a = true ∧ s.portDown (portArg a) = false ∧ s.mode (portArg a) ≠ .off ∧
      testBit a.arg1 0 = false ∧ s.powered k = true ∧ s.linkUp k = true := by
  decide +kernel +zetaReduce
theorem witness_PortPowerPlacesAndWithdraws_3 :
    let a : CmdArgs := cmd 0 0
    let s : State := port id id
    let k := portArg a
    s.takes opPortPower a = true ∧ s.portDown (portArg a) = false ∧ s.mode (portArg a) ≠ .off ∧
      testBit a.arg1 0 = false ∧ s.powered k = false ∧ s.pwr[k.val].offPending = false := by
  decide +kernel +zetaReduce

/-! Witnesses of SeatPinsAndRampStepsAct. -/
theorem witness_SeatPinsAndRampStepsAct_0 :
    let k : PortId := 0
    let s : State := up
    s.stileLive k = true := by
  decide +kernel +zetaReduce
theorem witness_SeatPinsAndRampStepsAct_1 :
    let k : PortId := 0
    let s : State := port (fun w => { w with seatOk := false }) fun p => { p with cc := .seatWait }
    s.stileLive k = true ∧ s.mode k ≠ .off := by
  decide +kernel +zetaReduce
theorem witness_SeatPinsAndRampStepsAct_2 :
    let k : PortId := 0
    let s : State := port (fun w => { w with ramp := .precharge }) id
    s.stileLive k = true ∧ s.pwr[k.val].ramp = .precharge := by
  decide +kernel +zetaReduce
theorem witness_SeatPinsAndRampStepsAct_3 :
    let k : PortId := 0
    let mv : Nat := 4750
    let s : State := port (fun w => { w with ramp := .slew }) id
    s.stileLive k = true ∧ s.pwr[k.val].ramp = .slew ∧ 4750 ≤ mv := by
  decide +kernel +zetaReduce
theorem witness_SeatPinsAndRampStepsAct_4 :
    let k : PortId := 0
    let s : State := port (fun w => { w with limiting := true }) id
    s.stileLive k = true ∧ s.pwr[k.val].limiting = true := by
  decide +kernel +zetaReduce
theorem witness_SeatPinsAndRampStepsAct_5 :
    let k : PortId := 0
    let s : State := port (fun w => { w with trans := .down, disch := true, vbusMv := 5501 }) id
    s.stileLive k = true ∧ s.pwr[k.val].trans = .down ∧ s.pwr[k.val].disch = true := by
  decide +kernel +zetaReduce
theorem witness_SeatPinsAndRampStepsAct_6 :
    let i : StileId := 2
    let s : State := up
    s.stiles[i.val].vgdPresent = true := by
  decide +kernel +zetaReduce
theorem witness_SeatPinsAndRampStepsAct_7 :
    let i : StileId := 2
    let mv : Nat := 4750
    let s : State := up
    s.stiles[i.val].vgdPresent = true ∧ 4750 ≤ mv ∧ mv ≤ 5250 := by
  decide +kernel +zetaReduce
theorem witness_SeatPinsAndRampStepsAct_3b :
    let k : PortId := 0
    let mv : Nat := 4749
    let s : State := port (fun w => { w with ramp := .slew }) id
    s.stileLive k = true ∧ s.pwr[k.val].ramp = .slew ∧ mv < 4750 := by
  decide +kernel +zetaReduce

/-! Witnesses of GrantStartsTheRamp. -/
theorem witness_GrantStartsTheRamp_0 :
    let k : PortId := 0
    let l : List PortId := []
    let s : State := ((port (fun w => { w with queued := some 3, want := true }) fun p => { p with cc := .attachedSrc }).modStile 0 fun x => { x with railLMv := 4750 }).modEscrow fun e => { e with budgetL := 9500 }
    s.awake = true ∧ s.queue = k :: l ∧ s.ready k = true ∧ s.slotsDev < s.escrow.rampsDev.toNat ∧
      s.slotsOn (stileOf k) < s.escrow.rampsStile.toNat ∧ s.chargeL + s.rampCharge k ≤ s.escrow.budgetL.toNat := by
  decide +kernel +zetaReduce

/-! Witnesses of PowerGoodAndSettlingEndRamps. -/
theorem witness_PowerGoodAndSettlingEndRamps_0 :
    let k : PortId := 0
    let mv : Nat := 4750
    let vgs : Nat := 9000
    let s : State := port (fun w => { w with ramp := .enhance, gateL := true }) fun p => { p with cc := .attachedSrc }
    s.stileLive k = true ∧ s.pwr[k.val].ramp = .enhance ∧ 4750 ≤ mv ∧ 9000 ≤ vgs := by
  decide +kernel +zetaReduce
theorem witness_PowerGoodAndSettlingEndRamps_1 :
    let k : PortId := 0
    let mv : Nat := 9180
    let s : State := powered (fun w => { w with trans := .up, gateH := true }) fun p => { p with accepted := some ⟨300, 300, 180, 2, false⟩ }
    s.stileLive k = true ∧ s.settledAt k mv = true ∧ s.pd[k.val].tx = none := by
  decide +kernel +zetaReduce
theorem witness_PowerGoodAndSettlingEndRamps_2 :
    let k : PortId := 0
    let mv : Nat := 799
    let s : State := port (fun w => { w with offPending := true, disch := true }) id
    s.stiles[(stileOf k).val].vgdPresent = true ∧ s.pwr[k.val].offPending = true ∧ mv < 800 := by
  decide +kernel +zetaReduce
theorem witness_PowerGoodAndSettlingEndRamps_3 :
    let k : PortId := 0
    let mv : Nat := 800
    let s : State := port (fun w => { w with offPending := true, disch := true }) id
    s.stileLive k = true ∧ s.pwr[k.val].offPending = true ∧ s.pwr[k.val].disch = true ∧ 800 ≤ mv := by
  decide +kernel +zetaReduce
theorem witness_PowerGoodAndSettlingEndRamps_0b :
    let k : PortId := 0
    let mv : Nat := 5000
    let vgs : Nat := 8999
    let s : State := port (fun w => { w with ramp := .enhance, gateL := true }) fun p => { p with cc := .attachedSrc }
    mv < 4750 ∨ vgs < 9000 := by
  decide +kernel +zetaReduce
theorem witness_PowerGoodAndSettlingEndRamps_1b :
    let k : PortId := 0
    let mv : Nat := 9180
    let s : State := powered (fun w => { w with trans := .up, gateH := true }) fun p => { p with accepted := some ⟨300, 300, 180, 2, false⟩, tx := some (sendingTx 2) }
    s.stileLive k = true ∧ s.settledAt k mv = true ∧ s.pd[k.val].tx.isSome = true := by
  decide +kernel +zetaReduce

/-! Witnesses of TripsOpenThePaths. -/
theorem witness_TripsOpenThePaths_0 :
    let k : PortId := 0
    let s : State := powered id id
    let i : Int := -12000
    s.stileLive k = true ∧ s.powered k = true ∧ s.fastThreshold k ≤ i.natAbs := by
  decide +kernel +zetaReduce
theorem witness_TripsOpenThePaths_1 :
    let k : PortId := 0
    let s : State := powered id id
    let mv : Nat := 6001
    s.stileLive k = true ∧ s.pwr[k.val].steady = true ∧ 11 * s.vRef k + 5000 < 10 * mv := by
  decide +kernel +zetaReduce
theorem witness_TripsOpenThePaths_2 :
    let k : PortId := 0
    let s : State := port (fun w => { w with ramp := .precharge, gateL := true }) id
    s.stileLive k = true ∧ s.pwr[k.val].ramp ≠ .none := by
  decide +kernel +zetaReduce
theorem witness_TripsOpenThePaths_3 :
    let k : PortId := 0
    let s : State := powered (fun w => { w with trans := .down, disch := true }) id
    s.stileLive k = true ∧ s.pwr[k.val].trans = .down ∧ s.pwr[k.val].disch = true := by
  decide +kernel +zetaReduce

/-! Witnesses of ThermalModelSteps. -/
theorem witness_ThermalModelSteps_0 :
    let k : PortId := 0
    let m : StileSample := ⟨1600, false, 1000, 1000, 3000, 1000⟩
    let s : State := powered id id
    s.stiles[(stileOf k).val].vgdPresent = true := by
  decide +kernel +zetaReduce
theorem witness_ThermalModelSteps_0b :
    let k : PortId := 0
    let m : StileSample := ⟨4095, false, 1000, 1000, 3000, 1000⟩
    let s : State := powered (fun w => { w with fosterL := ⟨99999, 99999, 99999⟩ }) id
    s.stiles[(stileOf k).val].vgdPresent = true := by
  decide +kernel +zetaReduce

/-! Witnesses of LimitsSeatingAndVgdActOnTheGates. -/
theorem witness_LimitsSeatingAndVgdActOnTheGates_0 :
    let k : PortId := 0
    let i : Int := 9999
    let s : State := powered id id
    s.stileLive k = true ∧ s.powered k = true ∧ s.pwr[k.val].limiting = false ∧ (s.ilimEff k : Int) < i := by
  decide +kernel +zetaReduce
theorem witness_LimitsSeatingAndVgdActOnTheGates_1 :
    let k : PortId := 0
    let s : State := powered id id
    s.stileLive k = true ∧ s.pwr[k.val].steady = true ∧ s.pwr[k.val].trans = .none ∧ s.pwr[k.val].limiting = false := by
  decide +kernel +zetaReduce
theorem witness_LimitsSeatingAndVgdActOnTheGates_2 :
    let k : PortId := 0
    let s : State := port (fun w => { w with cooling := true, overcurrent := true }) id
    s.stiles[(stileOf k).val].vgdPresent = true ∧ s.pwr[k.val].cooling = true ∧ s.pwr[k.val].cooled = true := by
  decide +kernel +zetaReduce
theorem witness_LimitsSeatingAndVgdActOnTheGates_3 :
    let k : PortId := 0
    let s : State := powered id id
    s.stileLive k = true ∧ s.pwr[k.val].seatOk = true ∧ s.mode k ≠ .off := by
  decide +kernel +zetaReduce
theorem witness_LimitsSeatingAndVgdActOnTheGates_4 :
    let i : StileId := 0
    let s : State := powered id id
    s.stiles[i.val].vgdOk = true := by
  decide +kernel +zetaReduce
theorem witness_LimitsSeatingAndVgdActOnTheGates_5 :
    let i : StileId := 0
    let s : State := powered id id
    s.stiles[i.val].vgdPresent = true := by
  decide +kernel +zetaReduce
theorem witness_LimitsSeatingAndVgdActOnTheGates_6 :
    let i : StileId := 0
    let s : State := up.modStile 0 fun x => { x with vgdPresent := false }
    s.stiles[i.val].vgdPresent = false := by
  decide +kernel +zetaReduce

/-! Witnesses of CcPdRecordsComeIntoForce. -/
theorem witness_CcPdRecordsComeIntoForce_0 :
    let a : CmdArgs := cmd 0 0 ([4, 2] ++ List.replicate 14 0)
    let s : State := port id id
    s.takes opCcCfg a = true ∧ s.withinFuse (portArg a) (rpMa (ccRecOf a.params).rp) 5000 = true ∧
      ((ccRecOf a.params).drp && s.glb.cascadeEn) = false ∧ s.portDown (portArg a) = false ∧
      s.linkUp (portArg a) = true ∧ s.attached (portArg a) = false ∧ s.pwr[(portArg a).val].gateL = false := by
  decide +kernel +zetaReduce
theorem witness_CcPdRecordsComeIntoForce_1 :
    let a : CmdArgs := cmd 0 0 ([0x2C, 0x91, 1, 0] ++ List.replicate 12 0)
    let s : State := port id id
    let k := portArg a
    let r : PdRec := { pdo1 := toWord (leAt a.params 0 4), pdoH := toWord (leAt a.params 4 4), hkind := leAt a.params 8 1, respMs := orDefault (leAt a.params 9 1) 10 }
    s.takes opPdCfg a = true ∧ s.pdoFused k r.pdo1.toNat = true ∧ ((r.hkind = 0 ∨ (s.pdoFused k r.pdoH.toNat = true ∧
      railNear s.stiles[(stileOf k).val].railHMv r.pdoH.toNat = true))) ∧ s.portDown k = false ∧ s.linkUp k = true := by
  decide +kernel +zetaReduce

/-! Witnesses of PdTxSendsOrWaits. -/
theorem witness_PdTxSendsOrWaits_0 :
    let a : CmdArgs := cmd 0 0 [8, 0]
    let s : State := powered id id
    let k := portArg a
    let p := s.pd[k.val]
    let sop := a.arg1.toNat
    let win := if sop = 0 then p.reply else none
    s.takes opPdTx a = true ∧ sop < 3 ∧ txRangeCheck p sop a.params = none ∧ s.portDown k = false ∧
      s.linkUp k = true ∧ s.attached k = true ∧ p.hr = .none ∧ p.accepted = none ∧ p.vconnSwap ≠ .waitPsRdy ∧
      p.vconnSwap ≠ .sendPsRdy ∧ (isCaps a.params = true → p.pdRec.isSome = true) ∧ p.txBusy = false ∧
      (isMsg a.params 0 11 = true → ∀ y, p.waitTimer ≠ some (y, false)) ∧
      (win.isSome = true ∨ sop ≠ 0 ∨ (isMsg a.params 0 4 = false ∧ isMsg a.params 0 12 = false ∧
      isMsg a.params 0 16 = false)) ∧ (sop = 0 → isMsg a.params 0 3 = false) ∧
      (s.needsVconn k sop a.params = true → s.chargeV + 1000 ≤ s.escrow.budgetV.toNat) ∧
      (win.isSome = true ∨ p.avoids = false) := by
  intros
  and_intros <;> first | decide +kernel +zetaReduce | (intro h; exact absurd h (by decide +kernel +zetaReduce)) |
    (intro _ y; simp [powered, port, owned, ticking, up])
theorem witness_PdTxSendsOrWaits_0b :
    let a : CmdArgs := cmd 0 0 [8, 0]
    let s : State := powered id fun p => { p with contract := some ⟨300, 300, 100, 1, false⟩, specRev := 2 }
    let k := portArg a
    let p := s.pd[k.val]
    let sop := a.arg1.toNat
    let win := if sop = 0 then p.reply else none
    s.takes opPdTx a = true ∧ sop < 3 ∧ txRangeCheck p sop a.params = none ∧ s.portDown k = false ∧
      s.linkUp k = true ∧ s.attached k = true ∧ p.hr = .none ∧ p.accepted = none ∧ p.vconnSwap ≠ .waitPsRdy ∧
      p.vconnSwap ≠ .sendPsRdy ∧ (isCaps a.params = true → p.pdRec.isSome = true) ∧ p.txBusy = false ∧
      (isMsg a.params 0 11 = true → ∀ y, p.waitTimer ≠ some (y, false)) ∧
      (win.isSome = true ∨ sop ≠ 0 ∨ (isMsg a.params 0 4 = false ∧ isMsg a.params 0 12 = false ∧
      isMsg a.params 0 16 = false)) ∧ (sop = 0 → isMsg a.params 0 3 = false) ∧
      (s.needsVconn k sop a.params = true → s.chargeV + 1000 ≤ s.escrow.budgetV.toNat) ∧ win = none ∧
      p.avoids = true := by
  intros
  and_intros <;> first | decide +kernel +zetaReduce | (intro h; exact absurd h (by decide +kernel +zetaReduce)) |
    (intro _ y; simp [powered, port, owned, ticking, up])
theorem witness_PdTxSendsOrWaits_0c :
    let a : CmdArgs := cmd 0 0 [4, 0]
    let s : State := powered id fun p => { p with reply := some ⟨0, 8, none, none⟩ }
    let k := portArg a
    let p := s.pd[k.val]
    let sop := a.arg1.toNat
    let win := if sop = 0 then p.reply else none
    s.takes opPdTx a = true ∧ sop < 3 ∧ txRangeCheck p sop a.params = none ∧ s.portDown k = false ∧
      s.linkUp k = true ∧ s.attached k = true ∧ p.hr = .none ∧ p.accepted = none ∧ p.vconnSwap ≠ .waitPsRdy ∧
      p.vconnSwap ≠ .sendPsRdy ∧ (isCaps a.params = true → p.pdRec.isSome = true) ∧ p.txBusy = false ∧
      (isMsg a.params 0 11 = true → ∀ y, p.waitTimer ≠ some (y, false)) ∧
      (win.isSome = true ∨ sop ≠ 0 ∨ (isMsg a.params 0 4 = false ∧ isMsg a.params 0 12 = false ∧
      isMsg a.params 0 16 = false)) ∧ (sop = 0 → isMsg a.params 0 3 = false) ∧
      (s.needsVconn k sop a.params = true → s.chargeV + 1000 ≤ s.escrow.budgetV.toNat) ∧
      (win.isSome = true ∨ p.avoids = false) := by
  intros
  and_intros <;> first | decide +kernel +zetaReduce | (intro h; exact absurd h (by decide +kernel +zetaReduce)) |
    (intro _ y; simp [powered, port, owned, ticking, up])
theorem witness_PdTxSendsOrWaits_0d :
    let a : CmdArgs := cmd 0 2 [0x0F, 0x10, 1, 0x80, 0, 0xFF]
    let s : State := powered id id
    let k := portArg a
    let p := s.pd[k.val]
    let sop := a.arg1.toNat
    let win := if sop = 0 then p.reply else none
    s.takes opPdTx a = true ∧ sop < 3 ∧ txRangeCheck p sop a.params = none ∧ s.portDown k = false ∧
      s.linkUp k = true ∧ s.attached k = true ∧ p.hr = .none ∧ p.accepted = none ∧ p.vconnSwap ≠ .waitPsRdy ∧
      p.vconnSwap ≠ .sendPsRdy ∧ (isCaps a.params = true → p.pdRec.isSome = true) ∧ p.txBusy = false ∧
      (isMsg a.params 0 11 = true → ∀ y, p.waitTimer ≠ some (y, false)) ∧
      (win.isSome = true ∨ sop ≠ 0 ∨ (isMsg a.params 0 4 = false ∧ isMsg a.params 0 12 = false ∧
      isMsg a.params 0 16 = false)) ∧ (sop = 0 → isMsg a.params 0 3 = false) ∧
      (s.needsVconn k sop a.params = true → s.chargeV + 1000 ≤ s.escrow.budgetV.toNat) ∧
      (win.isSome = true ∨ p.avoids = false) := by
  intros
  and_intros <;> first | decide +kernel +zetaReduce | (intro h; exact absurd h (by decide +kernel +zetaReduce)) |
    (intro _ y; simp [powered, port, owned, ticking, up])
theorem witness_PdTxSendsOrWaits_0e :
    let a : CmdArgs := cmd 0 0 [11, 0]
    let s : State := powered id fun p => { p with partner := 2, ccRec := { p.ccRec with vconnEn := true } }
    let k := portArg a
    let p := s.pd[k.val]
    let sop := a.arg1.toNat
    let win := if sop = 0 then p.reply else none
    s.takes opPdTx a = true ∧ sop < 3 ∧ txRangeCheck p sop a.params = none ∧ s.portDown k = false ∧
      s.linkUp k = true ∧ s.attached k = true ∧ p.hr = .none ∧ p.accepted = none ∧ p.vconnSwap ≠ .waitPsRdy ∧
      p.vconnSwap ≠ .sendPsRdy ∧ (isCaps a.params = true → p.pdRec.isSome = true) ∧ p.txBusy = false ∧
      (isMsg a.params 0 11 = true → ∀ y, p.waitTimer ≠ some (y, false)) ∧
      (win.isSome = true ∨ sop ≠ 0 ∨ (isMsg a.params 0 4 = false ∧ isMsg a.params 0 12 = false ∧
      isMsg a.params 0 16 = false)) ∧ (sop = 0 → isMsg a.params 0 3 = false) ∧
      (s.needsVconn k sop a.params = true → s.chargeV + 1000 ≤ s.escrow.budgetV.toNat) ∧
      (win.isSome = true ∨ p.avoids = false) ∧ s.needsVconn k sop a.params = true := by
  intro a s k p
  have e : p.waitTimer = none := by decide +kernel +zetaReduce
  intros
  and_intros <;> first | decide +kernel +zetaReduce | (intro h; exact absurd h (by decide +kernel +zetaReduce)) |
    (intro _ y h; rw [e] at h; cases h)
theorem witness_PdTxSendsOrWaits_1 :
    let a : CmdArgs := cmd 0 0 [3, 0]
    let s₀ : State := powered id fun p => { p with reply := some ⟨1, 2, none, some ⟨300, 300, 100, 1, false⟩⟩ }
    let s : State := { s₀ with escrow := { s₀.escrow with budgetL := 60000, budgetH := 60000 } }
    let k := portArg a
    let p := s.pd[k.val]
    let sop := a.arg1.toNat
    let win := if sop = 0 then p.reply else none
    let c : Contract := ⟨300, 300, 100, 1, false⟩
    s.takes opPdTx a = true ∧ sop < 3 ∧ txRangeCheck p sop a.params = none ∧ s.portDown k = false ∧
      s.linkUp k = true ∧ s.attached k = true ∧ p.hr = .none ∧ p.accepted = none ∧ p.vconnSwap ≠ .waitPsRdy ∧
      p.vconnSwap ≠ .sendPsRdy ∧ (isCaps a.params = true → p.pdRec.isSome = true) ∧ p.txBusy = false ∧
      (isMsg a.params 0 11 = true → ∀ y, p.waitTimer ≠ some (y, false)) ∧ sop = 0 ∧ isMsg a.params 0 3 = true ∧
      windowRequest p.reply = some (some c) ∧ (c.volt = 100 ∨ (95 * c.mv ≤ 100 * s.stiles[(stileOf k).val].railHMv ∧
      100 * s.stiles[(stileOf k).val].railHMv ≤ 105 * c.mv)) ∧ s.couldFit k c = true ∧ s.fitsNow k c = true := by
  intros
  and_intros <;> first | decide +kernel +zetaReduce | (intro h; exact absurd h (by decide +kernel +zetaReduce)) |
    (intro _ y; simp [powered, port, owned, ticking, up])
theorem witness_PdTxSendsOrWaits_1b :
    let a : CmdArgs := cmd 0 0 [3, 0]
    let s₀ : State := (powered id fun p => { p with reply := some ⟨1, 2, none, some ⟨100, 100, 180, 2, false⟩⟩ }).modStile 0 fun x => { x with railHMv := 9000 }
    let s : State := { s₀ with escrow := { s₀.escrow with budgetL := 60000, budgetH := 60000 } }
    let k := portArg a
    let p := s.pd[k.val]
    let sop := a.arg1.toNat
    let win := if sop = 0 then p.reply else none
    let c : Contract := ⟨100, 100, 180, 2, false⟩
    s.takes opPdTx a = true ∧ sop < 3 ∧ txRangeCheck p sop a.params = none ∧ s.portDown k = false ∧
      s.linkUp k = true ∧ s.attached k = true ∧ p.hr = .none ∧ p.accepted = none ∧ p.vconnSwap ≠ .waitPsRdy ∧
      p.vconnSwap ≠ .sendPsRdy ∧ (isCaps a.params = true → p.pdRec.isSome = true) ∧ p.txBusy = false ∧
      (isMsg a.params 0 11 = true → ∀ y, p.waitTimer ≠ some (y, false)) ∧ sop = 0 ∧ isMsg a.params 0 3 = true ∧
      windowRequest p.reply = some (some c) ∧ (c.volt = 100 ∨ (95 * c.mv ≤ 100 * s.stiles[(stileOf k).val].railHMv ∧
      100 * s.stiles[(stileOf k).val].railHMv ≤ 105 * c.mv)) ∧ s.couldFit k c = true ∧ s.fitsNow k c = true := by
  intros
  and_intros <;> first | decide +kernel +zetaReduce | (intro h; exact absurd h (by decide +kernel +zetaReduce)) |
    (intro _ y; simp [powered, port, owned, ticking, up])

/-! Witnesses of HardResetStartsRecovery. -/
theorem witness_HardResetStartsRecovery_0 :
    let a : CmdArgs := cmd 0 0
    let s : State := powered id id
    s.takes opPdHardreset a = true ∧ s.portDown (portArg a) = false ∧ s.linkUp (portArg a) = true ∧
      s.attached (portArg a) = true := by
  decide +kernel +zetaReduce
theorem witness_HardResetStartsRecovery_1 :
    let k : PortId := 0
    let s : State := powered id id
    s.stileLive k = true ∧ s.attached k = true := by
  decide +kernel +zetaReduce
theorem witness_HardResetStartsRecovery_2 :
    let k : PortId := 0
    let s : State := powered id fun p => { p with eprMode := true }
    s.stileLive k = true ∧ s.attached k = true ∧ s.pd[k.val].eprMode = true := by
  decide +kernel +zetaReduce
theorem witness_HardResetStartsRecovery_3 :
    let k : PortId := 0
    let s : State := powered id fun p => { p with contract := some ⟨300, 300, 560, 8, true⟩ }
    s.stileLive k = true ∧ s.attached k = true ∧ s.pd[k.val].eprMode = false ∧ ((∃ c, s.pd[k.val].contract = some c ∧
      c.epr = true)) := by
  decide +kernel +zetaReduce
theorem witness_HardResetStartsRecovery_4 :
    let k : PortId := 0
    let s : State := powered id fun p => { p with vconnSwap := .waitPsRdy }
    s.stileLive k = true ∧ s.pd[k.val].vconnSwap = .waitPsRdy := by
  decide +kernel +zetaReduce

/-! Witnesses of HardResetRecoverySteps. -/
theorem witness_HardResetRecoverySteps_0 :
    let k : PortId := 0
    let s : State := powered id fun p => { p with hr := .waitPathsOff, vconnOn := true }
    s.stileLive k = true ∧ s.pd[k.val].hr = .waitPathsOff ∧ s.powered k = true := by
  decide +kernel +zetaReduce
theorem witness_HardResetRecoverySteps_1 :
    let k : PortId := 0
    let s : State := powered id fun p => { p with hr := .waitVsafe0 }
    s.stileLive k = true ∧ s.pd[k.val].hr = .waitVsafe0 := by
  decide +kernel +zetaReduce
theorem witness_HardResetRecoverySteps_2 :
    let k : PortId := 0
    let s : State := port id fun p => { p with cc := .attachedSrc, hr := .waitRecover, vconnWasOn := true, partner := 2, ccRec := { p.ccRec with vconnEn := true } }
    s.stileLive k = true ∧ s.pd[k.val].hr = .waitRecover ∧ s.pd[k.val].vconnWasOn = true ∧ s.vconnMay k = true ∧
      s.chargeV + 1000 ≤ s.escrow.budgetV.toNat := by
  decide +kernel +zetaReduce
theorem witness_HardResetRecoverySteps_3 :
    let k : PortId := 0
    let s : State := powered id fun p => { p with hr := .waitRecover }
    s.stileLive k = true ∧ s.pd[k.val].hr = .waitRecover ∧ s.pwr[k.val].busy = true := by
  decide +kernel +zetaReduce

/-! Witnesses of CcMachineMoves. -/
theorem witness_CcMachineMoves_0 :
    let k : PortId := 0
    let s : State := port id (fun p => { p with cc := .unattachedSrc })
    s.stileLive k = true := by
  decide +kernel +zetaReduce
theorem witness_CcMachineMoves_1 :
    let k : PortId := 0
    let s : State := port id fun p => { p with cc := .attachWaitSrc, term1 := .ra, term2 := .rd }
    s.stileLive k = true ∧ s.pd[k.val].cc = .attachWaitSrc ∧ s.pd[k.val].oneRd = true := by
  decide +kernel +zetaReduce
theorem witness_CcMachineMoves_2 :
    let k : PortId := 0
    let s : State := powered id id
    s.stileLive k = true ∧ s.pd[k.val].cc = .attachedSrc ∧ s.mode k ≠ .off := by
  decide +kernel +zetaReduce
theorem witness_CcMachineMoves_3 :
    let k : PortId := 0
    let s : State := port id fun p => { p with cc := .unattachedSrc, ccRec := { p.ccRec with drp := true } }
    s.stileLive k = true ∧ s.pd[k.val].ccRec.drp = true ∧ s.pd[k.val].cc = .unattachedSrc ∧ s.pd[k.val].seesRp = false := by
  decide +kernel +zetaReduce
theorem witness_CcMachineMoves_4 :
    let k : PortId := 0
    let s : State := port id fun p => { p with cc := .trySrc, term1 := .rp }
    s.stileLive k = true ∧ s.pd[k.val].cc = .trySrc ∧ s.pd[k.val].seesRp = true := by
  decide +kernel +zetaReduce
theorem witness_CcMachineMoves_5 :
    let k : PortId := 0
    let s : State := port id fun p => { p with cc := .sourcePartner }
    s.stileLive k = true ∧ s.pd[k.val].cc = .sourcePartner ∧ s.pd[k.val].seesRp = false := by
  decide +kernel +zetaReduce

/-! Witnesses of PdMessagesAreReceived. -/
theorem witness_PdMessagesAreReceived_0 :
    let k : PortId := 0
    let s : State := powered id id
    s.stileLive k = true := by
  decide +kernel +zetaReduce
theorem witness_PdMessagesAreReceived_1 :
    let k : PortId := 0
    let h : SlotId := 0
    let m : List Byte := [0x87, 0]
    let s : State := powered id id
    s.stileLive k = true ∧ s.attached k = true ∧ s.pd[k.val].tx = none ∧ s.pd[k.val].chunkOut = none ∧
      s.pd[k.val].held = none ∧ s.owner k = some h ∧ s.linkUp k = true ∧ s.teller.run = .running ∧
      (s.slots[h.val].records.filter isEvent).length < 1024 ∧
      (s.slots[h.val].records.map recordPayload).sum ≤ 16120 ∧ s.pd[k.val].rxId[0] ≠ some (msgId m) ∧
      s.pd[k.val].vconnSwap = .none ∧ msgExt m = false ∧ isMsg m 0 13 = false ∧ isMsg m 1 3 = false ∧
      eprAction m ≠ some 5 := by
  decide +kernel +zetaReduce
theorem witness_PdMessagesAreReceived_2 :
    let k : PortId := 0
    let s : State := powered id fun p => { p with eprMode := true }
    s.stileLive k = true ∧ s.attached k = true ∧ s.pd[k.val].tx = none ∧ s.pd[k.val].chunkOut = none ∧
      s.pd[k.val].eprMode = true ∧ s.pd[k.val].held = none := by
  decide +kernel +zetaReduce
theorem witness_PdMessagesAreReceived_3 :
    let k : PortId := 0
    let sop : BitVec 2 := 2
    let s : State := powered id id
    s.stileLive k = true ∧ s.attached k = true ∧ s.pd[k.val].tx = none ∧ s.pd[k.val].chunkOut = none ∧
      sop.toNat < 3 ∧ s.pd[k.val].held = none := by
  decide +kernel +zetaReduce
theorem witness_PdMessagesAreReceived_4 :
    let k : PortId := 0
    let h : SlotId := 0
    let m : List Byte := [0x42, 0x10, 0x2C, 0xB1, 0x04, 0x10]
    let s : State := powered id id
    s.stileLive k = true ∧ s.attached k = true ∧ s.pd[k.val].tx = none ∧ s.pd[k.val].chunkOut = none ∧
      s.pd[k.val].held = none ∧ s.owner k = some h ∧ s.linkUp k = true ∧ s.teller.run = .running ∧
      (s.slots[h.val].records.filter isEvent).length < 1024 ∧
      (s.slots[h.val].records.map recordPayload).sum ≤ 16120 ∧ s.pd[k.val].rxId[0] ≠ some (msgId m) ∧
      s.pd[k.val].vconnSwap = .none ∧ msgExt m = false ∧ (isMsg m 1 2 = true ∨ isMsg m 1 9 = true) := by
  decide +kernel +zetaReduce
theorem witness_PdMessagesAreReceived_1b :
    let k : PortId := 0
    let h : SlotId := 0
    let m : List Byte := [0x90, 2]
    let s : State := powered id fun p => { p with reply := some ⟨0, 8, none, none⟩ }
    s.stileLive k = true ∧ s.attached k = true ∧ s.pd[k.val].tx = none ∧ s.pd[k.val].chunkOut = none ∧
      s.pd[k.val].held = none ∧ s.owner k = some h ∧ s.linkUp k = true ∧ s.teller.run = .running ∧
      (s.slots[h.val].records.filter isEvent).length < 1024 ∧
      (s.slots[h.val].records.map recordPayload).sum ≤ 16120 ∧ s.pd[k.val].rxId[0] ≠ some (msgId m) ∧
      s.pd[k.val].vconnSwap = .none ∧ msgExt m = false ∧ isMsg m 0 13 = false ∧ isMsg m 1 3 = false ∧
      eprAction m ≠ some 5 := by
  decide +kernel +zetaReduce
theorem witness_PdMessagesAreReceived_5 :
    let k : PortId := 0
    let m : List Byte := [0x82, 0xF0, 40, 0x80] ++ List.replicate 26 9
    let s : State := powered id id
    s.stileLive k = true ∧ s.attached k = true ∧ s.pd[k.val].tx = none ∧ s.pd[k.val].chunkOut = none ∧
      msgExt m = true ∧ extChunked m = true ∧ extRequest m = false ∧ extChunk m = 0 ∧
      ((m.drop 4).take 26).length < extSize m ∧ s.pd[k.val].rxId[0] ≠ some (msgId m) := by
  decide +kernel +zetaReduce
theorem witness_PdMessagesAreReceived_6 :
    let k : PortId := 0
    let x : PdTx := { sendingTx 2 with sop := 0 }
    let s : State := (powered id fun p => { p with held := some { sendingTx 2 with sop := 0 } }).modSlot 0 fun x => { x with till := [{ waiting 0x82 6 with point := .dispatched, wait := .pdTx 0 }] }
    s.stileLive k = true ∧ s.attached k = true ∧ s.pd[k.val].tx = none ∧ s.pd[k.val].chunkOut = none ∧
      s.pd[k.val].held = some x ∧ x.origin = .owner ∧ x.orphan = false := by
  decide +kernel +zetaReduce

/-! Witnesses of PdSendingEnds. -/
theorem witness_PdSendingEnds_0 :
    let k : PortId := 0
    let x : PdTx := sendingTx 2
    let s : State := (powered id fun p => { p with tx := some (sendingTx 2) }).modSlot 0 fun x => { x with till := [{ waiting 0x82 6 with point := .effected, wait := .pdTx 0 }] }
    s.stileLive k = true ∧ s.pd[k.val].tx = some x ∧ s.pd[k.val].psDue = none ∧ x.origin = .owner ∧
      x.orphan = false ∧ (x.sop = 1 ∨ x.sop = 2) ∧ chunkCount x.bytes ≤ x.chunk + 1 := by
  decide +kernel +zetaReduce
theorem witness_PdSendingEnds_1 :
    let k : PortId := 0
    let x : PdTx := sendingTx 2
    let s : State := (powered id fun p => { p with tx := some (sendingTx 2) }).modSlot 0 fun x => { x with till := [{ waiting 0x82 6 with point := .effected, wait := .pdTx 0 }] }
    s.stileLive k = true ∧ s.pd[k.val].tx = some x ∧ s.pd[k.val].psDue = none ∧ x.retries ≠ 0 := by
  decide +kernel +zetaReduce
theorem witness_PdSendingEnds_2 :
    let k : PortId := 0
    let x : PdTx := sendingTx 0
    let s : State := (powered id fun p => { p with tx := some (sendingTx 0) }).modSlot 0 fun x => { x with till := [{ waiting 0x82 6 with point := .effected, wait := .pdTx 0 }] }
    s.stileLive k = true ∧ s.pd[k.val].tx = some x ∧ s.pd[k.val].psDue = none ∧ x.retries = 0 ∧ x.origin = .owner ∧
      x.orphan = false ∧ isMsg x.bytes 0 3 = false ∧ isMsg x.bytes 0 11 = false := by
  decide +kernel +zetaReduce
theorem witness_PdSendingEnds_3 :
    let k : PortId := 0
    let w : ReplyWindow := ⟨1, 2, none, none⟩
    let s : State := powered id fun p => { p with reply := some ⟨1, 2, none, none⟩ }
    s.stileLive k = true ∧ s.pd[k.val].reply = some w ∧ s.pd[k.val].sending = false := by
  decide +kernel +zetaReduce
theorem witness_PdSendingEnds_4 :
    let k : PortId := 0
    let s : State := powered id fun p => { p with sinkTxNg := true, contract := some ⟨300, 300, 100, 1, false⟩, specRev := 2, rpNow := 2 }
    s.pd[k.val].sinkTxNg = true ∧ s.pd[k.val].reply = none ∧ s.pd[k.val].txBusy = false := by
  decide +kernel +zetaReduce
theorem witness_PdSendingEnds_0b :
    let k : PortId := 0
    let x : PdTx := { sendingTx 2 with sop := 0, bytes := [3, 0] }
    let s : State := (powered id fun p => { p with tx := some ({ sendingTx 2 with sop := 0, bytes := [3, 0] }), accepting := some ⟨100, 100, 180, 2, false⟩ }).modSlot 0 fun x => { x with till := [{ waiting 0x82 6 with point := .effected, wait := .pdTx 0 }] }
    let c : Contract := ⟨100, 100, 180, 2, false⟩
    s.stileLive k = true ∧ s.pd[k.val].tx = some x ∧ s.pd[k.val].psDue = none ∧ x.origin = .owner ∧ x.sop = 0 ∧
      isMsg x.bytes 0 3 = true ∧ chunkCount x.bytes ≤ x.chunk + 1 ∧ s.pd[k.val].accepting = some c := by
  decide +kernel +zetaReduce
theorem witness_PdSendingEnds_0c :
    let k : PortId := 0
    let x : PdTx := { sendingTx 2 with sop := 0, origin := .psRdyContract }
    let s : State := powered id fun p => { p with tx := some ({ sendingTx 2 with sop := 0, origin := .psRdyContract }), accepted := some ⟨300, 300, 100, 1, false⟩ }
    let c : Contract := ⟨300, 300, 100, 1, false⟩
    s.stileLive k = true ∧ s.pd[k.val].tx = some x ∧ s.pd[k.val].psDue = none ∧ x.origin = .psRdyContract ∧
      x.sop = 0 ∧ chunkCount x.bytes ≤ x.chunk + 1 ∧ s.pd[k.val].accepted = some c := by
  decide +kernel +zetaReduce
theorem witness_PdSendingEnds_0d :
    let k : PortId := 0
    let x : PdTx := { sendingTx 2 with sop := 0, bytes := [3, 0], origin := .softAccept }
    let s : State := powered id fun p => { p with tx := some ({ sendingTx 2 with sop := 0, bytes := [3, 0], origin := .softAccept }), txId := Vector.replicate 3 5 }
    s.stileLive k = true ∧ s.pd[k.val].tx = some x ∧ s.pd[k.val].psDue = none ∧ x.origin = .softAccept ∧ x.sop = 0 ∧
      chunkCount x.bytes ≤ x.chunk + 1 := by
  decide +kernel +zetaReduce
theorem witness_PdSendingEnds_0e :
    let k : PortId := 0
    let x : PdTx := { sendingTx 2 with sop := 0, bytes := [0x82, 0x80, 40, 0x80] ++ List.replicate 40 9 }
    let s : State := (powered id fun p => { p with tx := some ({ sendingTx 2 with sop := 0, bytes := [0x82, 0x80, 40, 0x80] ++ List.replicate 40 9 }) }).modSlot 0 fun x => { x with till := [{ waiting 0x82 6 with point := .effected, wait := .pdTx 0 }] }
    s.stileLive k = true ∧ s.pd[k.val].tx = some x ∧ s.pd[k.val].psDue = none ∧
      x.chunk + 1 < chunkCount x.bytes := by
  decide +kernel +zetaReduce
theorem witness_PdSendingEnds_2b :
    let k : PortId := 0
    let x : PdTx := { sendingTx 0 with sop := 0, origin := .psRdyContract }
    let s : State := powered id fun p => { p with tx := some ({ sendingTx 0 with sop := 0, origin := .psRdyContract }) }
    s.stileLive k = true ∧ s.pd[k.val].tx = some x ∧ s.pd[k.val].psDue = none ∧ x.retries = 0 ∧
      (x.origin = .psRdyContract ∨ x.origin = .psRdyVconn) := by
  decide +kernel +zetaReduce
theorem witness_PdSendingEnds_5 :
    let k : PortId := 0
    let x : PdTx := { sendingTx 2 with sop := 0 }
    let s : State := (powered id fun p => { p with held := some { sendingTx 2 with sop := 0 } }).modSlot 0 fun x => { x with till := [{ waiting 0x82 6 with point := .dispatched, wait := .pdTx 0 }] }
    s.stileLive k = true ∧ s.pd[k.val].held = some x ∧ s.pd[k.val].tx = none := by
  decide +kernel +zetaReduce

/-! Witnesses of TransitionsAndVconnMove. -/
theorem witness_TransitionsAndVconnMove_0 :
    let k : PortId := 0
    let c : Contract := ⟨300, 300, 180, 2, false⟩
    let s : State := powered (fun w => { w with trans := .up }) fun p => { p with accepted := some ⟨300, 300, 180, 2, false⟩ }
    s.stileLive k = true ∧ s.pd[k.val].accepted = some c ∧ s.pwr[k.val].trans = .up := by
  decide +kernel +zetaReduce
theorem witness_TransitionsAndVconnMove_1 :
    let k : PortId := 0
    let c : Contract := ⟨300, 300, 100, 1, false⟩
    let s : State := powered (fun w => { w with trans := .down, gateL := false, gateH := true }) fun p => { p with accepted := some ⟨300, 300, 100, 1, false⟩ }
    s.stileLive k = true ∧ s.pd[k.val].accepted = some c ∧ s.pwr[k.val].trans = .down ∧
      s.pwr[k.val].gateH = true := by
  decide +kernel +zetaReduce
theorem witness_TransitionsAndVconnMove_2 :
    let k : PortId := 0
    let c : Contract := ⟨300, 300, 100, 1, false⟩
    let s : State := powered id fun p => { p with accepted := some ⟨300, 300, 100, 1, false⟩ }
    s.stileLive k = true ∧ s.pd[k.val].accepted = some c ∧ s.pwr[k.val].trans = .none ∧ s.pd[k.val].psDue = none ∧
      s.pd[k.val].tx = none := by
  decide +kernel +zetaReduce
theorem witness_TransitionsAndVconnMove_3 :
    let k : PortId := 0
    let s : State := powered (fun w => { w with chgV := 1000 }) fun p => { p with vconnSwap := .waitPsRdy, vconnOn := true }
    s.stileLive k = true ∧ s.attached k = true ∧ s.pd[k.val].vconnSwap = .waitPsRdy ∧ s.pd[k.val].txBusy = false ∧
      s.linkUp k = true := by
  decide +kernel +zetaReduce
theorem witness_TransitionsAndVconnMove_4 :
    let k : PortId := 0
    let s : State := powered id fun p => { p with vconnSwap := .sendPsRdy }
    s.stileLive k = true ∧ s.pd[k.val].vconnSwap = .sendPsRdy ∧ s.pd[k.val].psDue = none ∧
      s.pd[k.val].tx = none := by
  decide +kernel +zetaReduce
theorem witness_TransitionsAndVconnMove_5 :
    let k : PortId := 0
    let s : State := powered id fun p => { p with vconnOn := true }
    s.stileLive k = true ∧ s.pd[k.val].vconnOn = true := by
  decide +kernel +zetaReduce
theorem witness_TransitionsAndVconnMove_6 :
    let k : PortId := 0
    let s : State := powered id fun p => { p with bist := .carrier }
    s.pd[k.val].bist = .carrier := by
  decide +kernel +zetaReduce
theorem witness_TransitionsAndVconnMove_2b :
    let k : PortId := 0
    let c : Contract := ⟨300, 300, 100, 1, false⟩
    let x : PdTx := sendingTx 1
    let s : State := powered id fun p => { p with accepted := some ⟨300, 300, 100, 1, false⟩, tx := some (sendingTx 1) }
    s.stileLive k = true ∧ s.pd[k.val].accepted = some c ∧ s.pwr[k.val].trans = .none ∧ s.pd[k.val].psDue = none ∧
      s.pd[k.val].tx = some x ∧ x.origin ≠ .psRdyContract := by
  decide +kernel +zetaReduce
theorem witness_TransitionsAndVconnMove_4b :
    let k : PortId := 0
    let x : PdTx := sendingTx 1
    let s : State := powered id fun p => { p with vconnSwap := .sendPsRdy, tx := some (sendingTx 1) }
    s.stileLive k = true ∧ s.pd[k.val].vconnSwap = .sendPsRdy ∧ s.pd[k.val].psDue = none ∧ s.pd[k.val].tx = some x ∧
      x.origin ≠ .psRdyVconn := by
  decide +kernel +zetaReduce

/-! Witnesses of PortModeChangesMode. -/
theorem witness_PortModeChangesMode_0 :
    let a : CmdArgs := cmd 0 2
    let s : State := device id
    let k := portArg a
    s.takes opPortMode a = true ∧ s.portDown (portArg a) = false ∧ s.mode k = modeArg a := by
  decide +kernel +zetaReduce
theorem witness_PortModeChangesMode_1 :
    let a : CmdArgs := cmd 0 0
    let s : State := relay id
    let k := portArg a
    s.takes opPortMode a = true ∧ s.portDown (portArg a) = false ∧ s.mode k ≠ modeArg a ∧
      ((s.mode k = .proxy → s.portHasOrder k = false ∧ s.portEnabled k = [])) := by
  decide +kernel +zetaReduce

/-! Witnesses of PortResetSuspendResumeStart. -/
theorem witness_PortResetSuspendResumeStart_0 :
    let a : CmdArgs := cmd 0 0
    let s : State := device id
    let k := portArg a
    s.takes opPortReset a = true ∧ s.portDown (portArg a) = false ∧ s.mode (portArg a) ≠ .off ∧
      s.ports[k.val].detachedAt ≠ some s.glb.clock ∧ testBit a.arg1 0 = false ∧ s.usbOn k = true ∧
      s.ports[k.val].connected = true ∧ s.ports[k.val].test = none := by
  decide +kernel +zetaReduce
theorem witness_PortResetSuspendResumeStart_1 :
    let a : CmdArgs := cmd 0 1
    let s : State := device id
    let k := portArg a
    s.takes opPortReset a = true ∧ s.portDown (portArg a) = false ∧ s.mode (portArg a) ≠ .off ∧
      s.ports[k.val].detachedAt ≠ some s.glb.clock ∧ testBit a.arg1 0 = true ∧ s.powered k = true ∧
      s.linkUp k = true := by
  decide +kernel +zetaReduce
theorem witness_PortResetSuspendResumeStart_2 :
    let a : CmdArgs := cmd 0 0
    let s : State := relay id
    let k := portArg a
    s.takes opPortSuspend a = true ∧ s.portDown (portArg a) = false ∧ ((s.mode k = .relay ∧
      s.shownState k = .active) ∨ (s.mode k = .proxy ∧ (s.shownState k = .active ∨ s.shownState k = .addressed) ∧
      s.heldAtRest k = true)) := by
  decide +kernel +zetaReduce
theorem witness_PortResetSuspendResumeStart_3 :
    let a : CmdArgs := cmd 0 0
    let s : State := device fun p => { p with state := .suspended }
    let k := portArg a
    s.takes opPortResume a = true ∧ s.portDown (portArg a) = false ∧ s.mode (portArg a) ≠ .off ∧
      s.shownState k = .suspended := by
  decide +kernel +zetaReduce
theorem witness_PortResetSuspendResumeStart_4 :
    let a : CmdArgs := cmd 0 0
    let s : State := device id
    let k := portArg a
    s.takes opPortResume a = true ∧ s.portDown (portArg a) = false ∧ s.mode (portArg a) ≠ .off ∧
      s.shownState k ≠ .suspended := by
  decide +kernel +zetaReduce
theorem witness_PortResetSuspendResumeStart_1b :
    let a : CmdArgs := cmd 0 1
    let s : State := (device id).modStile 0 fun x => { x with up := false, holdover := true }
    let k := portArg a
    s.takes opPortReset a = true ∧ s.portDown (portArg a) = false ∧ s.mode (portArg a) ≠ .off ∧
      s.ports[k.val].detachedAt ≠ some s.glb.clock ∧ testBit a.arg1 0 = true ∧ s.powered k = true ∧
      s.linkUp k = false := by
  decide +kernel +zetaReduce
theorem witness_PortResetSuspendResumeStart_1c :
    let a : CmdArgs := cmd 0 1
    let s : State := port (fun w => { w with offPending := true, disch := true, vbusMv := 3000 }) id
    let k := portArg a
    s.takes opPortReset a = true ∧ s.portDown (portArg a) = false ∧ s.mode (portArg a) ≠ .off ∧
      s.ports[k.val].detachedAt ≠ some s.glb.clock ∧ testBit a.arg1 0 = true ∧ s.powered k = false ∧
      s.pwr[k.val].offPending = true := by
  decide +kernel +zetaReduce
theorem witness_PortResetSuspendResumeStart_1d :
    let a : CmdArgs := cmd 0 1
    let s : State := port id id
    let k := portArg a
    s.takes opPortReset a = true ∧ s.portDown (portArg a) = false ∧ s.mode (portArg a) ≠ .off ∧
      s.ports[k.val].detachedAt ≠ some s.glb.clock ∧ testBit a.arg1 0 = true ∧ s.powered k = false ∧
      s.pwr[k.val].offPending = false ∧ s.attached k = false := by
  decide +kernel +zetaReduce
theorem witness_PortResetSuspendResumeStart_0b :
    let a : CmdArgs := cmd 0 0
    let s : State := device fun p => { p with detachedAt := some 0 }
    let k := portArg a
    s.takes opPortReset a = true ∧ s.portDown (portArg a) = false ∧ s.mode (portArg a) ≠ .off ∧
      s.ports[k.val].detachedAt = some s.glb.clock := by
  decide +kernel +zetaReduce
theorem witness_PortResetSuspendResumeStart_2b :
    let a : CmdArgs := cmd 0 0
    let s : State := device fun p => { p with wakeCap := true }
    let k := portArg a
    s.takes opPortSuspend a = true ∧ s.portDown (portArg a) = false ∧ ((s.mode k = .relay ∧
      s.shownState k = .active) ∨ (s.mode k = .proxy ∧ (s.shownState k = .active ∨ s.shownState k = .addressed) ∧
      s.heldAtRest k = true)) := by
  decide +kernel +zetaReduce

/-! Witnesses of DeedCommandsChangeTheDeed. -/
theorem witness_DeedCommandsChangeTheDeed_0 :
    let a : CmdArgs := cmd 0 0
    let s : State := relay id
    let k := portArg a
    let d := s.ports[k.val].deed
    s.portDown (portArg a) = false ∧ s.takes opDeedRelease a = true ∧ d.owner.isSome = true := by
  decide +kernel +zetaReduce
theorem witness_DeedCommandsChangeTheDeed_1 :
    let a : CmdArgs := cmd 23 0
    let s : State := up
    s.portDown (portArg a) = false ∧ s.takes opDeedClaim a = true := by
  decide +kernel +zetaReduce
theorem witness_DeedCommandsChangeTheDeed_2 :
    let a : CmdArgs := cmd 0 0
    let s : State := (up.modNsf fun n => { n with presence := 9 }).modPort 0 fun p => { p with deed := { owner := some 3, mode := .relay, gen := 255 } }
    let k := portArg a
    let d := s.ports[k.val].deed
    s.portDown (portArg a) = false ∧ s.takes opDeedSeize a = true ∧ d.owner ≠ callerSlot a.caller := by
  decide +kernel +zetaReduce
theorem witness_DeedCommandsChangeTheDeed_3 :
    let a : CmdArgs := cmd 0 0
    let s : State := owned.modNsf fun n => { n with presence := 9 }
    let k := portArg a
    let d := s.ports[k.val].deed
    s.portDown (portArg a) = false ∧ s.takes opDeedSeize a = true ∧ d.owner = callerSlot a.caller := by
  decide +kernel +zetaReduce
theorem witness_DeedCommandsChangeTheDeed_4 :
    let a : CmdArgs := cmd 0 15
    let s : State := owned
    s.portDown (portArg a) = false ∧ s.takes opDeedView a = true := by
  decide +kernel +zetaReduce

/-! Witnesses of ForeignHubRequestsChangeNothing. -/
theorem witness_ForeignHubRequestsChangeNothing_0 :
    let h : SlotId := 0
    let k : PortId := 0
    let s : State := device id
    s.hubUp h = true ∧ s.ownRelay h k = false := by
  decide +kernel +zetaReduce
theorem witness_ForeignHubRequestsChangeNothing_1 :
    let h : SlotId := 0
    let k : PortId := 0
    let s : State := device id
    s.hubUp h = true ∧ s.ownRelay h k = false := by
  decide +kernel +zetaReduce
theorem witness_ForeignHubRequestsChangeNothing_2 :
    let h : SlotId := 0
    let k : PortId := 0
    let s : State := device id
    s.hubUp h = true ∧ s.ownRelay h k = false := by
  decide +kernel +zetaReduce
theorem witness_ForeignHubRequestsChangeNothing_3 :
    let h : SlotId := 0
    let k : PortId := 23
    let s : State := device id
    s.hubUp h = true ∧ s.ownRelay h k = false := by
  decide +kernel +zetaReduce
theorem witness_ForeignHubRequestsChangeNothing_4 :
    let h : SlotId := 0
    let k : PortId := 23
    let s : State := device id
    s.hubUp h = true ∧ s.owns h k = false := by
  decide +kernel +zetaReduce
theorem witness_ForeignHubRequestsChangeNothing_5 :
    let h : SlotId := 1
    let k : PortId := 0
    let s : State := (device id).modSlot 1 (fun x => { x with vbus := true, presented := true })
    s.hubUp h = true ∧ s.owns h k = false := by
  decide +kernel +zetaReduce
theorem witness_ForeignHubRequestsChangeNothing_6 :
    let h : SlotId := 0
    let k : PortId := 23
    let s : State := device id
    s.hubUp h = true ∧ s.owns h k = false := by
  decide +kernel +zetaReduce
theorem witness_ForeignHubRequestsChangeNothing_7 :
    let h : SlotId := 0
    let s : State := device id
    s.hubUp h = true := by
  decide +kernel +zetaReduce

/-! Witnesses of HubRequestsActOnRelayPorts. -/
theorem witness_HubRequestsActOnRelayPorts_0 :
    let h : SlotId := 0
    let k : PortId := 0
    let s : State := (relay id).modPd 0 fun p => { p with cc := .unattachedSrc }
    s.hubUp h = true ∧ s.ownRelay h k = true ∧ s.attached k = false := by
  decide +kernel +zetaReduce
theorem witness_HubRequestsActOnRelayPorts_1 :
    let h : SlotId := 0
    let k : PortId := 0
    let s : State := relay id
    s.hubUp h = true ∧ s.ownRelay h k = true ∧ s.powered k = true ∧ s.linkUp k = true := by
  decide +kernel +zetaReduce
theorem witness_HubRequestsActOnRelayPorts_2 :
    let h : SlotId := 0
    let k : PortId := 0
    let s : State := relay id
    s.hubUp h = true ∧ s.ownRelay h k = true ∧ s.usbOn k = true ∧ s.ports[k.val].connected = true ∧
      s.ports[k.val].test = none := by
  decide +kernel +zetaReduce
theorem witness_HubRequestsActOnRelayPorts_3 :
    let h : SlotId := 0
    let k : PortId := 0
    let s : State := relay id
    s.hubUp h = true ∧ s.ownRelay h k = true ∧ s.shownState k = .active := by
  decide +kernel +zetaReduce
theorem witness_HubRequestsActOnRelayPorts_4 :
    let h : SlotId := 0
    let k : PortId := 0
    let s : State := relay fun p => { p with state := .suspended }
    s.hubUp h = true ∧ s.ownRelay h k = true ∧ s.shownState k = .suspended := by
  decide +kernel +zetaReduce
theorem witness_HubRequestsActOnRelayPorts_5 :
    let h : SlotId := 0
    let k : PortId := 0
    let s : State := relay id
    s.hubUp h = true ∧ s.ownRelay h k = true := by
  decide +kernel +zetaReduce
theorem witness_HubRequestsActOnRelayPorts_6 :
    let h : SlotId := 0
    let k : PortId := 0
    let s : State := relay (fun p => { p with ttBuffers := [5, 6] })
    s.hubUp h = true ∧ s.ownRelay h k = true := by
  decide +kernel +zetaReduce
theorem witness_HubRequestsActOnRelayPorts_7 :
    let h : SlotId := 0
    let k : PortId := 0
    let s : State := relay fun p => { p with ttBuffers := [5, 6] }
    s.hubUp h = true ∧ s.ownRelay h k = true := by
  decide +kernel +zetaReduce
theorem witness_HubRequestsActOnRelayPorts_8 :
    let h : SlotId := 0
    let k : PortId := 0
    let s : State := (relay id).modPwr 0 (fun w => { w with vbusOn := false, gateL := false })
    s.hubUp h = true ∧ s.ownRelay h k = true ∧
      (s.pwr[k.val].vbusOn = false ∨ s.ports[k.val].state = .disabled ∨ s.ports[k.val].state = .suspended) := by
  decide +kernel +zetaReduce
theorem witness_HubRequestsActOnRelayPorts_9 :
    let h : SlotId := 0
    let k : PortId := 0
    let s : State := device id
    s.hubUp h = true ∧ s.owns h k = true := by
  decide +kernel +zetaReduce
theorem witness_HubRequestsActOnRelayPorts_10 :
    let h : SlotId := 0
    let s : State := device id
    s.hubUp h = true := by
  decide +kernel +zetaReduce
theorem witness_HubRequestsActOnRelayPorts_8b :
    let h : SlotId := 0
    let k : PortId := 0
    let s : State := relay fun p => { p with state := .suspended }
    s.hubUp h = true ∧ s.ownRelay h k = true ∧
      (s.pwr[k.val].vbusOn = false ∨ s.ports[k.val].state = .disabled ∨ s.ports[k.val].state = .suspended) := by
  decide +kernel +zetaReduce
theorem witness_HubRequestsActOnRelayPorts_8c :
    let h : SlotId := 0
    let k : PortId := 0
    let s : State := relay id
    s.hubUp h = true ∧ s.ownRelay h k = true ∧ s.pwr[k.val].vbusOn = true ∧ s.ports[k.val].state ≠ .disabled ∧
      s.ports[k.val].state ≠ .suspended := by
  decide +kernel +zetaReduce
theorem witness_HubRequestsActOnRelayPorts_8d :
    let h : SlotId := 0
    let k : PortId := 0
    let s : State := device id
    s.hubUp h = true ∧ s.owns h k = true ∧ s.mode k ≠ .relay := by
  decide +kernel +zetaReduce

/-! Witnesses of TtHoldsSplits. -/
theorem witness_TtHoldsSplits_0 :
    let k : PortId := 0
    let key : BitVec 16 := 5
    let s : State := relay fun p => { p with ttPeriodic := [⟨1, 96, false, 0⟩] }
    let p := s.ports[k.val]
    let load := (p.ttPeriodic.map (·.bytes)).sum
    let n := 4000
    s.ttUp k = true ∧ (∀ x ∈ p.ttPeriodic, x.key ≠ key) ∧ p.ttPeriodic.length < 16 ∧ load + n ≤ 4096 := by
  decide +kernel +zetaReduce
theorem witness_TtHoldsSplits_1 :
    let k : PortId := 0
    let key : BitVec 16 := 5
    let s : State := relay fun p => { p with ttPeriodic := [⟨1, 96, false, 0⟩, ⟨5, 188, true, 0⟩] }
    let p := s.ports[k.val]
    let load := (p.ttPeriodic.map (·.bytes)).sum
    let n := 188
    s.ttUp k = true ∧ (∃ x ∈ p.ttPeriodic, x.key = key) ∧ load + n ≤ 4096 := by
  decide +kernel +zetaReduce
theorem witness_TtHoldsSplits_2 :
    let k : PortId := 0
    let key : BitVec 16 := 5
    let s : State := relay fun p => { p with ttPeriodic := [⟨1, 4096, false, 0⟩] }
    let p := s.ports[k.val]
    let load := (p.ttPeriodic.map (·.bytes)).sum
    let n := 1
    s.ttUp k = true ∧ (4096 < load + n ∨ (16 ≤ p.ttPeriodic.length ∧ ∀ x ∈ p.ttPeriodic, x.key ≠ key)) := by
  decide +kernel +zetaReduce
theorem witness_TtHoldsSplits_2b :
    let k : PortId := 0
    let key : BitVec 16 := 5
    let s : State := relay fun p => { p with ttPeriodic := List.replicate 16 ⟨1, 8, false, 0⟩ }
    let p := s.ports[k.val]
    let load := (p.ttPeriodic.map (·.bytes)).sum
    let n := 1
    s.ttUp k = true ∧ (4096 < load + n ∨ (16 ≤ p.ttPeriodic.length ∧ ∀ x ∈ p.ttPeriodic, x.key ≠ key)) := by
  decide +kernel +zetaReduce
theorem witness_TtHoldsSplits_3 :
    let k : PortId := 0
    let key : BitVec 16 := 5
    let s : State := relay fun p => { p with ttBuffers := [1, 2, 5, 7] }
    let p := s.ports[k.val]
    let load := (p.ttPeriodic.map (·.bytes)).sum
    s.ttUp k = true ∧ key ∈ p.ttBuffers := by
  decide +kernel +zetaReduce
theorem witness_TtHoldsSplits_3b :
    let k : PortId := 0
    let key : BitVec 16 := 5
    let s : State := relay fun p => { p with ttBuffers := [1, 2, 3] }
    let p := s.ports[k.val]
    let load := (p.ttPeriodic.map (·.bytes)).sum
    s.ttUp k = true ∧ key ∉ p.ttBuffers ∧ p.ttBuffers.length < 4 := by
  decide +kernel +zetaReduce
theorem witness_TtHoldsSplits_3c :
    let k : PortId := 0
    let key : BitVec 16 := 5
    let s : State := relay fun p => { p with ttBuffers := [1, 2, 3, 4] }
    let p := s.ports[k.val]
    let load := (p.ttPeriodic.map (·.bytes)).sum
    s.ttUp k = true ∧ key ∉ p.ttBuffers ∧ 4 ≤ p.ttBuffers.length := by
  decide +kernel +zetaReduce
theorem witness_TtHoldsSplits_4 :
    let k : PortId := 0
    let key : BitVec 16 := 5
    let s : State := relay fun p => { p with ttPeriodic := [⟨1, 96, false, 0⟩, ⟨5, 188, true, 0⟩], ttBuffers := [5] }
    let p := s.ports[k.val]
    let load := (p.ttPeriodic.map (·.bytes)).sum
    let per := true
    let r : TtResult := .ready [1, 2]
    let l : List Byte := [1, 2]
    s.ttUp k = true ∧ (if per then ∃ x ∈ p.ttPeriodic, x.key = key else key ∈ p.ttBuffers) ∧
      ((∃ l, r = .ready l) ∨ r = .err) ∧ r = .ready l := by
  exact ⟨by decide +kernel, ⟨⟨5, 188, true, 0⟩, by decide +kernel, rfl⟩, .inl ⟨_, rfl⟩, rfl⟩
theorem witness_TtHoldsSplits_4b :
    let k : PortId := 0
    let key : BitVec 16 := 5
    let s : State := relay fun p => { p with ttPeriodic := [⟨5, 188, true, 0⟩], ttBuffers := [3, 5] }
    let p := s.ports[k.val]
    let load := (p.ttPeriodic.map (·.bytes)).sum
    let per := false
    let r : TtResult := .err
    s.ttUp k = true ∧ (if per then ∃ x ∈ p.ttPeriodic, x.key = key else key ∈ p.ttBuffers) ∧
      ((∃ l, r = .ready l) ∨ r = .err) := by
  exact ⟨by decide +kernel, by decide +kernel, .inr rfl⟩
theorem witness_TtHoldsSplits_5 :
    let k : PortId := 0
    let key : BitVec 16 := 5
    let s : State := relay fun p => { p with ttPeriodic := [⟨1, 96, false, 0⟩], ttBuffers := [5] }
    let p := s.ports[k.val]
    let load := (p.ttPeriodic.map (·.bytes)).sum
    let r : TtResult := .notYet
    s.ttUp k = true ∧ ∀ x ∈ p.ttPeriodic, x.key ≠ key := by
  decide +kernel +zetaReduce
theorem witness_TtHoldsSplits_6 :
    let k : PortId := 0
    let key : BitVec 16 := 5
    let s : State := relay fun p => { p with ttPeriodic := [⟨5, 96, false, 0⟩], ttBuffers := [4] }
    let p := s.ports[k.val]
    let load := (p.ttPeriodic.map (·.bytes)).sum
    let r : TtResult := .notYet
    s.ttUp k = true ∧ key ∉ p.ttBuffers := by
  decide +kernel +zetaReduce
theorem witness_TtHoldsSplits_7 :
    let k : PortId := 0
    let key : BitVec 16 := 5
    let s : State := relay fun p => { p with deed := { p.deed with owner := none } }
    s.ttUp k = false := by
  decide +kernel +zetaReduce

/-! Witnesses of ConnectionAndResetMoveThePort. -/
theorem witness_ConnectionAndResetMoveThePort_0 :
    let k : PortId := 0
    let s : State := (powered id id).modPort 0 (fun p => { p with state := .powered })
    s.usbOn k = true ∧ s.mode k = .proxy ∧ s.shownState k = .powered ∧ s.ports[k.val].connected = false := by
  decide +kernel +zetaReduce
theorem witness_ConnectionAndResetMoveThePort_1 :
    let k : PortId := 0
    let s : State := device id
    s.usbOn k = true ∧ s.ports[k.val].connected = true ∧ s.ports[k.val].test = none := by
  decide +kernel +zetaReduce
theorem witness_ConnectionAndResetMoveThePort_2 :
    let k : PortId := 0
    let s : State := device fun p => { p with state := .connectDebounce }
    s.usbOn k = true ∧ s.ports[k.val].state = .connectDebounce := by
  decide +kernel +zetaReduce
theorem witness_ConnectionAndResetMoveThePort_3 :
    let k : PortId := 0
    let s : State := device (fun p => { p with state := .resetting })
    s.usbOn k = true ∧ s.ports[k.val].state = .resetting := by
  decide +kernel +zetaReduce
theorem witness_ConnectionAndResetMoveThePort_3b :
    let k : PortId := 0
    let h : SlotId := 0
    let s : State := relay (fun p => { p with state := .resetting })
    s.usbOn k = true ∧ s.ports[k.val].state = .resetting ∧ s.mode k = .relay ∧
      (∀ g, s.owner k = some g → s.slots[g.val].hub2Susp = false) := by
  decide +kernel +zetaReduce
theorem witness_ConnectionAndResetMoveThePort_4 :
    let k : PortId := 0
    let s : State := device fun p => { p with state := .resuming, prev := .addressed, wakeCap := true, wakeSet := true }
    s.usbOn k = true ∧ s.ports[k.val].state = .resuming ∧ s.ports[k.val].slotSuspend = false ∧
      (s.mode k = .relay → ∀ h, s.owner k = some h → s.slots[h.val].hub2Susp = false) := by
  decide +kernel +zetaReduce
theorem witness_ConnectionAndResetMoveThePort_5 :
    let k : PortId := 0
    let s : State := device fun p => { p with state := .suspended }
    s.usbOn k = true ∧ s.mode k = .proxy ∧ s.ports[k.val].connected = true ∧ s.ports[k.val].state = .suspended := by
  decide +kernel +zetaReduce
theorem witness_ConnectionAndResetMoveThePort_6 :
    let k : PortId := 0
    let s : State := relay fun p => { p with state := .suspended }
    s.usbOn k = true ∧ s.mode k = .relay ∧ s.ports[k.val].state = .suspended ∧ s.ports[k.val].hubSuspend = false := by
  decide +kernel +zetaReduce
theorem witness_ConnectionAndResetMoveThePort_7 :
    let k : PortId := 0
    let s : State := device id
    s.usbOn k = true ∧ s.mode k ≠ .off ∧ s.ports[k.val].connected = true ∧ s.ports[k.val].test = none ∧
      s.ports[k.val].state = .active := by
  decide +kernel +zetaReduce
theorem witness_ConnectionAndResetMoveThePort_8 :
    let k : PortId := 0
    let s : State := device fun p => { p with state := .powered, connected := false }
    s.usbOn k = true ∧ s.mode k = .proxy ∧ s.ports[k.val].state = .powered := by
  decide +kernel +zetaReduce
theorem witness_ConnectionAndResetMoveThePort_3c :
    let k : PortId := 0
    let h : SlotId := 0
    let s : State := (relay (fun p => { p with state := .resetting })).modSlot 0 fun x => { x with hub2Susp := true }
    s.usbOn k = true ∧ s.ports[k.val].state = .resetting ∧ s.mode k = .relay ∧ s.owner k = some h ∧
      s.slots[h.val].hub2Susp = true := by
  decide +kernel +zetaReduce
theorem witness_ConnectionAndResetMoveThePort_4b :
    let k : PortId := 0
    let s : State := device fun p => { p with state := .resuming, prev := .active, slotSuspend := true }
    s.usbOn k = true ∧ s.ports[k.val].state = .resuming ∧ s.ports[k.val].slotSuspend = true ∧ s.mode k = .proxy ∧
      s.ports[k.val].prev = .active := by
  decide +kernel +zetaReduce
theorem witness_ConnectionAndResetMoveThePort_5b :
    let k : PortId := 0
    let s : State := device fun p => { p with state := .resuming }
    s.usbOn k = true ∧ s.mode k = .proxy ∧ s.ports[k.val].connected = true ∧ s.ports[k.val].state = .resuming := by
  decide +kernel +zetaReduce
theorem witness_ConnectionAndResetMoveThePort_5c :
    let k : PortId := 0
    let s : State := device id
    s.usbOn k = true ∧ s.mode k = .proxy ∧ s.ports[k.val].connected = true ∧ s.ports[k.val].state = .active := by
  decide +kernel +zetaReduce
theorem witness_ConnectionAndResetMoveThePort_6b :
    let k : PortId := 0
    let h : SlotId := 0
    let s : State := (relay fun p => { p with state := .suspended, hubSuspend := true }).modSlot 0 fun x => { x with hub2Susp := true, wakeHub2 := true }
    s.usbOn k = true ∧ s.mode k = .relay ∧ (s.ports[k.val].state = .suspended ∨ s.ports[k.val].state = .resuming) ∧
      (s.ports[k.val].state = .resuming ∨ s.ports[k.val].hubSuspend = true) ∧ s.owner k = some h := by
  decide +kernel +zetaReduce

/-! Witnesses of EnumerationAdvancesOrRefuses. -/
theorem witness_EnumerationAdvancesOrRefuses_0 :
    let k : PortId := 0
    let s : State := late (device (fun p => { p with state := .enumerating, step := .device8 }))
    let l : List Byte := [18, 1, 0, 2, 0, 0, 0, 64]
    s.ports[k.val].state = .enumerating ∧ s.usbOn k = true ∧ s.freeTime k = true ∧ s.ports[k.val].step = .device8 ∧ 8 ≤ l.length ∧
      descType l = 1 ∧ leAt l 7 1 ≠ 0 := by
  decide +kernel +zetaReduce
theorem witness_EnumerationAdvancesOrRefuses_1 :
    let k : PortId := 0
    let s : State := late (device (fun p => { p with state := .enumerating, step := .setAddress }))
    s.ports[k.val].state = .enumerating ∧ s.usbOn k = true ∧ s.freeTime k = true ∧ s.ports[k.val].step = .setAddress := by
  decide +kernel +zetaReduce
theorem witness_EnumerationAdvancesOrRefuses_2 :
    let k : PortId := 0
    let s : State := late (device fun p => { p with state := .enumerating })
    s.ports[k.val].state = .enumerating ∧ s.usbOn k = true ∧ s.freeTime k = true := by
  decide +kernel +zetaReduce
theorem witness_EnumerationAdvancesOrRefuses_3 :
    let k : PortId := 0
    let s : State := device fun p => { p with state := .enumerating, step := .device8, attempt := 2 }
    s.ports[k.val].state = .enumerating ∧ s.usbOn k = true ∧
      (s.ports[k.val].step = .device8 ∨ s.ports[k.val].step = .device18) ∧ s.ports[k.val].attempt < 3 := by
  decide +kernel +zetaReduce
theorem witness_EnumerationAdvancesOrRefuses_4 :
    let k : PortId := 0
    let s : State := device fun p => { p with state := .enumerating, step := .device18, attempt := 3 }
    s.ports[k.val].state = .enumerating ∧ s.usbOn k = true ∧
      (s.ports[k.val].step = .device8 ∨ s.ports[k.val].step = .device18) ∧ 3 ≤ s.ports[k.val].attempt := by
  decide +kernel +zetaReduce
theorem witness_EnumerationAdvancesOrRefuses_2b :
    let k : PortId := 0
    let s : State := device fun p => { p with state := .enumerating }
    s.ports[k.val].state = .enumerating ∧ s.usbOn k = true ∧ s.freeTime k = false := by
  decide +kernel +zetaReduce

/-! Witnesses of TransfersRunAndEndWithWhatTheyMoved. -/
theorem witness_TransfersRunAndEndWithWhatTheyMoved_0 :
    let a : CmdArgs := cmd 0x8000 18 [0x80, 6, 0, 1, 0, 0, 18, 0]
    let s : State := device id
    let k := portArg a
    s.portDown (portArg a) = false ∧ s.mode (portArg a) = .proxy ∧ s.takes opCtrlXfer a = true ∧
      (s.shownState k = .active ∨ s.shownState k = .addressed) ∧ xferEp a = 0 := by
  decide +kernel +zetaReduce
theorem witness_TransfersRunAndEndWithWhatTheyMoved_1 :
    let a : CmdArgs := cmd 0x8100 600
    let s : State := device id
    let k := portArg a
    s.portDown (portArg a) = false ∧ s.mode (portArg a) = .proxy ∧ s.shownState k = .active ∧ xferEp a ≠ 0 ∧
      (s.ports[k.val].endpoint (xferEp a) (xferIn a)).isSome = true ∧
      epByte (xferEp a) (xferIn a) ∉ s.ports[k.val].haltedEps ∧ a.arg1 ≠ 0 ∧ s.takes opBulkXfer a = true := by
  decide +kernel +zetaReduce
theorem witness_TransfersRunAndEndWithWhatTheyMoved_2 :
    let a : CmdArgs := cmd 0x0200 4 [1,2,3,4]
    let s : State := device id
    let k := portArg a
    s.portDown (portArg a) = false ∧ s.mode (portArg a) = .proxy ∧ s.shownState k = .active ∧ xferEp a ≠ 0 ∧
      (s.ports[k.val].endpoint (xferEp a) (xferIn a)).isSome = true ∧
      epByte (xferEp a) (xferIn a) ∉ s.ports[k.val].haltedEps ∧ a.arg1 ≠ 0 ∧ s.takes opIntXfer a = true := by
  decide +kernel +zetaReduce
theorem witness_TransfersRunAndEndWithWhatTheyMoved_3 :
    let a : CmdArgs := cmd 0x8100 0x20010
    let s : State := device fun p => { p with cfgDescs := [cfgBytes.map fun b => if b = 2 then 2 else b] }
    let k := portArg a
    s.portDown (portArg a) = false ∧ s.mode (portArg a) = .proxy ∧ s.shownState k = .active ∧ xferEp a ≠ 0 ∧
      (s.ports[k.val].endpoint (xferEp a) (xferIn a)).isSome = true ∧
      epByte (xferEp a) (xferIn a) ∉ s.ports[k.val].haltedEps ∧ a.arg1 ≠ 0 ∧ s.takes opIsoXfer a = true := by
  decide +kernel +zetaReduce
theorem witness_TransfersRunAndEndWithWhatTheyMoved_4 :
    let k : PortId := 0
    let ep : BitVec 4 := 1
    let h : SlotId := 0
    let e : TillEntry := bulkEntry
    let x : Xfer := bulkIn
    let s : State := late moving
    let l : List Byte := List.replicate 88 9
    s.findXfer k ep true = some (e, x) ∧ e.args.caller = .slot h ∧ e ∉ s.orphans ∧ (x.op = 0x31 ∨ x.op = 0x32) ∧ x.isIn = true ∧
      s.usbOn k = true ∧ l.length < s.ports[k.val].maxPacket x.ep.toNat true ∧ x.moved + l.length ≤ x.length ∧
      s.ordersOver k = true ∧ (x.op = 0x31 → s.freeTime k = true) := by
  decide +kernel +zetaReduce
theorem witness_TransfersRunAndEndWithWhatTheyMoved_5 :
    let k : PortId := 0
    let ep : BitVec 4 := 1
    let h : SlotId := 0
    let e : TillEntry := bulkEntry
    let x : Xfer := bulkIn
    let s : State := moving
    s.findXfer k ep true = some (e, x) ∧ e.args.caller = .slot h ∧ e ∉ s.orphans ∧ (x.op = 0x31 ∨ x.op = 0x32) ∧ x.isIn = true ∧
      bitsAt e.args.arg0.toNat 16 16 ≠ 0 := by
  decide +kernel +zetaReduce

/-! Witnesses of SlotsAppearAndMovePaths. -/
theorem witness_SlotsAppearAndMovePaths_0 :
    let h : SlotId := 0
    let cc : BitVec 2 := 2
    let s : State := up.modSlot 0 fun x => { x with presented := false, ssPll := true, hub2Susp := true }
    s.hubSide = true ∧ s.glb.phase ≠ 0xE ∧ s.slots[h.val].domainOn = true ∧ s.slots[h.val].presented = false ∧
      s.nsf.entryOff = false ∧ s.slots[h.val].ssPll = true := by
  decide +kernel +zetaReduce
theorem witness_SlotsAppearAndMovePaths_1 :
    let h : SlotId := 0
    let s : State := (onPath 0 fun x => { x with ssSpeed := 0 })
    s.slots[h.val].presented = true ∧ s.slots[h.val].ssTerm = true ∧ s.slots[h.val].ssSpeed = 0 := by
  decide +kernel +zetaReduce
theorem witness_SlotsAppearAndMovePaths_2 :
    let h : SlotId := 0
    let s : State := onPath 0 id
    s.slots[h.val].presented = true ∧ s.slots[h.val].ssTerm = true ∧ s.slots[h.val].tellerPath = 0 := by
  decide +kernel +zetaReduce
theorem witness_SlotsAppearAndMovePaths_3 :
    let h : SlotId := 0
    let s : State := onPath 1 id
    s.slots[h.val].tellerPath = 1 := by
  decide +kernel +zetaReduce
theorem witness_SlotsAppearAndMovePaths_4 :
    let h : SlotId := 0
    let s : State := onPath 1 id
    s.slots[h.val].presented = true := by
  decide +kernel +zetaReduce
theorem witness_SlotsAppearAndMovePaths_0b :
    let h : SlotId := 0
    let cc : BitVec 2 := 3
    let s : State := up.modSlot 0 fun x => { x with presented := false, ssPll := false }
    s.hubSide = true ∧ s.glb.phase ≠ 0xE ∧ s.slots[h.val].domainOn = true ∧ s.slots[h.val].presented = false ∧
      s.nsf.entryOff = false ∧ s.slots[h.val].ssPll = false := by
  decide +kernel +zetaReduce

/-! Witnesses of BusResetEmptiesTheTill. -/
theorem witness_BusResetEmptiesTheTill_0 :
    let h : SlotId := 0
    let s : State := (onPath 2 fun x => { x with till := [waiting 0 1], entryCredits := 511 })
    s.slots[h.val].presented = true ∧ s.slots[h.val].tellerPath = 2 := by
  decide +kernel +zetaReduce
theorem witness_BusResetEmptiesTheTill_1 :
    let h : SlotId := 0
    let s : State := (onPath 1 fun x => { x with till := [waiting 0 1], entryCredits := 511 })
    s.slots[h.val].presented = true ∧ s.slots[h.val].tellerPath = 1 := by
  decide +kernel +zetaReduce

/-! Witnesses of SlotsSuspendAndResume. -/
theorem witness_SlotsSuspendAndResume_0 :
    let h : SlotId := 0
    let s : State := onPath 1 id
    s.slots[h.val].presented = true ∧ s.slots[h.val].tellerPath = 1 ∧ s.slots[h.val].suspended = false := by
  decide +kernel +zetaReduce
theorem witness_SlotsSuspendAndResume_1 :
    let h : SlotId := 0
    let s : State := onPath 1 fun x => { x with suspended := true, ssLink := 3 }
    s.slots[h.val].presented = true ∧ s.slots[h.val].tellerPath = 1 ∧ s.slots[h.val].suspended = true := by
  decide +kernel +zetaReduce
theorem witness_SlotsSuspendAndResume_2 :
    let h : SlotId := 0
    let s : State := onPath 1 id
    s.slots[h.val].presented = true ∧ s.slots[h.val].tellerPath = 1 ∧ s.slots[h.val].hub2Susp = false := by
  decide +kernel +zetaReduce
theorem witness_SlotsSuspendAndResume_3 :
    let h : SlotId := 0
    let s : State := onPath 1 fun x => { x with hub2Susp := true }
    s.slots[h.val].presented = true ∧ s.slots[h.val].tellerPath = 1 ∧ s.slots[h.val].hub2Susp = true := by
  decide +kernel +zetaReduce
theorem witness_SlotsSuspendAndResume_4 :
    let h : SlotId := 0
    let s : State := onPath 1 fun x => { x with u2En := true }
    let st : BitVec 2 := 2
    let own := true
    let allowed := st = 0 ∨ (st = 1 ∧ s.slots[h.val].u1En = true) ∨ (st = 2 ∧ s.slots[h.val].u2En = true)
    let barred := own = true ∧ st ≠ 0 ∧ (s.slots[h.val].subscribed = true ∨ s.slots[h.val].nextSubscribed = true ∨ s.slots[h.val].till ≠ [])
    s.slots[h.val].presented = true ∧ s.slots[h.val].ssSpeed ≠ 0 ∧ s.slots[h.val].ssLink ≠ 3 ∧ (allowed ∧
      ¬barred) := by
  decide +kernel +zetaReduce
theorem witness_SlotsSuspendAndResume_5 :
    let h : SlotId := 0
    let s : State := onPath 1 id
    let itp := true
    s.slots[h.val].presented = true ∧ (itp = false ∨ s.slots[h.val].tellerPath = 1) := by
  decide +kernel +zetaReduce
theorem witness_SlotsSuspendAndResume_3b :
    let h : SlotId := 0
    let k : PortId := 0
    let s : State := (relay fun p => { p with state := .suspended, hubSuspend := true }).modSlot 0 fun x => { x with hub2Susp := true, hubWake := true }
    s.slots[h.val].presented = true ∧ s.slots[h.val].tellerPath = 1 ∧ s.slots[h.val].hub2Susp = true ∧
      s.ownRelay h k = true ∧ s.ports[k.val].hubSuspend = true ∧ s.ports[k.val].state = .suspended := by
  decide +kernel +zetaReduce
theorem witness_SlotsSuspendAndResume_4b :
    let h : SlotId := 0
    let s : State := onPath 1 fun x => { x with u1En := true }
    let st : BitVec 2 := 2
    let own := false
    let allowed := st = 0 ∨ (st = 1 ∧ s.slots[h.val].u1En = true) ∨ (st = 2 ∧ s.slots[h.val].u2En = true)
    let barred := own = true ∧ st ≠ 0 ∧ (s.slots[h.val].subscribed = true ∨ s.slots[h.val].nextSubscribed = true ∨ s.slots[h.val].till ≠ [])
    s.slots[h.val].presented = true ∧ s.slots[h.val].ssSpeed ≠ 0 ∧ s.slots[h.val].ssLink ≠ 3 ∧
      (¬allowed ∨ barred) := by
  decide +kernel +zetaReduce
theorem witness_SlotsSuspendAndResume_4c :
    let h : SlotId := 0
    let s : State := onPath 1 fun x => { x with u1En := true, nextSubscribed := true }
    let st : BitVec 2 := 1
    let own := true
    let allowed := st = 0 ∨ (st = 1 ∧ s.slots[h.val].u1En = true) ∨ (st = 2 ∧ s.slots[h.val].u2En = true)
    let barred := own = true ∧ st ≠ 0 ∧ (s.slots[h.val].subscribed = true ∨ s.slots[h.val].nextSubscribed = true ∨ s.slots[h.val].till ≠ [])
    s.slots[h.val].presented = true ∧ s.slots[h.val].ssSpeed ≠ 0 ∧ s.slots[h.val].ssLink ≠ 3 ∧
      (¬allowed ∨ barred) := by
  decide +kernel +zetaReduce
theorem witness_SlotsSuspendAndResume_5b :
    let h : SlotId := 0
    let s : State := onPath 2 id
    let itp := true
    s.slots[h.val].presented = true ∧ itp = true ∧ s.slots[h.val].tellerPath ≠ 1 := by
  decide +kernel +zetaReduce

/-! Witnesses of StandardRequestsAreAnswered. -/
theorem witness_StandardRequestsAreAnswered_0 :
    let h : SlotId := 0
    let s : State := onPath 1 id
    let f := .ssHub
    let v : Byte := 2
    (s.functionUp h f = true) ∧ 1 < v.toNat := by
  decide +kernel +zetaReduce
theorem witness_StandardRequestsAreAnswered_1 :
    let h : SlotId := 0
    let s : State := onPath 1 id
    (s.functionUp h .teller = true) := by
  decide +kernel +zetaReduce
theorem witness_StandardRequestsAreAnswered_2 :
    let h : SlotId := 0
    let s : State := onPath 1 id
    (s.functionUp h .teller = true) := by
  decide +kernel +zetaReduce
theorem witness_StandardRequestsAreAnswered_3 :
    let h : SlotId := 0
    let s : State := onPath 2 id
    (s.functionUp h .teller = true) := by
  decide +kernel +zetaReduce
theorem witness_StandardRequestsAreAnswered_4 :
    let h : SlotId := 0
    let s : State := onPath 1 id
    (s.functionUp h .hub2 = true) := by
  decide +kernel +zetaReduce
theorem witness_StandardRequestsAreAnswered_5 :
    let h : SlotId := 0
    let s : State := onPath 1 id
    (s.functionUp h .hub2 = true) := by
  decide +kernel +zetaReduce
theorem witness_StandardRequestsAreAnswered_6 :
    let h : SlotId := 0
    let s : State := onPath 1 id
    (s.functionUp h .hub2 = true) := by
  decide +kernel +zetaReduce
theorem witness_StandardRequestsAreAnswered_7 :
    let h : SlotId := 0
    let s : State := onPath 1 id
    (s.functionUp h .ssHub = true) := by
  decide +kernel +zetaReduce
theorem witness_StandardRequestsAreAnswered_8 :
    let h : SlotId := 0
    let s : State := relay id
    let k : PortId := 0
    s.functionUp h .hub2 = true ∧ s.ownRelay h k = true ∧ s.ports[k.val].state = .active := by
  decide +kernel +zetaReduce
theorem witness_StandardRequestsAreAnswered_9 :
    let h : SlotId := 0
    let s : State := device id
    let k : PortId := 0
    s.functionUp h .hub2 = true ∧ s.ownRelay h k = false := by
  decide +kernel +zetaReduce

/-! Witnesses of SplineLinksGoAndCome. -/
theorem witness_SplineLinksGoAndCome_0 :
    let i : StileId := 0
    let place : BitVec 3 := 3
    let seen : Option (List Byte) := none
    let again := true
    let s : State := up.modStile 0 fun x => { x with replayAt := some 3, failedRetries := 14 }
    s.stiles[i.val].up = true ∧ (seen = none ∨ (∃ l, seen = some l ∧ flitFails l = true)) ∧ again = true ∧
      s.stiles[i.val].replayAt = some place ∧ s.stiles[i.val].failedRetries < 15 := by
  intros
  and_intros <;> first | exact .inl rfl | decide +kernel +zetaReduce
theorem witness_SplineLinksGoAndCome_1 :
    let i : StileId := 0
    let s : State := up.modStile 0 fun x => { x with downTimes := [0, 0] }
    s.stiles[i.val].up = true ∧
      ((s.stiles[i.val].downTimes.filter fun t => decide (s.glb.clock < t + 80000)).length < 3) := by
  decide +kernel +zetaReduce
theorem witness_SplineLinksGoAndCome_2 :
    let i : StileId := 0
    let s : State := up.modStile 0 fun x => { x with downTimes := [0, 0, 0] }
    s.stiles[i.val].up = true ∧
      (3 ≤ (s.stiles[i.val].downTimes.filter fun t => decide (s.glb.clock < t + 80000)).length) := by
  decide +kernel +zetaReduce
theorem witness_SplineLinksGoAndCome_3 :
    let i : StileId := 0
    let s : State := up.modStile 0 fun x => { x with holdover := true, up := false }
    s.stiles[i.val].holdover = true := by
  decide +kernel +zetaReduce
theorem witness_SplineLinksGoAndCome_4 :
    let i : StileId := 0
    let s : State := up.modStile 0 fun x => { x with up := false }
    s.awake = true ∧ s.glb.clocksOk = true ∧ s.glb.held = false ∧ s.stiles[i.val].vgdOk = true ∧
      s.stiles[i.val].up = false := by
  decide +kernel +zetaReduce
theorem witness_SplineLinksGoAndCome_0b :
    let i : StileId := 0
    let place : BitVec 3 := 3
    let seen : Option (List Byte) := none
    let again := true
    let s : State := up.modStile 0 fun x => { x with replayAt := some 3, failedRetries := 15 }
    s.stiles[i.val].up = true ∧ (seen = none ∨ (∃ l, seen = some l ∧ flitFails l = true)) ∧ again = true ∧
      s.stiles[i.val].replayAt = some place ∧ 15 ≤ s.stiles[i.val].failedRetries := by
  intros
  and_intros <;> first | exact .inl rfl | decide +kernel +zetaReduce
theorem witness_SplineLinksGoAndCome_0c :
    let i : StileId := 0
    let place : BitVec 3 := 3
    let seen : Option (List Byte) := none
    let again := true
    let s : State := up.modStile 0 fun x => { x with replayAt := some 4, failedRetries := 15 }
    s.stiles[i.val].up = true ∧ (seen = none ∨ (∃ l, seen = some l ∧ flitFails l = true)) ∧
      (again = false ∨ s.stiles[i.val].replayAt ≠ some place) := by
  intros
  and_intros <;> first | exact .inl rfl | decide +kernel +zetaReduce
theorem witness_SplineLinksGoAndCome_0d :
    let i : StileId := 0
    let place : BitVec 3 := 3
    let l : List Byte := List.replicate 10 0 ++ leBytes 2 (crc16 Config.flitCrcInit (List.replicate 10 0))
    let seen : Option (List Byte) := some l
    let again := true
    let s : State := up.modStile 0 fun x => { x with replayAt := some 3 }
    s.stiles[i.val].up = true ∧ seen = some l ∧ l.length = 12 ∧
      leAt l 10 2 = crc16 Config.flitCrcInit (l.take 10) := by
  intros
  exact ⟨by decide +kernel, rfl, rfl, leAt_flit _ (crc16_lt _)⟩

/-! Witnesses of OrdersAreAdmittedRunAndDeleted. -/
theorem witness_OrdersAreAdmittedRunAndDeleted_0 :
    let a : CmdArgs := cmd 3 0 (orderBytes.set 9 1)
    let s : State := device id
    let r := orderRecOf a.params
    let st := .eRange
    s.takes opSoCreate a = true ∧ s.recordStatus r none = some st := by
  decide +kernel +zetaReduce
theorem witness_OrdersAreAdmittedRunAndDeleted_1 :
    let a : CmdArgs := cmd 3 0 orderBytes
    let s : State := ordered {}
    let r := orderRecOf a.params
    s.takes opSoCreate a = true ∧ s.recordStatus r none = none ∧ s.overBudget r none = none ∧
      ((a.arg0 ≠ 0xFFFFFFFF → s.orders[(orderArg a).val].state = .free)) ∧
      ((a.arg0 = 0xFFFFFFFF → ∃ n : OrderId, s.orders[n.val].state = .free)) := by
  intros
  refine ⟨?_, ?_, (overBudget_alone _ _ _ (by decide +kernel +zetaReduce)).trans (by decide +kernel +zetaReduce), ?_, ?_⟩ <;>
    decide +kernel +zetaReduce
theorem witness_OrdersAreAdmittedRunAndDeleted_1b :
    let a : CmdArgs := cmd 3 0 orderBytes
    let s : State := ordered {}
    let r := orderRecOf a.params
    s.takes opSoCreate a = true ∧ s.recordStatus r none = none ∧ s.overBudget r none = none ∧
      ((a.arg0 ≠ 0xFFFFFFFF → s.orders[(orderArg a).val].state = .free)) ∧
      ((a.arg0 = 0xFFFFFFFF → ∃ n : OrderId, s.orders[n.val].state = .free)) := by
  intros
  refine ⟨?_, ?_, (overBudget_alone _ _ _ (by decide +kernel +zetaReduce)).trans (by decide +kernel +zetaReduce), ?_, ?_⟩ <;>
    decide +kernel +zetaReduce
theorem witness_OrdersAreAdmittedRunAndDeleted_2 :
    let a : CmdArgs := cmd 3 0 (orderBytes.set 8 32)
    let s : State := ordered anOrder
    let r := orderRecOf a.params
    let n := orderArg a
    let bound := s.orders[n.val].cfg.any fun old => !(s.coveredBy old).isEmpty && old.bound r (s.frameSize old.firstCh old.nch none)
    s.takes opSoModify a = true ∧ s.orders[n.val].state ≠ .free ∧ s.recordStatus r (some n) = none ∧ bound = false ∧
      s.overBudget r (some n) = none := by
  intros
  refine ⟨?_, ?_, ?_, ?_, (overBudget_alone _ _ _ (by decide +kernel +zetaReduce)).trans (by decide +kernel +zetaReduce)⟩ <;>
    decide +kernel +zetaReduce
theorem witness_OrdersAreAdmittedRunAndDeleted_3 :
    let a : CmdArgs := cmd 3 0
    let r : OrderRec := orderRecOf orderBytes
    let s : State := ordered anOrder
    let n := orderArg a
    s.takes opSoDelete a = true ∧ s.orders[n.val].state ≠ .free ∧ s.orders[n.val].cfg = some r ∧ s.servedBy r = [] ∧
      s.orders[n.val].occ = none := by
  decide +kernel +zetaReduce
theorem witness_OrdersAreAdmittedRunAndDeleted_4 :
    let a : CmdArgs := cmd 3 0
    let r : OrderRec := orderRecOf orderBytes
    let s : State := ordered { anOrder with occ := some anOcc }
    let n := orderArg a
    s.takes opSoDelete a = true ∧ s.orders[n.val].state ≠ .free ∧ s.orders[n.val].cfg = some r ∧ s.servedBy r = [] ∧
      s.orders[n.val].occ.isSome = true := by
  decide +kernel +zetaReduce
theorem witness_OrdersAreAdmittedRunAndDeleted_5 :
    let a : CmdArgs := cmd 3 0
    let s : State := ordered anOrder
    s.takes opSoQuery a = true := by
  decide +kernel +zetaReduce
theorem witness_OrdersAreAdmittedRunAndDeleted_6 :
    let n : OrderId := 3
    let c : Occurrence := anOcc
    let r : XactResult := .error
    let late := false
    let fits := true
    let s : State := ordered { anOrder with occ := some anOcc }
    let d : Occurrence := { anOcc with tries := 1 }
    s.orders[n.val].occ = some c ∧ s.isActive c.cfg.port = true ∧ s.mayRun n c = true ∧
      s.orders[n.val].deleting = false ∧ (c.built = true ∨ (c.cfg.cls ≠ .mintOut ∧ c.cfg.dest ≠ .ledgerSrc)) ∧
      c.step r late fits = some (.more d) ∧ c.cfg.dest ≠ .ledgerSrc := by
  intros
  refine ⟨?_, ?_, mayRun_alone _ _ _ ?_ ?_ ?_, ?_, ?_, ?_, ?_⟩ <;> decide +kernel +zetaReduce
theorem witness_OrdersAreAdmittedRunAndDeleted_7 :
    let n : OrderId := 3
    let c : Occurrence := anOcc
    let r : XactResult := .data [1, 2]
    let late := false
    let fits := true
    let s : State := ordered { anOrder with occ := some anOcc }
    let d : Occurrence := { anOcc with got := [1, 2] }
    let st : OccStatus := .ok
    s.orders[n.val].occ = some c ∧ s.isActive c.cfg.port = true ∧ s.mayRun n c = true ∧
      s.orders[n.val].deleting = false ∧ (c.built = true ∨ (c.cfg.cls ≠ .mintOut ∧ c.cfg.dest ≠ .ledgerSrc)) ∧
      c.step r late fits = some (.over d st) ∧ s.destLost c.cfg = false ∧ d.cfg = c.cfg := by
  intros
  refine ⟨?_, ?_, mayRun_alone _ _ _ ?_ ?_ ?_, ?_, ?_, ?_, ?_, ?_⟩ <;> decide +kernel +zetaReduce
theorem witness_OrdersAreAdmittedRunAndDeleted_7b :
    let n : OrderId := 3
    let c : Occurrence := anOcc
    let r : XactResult := .stall
    let late := false
    let fits := true
    let s : State := ordered { anOrder with occ := some anOcc }
    let d : Occurrence := anOcc
    let st : OccStatus := .stall
    s.orders[n.val].occ = some c ∧ s.isActive c.cfg.port = true ∧ s.mayRun n c = true ∧
      s.orders[n.val].deleting = false ∧ (c.built = true ∨ (c.cfg.cls ≠ .mintOut ∧ c.cfg.dest ≠ .ledgerSrc)) ∧
      c.step r late fits = some (.over d st) ∧ s.destLost c.cfg = false ∧ d.cfg = c.cfg ∧
      (s.orders[n.val].state = .active ∨ s.orders[n.val].state = .destLost) := by
  intros
  refine ⟨?_, ?_, mayRun_alone _ _ _ ?_ ?_ ?_, ?_, ?_, ?_, ?_, ?_, ?_⟩ <;> decide +kernel +zetaReduce
theorem witness_OrdersAreAdmittedRunAndDeleted_7c :
    let n : OrderId := 3
    let c : Occurrence := anOcc
    let r : XactResult := .babble
    let late := false
    let fits := true
    let s : State := ordered { anOrder with occ := some anOcc }
    let d : Occurrence := anOcc
    let st : OccStatus := .babble
    s.orders[n.val].occ = some c ∧ s.isActive c.cfg.port = true ∧ s.mayRun n c = true ∧
      s.orders[n.val].deleting = false ∧ (c.built = true ∨ (c.cfg.cls ≠ .mintOut ∧ c.cfg.dest ≠ .ledgerSrc)) ∧
      c.step r late fits = some (.over d st) ∧ s.destLost c.cfg = false ∧ d.cfg = c.cfg := by
  intros
  refine ⟨?_, ?_, mayRun_alone _ _ _ ?_ ?_ ?_, ?_, ?_, ?_, ?_, ?_⟩ <;> decide +kernel +zetaReduce
theorem witness_OrdersAreAdmittedRunAndDeleted_2b :
    let a : CmdArgs := cmd 7 0 ([0, 3, 1, 0, 0, 0, 64, 0, 128, 0, 5, 0, 0, 0, 0, 0, 0, 0, 5, 1] ++ List.replicate 12 0)
    let s : State := axis .idle
    let r := orderRecOf a.params
    let n := orderArg a
    let bound := s.orders[n.val].cfg.any fun old => !(s.coveredBy old).isEmpty && old.bound r (s.frameSize old.firstCh old.nch none)
    s.takes opSoModify a = true ∧ s.orders[n.val].state ≠ .free ∧ s.recordStatus r (some n) = none ∧
      bound = true := by
  decide +kernel +zetaReduce
theorem witness_OrdersAreAdmittedRunAndDeleted_7d :
    let n : OrderId := 3
    let c : Occurrence := anOcc
    let r : XactResult := .nak
    let late := false
    let fits := true
    let s : State := ordered { anOrder with occ := some anOcc }
    let d : Occurrence := anOcc
    let st : OccStatus := .nak
    s.orders[n.val].occ = some c ∧ s.isActive c.cfg.port = true ∧ s.mayRun n c = true ∧
      s.orders[n.val].deleting = false ∧ (c.built = true ∨ (c.cfg.cls ≠ .mintOut ∧ c.cfg.dest ≠ .ledgerSrc)) ∧
      c.step r late fits = some (.over d st) ∧ s.destLost c.cfg = false ∧ d.cfg = c.cfg := by
  intros
  refine ⟨?_, ?_, mayRun_alone _ _ _ ?_ ?_ ?_, ?_, ?_, ?_, ?_, ?_⟩ <;> decide +kernel +zetaReduce
theorem witness_OrdersAreAdmittedRunAndDeleted_8 :
    let n : OrderId := 3
    let c : Occurrence := anOcc
    let s : State := { device id with orders := vmod (Vector.replicate 1024 {}) 3 fun _ => { anOrder with occ := some anOcc } }
    s.orders[n.val].occ = some c ∧ s.mayRun n c = false := by
  decide +kernel +zetaReduce
theorem witness_OrdersAreAdmittedRunAndDeleted_9 :
    let k : PortId := 0
    let w : OrderWindow := .late
    let n : OrderId := 3
    let c : Occurrence := { anOcc with tries := 1 }
    let s : State := ordered { anOrder with occ := some { anOcc with tries := 1 } }
    s.orders[n.val].occ = some c ∧ (c.cfg.port = k ∧ windowEnds w (speedHigh s.ports[k.val].speed) c = true) ∧
      s.orders[n.val].deleting = false ∧ s.destLost c.cfg = false := by
  decide +kernel +zetaReduce
theorem witness_OrdersAreAdmittedRunAndDeleted_9b :
    let k : PortId := 0
    let w : OrderWindow := .mintOut
    let n : OrderId := 3
    let c : Occurrence := anOcc
    let s : State := ordered { anOrder with occ := some anOcc }
    s.orders[n.val].occ = some c ∧ ¬(c.cfg.port = k ∧ windowEnds w (speedHigh s.ports[k.val].speed) c = true) ∧
      (c.cfg.port = k → c.cfg.cls ≠ .mintOut ∧ c.cfg.dest ≠ .ledgerSrc) := by
  decide +kernel +zetaReduce

/-! Witnesses of PursesAndStatementsCarryResults. -/
theorem witness_PursesAndStatementsCarryResults_0 :
    let a : CmdArgs := cmd 5 0 [2, 0, 4, 0, 1, 0, 0, 0, 0, 0, 0, 0, 0, 0, 0, 0]
    let h : SlotId := 0
    let s : State := up
    let n := purseArg a
    let b := leAt a.params 0 2
    s.takes opPrsCfg a = true ∧ a.caller = .slot h ∧ 0 < b ∧ s.purses[n.val].blocks = 0 ∧
      s.purses[n.val].retired = false ∧ b ≤ s.freeBlocks := by
  decide +kernel +zetaReduce
theorem witness_PursesAndStatementsCarryResults_1 :
    let a : CmdArgs := cmd 5 0 (List.replicate 16 0)
    let h : SlotId := 0
    let s : State := pursed id
    let n := purseArg a
    let b := leAt a.params 0 2
    s.takes opPrsCfg a = true ∧ a.caller = .slot h ∧ b = 0 ∧ s.purses[n.val].blocks ≠ 0 := by
  decide +kernel +zetaReduce
theorem witness_PursesAndStatementsCarryResults_2 :
    let a : CmdArgs := cmd 5 0 [0, 8, 0, 0, 0, 0, 0, 0, 0, 0, 0, 0, 0, 0, 0, 0]
    let h : SlotId := 0
    let s : State := (pursed id).modPurse 6 (fun p => { p with blocks := 2000 })
    let n := purseArg a
    let b := leAt a.params 0 2
    s.takes opPrsCfg a = true ∧ a.caller = .slot h ∧ 0 < b ∧ s.purses[n.val].retired = false ∧
      s.freeBlocks + s.purses[n.val].blocks < b := by
  decide +kernel +zetaReduce
theorem witness_PursesAndStatementsCarryResults_3 :
    let a : CmdArgs := cmd 5 9
    let s : State := pursed fun p => { p with words := packet }
    let n := purseArg a
    let p := s.purses[n.val]
    let k := p.readCount (min a.arg1.toNat 8064)
    s.takes opPrsRead a = true ∧ p.retired = false ∧ p.pointersOk = true ∧ p.badWord k = none ∧ 0 < k := by
  decide +kernel +zetaReduce
theorem witness_PursesAndStatementsCarryResults_4 :
    let a : CmdArgs := cmd 5 1
    let s : State := pursed id
    let n := purseArg a
    let p := s.purses[n.val]
    let k := p.readCount (min a.arg1.toNat 8064)
    s.takes opPrsRead a = true ∧ p.retired = false ∧ p.pointersOk = true ∧ p.badWord k = none ∧ k = 0 := by
  decide +kernel +zetaReduce
theorem witness_PursesAndStatementsCarryResults_6 :
    let a : CmdArgs := cmd 0 0 ([1, 0, 0, 0, 0, 0, 0, 0, 6, 0, 0, 0, 0, 0, 0, 0])
    let h : SlotId := 0
    let s : State := up
    a.caller = .slot h ∧ s.takes opStmtLayout a = true ∧
      (layoutSize ((layoutDescs a.params).map s.elemOf) ≤ (if s.slots[h.val].tellerPath = 2 then 4096 else 16384)) := by
  decide +kernel +zetaReduce
theorem witness_PursesAndStatementsCarryResults_7 :
    let a : CmdArgs := cmd 1 0
    let h : SlotId := 0
    let s : State := up.modSlot 0 fun x => { x with nextLayout := some [] }
    a.caller = .slot h ∧ s.takes opStmtSubscribe a = true ∧
      ((testBit a.arg0 0 = true → s.slots[h.val].layout.isSome = true ∨ s.slots[h.val].nextLayout.isSome = true)) := by
  decide +kernel +zetaReduce
theorem witness_PursesAndStatementsCarryResults_8 :
    let h : SlotId := 0
    let l : List LayoutElem := []
    let s : State := ({ ticking with mint := { ticking.mint with sent := true } } : State).modSlot 0 fun x => { x with layout := some [], stmtOn := true, tellerCfg := true }
    s.awake = true ∧ s.tally.running = true ∧ s.mint.sent = true ∧ s.glb.assembled = false ∧
      s.slots[h.val].layout = some l ∧ s.slots[h.val].assembles = true ∧ ¬(s.slots[h.val].tellerPath = 2 ∧
      4096 < layoutSize l) := by
  decide +kernel +zetaReduce
theorem witness_PursesAndStatementsCarryResults_9 :
    let h : SlotId := 0
    let st : Statement := ⟨7, 0, 1, 2, false, false, [1]⟩
    let rest : List Statement := []
    let s : State := up.modSlot 0 fun x => { x with statements := [⟨7, 0, 1, 2, false, false, [1]⟩] }
    s.pathOpen h = true ∧ s.slots[h.val].statements = st :: rest ∧ s.ldg.faulty inStatements = [] := by
  decide +kernel +zetaReduce
theorem witness_PursesAndStatementsCarryResults_5 :
    let n : PurseId := 5
    let d : Fin 32 := 7
    let s : State := (pursed fun p => { p with detached := 3, draft := some 7 }).modLdg fun g => { g with drafts := vmod g.drafts (7 : Fin 32) fun x => { x with client := 3, busy := true } }
    s.purses[n.val].draft = some d := by
  decide +kernel +zetaReduce
theorem witness_PursesAndStatementsCarryResults_8b :
    let s : State := ticking
    s.mint.sent = false ∨ s.glb.assembled = true := by
  decide +kernel +zetaReduce

/-! Witnesses of BoundaryTakesTheSnapshot. -/
theorem witness_BoundaryTakesTheSnapshot_0 :
    let s : State := ticking
    s.awake = true ∧ s.tally.running = true := by
  decide +kernel +zetaReduce

end Sys2Proof.Tests
end

section
/-! SUPPORT. A command that Teller takes, seen as a charge on the state: the caller's slot gives its credits, or the mailbox is
busy (R172, R192). Reading and writing registers goes past that charge, and answering the command undoes it. -/
namespace Sys2Proof.Machine

/-! ### The charge of a command -/

/-- The state with what taking a command leaves on its caller: the slot's credits are given (R172), or the mailbox holds the
words `m` with GO at 1 (R192). -/
def State.charged (u : State) (a : CmdArgs) (m : Vector Word 68) : State :=
  match a.caller with
  | .slot h => u.modSlot h fun x =>
      { x with entryCredits := x.entryCredits - 1, lineCredits := x.lineCredits - lineCount a.params.length }
  | .mbx => u.modTeller fun t => { t with mbxCmd := m, go := true, done := false }

theorem State.charged_of_slot (u : State) {a : CmdArgs} (m : Vector Word 68) {h : SlotId} (hc : a.caller = .slot h) :
    u.charged a m = u.modSlot h fun x =>
      { x with entryCredits := x.entryCredits - 1, lineCredits := x.lineCredits - lineCount a.params.length } := by
  simp only [State.charged, hc]

theorem State.charged_of_mbx (u : State) {a : CmdArgs} (m : Vector Word 68) (hc : a.caller = .mbx) :
    u.charged a m = u.modTeller fun t => { t with mbxCmd := m, go := true, done := false } := by
  simp only [State.charged, hc]

@[simp] theorem State.charged_glb (u : State) (a : CmdArgs) (m : Vector Word 68) : (u.charged a m).glb = u.glb := by
  unfold State.charged; split <;> rfl
@[simp] theorem State.charged_fw (u : State) (a : CmdArgs) (m : Vector Word 68) : (u.charged a m).fw = u.fw := by
  unfold State.charged; split <;> rfl
@[simp] theorem State.charged_ports (u : State) (a : CmdArgs) (m : Vector Word 68) : (u.charged a m).ports = u.ports := by
  unfold State.charged; split <;> rfl
@[simp] theorem State.charged_pd (u : State) (a : CmdArgs) (m : Vector Word 68) : (u.charged a m).pd = u.pd := by
  unfold State.charged; split <;> rfl
@[simp] theorem State.charged_pwr (u : State) (a : CmdArgs) (m : Vector Word 68) : (u.charged a m).pwr = u.pwr := by
  unfold State.charged; split <;> rfl
@[simp] theorem State.charged_stiles (u : State) (a : CmdArgs) (m : Vector Word 68) : (u.charged a m).stiles = u.stiles := by
  unfold State.charged; split <;> rfl
@[simp] theorem State.charged_escrow (u : State) (a : CmdArgs) (m : Vector Word 68) : (u.charged a m).escrow = u.escrow := by
  unfold State.charged; split <;> rfl
@[simp] theorem State.charged_orders (u : State) (a : CmdArgs) (m : Vector Word 68) : (u.charged a m).orders = u.orders := by
  unfold State.charged; split <;> rfl
@[simp] theorem State.charged_purses (u : State) (a : CmdArgs) (m : Vector Word 68) : (u.charged a m).purses = u.purses := by
  unfold State.charged; split <;> rfl
@[simp] theorem State.charged_tally (u : State) (a : CmdArgs) (m : Vector Word 68) : (u.charged a m).tally = u.tally := by
  unfold State.charged; split <;> rfl
@[simp] theorem State.charged_dvt (u : State) (a : CmdArgs) (m : Vector Word 68) : (u.charged a m).dvt = u.dvt := by
  unfold State.charged; split <;> rfl
@[simp] theorem State.charged_mint (u : State) (a : CmdArgs) (m : Vector Word 68) : (u.charged a m).mint = u.mint := by
  unfold State.charged; split <;> rfl
@[simp] theorem State.charged_clr (u : State) (a : CmdArgs) (m : Vector Word 68) : (u.charged a m).clr = u.clr := by
  unfold State.charged; split <;> rfl
@[simp] theorem State.charged_ldg (u : State) (a : CmdArgs) (m : Vector Word 68) : (u.charged a m).ldg = u.ldg := by
  unfold State.charged; split <;> rfl
@[simp] theorem State.charged_vault (u : State) (a : CmdArgs) (m : Vector Word 68) : (u.charged a m).vault = u.vault := by
  unfold State.charged; split <;> rfl
@[simp] theorem State.charged_nsf (u : State) (a : CmdArgs) (m : Vector Word 68) : (u.charged a m).nsf = u.nsf := by
  unfold State.charged; split <;> rfl
@[simp] theorem State.charged_pending (u : State) (a : CmdArgs) (m : Vector Word 68) : (u.charged a m).pending = u.pending := by
  unfold State.charged; split <;> rfl
@[simp] theorem State.charged_orphans (u : State) (a : CmdArgs) (m : Vector Word 68) : (u.charged a m).orphans = u.orphans := by
  unfold State.charged; split <;> rfl
/-- What Teller does is no part of the charge. -/
@[simp] theorem State.charged_run (u : State) (a : CmdArgs) (m : Vector Word 68) : (u.charged a m).teller.run = u.teller.run := by
  unfold State.charged; split <;> rfl

/-- A slot under the charge. -/
theorem State.charged_slots (u : State) (a : CmdArgs) (m : Vector Word 68) (g : SlotId) :
    (u.charged a m).slots[g.val] = if a.caller = .slot g then
      { u.slots[g.val] with
        entryCredits := u.slots[g.val].entryCredits - 1
        lineCredits := u.slots[g.val].lineCredits - lineCount a.params.length }
      else u.slots[g.val] := by
  rcases hc : a.caller with h | _
  · rw [State.charged_of_slot u m hc, State.modSlot_slots, vmod_get]
    by_cases e : h = g
    · subst e; simp
    · rw [if_neg fun q => e (Fin.ext q), if_neg fun q => e (by injection q)]
  · rw [State.charged_of_mbx u m hc]; simp

/-- A change of the slots that leaves their credits alone goes past the charge. -/
theorem State.charged_mapSlots (u : State) (a : CmdArgs) (m : Vector Word 68) (f : Slot → Slot)
    (hf : ∀ (x : Slot) (ec lc : Nat),
      f { x with entryCredits := ec, lineCredits := lc } = { f x with entryCredits := ec, lineCredits := lc })
    (hc : ∀ x : Slot, (f x).entryCredits = x.entryCredits ∧ (f x).lineCredits = x.lineCredits) :
    { u.charged a m with slots := (u.charged a m).slots.map f } = ({ u with slots := u.slots.map f } : State).charged a m := by
  have hslots : (u.charged a m).slots.map f = (({ u with slots := u.slots.map f } : State).charged a m).slots := by
    refine Vector.ext fun i hi => ?_
    rw [Vector.getElem_map, State.charged_slots u a m ⟨i, hi⟩, State.charged_slots _ a m ⟨i, hi⟩]
    simp only [Vector.getElem_map]
    split
    · obtain ⟨he, hl⟩ := hc u.slots[i]
      rw [hf, he, hl]
    · rfl
  rw [hslots]
  unfold State.charged
  split <;> rfl

/-- While Teller runs, an event to every configured slot is an event to each of them, and nothing else. -/
theorem State.everySlotEvent_running (s : State) (c x d : Nat) (hr : s.teller.run = .running) :
    s.everySlotEvent c x d = { s with slots := s.slots.map fun y => y.afterEvent s.nLow c x d } := by
  have hslots : (s.everySlotEvent c x d).slots = s.slots.map fun y => y.afterEvent s.nLow c x d :=
    Vector.ext fun i hi => by rw [Vector.getElem_map]; exact s.everySlotEvent_slots c x d hr ⟨i, hi⟩
  apply State.eq_of_parts <;> simp [hslots, s.everySlotEvent_teller c x d hr]

/-- While Teller runs, an event to every configured slot goes past the charge. -/
theorem State.everySlotEvent_charged (u : State) (a : CmdArgs) (m : Vector Word 68) (c x d : Nat)
    (hr : u.teller.run = .running) : (u.charged a m).everySlotEvent c x d = (u.everySlotEvent c x d).charged a m := by
  have hn : (u.charged a m).nLow = u.nLow := by simp [State.nLow]
  rw [State.everySlotEvent_running _ c x d (by rw [State.charged_run, hr]), State.everySlotEvent_running u c x d hr, hn]
  refine u.charged_mapSlots a m _ (fun y ec lc => y.afterEvent_credits _ c x d ec lc) fun y => ?_
  obtain ⟨-, he, hl, -⟩ := y.afterEvent_frame u.nLow c x d
  exact ⟨he, hl⟩

/-- An event to every configured slot leaves their Tills and credits. -/
theorem State.everySlotEvent_till (s : State) (c x d : Nat) (hr : s.teller.run = .running) (g : SlotId) :
    (s.everySlotEvent c x d).slots[g.val].till = s.slots[g.val].till ∧
    (s.everySlotEvent c x d).slots[g.val].entryCredits = s.slots[g.val].entryCredits ∧
    (s.everySlotEvent c x d).slots[g.val].lineCredits = s.slots[g.val].lineCredits := by
  rw [State.everySlotEvent_slots s c x d hr g]
  obtain ⟨ht, he, hl, -⟩ := s.slots[g.val].afterEvent_frame s.nLow c x d
  exact ⟨ht, he, hl⟩

/-- What goes past a change of one slot and of Teller goes past the charge. -/
theorem State.charged_comm (u : State) (a : CmdArgs) (m : Vector Word 68) (f : State → State)
    (hs : ∀ h x, f (u.modSlot h x) = (f u).modSlot h x) (ht : ∀ x, f (u.modTeller x) = (f u).modTeller x) :
    f (u.charged a m) = (f u).charged a m := by
  unfold State.charged
  split
  · exact hs _ _
  · exact ht _

/-- A change of the Global block goes past the charge. -/
theorem State.charged_modGlb (u : State) (a : CmdArgs) (m : Vector Word 68) (f : Glb → Glb) :
    (u.charged a m).modGlb f = (u.modGlb f).charged a m :=
  u.charged_comm a m (·.modGlb f) (fun _ _ => rfl) fun _ => rfl

/-- A change of Nightsafe goes past the charge. -/
theorem State.charged_modNsf (u : State) (a : CmdArgs) (m : Vector Word 68) (f : Nightsafe → Nightsafe) :
    (u.charged a m).modNsf f = (u.modNsf f).charged a m :=
  u.charged_comm a m (·.modNsf f) (fun _ _ => rfl) fun _ => rfl

/-- The end of S1 goes past the charge. -/
theorem State.leaveS1_charged (u : State) (a : CmdArgs) (m : Vector Word 68) (op : Nat) (hr : u.teller.run = .running) :
    (u.charged a m).leaveS1 op = (u.leaveS1 op).charged a m := by
  unfold State.leaveS1
  rw [State.charged_glb]
  split
  · rw [State.charged_modGlb]
    exact State.everySlotEvent_charged _ a m _ _ _ (by simpa using hr)
  · rfl

/-- A command finds the part with S1 ended and its charge taken. -/
theorem State.atDispatch_charged (s : State) (o : OpSpec) (a : CmdArgs) (hr : s.teller.run = .running) :
    ∃ m, s.atDispatch o a = (s.leaveS1 o.code).charged a m := by
  refine ⟨(s.writeMbx (BitVec.ofNat 8 o.code) a).teller.mbxCmd, ?_⟩
  rw [← State.leaveS1_charged s a _ o.code hr]
  rcases hc : a.caller with h | _
  · simp only [State.atDispatch, hc, State.charged_of_slot s _ hc]
  · rw [State.charged_of_mbx s _ hc]
    simp only [State.atDispatch, hc, State.writeMbx, State.modTeller]

/-! ### Answering the command undoes its charge -/

/-- Whether a slot's command fits: it has the credits that the command takes, and no command with its tag is in the Till. -/
def State.fits (u : State) (a : CmdArgs) : Prop :=
  ∀ g : SlotId, a.caller = .slot g → u.slots[g.val].room a.params.length = true ∧
    ∀ e ∈ u.slots[g.val].till, e.args.tag ≠ a.tag

theorem Slot.room_of_credits {x y : Slot} (n : Nat) (he : y.entryCredits = x.entryCredits)
    (hl : y.lineCredits = x.lineCredits) : y.room n = x.room n := by
  simp only [Slot.room, he, hl]

/-- A command fits by the Till and the credits of its slot. -/
theorem State.fits_of_till {u v : State} {a : CmdArgs} (h : u.fits a)
    (hv : ∀ g : SlotId, v.slots[g.val].till = u.slots[g.val].till ∧
      v.slots[g.val].entryCredits = u.slots[g.val].entryCredits ∧ v.slots[g.val].lineCredits = u.slots[g.val].lineCredits) :
    v.fits a := by
  intro g hg
  obtain ⟨hroom, htag⟩ := h g hg
  obtain ⟨ht, he, hl⟩ := hv g
  exact ⟨(Slot.room_of_credits _ he hl).trans hroom, by rw [ht]; exact htag⟩

/-- A command that Teller takes fits, and still does once S1 has ended. -/
theorem takes_fits {o : OpSpec} {a : CmdArgs} {s : State} (h : s.takes o a = true) : (s.leaveS1 o.code).fits a := by
  refine State.fits_of_till (u := s) (fun g hg => ?_) fun g => ?_
  · obtain ⟨hroom, hfl, -⟩ := takes_slot h g hg
    refine ⟨hroom, fun e he => ?_⟩
    simp only [Slot.tagInFlight, Bool.or_eq_false_iff, List.any_eq_false] at hfl
    simpa using hfl.1 e he
  · rw [State.leaveS1_slots s o.code (takes_running h) g]
    split
    · obtain ⟨ht, he, hl, -⟩ := s.slots[g.val].afterEvent_frame s.nLow 0x48 0x2 0
      exact ⟨ht, he, hl⟩
    · exact ⟨rfl, rfl, rfl⟩

/-- A slot that has given a command's credits and takes its completion changes in its records and its wake-up. -/
theorem Slot.complete_charged (x : Slot) (o : OpSpec) (a : CmdArgs) (s : State) (st : Status) (r0 : Word) (d : List Byte)
    (hroom : x.room a.params.length = true) (htag : ∀ e ∈ x.till, e.args.tag ≠ a.tag) :
    ∃ (l : List Record) (w : Bool),
      ({ x with
        entryCredits := x.entryCredits - 1
        lineCredits := x.lineCredits - lineCount a.params.length
        till := x.till.filter fun y => y.args.tag != a.tag } : Slot).addCompletion
          ((o.entryOf a s).completion st r0 d) (notifyOf a)
        = { x with records := l, wakeSignal := w, keyHold := x.keyHold ++ [] } ∧ ∀ r ∈ x.records, r ∈ l := by
  have htill : x.till.filter (fun y => y.args.tag != a.tag) = x.till :=
    List.filter_eq_self.mpr fun e he => by simpa using htag e he
  simp only [Slot.room, Bool.and_eq_true, decide_eq_true_eq] at hroom
  obtain ⟨hentry, hlines⟩ := hroom
  obtain ⟨w, hw⟩ := Slot.addCompletion_eq ({ x with
    entryCredits := x.entryCredits - 1
    lineCredits := x.lineCredits - lineCount a.params.length
    till := x.till.filter fun y => y.args.tag != a.tag } : Slot) ((o.entryOf a s).completion st r0 d) (notifyOf a)
  rw [hw]
  simp only [TillEntry.completion, OpSpec.entryOf, mkEntry, if_true, htill, Nat.sub_add_cancel hentry,
    Nat.sub_add_cancel hlines, List.append_nil]
  refine ⟨_, w, rfl, fun r hr => ?_⟩
  split
  · simp [hr]
  · cases hv : isEvent r <;> simp [hr, hv]

/-- Answering a command that fits leaves the uncharged state but for the answer. -/
theorem State.finish_charged {u : State} {a : CmdArgs} (h : u.fits a) (o : OpSpec) (s : State) (m : Vector Word 68)
    (st : Status) (r0 : Word) (d : List Byte) :
    u.SameButAnswer ((u.charged a m).finish a.caller (o.entryOf a s) st r0 d) a.caller [] := by
  refine {
    glb := by simp, fw := by simp, ports := by simp, pd := by simp, pwr := by simp, stiles := by simp, escrow := by simp
    orders := by simp, purses := by simp, tally := by simp, dvt := by simp, mint := by simp, clr := by simp, ldg := by simp
    vault := by simp, nsf := by simp, orphans := by simp, pending := by simp
    others := fun g hg => ?_, own := fun g hg => ?_, teller := fun hc => ?_, mailbox := fun hc => ?_ }
  · rcases hc : a.caller with b | _
    · have hne : b.val ≠ g.val := fun q => hg (by rw [hc, Fin.ext q])
      simp only [State.finish, State.finishSlot, State.modSlot_slots, vmod_other _ _ _ _ _ hne, State.charged_slots, if_neg hg]
    · simp only [State.finish, State.finishMbx, State.modTeller_slots, State.charged_slots, if_neg hg]
  · obtain ⟨hroom, htag⟩ := h g hg
    obtain ⟨l, w, hl, hmem⟩ := u.slots[g.val].complete_charged o a s st r0 d hroom htag
    refine ⟨l, w, ?_, hmem⟩
    rw [← hl]
    simp only [hg, State.finish, State.finishSlot, State.modSlot_slots, vmod_same, State.charged_slots, if_true]
    rfl
  · rcases hc' : a.caller with b | _
    · simp only [State.finish, State.finishSlot, State.modSlot_teller, State.charged_of_slot u m hc']
    · exact absurd hc' hc
  · simp only [hc, State.finish, State.finishMbx, State.charged_of_mbx u m hc, State.modTeller_teller, List.append_nil]
    exact ⟨_, _, _, rfl⟩

/-- A taken command whose body completes at once, leaving the charge on `u`, is answered, and the rest is `u`. -/
theorem issue_completes {o : OpSpec} {a : CmdArgs} {s u : State} {m : Vector Word 68} {st : Status} {r0 : Word}
    {d : List Byte} (h : s.takes o a = true) (hb : o.body (s.atDispatch o a) a = .done st r0 d (u.charged a m))
    (hf : u.fits a) : (issue o a s).answered o a st r0 d ∧ u.SameButAnswer (issue o a s) a.caller [] := by
  rw [issue_takes o a s h, hb]
  exact ⟨finish_answered o a s _ st r0 d, State.finish_charged hf o s m st r0 d⟩

end Sys2Proof.Machine
end

section
/-! SUPPORT. What one access of a register does (R421, R424): at an address in no table, on a register that is read, and on one
whose write passes the checks; and that an access goes past the charge of the command that makes it. -/
namespace Sys2Proof.Machine

/-! ### Addresses -/

@[simp] theorem wordAddr_zero (x : Word) : wordAddr x.toNat 0 = x.toNat := by
  simp only [wordAddr, Nat.mul_zero, Nat.add_zero]; exact Nat.mod_eq_of_lt x.isLt

/-- A register stands at an aligned address only (R12). -/
theorem regOrRefusal_of_some {addr : Nat} {r : Reg} (h : regAt addr = some r) : regOrRefusal addr = .ok r := by
  have ha : addr % 4 = 0 := by by_contra hn; simp [regAt, hn] at h
  simp [regOrRefusal, ha, h]

/-- Where no table has a register, an access is refused (R421). -/
theorem regOrRefusal_of_none {addr : Nat} (h : regAt addr = none) :
    regOrRefusal addr = .error (if addr % 4 ≠ 0 then (.eAlign, 1) else (.eRange, 3)) := by
  unfold regOrRefusal
  split
  · rfl
  · simp [h]

/-- An access of one word at an address in no table takes in no time. -/
theorem readsTime_of_none {x : Word} (h : regAt x.toNat = none) : readsTime x.toNat 1 = false := by
  have hlo : x.toNat ≠ 0x60000 := fun e => by rw [e] at h; cases h
  have hhi : x.toNat ≠ 0x60004 := fun e => by rw [e] at h; cases h
  simp [readsTime, hlo, hhi]

theorem State.accessTime_of_not {s : State} {addr n : Nat} (h : readsTime addr n = false) : s.accessTime addr n = (0, s) := by
  simp [State.accessTime, h]

/-! ### Reading -/

/-- Without a parity error, the parity check of a read changes nothing (R429). -/
theorem State.parityRead_clean {s : State} (addr : Nat) (r : Reg) (hp : s.glb.parityBad = [])
    (hv : ∀ w : Fin 128, s.vault[w.val].copyBad = false) : s.parityRead addr r = s := by
  unfold State.parityRead
  split
  · next row => simp [hv row]
  · simp [hp]

/-- A read of a register without a parity error returns its value (R424). -/
theorem State.regRead_of_some {s : State} {addr : Nat} {r : Reg} (p : Path) (now : Dword) (clear : Bool)
    (h : regAt addr = some r) (hp : s.glb.parityBad = []) (hv : ∀ w : Fin 128, s.vault[w.val].copyBad = false) :
    s.regRead p now clear addr = (.ok, s.regValue p now r, if clear then s.clearRc r else s) := by
  simp only [State.regRead, regOrRefusal_of_some h, State.parityRead_clean addr r hp hv]

/-- A read at an address in no table is recorded (R428). -/
theorem State.regRead_of_none (s : State) {addr : Nat} (p : Path) (now : Dword) (clear : Bool) (h : regAt addr = none) :
    s.regRead p now clear addr =
      (if addr % 4 ≠ 0 then .eAlign else .eRange, 0, s.violation p (if addr % 4 ≠ 0 then 1 else 3) addr) := by
  simp only [State.regRead, regOrRefusal_of_none h]
  split <;> rfl

/-! ### Writing -/

/-- A write at an address in no table is recorded (R428). -/
theorem State.regWrite_of_none (go : State → State) (s : State) {addr : Nat} (p : Path) (v : Word) (h : regAt addr = none) :
    State.regWrite go s p addr v =
      (if addr % 4 ≠ 0 then .eAlign else .eRange, s.violation p (if addr % 4 ≠ 0 then 1 else 3) addr) := by
  simp only [State.regWrite, regOrRefusal_of_none h]
  split <;> rfl

/-- A write that asks for no key is judged by the Ledger and Nightsafe alone before the locks (R421). -/
theorem State.writeRefused_congr {s t : State} (p : Path) {r : Reg} {v : Word} (hl : t.ldg = s.ldg) (hn : t.nsf = s.nsf)
    (hk : v &&& r.wk = 0) : t.writeRefused p r v = s.writeRefused p r v := by
  simp only [State.writeRefused, State.testOutside, State.presenceOpen, hl, hn, hk, ne_eq, not_true_eq_false, false_and,
    if_false]

/-- The locks are those of GLB_LOCK and of the Vault (R432, R441). -/
theorem State.regLocked_congr {s t : State} (r : Reg) (v : Word) (hg : t.glb.lock = s.glb.lock)
    (hw : t.glb.lockWritten = s.glb.lockWritten) (hl : t.ldg = s.ldg) (hv : t.vault = s.vault) :
    t.regLocked r v = s.regLocked r v := by
  have hlevel : t.lockLevel = s.lockLevel := by simp only [State.lockLevel, State.vaultRow, hv]
  cases r <;> simp only [State.regLocked, State.testOutside, Reg.lockGroup, hg, hw, hl, hlevel]

/-- The parity error of the register at an address, if any, ends (R429). -/
def State.endParity (s : State) (addr : Nat) : State :=
  s.modGlb fun g => { g with parityBad := g.parityBad.filter (· != addr) }

/-- Without a parity error there is none to end. -/
theorem State.endParity_clean {s : State} (addr : Nat) (hp : s.glb.parityBad = []) : s.endParity addr = s := by
  apply State.eq_of_parts <;> simp only [State.endParity, State.modGlb]
  rw [hp, List.filter_nil, ← hp]

/-- A write that passes the checks and asks for no key stores the word, and ends a parity error of the register (R421, R429). -/
theorem State.regWrite_passed (go : State → State) {s : State} {addr : Nat} {p : Path} {r : Reg} {v : Word}
    (h : regAt addr = some r) (hr : s.writeRefused p r v = none) (hk : v &&& r.wk = 0) (hl : s.regLocked r v = false) :
    State.regWrite go s p addr v = (.ok, State.storeReg go (s.endParity addr) p addr r v) := by
  simp [State.regWrite, regOrRefusal_of_some h, State.regPut, State.endParity, hr, hk, hl]

/-- An operation of LDG_TEST_CTRL needs the key (R398, R431). -/
theorem ne_ldgTestCtrl_of_passed {s : State} {p : Path} {r : Reg} {v : Word} (hr : s.writeRefused p r v = none)
    (hk : v &&& r.wk = 0) : r ≠ .ldgTestCtrl := by
  rintro rfl
  have h0 : v.toNat % 8 = 0 := by
    have := congrArg BitVec.toNat hk
    simpa [Reg.wk, Nat.and_two_pow_sub_one_eq_mod v.toNat 3] using this
  simp [State.writeRefused, Reg.outOfRange, h0] at hr

/-! ### An access goes past the charge of its command -/

/-- A change of one slot that leaves its credits alone goes past the charge. -/
theorem State.modSlot_charged (u : State) (a : CmdArgs) (m : Vector Word 68) (h : SlotId) (f : Slot → Slot)
    (hf : ∀ (x : Slot) (ec lc : Nat),
      f { x with entryCredits := ec, lineCredits := lc } = { f x with entryCredits := ec, lineCredits := lc })
    (hc : ∀ x : Slot, (f x).entryCredits = x.entryCredits ∧ (f x).lineCredits = x.lineCredits) :
    (u.charged a m).modSlot h f = (u.modSlot h f).charged a m := by
  have hslots : vmod (u.charged a m).slots h f = ((u.modSlot h f).charged a m).slots := by
    refine Vector.ext fun i hi => ?_
    rw [vmod_get, State.charged_slots u a m ⟨i, hi⟩, State.charged_slots _ a m ⟨i, hi⟩, State.modSlot_slots, vmod_get]
    by_cases hi' : h.val = i
    · simp only [hi', if_true]
      split
      · obtain ⟨he, hl⟩ := hc u.slots[i]
        rw [hf, he, hl]
      · rfl
    · simp only [if_neg hi']
  have htel : (u.charged a m).teller = ((u.modSlot h f).charged a m).teller := by
    rcases hc : a.caller with g | _
    · rw [State.charged_of_slot u m hc, State.charged_of_slot _ m hc]; rfl
    · rw [State.charged_of_mbx u m hc, State.charged_of_mbx _ m hc]; rfl
  apply State.eq_of_parts <;> simp [hslots, htel]

theorem State.violation_charged (u : State) (a : CmdArgs) (m : Vector Word 68) (p : Path) (c addr : Nat) :
    (u.charged a m).violation p c addr = (u.violation p c addr).charged a m :=
  u.charged_comm a m (·.violation p c addr) (fun _ _ => rfl) fun _ => rfl

/-- Taking or giving an unlock key goes past the charge. -/
theorem State.setUnlocked_charged (u : State) (a : CmdArgs) (m : Vector Word 68) (p : Path) (b : Bool) :
    (u.charged a m).setUnlocked p b = (u.setUnlocked p b).charged a m := by
  unfold State.setUnlocked
  split
  · exact u.modSlot_charged a m _ _ (fun _ _ _ => rfl) fun _ => ⟨rfl, rfl⟩
  · exact u.charged_modGlb a m _

theorem State.writeUnlock_charged (u : State) (a : CmdArgs) (m : Vector Word 68) (p : Path) (v : Word) :
    (u.charged a m).writeUnlock p v = (u.writeUnlock p v).charged a m := by
  unfold State.writeUnlock
  split
  · exact u.setUnlocked_charged a m p true
  · rw [State.setUnlocked_charged, State.violation_charged]

/-- Closing the presence window goes past the charge. -/
theorem State.closePresence_charged (u : State) (a : CmdArgs) (m : Vector Word 68) (hr : u.teller.run = .running) :
    (u.charged a m).closePresence = u.closePresence.charged a m := by
  unfold State.closePresence State.presenceEvent
  rw [State.charged_nsf]
  split
  · rfl
  · rw [State.charged_modNsf]
    exact State.everySlotEvent_charged _ a m _ _ _ (by simpa using hr)

/-- The power counters of a port clear while its Stile's link is up (R445). -/
theorem State.clearRc_stlPwrCnt (u : State) (k : PortId) : u.clearRc (.stlPwrCnt k) =
    if u.linkUp k then u.modPwr k fun w => { w with cntFast := 0, cntModel := 0, cntLimit := 0, cntSeat := 0 } else u := rfl

/-- The PD counters of a port clear while its Stile's link is up (R445). -/
theorem State.clearRc_stlPdCnt (u : State) (k : PortId) : u.clearRc (.stlPdCnt k) =
    if u.linkUp k then u.modPd k fun p => { p with hardResets := 0, noGoodCrc := 0, rxCrc := 0, auto := 0 } else u := rfl

/-- Clearing the RC fields goes past the charge. -/
theorem State.clearRc_charged (u : State) (a : CmdArgs) (m : Vector Word 68) (r : Reg) :
    (u.charged a m).clearRc r = (u.clearRc r).charged a m := by
  have hlink : ∀ k, (u.charged a m).linkUp k = u.linkUp k := fun k => by simp [State.linkUp]
  cases r with
  | stlPwrCnt k =>
    rw [State.clearRc_stlPwrCnt, State.clearRc_stlPwrCnt, hlink]
    split
    · exact u.charged_comm a m (·.modPwr k _) (fun _ _ => rfl) fun _ => rfl
    · rfl
  | stlPdCnt k =>
    rw [State.clearRc_stlPdCnt, State.clearRc_stlPdCnt, hlink]
    split
    · exact u.charged_comm a m (·.modPd k _) (fun _ _ => rfl) fun _ => rfl
    · rfl
  | _ => exact u.charged_comm a m (·.clearRc _) (fun _ _ => rfl) fun _ => rfl

/-- Clearing the RC fields leaves the slots. -/
@[simp] theorem State.clearRc_slots (u : State) (r : Reg) : (u.clearRc r).slots = u.slots := by
  cases r with
  | stlPwrCnt k => rw [State.clearRc_stlPwrCnt]; split <;> rfl
  | stlPdCnt k => rw [State.clearRc_stlPdCnt]; split <;> rfl
  | _ => rfl

/-- Only a write of GO starts a mailbox command (R192). -/
theorem State.storeReg_go (go : State → State) (u : State) (p : Path) (addr : Nat) {r : Reg} (v : Word) (hgo : r ≠ .mbxGo) :
    State.storeReg go u p addr r v = State.storeReg id u p addr r v := by
  cases r with
  | mbxGo => exact absurd rfl hgo
  | _ => rfl

/-- Storing a word in a register other than GO and LDG_TEST_CTRL goes past the charge; a word of the mailbox command is one of
those the charge holds. -/
theorem State.storeReg_charged (u : State) (a : CmdArgs) (m : Vector Word 68) (p : Path) (addr : Nat) {r : Reg} (v : Word)
    (hr : u.teller.run = .running) (hgo : r ≠ .mbxGo) (hctl : r ≠ .ldgTestCtrl) :
    ∃ m', State.storeReg id (u.charged a m) p addr r v = (State.storeReg id u p addr r v).charged a m' := by
  cases r with
  | mbxGo => exact absurd rfl hgo
  | ldgTestCtrl => exact absurd rfl hctl
  | unlock => exact ⟨m, u.writeUnlock_charged a m p v⟩
  | presence =>
    refine ⟨m, ?_⟩
    simp only [State.storeReg]
    split
    · exact u.closePresence_charged a m hr
    · rfl
  | mbxCmd i =>
    refine ⟨m.set i.val v, ?_⟩
    rcases hc : a.caller with h | _
    · rw [State.charged_of_slot u m hc, State.charged_of_slot _ _ hc]; rfl
    · rw [State.charged_of_mbx u m hc, State.charged_of_mbx _ _ hc]; rfl
  | nsfRuleHit =>
    refine ⟨m, ?_⟩
    simp only [State.storeReg, State.post]
    split <;> simp only [State.charged_modNsf]
  | _ => exact ⟨m, u.charged_comm a m (State.storeReg id · p addr _ v) (fun _ _ => rfl) fun _ => rfl⟩

/-- Storing a word in a register other than GO and LDG_TEST_CTRL leaves the Tills and the credits. -/
theorem State.storeReg_till (u : State) (p : Path) (addr : Nat) {r : Reg} (v : Word) (hr : u.teller.run = .running)
    (hgo : r ≠ .mbxGo) (hctl : r ≠ .ldgTestCtrl) (g : SlotId) :
    (State.storeReg id u p addr r v).slots[g.val].till = u.slots[g.val].till ∧
    (State.storeReg id u p addr r v).slots[g.val].entryCredits = u.slots[g.val].entryCredits ∧
    (State.storeReg id u p addr r v).slots[g.val].lineCredits = u.slots[g.val].lineCredits := by
  cases r with
  | mbxGo => exact absurd rfl hgo
  | ldgTestCtrl => exact absurd rfl hctl
  | unlock =>
    have hset : ∀ b, (u.setUnlocked p b).slots[g.val].till = u.slots[g.val].till ∧
        (u.setUnlocked p b).slots[g.val].entryCredits = u.slots[g.val].entryCredits ∧
        (u.setUnlocked p b).slots[g.val].lineCredits = u.slots[g.val].lineCredits := fun b => by
      unfold State.setUnlocked
      split
      · rw [State.modSlot_slots, vmod_get]; split <;> exact ⟨rfl, rfl, rfl⟩
      · exact ⟨rfl, rfl, rfl⟩
    simp only [State.storeReg, State.writeUnlock]
    split
    · exact hset true
    · exact hset false
  | presence =>
    simp only [State.storeReg]
    split
    · unfold State.closePresence State.presenceEvent
      split
      · exact ⟨rfl, rfl, rfl⟩
      · exact State.everySlotEvent_till _ _ _ _ (by simpa using hr) g
    · exact ⟨rfl, rfl, rfl⟩
  | nsfRuleHit => simp only [State.storeReg]; split <;> exact ⟨rfl, rfl, rfl⟩
  | _ => exact ⟨rfl, rfl, rfl⟩

end Sys2Proof.Machine
end

section
/-! SUPPORT. The bodies of REG_RD, REG_WR and REG_RMW on one word (R183, R422), and what Teller makes of them once it takes the
command. -/
namespace Sys2Proof.Machine

/-! ### The bodies on one word -/

/-- REG_RD of one word reads the register. -/
theorem regRdBody_of_some {s : State} {a : CmdArgs} {r : Reg} (h1 : a.arg1 = 1) (h : regAt a.arg0.toNat = some r)
    (ht : readsTime a.arg0.toNat 1 = false) (hp : s.glb.parityBad = [])
    (hv : ∀ w : Fin 128, s.vault[w.val].copyBad = false) :
    regRdBody s a = .done .ok (s.regValue (pathOf a.caller) 0 r)
      (leBytes 4 (s.regValue (pathOf a.caller) 0 r).toNat) (s.clearRc r) := by
  have hn : a.arg1.toNat = 1 := by rw [h1]; rfl
  simp only [regRdBody, hn, State.accessTime_of_not ht, List.range_one, State.readWords, wordAddr_zero,
    State.regRead_of_some _ _ _ h hp hv, ne_eq, not_true_eq_false, if_false, if_true, List.headD_cons]
  simp [bytesOfWords, fitTo, leBytes]

/-- REG_RD of one word at an address in no table is refused, with zeros for the word. -/
theorem regRdBody_of_none {a : CmdArgs} (s : State) (h1 : a.arg1 = 1) (h : regAt a.arg0.toNat = none) :
    regRdBody s a = .done (if a.arg0.toNat % 4 ≠ 0 then .eAlign else .eRange) 0 (List.replicate 4 0)
      (s.violation (pathOf a.caller) (if a.arg0.toNat % 4 ≠ 0 then 1 else 3) a.arg0.toNat) := by
  have hn : a.arg1.toNat = 1 := by rw [h1]; rfl
  have hst : (if a.arg0.toNat % 4 ≠ 0 then Status.eAlign else Status.eRange) ≠ .ok := by split <;> simp
  simp only [regRdBody, hn, State.accessTime_of_not (readsTime_of_none h), List.range_one, State.readWords, wordAddr_zero,
    State.regRead_of_none s _ _ _ h, if_pos hst]
  rfl

/-- REG_WR of four bytes writes their word. -/
theorem opRegWr_body_one {a : CmdArgs} (s : State) (hl : a.params.length = 4) :
    opRegWr.body s a =
      .done (State.regWrite State.mbxStart s (pathOf a.caller) a.arg0.toNat (toWord (leAt a.params 0 4))).1 0 []
        (State.regWrite State.mbxStart s (pathOf a.caller) a.arg0.toNat (toWord (leAt a.params 0 4))).2 := by
  have hw : wordsOf (a.params.length / 4) a.params = [toWord (leAt a.params 0 4)] := by rw [hl]; rfl
  simp only [opRegWr, opRegWrG, hw, State.writeWords]
  split
  · rfl
  · next hok => rw [not_not.mp hok]

/-- REG_RMW reads without clearing and writes under the mask. -/
theorem regRmwBody_of_some (go : State → State) {s : State} {a : CmdArgs} {r : Reg} (h : regAt a.arg0.toNat = some r)
    (ht : readsTime a.arg0.toNat 1 = false) (hp : s.glb.parityBad = [])
    (hv : ∀ w : Fin 128, s.vault[w.val].copyBad = false) :
    regRmwBody go s a =
      (let old := s.regValue (pathOf a.caller) 0 r
       let mask := toWord (leAt a.params 0 4)
       let w := State.regWrite go s (pathOf a.caller) a.arg0.toNat
         ((old &&& ~~~mask) ||| (toWord (leAt a.params 4 4) &&& mask))
       .done w.1 (if w.1 = .ok then old else 0) [] w.2) := by
  simp only [regRmwBody, State.accessTime_of_not ht, State.regRead_of_some _ _ _ h hp hv, ne_eq, not_true_eq_false, if_false,
    Bool.false_eq_true]

/-! ### The end of S1 and the charge leave what an access is judged by -/

/-- A write that passes the checks passes them once S1 has ended. -/
theorem State.leaveS1_writeRefused {s : State} (op : Nat) (p : Path) {r : Reg} {v : Word} (hk : v &&& r.wk = 0) :
    (s.leaveS1 op).writeRefused p r v = s.writeRefused p r v :=
  State.writeRefused_congr p (s.leaveS1_ldg op) (s.leaveS1_nsf op) hk

/-- The locks outlast S1. -/
theorem State.leaveS1_regLocked (s : State) (op : Nat) (r : Reg) (v : Word) :
    (s.leaveS1 op).regLocked r v = s.regLocked r v :=
  State.regLocked_congr r v (by rw [State.leaveS1_glb]; split <;> rfl) (by rw [State.leaveS1_glb]; split <;> rfl)
    (s.leaveS1_ldg op) (s.leaveS1_vault op)

/-- A passed write of a register other than GO, made under the charge of its command, stores the word and leaves the charge. -/
theorem State.regWrite_charged (go : State → State) {u : State} (a : CmdArgs) (m : Vector Word 68) {p : Path} {addr : Nat}
    {r : Reg} {v : Word} (hrun : u.teller.run = .running) (h : regAt addr = some r) (hgo : r ≠ .mbxGo)
    (hr : u.writeRefused p r v = none) (hk : v &&& r.wk = 0) (hl : u.regLocked r v = false) :
    ∃ m', State.regWrite go (u.charged a m) p addr v =
      (.ok, (State.storeReg id (u.endParity addr) p addr r v).charged a m') := by
  have hr' : (u.charged a m).writeRefused p r v = none := by
    rw [State.writeRefused_congr p (State.charged_ldg u a m) (State.charged_nsf u a m) hk, hr]
  have hl' : (u.charged a m).regLocked r v = false := by
    rw [State.regLocked_congr r v (by rw [State.charged_glb]) (by rw [State.charged_glb]) (State.charged_ldg u a m)
      (State.charged_vault u a m), hl]
  have he : (u.charged a m).endParity addr = (u.endParity addr).charged a m := u.charged_modGlb a m _
  obtain ⟨m', hm'⟩ := (u.endParity addr).storeReg_charged a m p addr v (by simpa [State.endParity] using hrun) hgo
    (ne_ldgTestCtrl_of_passed hr hk)
  exact ⟨m', by rw [State.regWrite_passed go h hr' hk hl', State.storeReg_go go _ p addr v hgo, he, hm']⟩

/-- A command that fits does so after a passed write of a register other than GO. -/
theorem State.fits_storeReg {u : State} {a : CmdArgs} (hf : u.fits a) (p : Path) (addr : Nat) {r : Reg} (v : Word)
    (hrun : u.teller.run = .running) (hgo : r ≠ .mbxGo) (hctl : r ≠ .ldgTestCtrl) :
    (State.storeReg id (u.endParity addr) p addr r v).fits a :=
  State.fits_of_till (State.fits_of_till hf fun _ => ⟨rfl, rfl, rfl⟩)
    ((u.endParity addr).storeReg_till p addr v (by simpa [State.endParity] using hrun) hgo hctl)

/-! ### The commands -/

/-- Teller runs on once S1 has ended. -/
theorem takes_leaveS1_running {o : OpSpec} {a : CmdArgs} {s : State} (h : s.takes o a = true) :
    (s.leaveS1 o.code).teller.run = .running := by
  rw [State.leaveS1_teller s _ (takes_running h), takes_running h]

/-- REG_RD of one register (R422, R424). -/
theorem regRd_of_some {a : CmdArgs} {s : State} {r : Reg} (h : s.takes opRegRd a = true) (h1 : a.arg1 = 1)
    (hr : regAt a.arg0.toNat = some r) (ht : readsTime a.arg0.toNat 1 = false) (hp : s.glb.parityBad = [])
    (hv : ∀ w : Fin 128, s.vault[w.val].copyBad = false) :
    (issue opRegRd a s).answered opRegRd a .ok ((s.atDispatch opRegRd a).regValue (pathOf a.caller) 0 r)
      (leBytes 4 ((s.atDispatch opRegRd a).regValue (pathOf a.caller) 0 r).toNat) ∧
    ((s.leaveS1 0x10).clearRc r).SameButAnswer (issue opRegRd a s) a.caller [] := by
  obtain ⟨m, hm⟩ := s.atDispatch_charged opRegRd a (takes_running h)
  have hb := regRdBody_of_some (s := s.atDispatch opRegRd a) h1 hr ht (by simpa using hp) (by simpa using hv)
  have hc : (s.atDispatch opRegRd a).clearRc r = ((s.leaveS1 0x10).clearRc r).charged a m := by
    rw [hm, State.clearRc_charged]; rfl
  rw [hc] at hb
  exact issue_completes h hb (State.fits_of_till (takes_fits h) fun g => by rw [State.clearRc_slots]; exact ⟨rfl, rfl, rfl⟩)

/-- REG_RD answers with COUNT words whatever comes of it (R422). -/
theorem regRd_data_length {a : CmdArgs} {s : State} (h : s.takes opRegRd a = true) :
    ∃ st v data, (issue opRegRd a s).answered opRegRd a st v data ∧ data.length = 4 * a.arg1.toNat := by
  rw [issue_takes opRegRd a s h]
  exact ⟨_, _, _, finish_answered opRegRd a s _ _ _ _, fitTo_length _ _⟩

/-- REG_RD of one word at an address in no table (R421, R428). -/
theorem regRd_of_none {a : CmdArgs} {s : State} (h : s.takes opRegRd a = true) (h1 : a.arg1 = 1)
    (hr : regAt a.arg0.toNat = none) :
    (issue opRegRd a s).answered opRegRd a (if a.arg0.toNat % 4 ≠ 0 then .eAlign else .eRange) 0 (List.replicate 4 0) ∧
    ((s.leaveS1 0x10).violation (pathOf a.caller) (if a.arg0.toNat % 4 ≠ 0 then 1 else 3) a.arg0.toNat).SameButAnswer
      (issue opRegRd a s) a.caller [] := by
  obtain ⟨m, hm⟩ := s.atDispatch_charged opRegRd a (takes_running h)
  have hb := regRdBody_of_none (s.atDispatch opRegRd a) h1 hr
  rw [hm, State.violation_charged, ← hm] at hb
  exact issue_completes h hb (State.fits_of_till (takes_fits h) fun _ => ⟨rfl, rfl, rfl⟩)

/-- REG_WR of one register, its write passing the checks (R421, R422). -/
theorem regWr_of_passed {a : CmdArgs} {s : State} {r : Reg} (h : s.takes opRegWr a = true) (hlen : a.params.length = 4)
    (hr : regAt a.arg0.toNat = some r) (hgo : r ≠ .mbxGo)
    (hw : s.writeRefused (pathOf a.caller) r (toWord (leAt a.params 0 4)) = none)
    (hk : toWord (leAt a.params 0 4) &&& r.wk = 0) (hl : s.regLocked r (toWord (leAt a.params 0 4)) = false) :
    (issue opRegWr a s).answered opRegWr a .ok 0 [] ∧
    (State.storeReg id ((s.leaveS1 0x11).endParity a.arg0.toNat) (pathOf a.caller) a.arg0.toNat r
      (toWord (leAt a.params 0 4))).SameButAnswer (issue opRegWr a s) a.caller [] := by
  have hrun := takes_leaveS1_running h
  obtain ⟨m, hm⟩ := s.atDispatch_charged opRegWr a (takes_running h)
  obtain ⟨m', hm'⟩ := State.regWrite_charged State.mbxStart a m hrun hr hgo
    (by rw [State.leaveS1_writeRefused _ _ hk]; exact hw) hk (by rw [State.leaveS1_regLocked]; exact hl)
  have hb := opRegWr_body_one (s.atDispatch opRegWr a) hlen
  rw [hm, hm', ← hm] at hb
  exact issue_completes h hb (State.fits_storeReg (takes_fits h) _ _ _ hrun hgo (ne_ldgTestCtrl_of_passed hw hk))

/-- REG_WR of one word at an address in no table (R421, R428). -/
theorem regWr_of_none {a : CmdArgs} {s : State} (h : s.takes opRegWr a = true) (hlen : a.params.length = 4)
    (hr : regAt a.arg0.toNat = none) :
    (issue opRegWr a s).answered opRegWr a (if a.arg0.toNat % 4 ≠ 0 then .eAlign else .eRange) 0 [] ∧
    ((s.leaveS1 0x11).violation (pathOf a.caller) (if a.arg0.toNat % 4 ≠ 0 then 1 else 3) a.arg0.toNat).SameButAnswer
      (issue opRegWr a s) a.caller [] := by
  obtain ⟨m, hm⟩ := s.atDispatch_charged opRegWr a (takes_running h)
  have hb := opRegWr_body_one (s.atDispatch opRegWr a) hlen
  rw [State.regWrite_of_none _ _ _ _ hr, hm, State.violation_charged, ← hm] at hb
  exact issue_completes h hb (State.fits_of_till (takes_fits h) fun _ => ⟨rfl, rfl, rfl⟩)

/-- REG_RMW of one register, its write passing the checks (R183, R421). -/
theorem regRmw_of_passed {a : CmdArgs} {s : State} {r : Reg} {v : Word} (h : s.takes opRegRmw a = true)
    (hr : regAt a.arg0.toNat = some r) (hgo : r ≠ .mbxGo) (ht : readsTime a.arg0.toNat 1 = false)
    (hp : s.glb.parityBad = []) (hv : ∀ w : Fin 128, s.vault[w.val].copyBad = false)
    (hval : v = ((s.atDispatch opRegRmw a).regValue (pathOf a.caller) 0 r &&& ~~~toWord (leAt a.params 0 4)) |||
      (toWord (leAt a.params 4 4) &&& toWord (leAt a.params 0 4)))
    (hw : s.writeRefused (pathOf a.caller) r v = none) (hk : v &&& r.wk = 0) (hl : s.regLocked r v = false) :
    (issue opRegRmw a s).answered opRegRmw a .ok ((s.atDispatch opRegRmw a).regValue (pathOf a.caller) 0 r) [] ∧
    (State.storeReg id (s.leaveS1 0x12) (pathOf a.caller) a.arg0.toNat r v).SameButAnswer (issue opRegRmw a s) a.caller [] := by
  have hrun := takes_leaveS1_running h
  have hclean : (s.leaveS1 opRegRmw.code).glb.parityBad = [] := by rw [State.leaveS1_glb]; split <;> exact hp
  obtain ⟨m, hm⟩ := s.atDispatch_charged opRegRmw a (takes_running h)
  obtain ⟨m', hm'⟩ := State.regWrite_charged State.mbxStart a m hrun hr hgo
    (by rw [State.leaveS1_writeRefused _ _ hk]; exact hw) hk (by rw [State.leaveS1_regLocked]; exact hl)
  have hb := regRmwBody_of_some State.mbxStart (s := s.atDispatch opRegRmw a) hr ht (by simpa using hp) (by simpa using hv)
  simp only [← hval] at hb
  rw [← hm] at hm'
  simp only [hm', if_true] at hb
  have hans := issue_completes h hb
    (State.fits_storeReg (takes_fits h) _ _ _ hrun hgo (ne_ldgTestCtrl_of_passed hw hk))
  rw [State.endParity_clean _ hclean] at hans
  exact hans

/-- Settles O10: each clause is what the register's access does, past the charge that the command itself lays on its caller. -/
theorem registerCommandsReadAndWrite : Obligations.RegisterCommandsReadAndWrite := by
  unfold Obligations.RegisterCommandsReadAndWrite
  refine ⟨?read, ?count, ?readRefused, ?write, ?writeRefused, ?modify⟩
  case read =>
    intro a s r h h1 hr ht hp hv v
    exact ⟨_, rfl, regRd_of_some h h1 hr ht hp hv⟩
  case count =>
    intro a s h
    obtain ⟨st, v, data, hans, hlen⟩ := regRd_data_length h
    exact ⟨_, st, v, data, rfl, hans, hlen⟩
  case readRefused =>
    intro a s h h1 hr bad
    exact ⟨_, rfl, regRd_of_none h h1 hr⟩
  case write =>
    intro a s r h hlen hr hgo v p hw hk hl
    exact ⟨_, rfl, regWr_of_passed h hlen hr hgo hw hk hl⟩
  case writeRefused =>
    intro a s h hlen hr bad
    exact ⟨_, rfl, regWr_of_none h hlen hr⟩
  case modify =>
    intro a s r h hr hgo ht hp hv p old mask v hw hk hl
    exact ⟨_, rfl, regRmw_of_passed h hr hgo ht hp hv rfl hw hk hl⟩

end Sys2Proof.Machine
end

section
/-! SUPPORT. What State.reset holds and what the resets of the Carcass take and keep (R51, R58, R93, R94, R467). -/
namespace Sys2Proof.Machine

/-! ### Power-on -/

/-- Every port of State.reset is the port of a part without power. -/
theorem State.reset_port (k : PortId) : State.reset.ports[k.val] = {} := Vector.getElem_replicate ..
/-- Every power half of State.reset is that of a part without power. -/
theorem State.reset_pwr (k : PortId) : State.reset.pwr[k.val] = {} := Vector.getElem_replicate ..
/-- Every CC half of State.reset is that of a part without power. -/
theorem State.reset_pd (k : PortId) : State.reset.pd[k.val] = {} := Vector.getElem_replicate ..
/-- Every slot of State.reset is that of a part without power. -/
theorem State.reset_slot (h : SlotId) : State.reset.slots[h.val] = {} := Vector.getElem_replicate ..
/-- Every Stile of State.reset is that of a part without power. -/
theorem State.reset_stile (i : StileId) : State.reset.stiles[i.val] = {} := Vector.getElem_replicate ..

/-- A port of State.reset is OFF and unowned, with no attach and no power, and its status words read 0. -/
theorem State.reset_portOff (k : PortId) : State.reset.mode k = .off ∧ State.reset.owner k = none ∧
    State.reset.attached k = false ∧ State.reset.pwr[k.val].vbusOn = false ∧ State.reset.shownState k = .off ∧
    State.reset.prtState k = 0 ∧ State.reset.prtDeed k = 0 := by
  have hoff : State.reset.mode k = .off := by rw [State.mode, State.reset_port]
  have hshown : State.reset.shownState k = .off := by rw [State.shownState, if_pos hoff]
  have hatt : State.reset.attached k = false := by rw [State.attached, State.reset_pd]; rfl
  refine ⟨hoff, by rw [State.owner, State.reset_port], hatt, by rw [State.reset_pwr], hshown, ?_, ?_⟩
  · rw [State.prtState, hshown, hatt, State.reset_port, State.reset_pwr]; decide
  · rw [State.prtDeed, State.reset_port]; decide

/-- A Stile without its supply drives no pin of a port. -/
theorem State.pins_of_unpowered {s : State} {k : PortId} (h : s.stilePowered k = false) : s.gateLPin k = false ∧
    s.gateHPin k = false ∧ s.dischPin k = false ∧ s.ccPin k false = .highZ ∧ s.ccPin k true = .highZ := by
  simp [State.gateLPin, State.gateHPin, State.dischPin, State.ccPin, h]

/-- The rows of the Vault as delivered: exactly the first sixteen are programmed, with non-zero words (R437). -/
theorem resetVault_rows (r : Fin 128) : (resetVault[r.val].programmed = true ↔ r.val < 16) ∧
    (r.val < 16 → resetVault[r.val].val ≠ 0) := by
  simp only [resetVault, Vector.getElem_ofFn]
  repeat' split
  all_goals simp; omega

/-- Settles O2: each part of State.reset is at its reset value. -/
theorem resetLeavesThePartUnpowered : Obligations.ResetLeavesThePartUnpowered := by
  unfold Obligations.ResetLeavesThePartUnpowered
  refine ⟨⟨rfl, rfl, rfl, rfl, rfl, State.reset_portOff, fun h => ?slot, fun k => ?pins, rfl, rfl, rfl, fun n => ?order,
    fun c => ?chan, fun b => ?body, rfl, fun n => ?ain, rfl, rfl, resetVault_rows⟩, Ledger.ok_default⟩
  case slot => rw [State.hstStatus, State.hstAddr, State.reset_slot]; decide
  case pins => exact State.pins_of_unpowered (by rw [State.stilePowered, State.reset_stile])
  all_goals simp [State.reset, Vector.getElem_replicate]

/-! ### The resets of the Carcass -/

/-- Every reset of the Carcass takes and keeps what R94 says. -/
theorem State.carcassReset_wasReset (s : State) (cause : BitVec 3) (held : Bool) :
    s.CarcassWasReset (s.carcassReset cause held false) where
  blocks := ⟨rfl, rfl, rfl, rfl, rfl, rfl, rfl, rfl⟩
  tables := ⟨rfl, rfl, rfl⟩
  slots h := by simp [State.carcassReset]
  keys := ⟨rfl, rfl, rfl⟩
  power k := by simp [State.carcassReset, State.powered, State.attached, Pwr.stileReset, Pd.stileReset]
  models k := by simp [State.carcassReset, Pwr.stileReset]
  vault r := by simp [State.carcassReset]

/-- Start-up keeps what a reset took and kept: it samples the straps and releases the Stiles (R60, R72). -/
theorem State.CarcassWasReset.startUp {s t : State} (h : s.CarcassWasReset t) (straps : Option (Bool × Bool)) :
    s.CarcassWasReset (t.startUp straps) where
  blocks := h.blocks
  tables := h.tables
  slots := h.slots
  keys := h.keys
  power k := by simpa [State.startUp, State.powered, State.attached, State.modGlb] using h.power k
  models := h.models
  vault := h.vault

/-- A change of Nightsafe keeps what a reset of the Carcass took and kept. -/
theorem State.CarcassWasReset.modNsf {s t : State} (h : s.CarcassWasReset t) (f : Nightsafe → Nightsafe) :
    s.CarcassWasReset (t.modNsf f) :=
  ⟨h.blocks, h.tables, h.slots, h.keys, h.power, h.models, h.vault⟩

/-- VSVC_LOSS while Nightsafe runs (R58). -/
theorem exec_vsvcLoss {s : State} (h : s.nsf.running = true) : exec .vsvcLoss s =
    .next { s.carcassReset 0 true false with
      nsf := {}, slots := (s.carcassReset 0 true false).slots.map fun x => { x with vbus := false } } := by
  show execVsvcLoss s = _
  rw [execVsvcLoss, h]
  rfl

/-- Settles O14: the Carcass is reset and held, and Nightsafe is as before any power. -/
theorem vsvcLossIsAPowerOnReset : Obligations.VsvcLossIsAPowerOnReset := by
  unfold Obligations.VsvcLossIsAPowerOnReset
  intro s hrun
  have hreset := s.carcassReset_wasReset 0 true
  refine ⟨_, exec_vsvcLoss hrun, rfl, rfl, rfl, rfl, rfl, rfl, rfl, rfl, rfl, rfl, rfl, fun k => ?_⟩
  obtain ⟨hpowered, -, hatt, -⟩ := hreset.power k
  exact ⟨hpowered, hatt⟩

/-- POR_N_LOW on a Carcass that is not held (R93). -/
theorem exec_porNLow {s : State} (h : s.glb.held = false) : exec .porNLow s = .next (s.carcassReset 1 true false) := by
  show execPorNLow s = _
  rw [execPorNLow, h]; rfl

/-- SUPPLY_MONITOR_RESET on a Carcass that is not held (R57). -/
theorem exec_supplyMonitorReset {s : State} (h : s.glb.held = false) :
    exec .supplyMonitorReset s = .next (s.carcassReset 3 true false) := by
  show execSupplyMonitorReset s = _
  rw [execSupplyMonitorReset, h]; rfl

/-- RESET_N_LOW on a Carcass that is not held (R60, R93). -/
theorem exec_resetNLow {s : State} (b c : Bool) (h : s.glb.held = false) :
    exec (.resetNLow b c) s = .next ((s.carcassReset 2 false false).startUp (some (b, c))) := by
  show execResetNLow b c s = _
  rw [execResetNLow, h]; rfl

/-- CLOCK_LOSS on a Carcass whose clocks run (R467). -/
theorem exec_clockLoss {s : State} (h : s.glb.held = false) (hc : s.glb.clocksOk = true) : exec .clockLoss s =
    .next (((s.carcassReset 3 false false).modNsf fun n => { n with clockFail := true }).startUp none) := by
  show execClockLoss s = _
  rw [execClockLoss, h, hc]; rfl

/-! ### A Stile's reset line -/

/-- `t` has the power half, the CC half and the Stiles of `s`: only the USB side, Teller and the hosts have moved. -/
structure State.SamePower (s t : State) : Prop where
  pwr : t.pwr = s.pwr
  pd : t.pd = s.pd
  stiles : t.stiles = s.stiles

theorem State.SamePower.trans {s t u : State} (h : s.SamePower t) (k : t.SamePower u) : s.SamePower u :=
  ⟨k.pwr.trans h.pwr, k.pd.trans h.pd, k.stiles.trans h.stiles⟩

/-- Answering commands leaves power, CC and the Stiles. -/
theorem State.Answering.samePower {s t : State} (h : s.Answering t) : s.SamePower t := ⟨h.pwr, h.pd, h.stiles⟩

/-- What leaves power, CC and the Stiles does so where a condition asks for it. -/
theorem State.SamePower.thenIf {s t u : State} {c : Prop} [Decidable c] (h : s.SamePower t) (k : t.SamePower u) :
    s.SamePower (if c then u else t) := by
  split
  · exact h.trans k
  · exact h

/-- Steps that leave power, CC and the Stiles do so one after the other. -/
theorem State.SamePower.foldl {α : Type} (f : State → α → State) (hf : ∀ (s : State) (a : α), s.SamePower (f s a))
    (l : List α) (s : State) : s.SamePower (l.foldl f s) :=
  foldl_inv (fun t => s.SamePower t) f (fun t a h => h.trans (hf t a)) l s ⟨rfl, rfl, rfl⟩

/-- A change of one port leaves power, CC and the Stiles. -/
theorem State.modPort_samePower (s : State) (k : PortId) (f : Port → Port) : s.SamePower (s.modPort k f) := ⟨rfl, rfl, rfl⟩

/-- Holding Mint groups leaves power, CC and the Stiles. -/
theorem State.holdPort_samePower (s : State) (k : PortId) (c : Cause) : s.SamePower (s.holdPort k c) := by
  unfold State.holdPort
  refine .foldl _ (fun t g => ?_) _ s
  exact ⟨rfl, rfl, rfl⟩

/-- Leaving ACTIVE leaves power, CC and the Stiles. -/
theorem State.leaveActive_samePower (s : State) (k : PortId) : s.SamePower (s.leaveActive k) := by
  unfold State.leaveActive
  split
  · exact s.holdPort_samePower k .port
  · exact ⟨rfl, rfl, rfl⟩

/-- A change that the owner's hub marks leaves power, CC and the Stiles. -/
theorem State.relayChange_samePower (s : State) (k : PortId) (f : HubChange → HubChange) : s.SamePower (s.relayChange k f) := by
  unfold State.relayChange
  split <;> exact ⟨rfl, rfl, rfl⟩

/-- A status that outranks others leaves power, CC and the Stiles. -/
theorem State.outrank_samePower (s : State) (k : PortId) (st : Status) : s.SamePower (s.outrank k st) := by
  unfold State.outrank
  refine .foldl _ (fun t x => ?_) _ s
  exact ⟨rfl, rfl, rfl⟩

/-- An event to a port's owner leaves power, CC and the Stiles. -/
theorem State.portEvent_samePower (s : State) (k : PortId) (c x d : Nat) : s.SamePower (s.portEvent k c x d) := by
  unfold State.portEvent
  split <;> exact ⟨by simp, by simp, by simp⟩

/-- A port that loses its device leaves power, CC and the Stiles. -/
theorem State.loseDevice_samePower (s : State) (k : PortId) (dst : PortState) (st : Status) (tell : Bool)
    (which : Wait → Bool) : s.SamePower (s.loseDevice k dst st tell which) :=
  ((((s.leaveActive_samePower k).thenIf (State.relayChange_samePower _ k _)).trans (State.modPort_samePower _ k _)).trans
    (State.endWaits_answering _ which st).samePower).thenIf
      ((State.outrank_samePower _ k st).trans (State.modPort_samePower _ k _)) |>.thenIf (State.portEvent_samePower _ k _ _ _)

/-- What a Stile's reset line does to the power and the CC half of one of its ports (R51). -/
def State.cutPort (s : State) (k : PortId) : State :=
  ((s.pathsOff k true).modPwr k fun w => { w with queued := none, budgetWait := false, chgV := 0, seatOk := false }).modPd k
    fun p => p.detached .disabled

/-- What a Stile's reset line does to one of its ports (R51). -/
def State.resetPort (s : State) (k : PortId) : State :=
  let s := (s.cutPort k).endWaits (Wait.isPdTx k) .eDetached
  s.loseDevice k (s.unpoweredState k) .eDetached true (Wait.endsOnDetach k)

/-- STILE_RESET_LINE takes the Stile's link down and turns its ports off, one after the other. -/
theorem exec_stileResetLine (i : StileId) (s : State) : exec (.stileResetLine i) s = .next ((portsOf i).foldl State.resetPort
    (s.modStile i fun x => { x with resetLine := true, up := false, retraining := false, holdover := false, kept := [] })) := rfl

/-- The port is off: no path, no attach, no contract. -/
def State.portDead (s : State) (k : PortId) : Prop :=
  s.powered k = false ∧ s.attached k = false ∧ s.pd[k.val].contract = none

/-- The power half that a port's paths leave as they go off, with or without Escrow's charges. -/
def Pwr.opened (w : Pwr) (disch up : Bool) : Pwr := if up then w.pathsOff disch else (w.pathsOff disch).keepCharges w

/-- The reset line on one port changes power and CC as `cutPort` does. -/
theorem State.resetPort_samePower (s : State) (k : PortId) : (s.cutPort k).SamePower (s.resetPort k) := by
  have hend := (State.endWaits_answering (s.cutPort k) (Wait.isPdTx k) .eDetached).samePower
  unfold State.resetPort
  exact hend.trans (State.loseDevice_samePower _ k _ _ _ _)

/-- The reset line on one port changes its power half alone. -/
theorem State.resetPort_pwr (s : State) (k : PortId) : (s.resetPort k).pwr = vmod s.pwr k fun w =>
    { w.opened true (s.linkUp k) with queued := none, budgetWait := false, chgV := 0, seatOk := false } := by
  rw [(s.resetPort_samePower k).pwr, State.cutPort, State.pathsOff, State.modPd_pwr, State.modPwr_pwr, State.modPd_pwr,
    State.modPwr_pwr, vmod_vmod]
  rfl

/-- The reset line on one port changes its CC half alone. -/
theorem State.resetPort_pd (s : State) (k : PortId) :
    (s.resetPort k).pd = vmod s.pd k fun p => p.endContract.detached .disabled := by
  rw [(s.resetPort_samePower k).pd, State.cutPort, State.pathsOff, State.modPd_pd, State.modPwr_pd, State.modPd_pd,
    State.modPwr_pd, vmod_vmod]
  rfl

/-- Paths that go off leave no gate on and no ramp running, and the models as they are. -/
theorem Pwr.opened_off (w : Pwr) (disch up : Bool) : (w.opened disch up).gateL = false ∧ (w.opened disch up).gateH = false ∧
    (w.opened disch up).ramp = .none ∧ (w.opened disch up).fosterL = w.fosterL ∧ (w.opened disch up).fosterH = w.fosterH := by
  cases up <;> exact ⟨rfl, rfl, rfl, rfl, rfl⟩

/-- The reset line on one port turns it off. -/
theorem State.resetPort_dead (s : State) (k : PortId) : (s.resetPort k).portDead k := by
  obtain ⟨hl, hh, hr, -⟩ := s.pwr[k.val].opened_off true (s.linkUp k)
  refine ⟨?_, ?_, ?_⟩
  · rw [State.powered, State.resetPort_pwr, vmod_same]; simp [hl, hh, hr]
  · rw [State.attached, State.resetPort_pd, vmod_same]; rfl
  · rw [State.resetPort_pd, vmod_same]; rfl

/-- The reset line on one port leaves power and CC of every other. -/
theorem State.resetPort_other (s : State) {j k : PortId} (h : j ≠ k) :
    (s.resetPort j).pwr[k.val] = s.pwr[k.val] ∧ (s.resetPort j).pd[k.val] = s.pd[k.val] := by
  have hne : j.val ≠ k.val := fun e => h (Fin.ext e)
  rw [State.resetPort_pwr, State.resetPort_pd]
  exact ⟨vmod_other _ _ _ _ _ hne, vmod_other _ _ _ _ _ hne⟩

/-- The reset line on one port leaves every port's thermal models (R94). -/
theorem State.resetPort_models (s : State) (j k : PortId) : (s.resetPort j).pwr[k.val].fosterL = s.pwr[k.val].fosterL ∧
    (s.resetPort j).pwr[k.val].fosterH = s.pwr[k.val].fosterH := by
  rcases eq_or_ne j k with rfl | h
  · obtain ⟨-, -, -, hl, hh⟩ := s.pwr[j.val].opened_off true (s.linkUp j)
    rw [State.resetPort_pwr, vmod_same]
    exact ⟨hl, hh⟩
  · rw [(s.resetPort_other h).1]; exact ⟨rfl, rfl⟩

/-- A port that is off stays so while the reset line turns another off. -/
theorem State.resetPort_keeps_dead {s : State} {k : PortId} (h : s.portDead k) (j : PortId) : (s.resetPort j).portDead k := by
  rcases eq_or_ne j k with rfl | hne
  · exact s.resetPort_dead j
  · obtain ⟨hpwr, hpd⟩ := s.resetPort_other hne
    simpa [State.portDead, State.powered, State.attached, hpwr, hpd] using h

/-- The reset line on a list of ports turns each of them off. -/
theorem State.resetPorts_dead (l : List PortId) (s : State) {k : PortId} (h : k ∈ l ∨ s.portDead k) :
    (l.foldl State.resetPort s).portDead k := by
  induction l generalizing s with
  | nil => exact h.resolve_left (by simp)
  | cons j l ih =>
    rw [List.foldl_cons]
    refine ih _ ?_
    rcases h with h | h
    · rcases List.mem_cons.mp h with rfl | h
      · exact .inr (s.resetPort_dead k)
      · exact .inl h
    · exact .inr (State.resetPort_keeps_dead h j)

/-- The reset line on a list of ports leaves the Stiles, every thermal model, and the power half of each port outside it. -/
theorem State.resetPorts_frame (l : List PortId) (s : State) :
    (l.foldl State.resetPort s).stiles = s.stiles ∧
    (∀ k : PortId, (l.foldl State.resetPort s).pwr[k.val].fosterL = s.pwr[k.val].fosterL ∧
      (l.foldl State.resetPort s).pwr[k.val].fosterH = s.pwr[k.val].fosterH) ∧
    ∀ k : PortId, k ∉ l → (l.foldl State.resetPort s).pwr[k.val] = s.pwr[k.val] := by
  induction l generalizing s with
  | nil => exact ⟨rfl, fun _ => ⟨rfl, rfl⟩, fun _ _ => rfl⟩
  | cons j l ih =>
    rw [List.foldl_cons]
    obtain ⟨hstiles, hmodels, hothers⟩ := ih (s.resetPort j)
    refine ⟨hstiles.trans (s.resetPort_samePower j).stiles, fun k => ?_, fun k hk => ?_⟩
    · obtain ⟨hl, hh⟩ := s.resetPort_models j k
      exact ⟨(hmodels k).1.trans hl, (hmodels k).2.trans hh⟩
    · obtain ⟨hne, hk⟩ := not_or.mp (mt List.mem_cons.mpr hk)
      exact (hothers k hk).trans (s.resetPort_other (Ne.symm hne)).1

/-- The ports of a Stile are those that it serves. -/
theorem mem_portsOf {i : StileId} {k : PortId} : k ∈ portsOf i ↔ stileOf k = i := by
  simp [portsOf, allPorts, allFin]

/-- Settles O15: every reset of the Carcass is one operation, and the Stile's line turns its ports off one after the other. -/
theorem carcassResetsTakeAndKeep : Obligations.CarcassResetsTakeAndKeep := by
  unfold Obligations.CarcassResetsTakeAndKeep
  refine ⟨fun s hheld => ⟨?por, ?supply, fun b c => ?reset, fun hclocks => ?clock⟩, fun i s => ?line⟩
  case por => exact ⟨_, exec_porNLow hheld, s.carcassReset_wasReset 1 true, rfl, rfl, rfl⟩
  case supply => exact ⟨_, exec_supplyMonitorReset hheld, s.carcassReset_wasReset 3 true, rfl, rfl, rfl⟩
  case reset =>
    exact ⟨_, exec_resetNLow b c hheld, (s.carcassReset_wasReset 2 false).startUp _, rfl, rfl, rfl, rfl, rfl, rfl⟩
  case clock =>
    exact ⟨_, exec_clockLoss hheld hclocks, ((s.carcassReset_wasReset 3 false).modNsf _).startUp _,
      rfl, rfl, rfl, rfl, rfl, rfl, rfl, rfl⟩
  case line =>
    obtain ⟨hstiles, hmodels, hothers⟩ := State.resetPorts_frame (portsOf i)
      (s.modStile i fun x => { x with resetLine := true, up := false, retraining := false, holdover := false, kept := [] })
    refine ⟨_, exec_stileResetLine i s, ?_, ?_, fun k hk => ?_, fun k hk => ?_⟩
    · rw [hstiles, State.modStile_stiles, vmod_same]
    · rw [hstiles, State.modStile_stiles, vmod_same]
    · obtain ⟨hpowered, hattached, hcontract⟩ := State.resetPorts_dead (portsOf i) _ (.inl (mem_portsOf.mpr hk))
      exact ⟨hpowered, hattached, hcontract, hmodels k⟩
    · exact hothers k (mt mem_portsOf.mp hk)

end Sys2Proof.Machine
end

section
/-! SUPPORT. What presenting, withdrawing and moving a slot leave on it (R86, R105, R106, R120 to R122). -/
namespace Sys2Proof.Machine

/-! ### What events and completions leave on a slot -/

/-- `y` is `x` but for what events leave: the records, their SEQ and the wake-up. -/
def Slot.Heard (x y : Slot) : Prop := y = { x with records := y.records, seq := y.seq, wakeSignal := y.wakeSignal }

theorem Slot.Heard.refl (x : Slot) : x.Heard x := rfl

theorem Slot.Heard.trans {x y z : Slot} (h : x.Heard y) (k : y.Heard z) : x.Heard z := by
  unfold Slot.Heard at h k ⊢
  rw [k, h]

/-- A step that leaves the slots leaves each. -/
theorem Slot.Heard.of_slots {s t : State} (h : t.slots = s.slots) (g : SlotId) : s.slots[g.val].Heard t.slots[g.val] := by
  rw [h]; rfl

/-- Events leave a slot but for its records, their SEQ and the wake-up. -/
theorem State.Evented.heard {s t : State} (h : s.Evented t) (g : SlotId) : s.slots[g.val].Heard t.slots[g.val] := by
  rw [h.slots g]; rfl

/-- `y` is `x` but for what completions and events leave: the Till and the credits too. -/
def Slot.Told (x y : Slot) : Prop :=
  y = { x with
    till := y.till, entryCredits := y.entryCredits, lineCredits := y.lineCredits, records := y.records, seq := y.seq
    wakeSignal := y.wakeSignal }

theorem Slot.Told.refl (x : Slot) : x.Told x := rfl

theorem Slot.Told.trans {x y z : Slot} (h : x.Told y) (k : y.Told z) : x.Told z := by
  unfold Slot.Told at h k ⊢
  rw [k, h]

theorem Slot.Heard.told {x y : Slot} (h : x.Heard y) : x.Told y := by
  rw [h]; rfl

/-- A completion leaves the slots but for what completions leave. -/
theorem State.finishSlot_told (s : State) (h : SlotId) (e : TillEntry) (st : Status) (r0 : Word) (d : List Byte) (g : SlotId) :
    s.slots[g.val].Told (s.finishSlot h e st r0 d).slots[g.val] := by
  rw [State.finishSlot, State.modSlot_slots, vmod_get]
  split
  · obtain ⟨w, hw⟩ := Slot.addCompletion_eq
      { s.slots[g.val] with till := s.slots[g.val].till.filter fun y => y.args.tag != e.args.tag }
      (e.completion st r0 d) (notifyOf e.args)
    rw [hw]; rfl
  · rfl

/-- Completions and events, one after the other. -/
theorem Slot.Told.foldl {α : Type} (g : SlotId) (f : State → α → State)
    (hf : ∀ (s : State) (a : α), s.slots[g.val].Told (f s a).slots[g.val]) (l : List α) (s : State) :
    s.slots[g.val].Told (l.foldl f s).slots[g.val] :=
  foldl_inv (fun t : State => s.slots[g.val].Told t.slots[g.val]) f (fun t a h => h.trans (hf t a)) l s (.refl _)

/-- Commands that end leave the slots but for their completions. -/
theorem State.endWith_told (s : State) (p : TillEntry → Bool) (st : Status) (r0 : Word) (g : SlotId) :
    s.slots[g.val].Told (s.endWith p st r0).slots[g.val] := by
  have hslots := Slot.Told.foldl g (fun (t : State) (h : SlotId) =>
    (t.slots[h.val].till.filter p).foldl (fun s e => s.finishSlot h e st r0 []) t)
    (fun t h => Slot.Told.foldl g _ (fun u e => u.finishSlot_told h e st r0 [] g) _ t) allSlots s
  unfold State.endWith
  generalize allSlots.foldl (fun (t : State) (h : SlotId) =>
    (t.slots[h.val].till.filter p).foldl (fun s e => s.finishSlot h e st r0 []) t) s = t at hslots ⊢
  dsimp only
  cases t.teller.mbxEntry with
  | none => exact hslots
  | some e => dsimp only; split <;> exact hslots

/-- PWR_DOMAIN that waited for a slot completes, with its event (R407, R419). -/
theorem State.domainPresented_told (s : State) (h g : SlotId) :
    s.slots[g.val].Told (s.domainPresented h).slots[g.val] := by
  unfold State.domainPresented
  dsimp only
  split
  · exact (s.endWith_told _ _ _ g).trans ((State.everySlotEvent_evented _ _ _ _).heard g).told
  · exact .refl _

/-! ### Suspend and resume -/

/-- Holding Mint groups leaves the slots. -/
@[simp] theorem State.holdPort_slots (s : State) (k : PortId) (c : Cause) : (s.holdPort k c).slots = s.slots := by
  unfold State.holdPort
  apply foldl_keeps (·.slots)
  exact fun _ _ => rfl

/-- A port that leaves ACTIVE leaves the slots. -/
@[simp] theorem State.leaveActive_slots (s : State) (k : PortId) : (s.leaveActive k).slots = s.slots := by
  unfold State.leaveActive
  split
  · exact s.holdPort_slots k .port
  · rfl

/-- The hub's suspend changes its own slot, in its suspend (R120). -/
theorem State.suspendHub2_slots (s : State) (h : SlotId) :
    (s.suspendHub2 h).slots = vmod s.slots h fun x => { x with hub2Susp := true } := by
  unfold State.suspendHub2
  apply foldl_keeps (·.slots)
  intro t k
  split <;> rfl

/-- The hub's resume changes its own slot, in its suspend and its wake-up (R120). -/
theorem State.resumeHub2_slots (s : State) (h : SlotId) :
    (s.resumeHub2 h).slots = vmod s.slots h fun x => { x with hub2Susp := false, hubWake := false } := by
  unfold State.resumeHub2
  apply foldl_keeps (·.slots)
  intro t k
  dsimp only
  split <;> rfl

/-- A slot that becomes suspended changes in that alone (R121). -/
theorem State.suspendSlot_slots (s : State) (h : SlotId) :
    (s.suspendSlot h).slots = vmod s.slots h fun x => { x with suspended := true } := by
  unfold State.suspendSlot
  split
  case isTrue hs => exact (vmod_id _ _ _ (by rw [← hs])).symm
  case isFalse =>
    dsimp only
    refine (foldl_keeps (·.slots) _ ?ports _ _).trans (foldl_keeps (·.slots) _ ?groups _ _)
    case groups => exact fun t k => t.holdPort_slots k .suspend
    case ports =>
      intro t k
      split
      · rfl
      · split <;> simp [State.suspendPort]

/-- The end of S1 is an event to the slots (R405). -/
theorem State.exitS1_heard (s : State) (g : SlotId) : s.slots[g.val].Heard s.exitS1.slots[g.val] := by
  unfold State.exitS1
  split
  · exact (State.everySlotEvent_evented (s.modGlb fun g => { g with core := .s0 }) _ _ _).heard g
  · exact .refl _

/-- A slot that resumes changes in its suspend, and in what the event of S1's end leaves (R122). -/
theorem State.resumeSlot_heard (s : State) (h : SlotId) :
    ({ s.slots[h.val] with suspended := false } : Slot).Heard (s.resumeSlot h).slots[h.val] := by
  unfold State.resumeSlot
  split
  case isTrue =>
    refine Slot.Heard.trans ?slot ((Slot.Heard.of_slots (s := s.modSlot h fun x =>
      { x with suspended := false, wakeSignal := false }) ?ports h).trans (State.exitS1_heard _ h))
    case ports =>
      apply foldl_keeps (·.slots)
      intro t k
      split
      · split <;> rfl
      · rfl
    case slot => rw [State.modSlot_slots, vmod_same]; rfl
  case isFalse hs => rw [← Bool.eq_false_iff.mpr hs]; rfl

/-- A slot that follows the suspend of its hub (R120). -/
theorem State.followHub2_heard {s : State} {h : SlotId} {x : Slot} {b : Bool} (hx : s.slots[h.val] = x)
    (hb : s.slots[h.val].hub2Susp = b) : ({ x with suspended := b } : Slot).Heard
      (if s.slots[h.val].hub2Susp then s.suspendSlot h else s.resumeSlot h).slots[h.val] := by
  subst hx
  cases b with
  | true => rw [if_pos hb, State.suspendSlot_slots, vmod_same]; rfl
  | false => rw [if_neg (by simp [hb])]; exact s.resumeSlot_heard h

/-- What Teller's move to port 25 makes of its slot (R105, R106); a suspend of the hub carries it (R120). -/
def Slot.onPort25 (x : Slot) : Slot :=
  { x with
    tellerPath := 2, port25Change := true, ssTerm := false, ssSpeed := 0, ssLink := 0, tellerCfg := false, tellerAddr := 0
    wakeTeller := false, suspended := x.hub2Susp }

/-- Teller's move to port 25 makes that of its slot, but for what events leave. -/
theorem State.toPort25_heard (s : State) (h : SlotId) : s.slots[h.val].onPort25.Heard (s.toPort25 h).slots[h.val] :=
  State.followHub2_heard (s := s.modSlot h fun x => { x with
    tellerPath := 2, port25Change := true, ssTerm := false, ssSpeed := 0, ssLink := 0, tellerCfg := false, tellerAddr := 0
    wakeTeller := false }) (b := s.slots[h.val].hub2Susp) (vmod_same s.slots h _) (by rw [State.modSlot_slots, vmod_same])

/-- A slot that is withdrawn has no link and no function, and is suspended (R120, R407). -/
theorem State.withdrawSlot_slot (s : State) (h : SlotId) :
    (s.withdrawSlot h).slots[h.val] = { s.slots[h.val].withdrawn with suspended := true } := by
  rw [State.withdrawSlot, State.suspendSlot_slots, vmod_same, State.modSlot_slots, vmod_same, State.suspendHub2_slots,
    vmod_same]
  rfl

/-- What presenting a slot makes of it before its path is chosen (R86). -/
def Slot.shown (x : Slot) : Slot :=
  { x with presented := true, ssTerm := x.ssPll, tellerPath := 0, hub2Susp := false, hubWake := false }

/-- A slot is shown to its host, with the USB 2.0 hub out of suspend. -/
def State.showSlot (s : State) (h : SlotId) : State :=
  (s.modSlot h fun x => { x with presented := true, ssTerm := x.ssPll, tellerPath := 0 }).resumeHub2 h

theorem State.showSlot_slot (s : State) (h : SlotId) : (s.showSlot h).slots[h.val] = s.slots[h.val].shown := by
  rw [State.showSlot, State.resumeHub2_slots, vmod_same, State.modSlot_slots, vmod_same]
  rfl

/-- A slot with VBUS and its domain on is presented once step 5 has ended (R86); without its SuperSpeed PLL, Teller is on port
25 at once (R105). -/
theorem State.presentSlot_eq {s : State} {h : SlotId} (hv : s.slots[h.val].vbus = true)
    (hd : s.slots[h.val].domainOn = true) (hp : s.slots[h.val].presented = false) (hoff : s.nsf.entryOff = false)
    (hphase : s.glb.phase ≠ 0xE) (hhub : s.hubSide = true) : s.presentSlot h =
      (if s.slots[h.val].ssPll then s.showSlot h else (s.showSlot h).toPort25 h).domainPresented h := by
  unfold State.presentSlot
  simp only [hv, hd, hp, hoff, hhub, if_neg hphase, Bool.not_false, and_self, if_true]
  rfl

/-- A slot that is presented is shown, and without its SuperSpeed PLL on port 25, but for what completions and events leave. -/
theorem State.presentSlot_told {s : State} {h : SlotId} (hv : s.slots[h.val].vbus = true)
    (hd : s.slots[h.val].domainOn = true) (hp : s.slots[h.val].presented = false) (hoff : s.nsf.entryOff = false)
    (hphase : s.glb.phase ≠ 0xE) (hhub : s.hubSide = true) :
    (s.slots[h.val].ssPll = true → s.slots[h.val].shown.Told (s.presentSlot h).slots[h.val]) ∧
    (s.slots[h.val].ssPll = false → s.slots[h.val].shown.onPort25.Told (s.presentSlot h).slots[h.val]) := by
  rw [State.presentSlot_eq hv hd hp hoff hphase hhub]
  refine ⟨fun hpll => ?_, fun hpll => ?_⟩
  · rw [if_pos hpll, ← State.showSlot_slot]
    exact State.domainPresented_told _ h h
  · rw [if_neg (by simp [hpll]), ← State.showSlot_slot]
    exact (State.toPort25_heard _ h).told.trans (State.domainPresented_told _ h h)

/-! ### The rows -/

/-- The slot on which VBUS has risen, with the mux turned by the CC pin that sees Rp (R45, R86). -/
def State.vbusUp (s : State) (h : SlotId) (cc : BitVec 2) : State :=
  s.modSlot h fun x => { x with vbus := true, orient := if cc = 3 then 0 else cc }

theorem State.vbusUp_slot (s : State) (h : SlotId) (cc : BitVec 2) : (s.vbusUp h cc).slots[h.val] =
    { s.slots[h.val] with vbus := true, orient := if cc = 3 then 0 else cc } :=
  vmod_same ..

/-- The slot whose SuperSpeed link has trained: Teller is on its hub's port 1 (R105). -/
def Slot.trained (x : Slot) (gen2 : Bool) : Slot :=
  let moves := x.tellerPath = 2
  { x with
    ssSpeed := if gen2 then 2 else 1, ssLink := 0, tellerPath := 1
    port25Change := x.port25Change || moves
    tellerCfg := x.tellerCfg && !moves
    tellerAddr := if moves then 0 else x.tellerAddr
    wakeTeller := x.wakeTeller && !moves }

/-- SS_LINK_TRAINED on a slot that trains (R105, R106). -/
theorem exec_ssLinkTrained {h : SlotId} {s : State} (gen2 : Bool) (hp : s.slots[h.val].presented = true)
    (ht : s.slots[h.val].ssTerm = true) (hs : s.slots[h.val].ssSpeed = 0) :
    exec (.ssLinkTrained h gen2) s = .next ((s.modSlot h fun x => x.trained gen2).resumeSlot h) :=
  congrArg Host.Outcome.next (if_pos ⟨hp, ht, hs⟩)

/-- SS_TRAINING_TIMEOUT on a slot that trains (R105). -/
theorem exec_ssTrainingTimeout {h : SlotId} {s : State} (hp : s.slots[h.val].presented = true)
    (ht : s.slots[h.val].ssTerm = true) (hpath : s.slots[h.val].tellerPath = 0) :
    exec (.ssTrainingTimeout h) s = .next (s.toPort25 h) :=
  congrArg Host.Outcome.next (if_pos ⟨hp, ht, hpath⟩)

/-- SS_LINK_FAILURE on a slot whose Teller is on its SuperSpeed link (R106). -/
theorem exec_ssLinkFailure {h : SlotId} {s : State} (hpath : s.slots[h.val].tellerPath = 1) :
    exec (.ssLinkFailure h) s = .next (((s.resetTags h).modSlot h fun x =>
      { x with ssHubAddr := 0, ssHubCfg := false, u1En := false, u2En := false }).toPort25 h) :=
  congrArg Host.Outcome.next (if_pos hpath)

/-- SLOT_VBUS_LOSS on a slot that is presented (R120). -/
theorem exec_slotVbusLoss {h : SlotId} {s : State} (hp : s.slots[h.val].presented = true) : exec (.slotVbusLoss h) s =
    .next ((s.modSlot h fun x => { x with vbus := false, orient := 0 }).withdrawSlot h) :=
  congrArg Host.Outcome.next (if_pos hp)

/-- A bus reset of a slot's tags restores its credits (R125, R172). -/
theorem State.resetTags_credits (s : State) (h : SlotId) :
    (s.resetTags h).slots[h.val].entryCredits = 512 ∧ (s.resetTags h).slots[h.val].lineCredits = 8192 := by
  unfold State.resetTags
  dsimp only
  rw [State.modSlot_slots, vmod_same]
  exact ⟨rfl, rfl⟩

/-- Settles O53: each row's own change of the slot, and what events and completions leave on it besides. -/
theorem slotsAppearAndMovePaths : Obligations.SlotsAppearAndMovePaths := by
  unfold Obligations.SlotsAppearAndMovePaths
  intro h s
  refine ⟨fun cc hhub hphase hd hp hoff => ?rise, fun gen2 hp ht hs => ⟨_, exec_ssLinkTrained gen2 hp ht hs, ?trained⟩,
    fun hp ht hpath => ⟨_, exec_ssTrainingTimeout hp ht hpath, ?timeout⟩,
    fun hpath => ⟨_, exec_ssLinkFailure hpath, ?failure⟩,
    fun hp => ⟨_, exec_slotVbusLoss hp, ?loss⟩⟩
  case rise =>
    have hslot := s.vbusUp_slot h cc
    obtain ⟨hlocked, hfailed⟩ := State.presentSlot_told (s := s.vbusUp h cc) (h := h) (by rw [hslot])
      (by rw [hslot]; exact hd) (by rw [hslot]; exact hp) hoff hphase hhub
    rw [hslot] at hlocked hfailed
    refine ⟨(s.vbusUp h cc).presentSlot h, rfl, ?_⟩
    generalize ((s.vbusUp h cc).presentSlot h).slots[h.val] = y at hlocked hfailed ⊢
    cases hpll : s.slots[h.val].ssPll with
    | true =>
      rw [hlocked hpll]
      exact ⟨rfl, rfl, rfl, fun _ => ⟨hpll, rfl, rfl⟩, fun hn => absurd hn (by decide)⟩
    | false =>
      rw [hfailed hpll]
      exact ⟨rfl, rfl, rfl, fun hn => absurd hn (by decide), fun _ => ⟨rfl, rfl, rfl, rfl⟩⟩
  case trained =>
    have hheard := State.resumeSlot_heard (s.modSlot h fun x => x.trained gen2) h
    rw [State.modSlot_slots, vmod_same] at hheard
    rw [hheard]
    exact ⟨rfl, rfl, rfl, rfl⟩
  case timeout =>
    rw [s.toPort25_heard h]
    exact ⟨rfl, rfl, rfl, rfl⟩
  case failure =>
    obtain ⟨hentry, hlines⟩ := s.resetTags_credits h
    have hheard := State.toPort25_heard ((s.resetTags h).modSlot h fun x =>
      { x with ssHubAddr := 0, ssHubCfg := false, u1En := false, u2En := false }) h
    rw [State.modSlot_slots, vmod_same] at hheard
    generalize (s.resetTags h).slots[h.val] = x at hentry hlines hheard
    rw [hheard]
    exact ⟨rfl, rfl, rfl, rfl, rfl, rfl, hentry, hlines⟩
  case loss =>
    rw [State.withdrawSlot_slot, State.modSlot_slots, vmod_same]
    exact ⟨rfl, rfl, rfl, rfl, rfl, rfl⟩

end Sys2Proof.Machine
end

section
/-! SUPPORT. What the ends of ramps, transitions and discharges leave of a port's power half (R342, R357, R359 to R361), and what
a thermal step leaves of its Stile (R370, R372, R464). -/
namespace Sys2Proof.Machine

/-- A POWER event of a port is an event. -/
theorem State.powerEvent_evented (s : State) (k : PortId) (x d : Nat) : s.Evented (s.powerEvent k x d) :=
  s.stileEvent_evented k 0x18 x d none

/-- A PD_STATE event of a port is an event. -/
theorem State.pdEvent_evented (s : State) (k : PortId) (x d : Nat) : s.Evented (s.pdEvent k x d) :=
  s.stileEvent_evented k 0x11 x d none

/-! ### Port power good -/

/-- `t` has every port of `s` but for the tags that ended, and every power half but for the VCONN charge. -/
structure State.SameButVconn (s t : State) : Prop where
  ports : ∀ k : PortId, t.ports[k.val] = { s.ports[k.val] with endedTags := t.ports[k.val].endedTags }
  pwr : ∀ k : PortId, t.pwr[k.val] = { s.pwr[k.val] with chgV := t.pwr[k.val].chgV }

theorem State.SameButVconn.refl (s : State) : s.SameButVconn s := ⟨fun _ => rfl, fun _ => rfl⟩

theorem State.SameButVconn.trans {s t u : State} (h : s.SameButVconn t) (k : t.SameButVconn u) : s.SameButVconn u :=
  ⟨fun j => by rw [k.ports j, h.ports j], fun j => by rw [k.pwr j, h.pwr j]⟩

theorem State.Evented.sameButVconn {s t : State} (h : s.Evented t) : s.SameButVconn t :=
  ⟨fun _ => by rw [h.ports], fun _ => by rw [h.pwr]⟩

theorem State.Answering.sameButVconn {s t : State} (h : s.Answering t) : s.SameButVconn t :=
  ⟨h.ports, fun _ => by rw [h.pwr]⟩

theorem State.modPd_sameButVconn (s : State) (k : PortId) (f : Pd → Pd) : s.SameButVconn (s.modPd k f) :=
  ⟨fun _ => rfl, fun _ => rfl⟩

/-- A VCONN switch that closes takes its charge (R345, R375). -/
theorem State.vconnClose_sameButVconn (s : State) (k : PortId) : s.SameButVconn (s.vconnClose k) := by
  refine ⟨fun _ => rfl, fun j => ?_⟩
  rw [State.vconnClose, State.modPwr_pwr, vmod_get]
  split <;> rfl

/-- A VCONN switch that closes where it may, with its event. -/
theorem State.tryVconn_sameButVconn (s : State) (k : PortId) (tell : Bool) : s.SameButVconn (s.tryVconn k tell) := by
  unfold State.tryVconn
  dsimp only
  split
  · split
    · exact (s.vconnClose_sameButVconn k).trans (State.pdEvent_evented _ k 9 1).sameButVconn
    · split
      · exact (s.pdEvent_evented k 9 4).sameButVconn
      · exact .refl s
  · exact .refl s

/-- The Hard Reset's recovery ends with VBUS on (R344). -/
def State.endRecovery (s : State) (k : PortId) : State :=
  if s.pd[k.val].hr = .waitPower then (s.modPd k fun p => { p with hr := .none }).pdEvent k 0x6 0 else s

theorem State.endRecovery_sameButVconn (s : State) (k : PortId) : s.SameButVconn (s.endRecovery k) := by
  unfold State.endRecovery
  split
  · exact (s.modPd_sameButVconn k _).trans (State.pdEvent_evented _ k 6 0).sameButVconn
  · exact .refl s

/-- The ramp of a port has ended, and the port is POWERED unless it is in a test mode (R154, R357). -/
def State.rampEnded (s : State) (k : PortId) (mv : Nat) : State :=
  (s.modPwr k fun w => { w with ramp := .none, vbusOn := true, vbusMv := mv, inrushL := 0, slot := false }).modPort k fun p =>
    p.come .powered

/-- What follows the end of a ramp: its event, the end of a recovery, the tags that waited, and VCONN. -/
def State.tellPowerGood (s : State) (k : PortId) (mv : Nat) : State :=
  let s := (s.powerEvent k 0x1 (satU16 mv)).endRecovery k
  let relay := s.mode k = .relay
  (s.endWaits (fun w => Wait.isPortOn k w || (relay && Wait.isCycle k w)) .ok).tryVconn k true

theorem State.tellPowerGood_sameButVconn (s : State) (k : PortId) (mv : Nat) : s.SameButVconn (s.tellPowerGood k mv) := by
  unfold State.tellPowerGood
  exact (((s.powerEvent_evented k 1 _).sameButVconn.trans (State.endRecovery_sameButVconn _ k)).trans
    (State.endWaits_answering _ _ _).sameButVconn).trans (State.tryVconn_sameButVconn _ k true)

/-- PORT_POWER_GOOD, by whether the ramp has ended (R357). -/
theorem exec_portPowerGood (k : PortId) (mv vgs : Nat) (s : State) : exec (.portPowerGood k mv vgs) s = .next
    (if s.pwr[k.val].ramp = .enhance ∧ rampReached mv ∧ 9000 ≤ vgs ∧ s.stileLive k then
      (s.rampEnded k mv).tellPowerGood k mv
    else s) := rfl

/-! ### A voltage transition that has settled -/

/-- PS_RDY goes to the CC half alone (R342). -/
theorem State.sendPsRdy_pwr (s : State) (k : PortId) (o : TxOrigin) : (s.sendPsRdy k o).pwr = s.pwr := by
  unfold State.sendPsRdy; split <;> rfl

/-- PS_RDY on a free wire is sent at once. -/
theorem State.sendPsRdy_free {s : State} {k : PortId} (o : TxOrigin) (h : s.pd[k.val].tx = none) :
    (s.sendPsRdy k o).pd[k.val].tx = some (stileTx 0 (ctrlMsg 6) o none) := by
  simp [State.sendPsRdy, h, State.stileSend, Pd.startTx]

/-- PS_RDY on a busy wire is due. -/
theorem State.sendPsRdy_busy {s : State} {k : PortId} (o : TxOrigin) (h : s.pd[k.val].tx.isSome = true) :
    (s.sendPsRdy k o).pd = vmod s.pd k fun p => { p with psDue := some o } := by
  rw [State.sendPsRdy, if_pos h]; rfl

/-- The transition of a port has ended on the new rail (R359, R360, R375). -/
def State.transitionEnded (s : State) (k : PortId) (mv : Nat) : State :=
  s.modPwr k fun w => { w with
    trans := .none, gateL := !(s.pwr[k.val].trans == .up), gateH := s.pwr[k.val].trans == .up, vbusMv := mv, slot := false
    inrushL := 0, inrushH := 0, oldL := 0, oldH := 0 }

theorem State.transitionEnded_pwr (s : State) (k : PortId) (mv : Nat) : (s.transitionEnded k mv).pwr[k.val] =
    { s.pwr[k.val] with
      trans := .none, gateL := !(s.pwr[k.val].trans == .up), gateH := s.pwr[k.val].trans == .up, vbusMv := mv, slot := false
      inrushL := 0, inrushH := 0, oldL := 0, oldH := 0 } :=
  vmod_same ..

/-- TRANSITION_SETTLED where VBUS stands at the target. -/
theorem exec_transitionSettled {k : PortId} {mv : Nat} {s : State} (hset : s.settledAt k mv = true)
    (hlive : s.stileLive k = true) : exec (.transitionSettled k mv) s = .next
      (((s.transitionEnded k mv).powerEvent k 0x1 (satU16 mv + flagAt (s.pwr[k.val].trans == .up) 16)).sendPsRdy k
        .psRdyContract) :=
  congrArg Host.Outcome.next (if_pos ⟨hset, hlive⟩)

/-! ### The end of a switch-off -/

/-- `y` is `x` but for its request for power. -/
def Pwr.Asked (x y : Pwr) : Prop := y = { x with want := y.want, queued := y.queued, budgetWait := y.budgetWait }

theorem Pwr.Asked.refl (x : Pwr) : x.Asked x := rfl

theorem Pwr.Asked.trans {x y z : Pwr} (h : x.Asked y) (k : y.Asked z) : x.Asked z := by
  unfold Pwr.Asked at h k ⊢
  rw [k, h]

theorem Pwr.Asked.of_pwr {s t : State} (h : t.pwr = s.pwr) (k : PortId) : s.pwr[k.val].Asked t.pwr[k.val] := by
  rw [h]; rfl

/-- A change of one power half in its request alone. -/
theorem State.modPwr_asked (s : State) (k : PortId) (f : Pwr → Pwr) (hf : ∀ w : Pwr, w.Asked (f w)) :
    s.pwr[k.val].Asked (s.modPwr k f).pwr[k.val] := by
  rw [State.modPwr_pwr, vmod_same]; exact hf _

/-- A request that has entered the queue ends tags alone (R184). -/
theorem State.requestQueued_pwr (s : State) (k : PortId) : (s.requestQueued k).pwr = s.pwr := by
  unfold State.requestQueued
  exact ((State.endTags_answering s _ _).trans (State.modEntries_answering _ _ _)).pwr

/-- A request that can never fit is withdrawn (R378). -/
theorem State.removeRequest_asked (s : State) (k : PortId) : s.pwr[k.val].Asked (s.removeRequest k).pwr[k.val] := by
  unfold State.removeRequest
  refine (s.modPwr_asked k (fun w => { w with queued := none, budgetWait := false, want := false }) fun _ => rfl).trans ?_
  exact Pwr.Asked.of_pwr ((State.powerEvent_evented _ _ _ _).pwr.trans (State.endWaits_answering _ _ _).pwr) k

/-- A port asks for power: its request enters the queue, or leaves it for good (R377, R378). -/
theorem State.tryQueue_asked (s : State) (k : PortId) : s.pwr[k.val].Asked (s.tryQueue k).pwr[k.val] := by
  unfold State.tryQueue
  split
  · refine (State.modPwr_asked (s.modEscrow fun e => { e with entries := s.escrow.entries + 1 }) k
      (fun w => { w with queued := some s.escrow.entries, budgetWait := false }) fun _ => rfl).trans ?_
    dsimp only
    split
    · exact State.removeRequest_asked _ k
    · exact Pwr.Asked.of_pwr (State.requestQueued_pwr _ k) k
  · exact .refl _

/-- VBUS that is gone releases DISCH and ends the switch-off; at most a request for power follows (R158, R361). -/
theorem State.vbusGone_asked (s : State) (k : PortId) (mv : Nat) :
    ({ s.pwr[k.val] with disch := false, offPending := false, vbusMv := mv } : Pwr).Asked (s.vbusGone k mv).pwr[k.val] := by
  have hend := Pwr.Asked.of_pwr (State.endWaits_answering
    (s.modPwr k fun w => { w with disch := false, offPending := false, vbusMv := mv }) (Wait.isPortOff k) .ok).pwr k
  rw [State.modPwr_pwr, vmod_same] at hend
  unfold State.vbusGone
  dsimp only
  split
  · refine hend.trans ?_
    exact (State.modPwr_asked _ k (fun w => { w with want := true }) fun _ => rfl).trans (State.tryQueue_asked _ k)
  · exact hend

/-- SWITCH_OFF_DISCHARGED below 0.8 V while VGD is present (R361, R51). -/
theorem exec_switchOffDischarged {k : PortId} {mv : Nat} {s : State} (hoff : s.pwr[k.val].offPending = true) (hmv : mv < 800)
    (hvgd : s.stiles[(stileOf k).val].vgdPresent = true) : exec (.switchOffDischarged k mv) s = .next (s.vbusGone k mv) :=
  congrArg Host.Outcome.next (if_pos ⟨hoff, hmv, hvgd⟩)

/-- SWITCH_OFF_DISCH_TIMEOUT at or above 0.8 V (R361). -/
theorem exec_switchOffDischTimeout {k : PortId} {mv : Nat} {s : State} (hoff : s.pwr[k.val].offPending = true)
    (hdisch : s.pwr[k.val].disch = true) (hmv : 800 ≤ mv) (hlive : s.stileLive k = true) :
    exec (.switchOffDischTimeout k mv) s = .next
      (((s.modPwr k fun w => { w with disch := false, vbusMv := mv }).powerEvent k 0xA (satU16 mv)).endWaits
        (Wait.isPortOff k) .ok) :=
  congrArg Host.Outcome.next (if_pos ⟨hoff, hdisch, hmv, hlive⟩)

/-- A status that no condition ends a tag with leaves the ports (R156). -/
theorem State.endWaits_ports {st : Status} (h : st.rank = 4) (s : State) (p : Wait → Bool) :
    (s.endWaits p st).ports = s.ports := by
  have hslot : ∀ (t : State) (g : SlotId) (q : TillEntry → Bool), (t.endSlotTags g q st).ports = t.ports := by
    intro t g q
    unfold State.endSlotTags
    apply foldl_keeps (·.ports)
    intro u e
    unfold State.noteEnded
    split
    · rw [if_pos h]; rfl
    · rfl
  have hmbx : ∀ (t : State) (q : TillEntry → Bool), (t.endMbxTag q st).ports = t.ports := by
    intro t q
    unfold State.endMbxTag
    split
    · split <;> rfl
    · rfl
  rw [State.endWaits, State.endTags, hmbx]
  exact foldl_keeps (·.ports) _ (fun t g => hslot t g _) _ _

/-- Settles O32: each row's own change of the power half, and what events, answers, VCONN and requests leave of it. -/
theorem powerGoodAndSettlingEndRamps : Obligations.PowerGoodAndSettlingEndRamps := by
  unfold Obligations.PowerGoodAndSettlingEndRamps
  refine ⟨fun k mv vgs s hlive hramp hmv hvgs => ?good, fun k mv vgs s hlow => ?low, fun k mv s hlive hset => ?settled,
    fun k mv s hvgd hoff hmv => ⟨_, exec_switchOffDischarged hoff hmv hvgd, ?discharged⟩,
    fun k mv s hlive hoff hdisch hmv => ⟨_, exec_switchOffDischTimeout hoff hdisch hmv hlive, ?timeoutPwr, ?timeoutPorts⟩⟩
  case good =>
    have hframe := (s.rampEnded k mv).tellPowerGood_sameButVconn k mv
    have hpwr : (s.rampEnded k mv).pwr[k.val] =
      { s.pwr[k.val] with ramp := .none, vbusOn := true, vbusMv := mv, inrushL := 0, slot := false } := vmod_same ..
    have hport : (s.rampEnded k mv).ports[k.val] = s.ports[k.val].come .powered := vmod_same ..
    have hreached : rampReached mv = true := decide_eq_true hmv
    refine ⟨_, (exec_portPowerGood k mv vgs s).trans (congrArg _ (if_pos ⟨hramp, hreached, hvgs, hlive⟩)), ?_⟩
    rw [hframe.pwr k, hframe.ports k, hpwr, hport]
    refine ⟨rfl, rfl, rfl, rfl, rfl, rfl, fun htest => ?_⟩
    simp [Port.come, htest]
  case low =>
    rw [exec_portPowerGood, if_neg]
    rintro ⟨-, hmv, hvgs, -⟩
    simp only [rampReached, decide_eq_true_eq] at hmv
    omega
  case settled =>
    have hev := (s.transitionEnded k mv).powerEvent_evented k 0x1 (satU16 mv + flagAt (s.pwr[k.val].trans == .up) 16)
    refine ⟨_, exec_transitionSettled hset hlive, ?_⟩
    rw [State.sendPsRdy_pwr, hev.pwr, State.transitionEnded_pwr]
    refine ⟨rfl, rfl, rfl, rfl, rfl, rfl, rfl, rfl, fun hfree => ?_, fun hbusy => ?_⟩
    · exact ⟨_, State.sendPsRdy_free _ (by rw [hev.pd]; exact hfree), rfl, rfl, rfl⟩
    · rw [State.sendPsRdy_busy _ (by rw [hev.pd]; exact hbusy), hev.pd]
      rfl
  case discharged =>
    rw [s.vbusGone_asked k mv]
    exact ⟨rfl, rfl, rfl⟩
  case timeoutPwr => rw [(State.endWaits_answering _ _ _).pwr, (State.powerEvent_evented _ _ _ _).pwr]; rfl
  case timeoutPorts => rw [State.endWaits_ports rfl, (State.powerEvent_evented _ _ _ _).ports]; rfl

/-! ### A thermal warning while the link is down -/

/-- A list kept to its last 64 entries holds the newest. -/
theorem keepLast_snoc_ne_nil {α : Type} (l : List α) (x : α) : keepLast 64 (l ++ [x]) ≠ [] := by
  simp only [keepLast, ne_eq, List.drop_eq_nil_iff, List.length_append, List.length_singleton]
  omega

/-- While its link is down, a Stile keeps the event of an owned port (R464). -/
theorem State.stileEvent_kept {s : State} {k : PortId} {h : SlotId} (ho : s.owner k = some h) (hl : s.linkUp k = false)
    (c x d : Nat) (l : Option (List Byte)) : (s.stileEvent k c x d l).stiles[(stileOf k).val].kept ≠ [] := by
  have hkept := keepLast_snoc_ne_nil s.stiles[(stileOf k).val].kept (k, s.mkEvent h c (some k) x d l)
  simp only [State.stileEvent, ho, hl, Bool.false_eq_true, if_false]
  split <;> simpa using hkept

/-- The state after the sample of a thermal step, before its warning and its trip are judged. -/
def State.sampled (s : State) (k : PortId) (m : StileSample) : State :=
  ((s.freeBelow 64).2.modStile (stileOf k) fun x => x.measured m).modPwr k fun w => w.thermalStep m (s.freeBelow 64).1

/-- What a thermal step makes of a sampled state: the warnings, their event, and the trip (R370, R372). -/
def State.heatJudged (s : State) (k : PortId) : State :=
  let w := s.pwr[k.val]
  let tb := s.stiles[(stileOf k).val].tb
  let level : Int := (w.modelRec.trip : Int) - 10 * w.modelRec.warnDelta
  let wL := tjAtLeast (tjOf tb w.fosterL) level
  let wH := tjAtLeast (tjOf tb w.fosterH) level
  let hot := tjAtLeast (tjOf tb w.fosterL) w.modelRec.trip || tjAtLeast (tjOf tb w.fosterH) w.modelRec.trip
  let s := s.modPwr k fun w => { w with warnL := wL, warnH := wH, hot := hot }
  let s := if (wL && !w.warnL) || (wH && !w.warnH) then s.powerEvent k 0x6 (fieldAt (sat16 (s.tj16 k)) 16) else s
  if hot && (s.powered k || !w.hot) then s.trip k (.model 0) else s

/-- THERMAL_MODEL_STEP samples and judges where VGD is present. -/
theorem exec_thermalModelStep {k : PortId} {s : State} (m : StileSample) (h : s.stiles[(stileOf k).val].vgdPresent = true) :
    exec (.thermalModelStep k m) s = .next ((s.sampled k m).heatJudged k) :=
  congrArg Host.Outcome.next (if_pos h)

/-- A board temperature at a level puts the junction there whatever the rises (R370). -/
theorem tjAtLeast_of_board {tb level : Int} (h : 1024 * level ≤ 640 * tb) (f : Foster) :
    tjAtLeast (tjOf tb f) level = true := by
  have hrise : 1024 * level ≤ 10 * (64 * tb + f.rise) := by omega
  exact decide_eq_true hrise

/-- An event leaves whether a port is powered. -/
theorem State.Evented.powered {s t : State} (h : s.Evented t) (k : PortId) : t.powered k = s.powered k := by
  rw [State.powered, h.pwr]; rfl

/-- A port that comes to its warning level, its paths off and its model at TRIP before, warns and does not trip (R372). -/
theorem State.heatJudged_warns {s : State} {k : PortId} (hwarn : s.pwr[k.val].warnL = false) (hhot : s.pwr[k.val].hot = true)
    (hoff : s.powered k = false) (htb : 1024 * ((s.pwr[k.val].modelRec.trip : Int) - 10 * s.pwr[k.val].modelRec.warnDelta) ≤
      640 * s.stiles[(stileOf k).val].tb) :
    ∃ (hot : Bool) (d : Nat), s.heatJudged k =
      (s.modPwr k fun w => { w with warnL := true, warnH := true, hot := hot }).powerEvent k 0x6 d := by
  have hoff' : ∀ hot : Bool, (s.modPwr k fun w => { w with warnL := true, warnH := true, hot := hot }).powered k = false :=
    fun hot => by rw [← hoff]; simp [State.powered]
  refine ⟨?hot, ?d, ?eq⟩
  case eq =>
    unfold State.heatJudged
    simp only [tjAtLeast_of_board htb, hwarn, hhot, Bool.not_false, Bool.and_self, Bool.true_or, if_true, Bool.not_true,
      Bool.or_false, (State.powerEvent_evented _ _ _ _).powered, hoff', Bool.and_false, Bool.false_eq_true, if_false]
    rfl

/-- A port of an owner whose Stile has VGD and no link, at a board temperature of 200 °C, with its paths off and its models at
TRIP before: a step warns and does not trip. -/
def hotUnlinked : State :=
  ((State.reset.modPort 0 fun p => { p with deed := { owner := some 0, mode := .proxy } }).modStile 0 fun x =>
    { x with vgdPresent := true, tb := 3200 }).modPwr 0 fun w => { w with hot := true }

/-- A sample of zeros. -/
def zeroSample : StileSample := { shunt := 0, reverse := false, vbus := 0, railL := 0, railH := 0, vconnIn := 0 }

/-- The warning of the step is kept by the Stile. -/
theorem hotUnlinked_keeps_warning : ∃ t, exec (.thermalModelStep 0 zeroSample) hotUnlinked = .next t ∧
    t.stiles[(stileOf 0).val].kept ≠ [] := by
  obtain ⟨hot, d, hwarned⟩ := State.heatJudged_warns (s := hotUnlinked.sampled 0 zeroSample) (k := 0) rfl rfl rfl (by decide)
  refine ⟨_, exec_thermalModelStep zeroSample rfl, ?_⟩
  rw [hwarned]
  exact State.stileEvent_kept (h := 0) rfl rfl _ _ _ _

/-- Refutes O34: while the Stile's link is down, the warning of the step is an event that the Stile keeps (R464), so that the
Stile changes in more than its measured levels. `hotUnlinked` is such a state. -/
theorem not_thermalModelSteps : ¬ Obligations.ThermalModelSteps := by
  unfold Obligations.ThermalModelSteps
  intro h
  obtain ⟨t, hexec, hkept⟩ := hotUnlinked_keeps_warning
  obtain ⟨u, hexec', -, -, -, -, -, hstile, -⟩ := h 0 zeroSample hotUnlinked rfl
  have htu : t = u := by
    rw [hexec] at hexec'
    exact Host.Outcome.next.inj hexec'
  rw [htu, hstile] at hkept
  exact hkept rfl

end Sys2Proof.Machine
end

section
/-! SUPPORT. What leaves the Ledger: one lemma per operation of the model that touches no part of it, in the order of the model's
files, so that what a command does to the Ledger is read off the few operations that do touch it. -/
namespace Sys2Proof.Machine

/-! ### Choices and folds -/

@[simp] theorem State.ite_ldg (c : Prop) [Decidable c] (s t : State) :
    (if c then s else t).ldg = if c then s.ldg else t.ldg := apply_ite State.ldg c s t
/-- A fold over changes that leave the Ledger leaves it. -/
@[simp] theorem foldl_ldg {α : Type} (f : State → α → State) (l : List α) (s : State)
    (hf : ∀ (t : State) (a : α), (f t a).ldg = t.ldg) : (l.foldl f s).ldg = s.ldg :=
  foldl_inv (fun t : State => t.ldg = s.ldg) f (fun t a h => (hf t a).trans h) l s rfl
@[simp] theorem Res.done_state (st : Status) (r0 : Word) (d : List Byte) (s : State) : (Res.done st r0 d s).state = s := rfl
@[simp] theorem Res.snap_state (r0 : Word) (s : State) : (Res.snap r0 s).state = s := rfl
@[simp] theorem Res.wait_state (p : CmdPoint) (w : Wait) (s : State) : (Res.wait p w s).state = s := rfl
@[simp] theorem Res.fail_state (st : Status) (s : State) : (Res.fail st s).state = s := rfl
@[simp] theorem Res.ok_state (s : State) : (Res.ok s).state = s := rfl
@[simp] theorem Res.ite_state (c : Prop) [Decidable c] (r u : Res) :
    (if c then r else u).state = if c then r.state else u.state := apply_ite Res.state c r u
@[simp] theorem State.ite_snd_ldg {α : Type} (c : Prop) [Decidable c] (x y : α × State) :
    (if c then x else y).2.ldg = if c then x.2.ldg else y.2.ldg := apply_ite (fun z : α × State => z.2.ldg) c x y
/-- A fold that carries the state beside a value, over changes that leave the Ledger, leaves it. -/
@[simp] theorem foldl_snd_ldg {α β : Type} (f : β × State → α → β × State) (l : List α) (a : β × State)
    (hf : ∀ (b : β × State) (x : α), (f b x).2.ldg = b.2.ldg) : (l.foldl f a).2.ldg = a.2.ldg :=
  foldl_inv (fun b : β × State => b.2.ldg = a.2.ldg) f (fun b x h => (hf b x).trans h) l a rfl

/-! ### Machine/Ops -/

@[simp] theorem State.freeBit_ldg (s : State) : s.freeBit.2.ldg = s.ldg := by simp [State.freeBit]
@[simp] theorem State.freeBelow_ldg (s : State) (n : Nat) : (State.freeBelow n s).2.ldg = s.ldg := by simp [State.freeBelow]
@[simp] theorem State.freeBytes_ldg (s : State) (n : Nat) : (State.freeBytes n s).2.ldg = s.ldg := by simp [State.freeBytes]
@[simp] theorem State.slotEventExt_ldg (s : State) (h : SlotId) (code : Nat) (port : Option PortId) (data : Nat) (payload : List Byte) :
    (s.slotEventExt h code port data payload).ldg = s.ldg := by simp [State.slotEventExt]
@[simp] theorem State.portEvent_ldg (s : State) (k : PortId) (code aux data : Nat) :
    (s.portEvent k code aux data).ldg = s.ldg := by
  unfold State.portEvent; split <;> simp
@[simp] theorem State.slotsEvent_ldg (s : State) (hs : List SlotId) (code aux data : Nat) :
    (s.slotsEvent hs code aux data).ldg = s.ldg := by simp [State.slotsEvent]
@[simp] theorem State.postHeld_ldg (s : State) : s.postHeld.ldg = s.ldg := by
  exact s.postHeld_evented.ldg
@[simp] theorem State.stileEvent_ldg (s : State) (k : PortId) (code aux data : Nat) (ext : Option (List Byte)) :
    (s.stileEvent k code aux data ext).ldg = s.ldg := by
  unfold State.stileEvent; split <;> simp
@[simp] theorem State.deliverKept_ldg (s : State) (i : StileId) : (s.deliverKept i).ldg = s.ldg := by
  exact (s.deliverKept_evented i).ldg
@[simp] theorem State.raiseHold_ldg (s : State) (g : GroupId) (c : Cause) (who : Option ChanId) :
    (s.raiseHold g c who).ldg = s.ldg := by simp [State.raiseHold]
@[simp] theorem State.holdPort_ldg (s : State) (k : PortId) (c : Cause) : (s.holdPort k c).ldg = s.ldg := by
  simp [State.holdPort]

/-! ### Machine/Lines -/

@[simp] theorem State.openLine_ldg (s : State) (line : Nat) : (s.openLine line).2.2.ldg = s.ldg := by
  unfold State.openLine; dsimp only; (repeat' split) <;> simp

/-! ### Machine/Tags -/

@[simp] theorem State.finishSlot_ldg (s : State) (h : SlotId) (e : TillEntry) (st : Status) (r0 : Word) (data : List Byte) :
    (s.finishSlot h e st r0 data).ldg = s.ldg := by simp [State.finishSlot]
@[simp] theorem State.finishMbx_ldg (s : State) (e : TillEntry) (st : Status) (r0 : Word) (data : List Byte) :
    (s.finishMbx e st r0 data).ldg = s.ldg := by simp [State.finishMbx]
@[simp] theorem State.noteEnded_ldg (s : State) (h : SlotId) (e : TillEntry) (st : Status) :
    (s.noteEnded h e st).ldg = s.ldg := by
  unfold State.noteEnded; split <;> simp
@[simp] theorem State.outrank_ldg (s : State) (k : PortId) (st : Status) : (s.outrank k st).ldg = s.ldg := by
  exact foldl_ldg _ _ _ fun _ _ => by rfl
@[simp] theorem State.endSlotTags_ldg (s : State) (h : SlotId) (p : TillEntry → Bool) (st : Status) :
    (s.endSlotTags h p st).ldg = s.ldg := by simp [State.endSlotTags]
@[simp] theorem State.orphan_ldg (s : State) (h : SlotId) (p : TillEntry → Bool) : (s.orphan h p).ldg = s.ldg := by
  simp [State.orphan]
@[simp] theorem State.endMbxTag_ldg (s : State) (p : TillEntry → Bool) (st : Status) : (s.endMbxTag p st).ldg = s.ldg := by
  unfold State.endMbxTag; split <;> simp
@[simp] theorem State.endTags_ldg (s : State) (p : TillEntry → Bool) (st : Status) : (s.endTags p st).ldg = s.ldg := by
  simp [State.endTags]
@[simp] theorem State.endWith_ldg (s : State) (p : TillEntry → Bool) (st : Status) (r0 : Word) :
    (s.endWith p st r0).ldg = s.ldg := by
  unfold State.endWith; dsimp only; split <;> simp
@[simp] theorem State.endWaits_ldg (s : State) (p : Wait → Bool) (st : Status) : (s.endWaits p st).ldg = s.ldg := by
  simp [State.endWaits]
@[simp] theorem State.modEntries_ldg (s : State) (p : TillEntry → Bool) (f : TillEntry → TillEntry) :
    (s.modEntries p f).ldg = s.ldg := by simp [State.modEntries]

/-! ### Machine/Issue -/

@[simp] theorem Res.fail_ldg (s : State) (st : Status) : (Res.fail st s).state.ldg = s.ldg := by simp [Res.fail]
@[simp] theorem Res.ok_ldg (s : State) : (Res.ok s).state.ldg = s.ldg := by simp [Res.ok]
@[simp] theorem State.undrained_ldg (s : State) : s.undrained.ldg = s.ldg := by simp [State.undrained]
@[simp] theorem State.drainAs_ldg (s : State) (u : State) : (s.drainAs u).ldg = s.ldg := by simp [State.drainAs]
@[simp] theorem State.rejectTag_ldg (s : State) (h : SlotId) (e : TillEntry) : (s.rejectTag h e).ldg = s.ldg := by
  simp [State.rejectTag]
@[simp] theorem State.writeMbx_ldg (s : State) (op : Byte) (a : CmdArgs) : (s.writeMbx op a).ldg = s.ldg := by
  simp [State.writeMbx]

/-! ### Machine/PortUsb -/

@[simp] theorem State.hubChange_ldg (s : State) (h : SlotId) (k : PortId) (f : HubChange → HubChange) :
    (s.hubChange h k f).ldg = s.ldg := by simp [State.hubChange]
@[simp] theorem State.relayChange_ldg (s : State) (k : PortId) (f : HubChange → HubChange) :
    (s.relayChange k f).ldg = s.ldg := by
  unfold State.relayChange; split <;> simp
@[simp] theorem State.leaveActive_ldg (s : State) (k : PortId) : (s.leaveActive k).ldg = s.ldg := by simp [State.leaveActive]
@[simp] theorem State.loseDevice_ldg (s : State) (k : PortId) (dst : PortState) (st : Status) (tell : Bool) (which : Wait → Bool) :
    (s.loseDevice k dst st tell which).ldg = s.ldg := by simp [State.loseDevice]

/-! ### Machine/Power -/

@[simp] theorem State.powerEvent_ldg (s : State) (k : PortId) (aux data : Nat) : (s.powerEvent k aux data).ldg = s.ldg := by
  simp [State.powerEvent]
@[simp] theorem State.requestQueued_ldg (s : State) (k : PortId) : (s.requestQueued k).ldg = s.ldg := by
  simp [State.requestQueued]
@[simp] theorem State.removeRequest_ldg (s : State) (k : PortId) : (s.removeRequest k).ldg = s.ldg := by
  simp [State.removeRequest]
@[simp] theorem State.tryQueue_ldg (s : State) (k : PortId) : (s.tryQueue k).ldg = s.ldg := by simp [State.tryQueue]
@[simp] theorem State.wantPower_ldg (s : State) (k : PortId) : (s.wantPower k).ldg = s.ldg := by simp [State.wantPower]
@[simp] theorem State.grant_ldg (s : State) (k : PortId) : (s.grant k).ldg = s.ldg := by simp [State.grant]
@[simp] theorem grantPass_ldg (s : State) (l : List PortId) : (grantPass l s).ldg = s.ldg := by
  induction l generalizing s with
  | nil => rfl
  | cons k l ih =>
    unfold grantPass
    (repeat' split) <;> simp [ih]
@[simp] theorem State.pdEvent_ldg (s : State) (k : PortId) (aux data : Nat) : (s.pdEvent k aux data).ldg = s.ldg := by
  simp [State.pdEvent]
@[simp] theorem State.vconnClose_ldg (s : State) (k : PortId) : (s.vconnClose k).ldg = s.ldg := by simp [State.vconnClose]
@[simp] theorem State.tryVconn_ldg (s : State) (k : PortId) (tell : Bool) : (s.tryVconn k tell).ldg = s.ldg := by
  simp [State.tryVconn]
@[simp] theorem State.returnVconn_ldg (s : State) (k : PortId) : (s.returnVconn k).ldg = s.ldg := by simp [State.returnVconn]
@[simp] theorem State.vconnOff_ldg (s : State) (k : PortId) : (s.vconnOff k).ldg = s.ldg := by simp [State.vconnOff]
@[simp] theorem State.pathsOff_ldg (s : State) (k : PortId) (disch : Bool) : (s.pathsOff k disch).ldg = s.ldg := by
  simp [State.pathsOff]
@[simp] theorem State.switchOff_ldg (s : State) (k : PortId) : (s.switchOff k).ldg = s.ldg := by simp [State.switchOff]
@[simp] theorem State.vbusGone_ldg (s : State) (k : PortId) (mv : Nat) : (s.vbusGone k mv).ldg = s.ldg := by
  simp [State.vbusGone]
@[simp] theorem State.forceOff_ldg (s : State) (k : PortId) (fromAux : Option (Nat × Nat)) :
    (s.forceOff k fromAux).ldg = s.ldg := by
  unfold State.forceOff; dsimp only; (repeat' split) <;> simp
@[simp] theorem State.trip_ldg (s : State) (k : PortId) (kind : TripKind) : (s.trip k kind).ldg = s.ldg := by
  unfold State.trip; split <;> simp
@[simp] theorem State.reportTx_ldg (s : State) (k : PortId) (x : PdTx) (st : Status) : (s.reportTx k x st).ldg = s.ldg := by
  simp [State.reportTx]
@[simp] theorem State.pdDetach_ldg (s : State) (k : PortId) (c : CcState) (inTransition had : Bool) :
    (s.pdDetach k c inTransition had).ldg = s.ldg := by simp [State.pdDetach]
@[simp] theorem State.detach_ldg (s : State) (k : PortId) (c : CcState) (seat : Bool) : (s.detach k c seat).ldg = s.ldg := by
  simp [State.detach]
@[simp] theorem State.takeContract_ldg (s : State) (k : PortId) (c : Contract) : (s.takeContract k c).ldg = s.ldg := by
  simp [State.takeContract]
@[simp] theorem State.dropContract_ldg (s : State) (k : PortId) : (s.dropContract k).ldg = s.ldg := by simp [State.dropContract]

/-! ### Machine/OrderRules -/

@[simp] theorem State.refreshOrders_ldg (s : State) : s.refreshOrders.ldg = s.ldg := by simp [State.refreshOrders]
@[simp] theorem State.rejudge_ldg (s : State) (k : PortId) : (s.rejudge k).ldg = s.ldg := by
  have h : ∀ l, l = allOrders → (s.rejudge k).ldg = s.ldg := by
    intro l hl
    rw [State.rejudge, ← hl]
    apply foldl_snd_ldg
    intro a n
    dsimp only
    (repeat' split) <;> simp
  exact h _ rfl

/-! ### Machine/Pd -/

@[simp] theorem State.stileSend_ldg (s : State) (k : PortId) (bytes : List Byte) (o : TxOrigin) (replyTo : Option (Nat × Nat)) :
    (s.stileSend k bytes o replyTo).ldg = s.ldg := by simp [State.stileSend]
@[simp] theorem State.sendPsRdy_ldg (s : State) (k : PortId) (o : TxOrigin) : (s.sendPsRdy k o).ldg = s.ldg := by
  simp [State.sendPsRdy]
@[simp] theorem State.sendDue_ldg (s : State) (k : PortId) : (s.sendDue k).ldg = s.ldg := by
  unfold State.sendDue; split <;> simp
@[simp] theorem State.releaseVconn_ldg (s : State) (k : PortId) : (s.releaseVconn k).ldg = s.ldg := by simp [State.releaseVconn]
@[simp] theorem State.unsend_ldg (s : State) (k : PortId) (x : PdTx) : (s.unsend k x).ldg = s.ldg := by simp [State.unsend]
@[simp] theorem State.dropHeld_ldg (s : State) (k : PortId) : (s.dropHeld k).ldg = s.ldg := by
  unfold State.dropHeld; split <;> simp
@[simp] theorem State.cutTx_ldg (s : State) (k : PortId) : (s.cutTx k).ldg = s.ldg := by
  have h : ∀ (l : List PdTx) (t : State), (l.foldl (fun t x => (t.unsend k x).reportTx k x .eXact) t).ldg = t.ldg :=
    fun l t => foldl_ldg _ l t fun t x => by simp
  unfold State.cutTx
  dsimp only
  split <;> simp only [State.reportTx_ldg, State.dropHeld_ldg, h, State.modPd_ldg]
@[simp] theorem State.hardReset_ldg (s : State) (k : PortId) (aux data : Nat) : (s.hardReset k aux data).ldg = s.ldg := by
  simp [State.hardReset]
@[simp] theorem State.beginVconnSwap_ldg (s : State) (k : PortId) : (s.beginVconnSwap k).ldg = s.ldg := by
  simp [State.beginVconnSwap]
@[simp] theorem State.beginTransition_ldg (s : State) (k : PortId) (c : Contract) : (s.beginTransition k c).ldg = s.ldg := by
  simp [State.beginTransition]
@[simp] theorem State.contractInForce_ldg (s : State) (k : PortId) : (s.contractInForce k).ldg = s.ldg := by
  unfold State.contractInForce; split <;> simp
@[simp] theorem State.setEpr_ldg (s : State) (k : PortId) (on : Bool) : (s.setEpr k on).ldg = s.ldg := by simp [State.setEpr]
@[simp] theorem State.sentEffect_ldg (s : State) (k : PortId) (x : PdTx) : (s.sentEffect k x).ldg = s.ldg := by
  unfold State.sentEffect; dsimp only; (repeat' split) <;> simp
@[simp] theorem State.sent_ldg (s : State) (k : PortId) (x : PdTx) : (s.sent k x).ldg = s.ldg := by simp [State.sent]
@[simp] theorem State.sendFailed_ldg (s : State) (k : PortId) (x : PdTx) : (s.sendFailed k x).ldg = s.ldg := by
  unfold State.sendFailed; split <;> simp
@[simp] theorem State.autoRespond_ldg (s : State) (k : PortId) : (s.autoRespond k).ldg = s.ldg := by
  unfold State.autoRespond; split <;> simp
@[simp] theorem State.acceptRx_ldg (s : State) (k : PortId) (sop : BitVec 2) (m : List Byte) :
    (s.acceptRx k sop m).2.ldg = s.ldg := by simp [State.acceptRx]
@[simp] theorem State.deferTx_ldg (s : State) (k : PortId) : (s.deferTx k).ldg = s.ldg := by
  unfold State.deferTx; split <;> simp
@[simp] theorem State.dropChunks_ldg (s : State) (k : PortId) (sop : BitVec 2) : (s.dropChunks k sop).ldg = s.ldg := by
  unfold State.dropChunks; split <;> simp
@[simp] theorem State.deliverRx_ldg (s : State) (k : PortId) (sop : BitVec 2) (m : List Byte) :
    (s.deliverRx k sop m).ldg = s.ldg := by
  unfold State.deliverRx; dsimp only; split <;> simp
@[simp] theorem State.vconnAnswer_ldg (s : State) (k : PortId) (m : List Byte) : (s.vconnAnswer k m).ldg = s.ldg := by
  simp [State.vconnAnswer]
@[simp] theorem State.vconnPsRdy_ldg (s : State) (k : PortId) : (s.vconnPsRdy k).ldg = s.ldg := by simp [State.vconnPsRdy]
@[simp] theorem State.softReset_ldg (s : State) (k : PortId) (sop : BitVec 2) : (s.softReset k sop).ldg = s.ldg := by
  simp [State.softReset]
@[simp] theorem State.keepAlive_ldg (s : State) (k : PortId) : (s.keepAlive k).ldg = s.ldg := by simp [State.keepAlive]
@[simp] theorem State.bistMsg_ldg (s : State) (k : PortId) (mode : Nat) : (s.bistMsg k mode).ldg = s.ldg := by
  simp [State.bistMsg]
@[simp] theorem State.handleSop_ldg (s : State) (k : PortId) (m : List Byte) : (s.handleSop k m).ldg = s.ldg := by
  simp [State.handleSop]
@[simp] theorem State.reassemble_ldg (s : State) (k : PortId) (sop : BitVec 2) (m : List Byte) :
    (s.reassemble k sop m).2.ldg = s.ldg := by simp [State.reassemble]
@[simp] theorem State.handle_ldg (s : State) (k : PortId) (sop : BitVec 2) (m : List Byte) :
    (s.handle k sop m).ldg = s.ldg := by
  unfold State.handle; dsimp only; (repeat' split) <;> simp
@[simp] theorem State.receive_ldg (s : State) (k : PortId) (sop : BitVec 2) (m : List Byte) :
    (s.receive k sop m).ldg = s.ldg := by simp [State.receive]
@[simp] theorem State.enableCc_ldg (s : State) (k : PortId) : (s.enableCc k).ldg = s.ldg := by simp [State.enableCc]
@[simp] theorem State.attach_ldg (s : State) (k : PortId) : (s.attach k).ldg = s.ldg := by simp [State.attach]

/-! ### Machine/Ports -/

@[simp] theorem State.proxyReset_ldg (s : State) (k : PortId) (attempt : Nat) : (s.proxyReset k attempt).ldg = s.ldg := by
  simp [State.proxyReset]
@[simp] theorem State.disableRelay_ldg (s : State) (k : PortId) : (s.disableRelay k).ldg = s.ldg := by simp [State.disableRelay]
@[simp] theorem State.startResume_ldg (s : State) (k : PortId) : (s.startResume k).ldg = s.ldg := by simp [State.startResume]
@[simp] theorem State.toOff_ldg (s : State) (k : PortId) : (s.toOff k).ldg = s.ldg := by simp [State.toOff]
@[simp] theorem State.changeMode_ldg (s : State) (k : PortId) (m : PortMode) : (s.changeMode k m).ldg = s.ldg := by
  unfold State.changeMode
  cases m with
  | off => simp
  | relay | proxy =>
    dsimp only
    split
    · simp
    · rw [State.ite_ldg, State.modPort_ldg, State.disableRelay_ldg, ite_self]
      split <;> simp
@[simp] theorem portModeBody_ldg (s : State) (a : CmdArgs) : (portModeBody s a).state.ldg = s.ldg := by simp [portModeBody]
@[simp] theorem State.cyclePaths_ldg (s : State) (k : PortId) : (s.cyclePaths k).ldg = s.ldg := by simp [State.cyclePaths]
@[simp] theorem portCycleBody_ldg (s : State) (k : PortId) : (portCycleBody s k).state.ldg = s.ldg := by simp [portCycleBody]
@[simp] theorem portResetBody_ldg (s : State) (a : CmdArgs) : (portResetBody s a).state.ldg = s.ldg := by simp [portResetBody]
@[simp] theorem State.suspendPort_ldg (s : State) (k : PortId) : (s.suspendPort k).ldg = s.ldg := by simp [State.suspendPort]
@[simp] theorem State.followSlot_ldg (s : State) (k : PortId) : (s.followSlot k).ldg = s.ldg := by simp [State.followSlot]
@[simp] theorem State.followHub_ldg (s : State) (k : PortId) : (s.followHub k).ldg = s.ldg := by
  unfold State.followHub; split <;> simp
@[simp] theorem portSuspendBody_ldg (s : State) (a : CmdArgs) : (portSuspendBody s a).state.ldg = s.ldg := by
  unfold portSuspendBody; dsimp only; (repeat' split) <;> simp
@[simp] theorem portResumeBody_ldg (s : State) (a : CmdArgs) : (portResumeBody s a).state.ldg = s.ldg := by
  simp [portResumeBody]
@[simp] theorem State.abortOwner_ldg (s : State) (h : SlotId) (k : PortId) : (s.abortOwner h k).ldg = s.ldg := by
  simp [State.abortOwner]
@[simp] theorem State.changeOwner_ldg (s : State) (k : PortId) (new : Option SlotId) : (s.changeOwner k new).ldg = s.ldg := by
  unfold State.changeOwner
  cases s.owner k <;> cases new <;> simp
@[simp] theorem State.reply_ldg (s : State) (h : SlotId) (r : CtlReply) : (s.reply h r).ldg = s.ldg := by simp [State.reply]
@[simp] theorem State.ttStall_ldg (s : State) (h : SlotId) (k : PortId) : (s.ttStall h k).ldg = s.ldg := by simp [State.ttStall]
@[simp] theorem State.portError_ldg (s : State) (k : PortId) (aux : Nat) : (s.portError k aux).ldg = s.ldg := by
  simp [State.portError]
@[simp] theorem State.ttOverflow_ldg (s : State) (k : PortId) : (s.ttOverflow k).ldg = s.ldg := by simp [State.ttOverflow]
@[simp] theorem State.slotWake_ldg (s : State) (k : PortId) (relay : Bool) : (s.slotWake k relay).ldg = s.ldg := by
  simp [State.slotWake]

/-! ### Machine/Proxy -/

@[simp] theorem State.refuse_ldg (s : State) (k : PortId) (reason : Nat) : (s.refuse k reason).ldg = s.ldg := by
  simp [State.refuse]
@[simp] theorem State.enumFail_ldg (s : State) (k : PortId) (reason : Nat) : (s.enumFail k reason).ldg = s.ldg := by
  simp [State.enumFail]
@[simp] theorem State.enumDone_ldg (s : State) (k : PortId) (restored changed : Bool) :
    (s.enumDone k restored changed).ldg = s.ldg := by simp [State.enumDone]
@[simp] theorem State.compareIdentity_ldg (s : State) (k : PortId) (serial : List Byte) :
    (s.compareIdentity k serial).ldg = s.ldg := by
  unfold State.compareIdentity; dsimp only; split <;> simp
@[simp] theorem State.nextConfig_ldg (s : State) (k : PortId) (c : Nat) : (s.nextConfig k c).ldg = s.ldg := by
  simp [State.nextConfig]
@[simp] theorem State.enumData_ldg (s : State) (k : PortId) (l : List Byte) : (s.enumData k l).ldg = s.ldg := by
  unfold State.enumData; dsimp only; (repeat' split) <;> simp
@[simp] theorem State.enumBad_ldg (s : State) (k : PortId) (reason : Nat) : (s.enumBad k reason).ldg = s.ldg := by
  unfold State.enumBad; split <;> simp
@[simp] theorem State.enumBabble_ldg (s : State) (k : PortId) : (s.enumBabble k).ldg = s.ldg := by simp [State.enumBabble]
@[simp] theorem State.babble_ldg (s : State) (k : PortId) : (s.babble k).ldg = s.ldg := by simp [State.babble]
@[simp] theorem xferBody_ldg (s : State) (op : Nat) (a : CmdArgs) : (xferBody op s a).state.ldg = s.ldg := by simp [xferBody]
@[simp] theorem State.clearHalt_ldg (s : State) (k : PortId) (epb : Byte) : (s.clearHalt k epb).ldg = s.ldg := by
  simp [State.clearHalt]
@[simp] theorem State.ctrlDone_ldg (s : State) (k : PortId) (setup : List Byte) : (s.ctrlDone k setup).ldg = s.ldg := by
  simp [State.ctrlDone]
@[simp] theorem State.endXfer_ldg (s : State) (k : PortId) (e : TillEntry) (x : Xfer) (st : Status) :
    (s.endXfer k e x st).ldg = s.ldg := by
  unfold State.endXfer; split <;> simp

/-! ### Machine/Undo -/

@[simp] theorem State.undo_ldg (s : State) (e : TillEntry) : (s.undo e).ldg = s.ldg := by
  unfold State.undo; simp; (repeat' split) <;> simp
@[simp] theorem State.abandonSlot_ldg (s : State) (h : SlotId) (st : Status) : (s.abandonSlot h st).ldg = s.ldg := by
  simp [State.abandonSlot]
@[simp] theorem State.resetTags_ldg (s : State) (h : SlotId) : (s.resetTags h).ldg = s.ldg := by simp [State.resetTags]

/-! ### Machine/Descriptors -/

@[simp] theorem State.clearFeature_ldg (s : State) (h : SlotId) (k : Option PortId) (f : HubFeature) :
    (s.clearFeature h k f).ldg = s.ldg := by
  unfold State.clearFeature; split <;> simp

/-! ### Machine/Slots -/

@[simp] theorem State.suspendSlot_ldg (s : State) (h : SlotId) : (s.suspendSlot h).ldg = s.ldg := by
  unfold State.suspendSlot
  split
  · rfl
  · dsimp only
    rw [foldl_ldg _ _ _ fun t k => by (repeat' split) <;> simp, foldl_ldg _ _ _ fun t k => by simp]
    rfl
@[simp] theorem State.exitS1_ldg (s : State) : s.exitS1.ldg = s.ldg := by simp [State.exitS1]
@[simp] theorem State.resumeSlot_ldg (s : State) (h : SlotId) : (s.resumeSlot h).ldg = s.ldg := by simp [State.resumeSlot]
@[simp] theorem State.suspendHub2_ldg (s : State) (h : SlotId) : (s.suspendHub2 h).ldg = s.ldg := by simp [State.suspendHub2]
@[simp] theorem State.resumeHub2_ldg (s : State) (h : SlotId) : (s.resumeHub2 h).ldg = s.ldg := by simp [State.resumeHub2]
@[simp] theorem State.toPort25_ldg (s : State) (h : SlotId) : (s.toPort25 h).ldg = s.ldg := by simp [State.toPort25]
@[simp] theorem State.domainPresented_ldg (s : State) (h : SlotId) : (s.domainPresented h).ldg = s.ldg := by
  simp [State.domainPresented]
@[simp] theorem State.presentSlot_ldg (s : State) (h : SlotId) : (s.presentSlot h).ldg = s.ldg := by simp [State.presentSlot]
@[simp] theorem State.withdrawSlot_ldg (s : State) (h : SlotId) : (s.withdrawSlot h).ldg = s.ldg := by simp [State.withdrawSlot]
@[simp] theorem State.resetRelay_ldg (s : State) (h : SlotId) (k : PortId) : (s.resetRelay h k).ldg = s.ldg := by
  simp [State.resetRelay]
@[simp] theorem State.slotReset_ldg (s : State) (h : SlotId) : (s.slotReset h).ldg = s.ldg := by simp [State.slotReset]
@[simp] theorem State.configured_ldg (s : State) (h : SlotId) : (s.configured h).ldg = s.ldg := by
  unfold State.configured; dsimp only; split <;> simp
@[simp] theorem State.setConfiguration_ldg (s : State) (h : SlotId) (f : SlotFunction) (on : Bool) :
    (s.setConfiguration h f on).ldg = s.ldg := by
  unfold State.setConfiguration; split <;> simp

/-! ### Machine/Reset -/

@[simp] theorem State.startUp_ldg (s : State) (straps : Option (Bool × Bool)) : (s.startUp straps).ldg = s.ldg := by
  simp [State.startUp]

/-! ### Machine/Nightsafe -/

@[simp] theorem State.presenceEvent_ldg (s : State) (aux data : Nat) : (s.presenceEvent aux data).ldg = s.ldg := by
  simp [State.presenceEvent]
@[simp] theorem State.clearTamper_ldg (s : State) : s.clearTamper.ldg = s.ldg := by simp [State.clearTamper]
@[simp] theorem State.closePresence_ldg (s : State) : s.closePresence.ldg = s.ldg := by simp [State.closePresence]
@[simp] theorem State.sealOpens_ldg (s : State) : s.sealOpens.ldg = s.ldg := by
  unfold State.sealOpens; dsimp only; split <;> simp
@[simp] theorem State.sealCloses_ldg (s : State) : s.sealCloses.ldg = s.ldg := by
  unfold State.sealCloses; dsimp only; split <;> simp
@[simp] theorem State.powerStateEvent_ldg (s : State) (aux data : Nat) : (s.powerStateEvent aux data).ldg = s.ldg := by
  simp [State.powerStateEvent]
@[simp] theorem State.latchForceOff_ldg (s : State) (r : Nat) : (s.latchForceOff r).ldg = s.ldg := by simp [State.latchForceOff]
@[simp] theorem State.tryClearForceOff_ldg (s : State) : s.tryClearForceOff.ldg = s.ldg := by simp [State.tryClearForceOff]
@[simp] theorem State.ruleActs_ldg (s : State) (r : Fin 16) (v : Nat) : (s.ruleActs r v).ldg = s.ldg := by simp [State.ruleActs]
@[simp] theorem State.runRules_ldg (s : State) (i : Fin 16) : (s.runRules i).ldg = s.ldg := by simp [State.runRules]
@[simp] theorem State.applyNsf_ldg (s : State) (addr : Nat) (v : Word) : (s.applyNsf addr v).ldg = s.ldg := by
  simp [State.applyNsf]
@[simp] theorem State.noteParity_ldg (s : State) (addr : Nat) : (s.noteParity addr).ldg = s.ldg := by simp [State.noteParity]
@[simp] theorem State.nsfParity_ldg (s : State) (addr : Nat) : (s.nsfParity addr).ldg = s.ldg := by simp [State.nsfParity]
@[simp] theorem State.applyPosted_ldg (s : State) (l : List PostedWrite) : (State.applyPosted l s).ldg = s.ldg := by
  induction l generalizing s with
  | nil => rfl
  | cons w l ih =>
    unfold State.applyPosted
    dsimp only
    split
    · rw [ih]; simp
    · simp
@[simp] theorem State.slotOff_ldg (s : State) (h : SlotId) : (s.slotOff h).ldg = s.ldg := by simp [State.slotOff]
@[simp] theorem State.stileOff_ldg (s : State) (i : StileId) : (s.stileOff i).ldg = s.ldg := by
  exact foldl_ldg _ _ _ fun t k => by dsimp only; split <;> simp
@[simp] theorem State.entryOff_ldg (s : State) : s.entryOff.ldg = s.ldg := by simp [State.entryOff]
@[simp] theorem State.startDrain_ldg (s : State) (d : Drain) : (s.startDrain d).ldg = s.ldg := by
  unfold State.startDrain
  simp only [State.modTeller_ldg]
  exact foldl_ldg _ _ _ fun _ _ => by rfl
@[simp] theorem State.wake_ldg (s : State) (level : BitVec 2) (l : List (WakeCode × Byte)) : (s.wake level l).ldg = s.ldg := by
  unfold State.wake; split <;> simp
@[simp] theorem State.wakesOccur_ldg (s : State) (l : List (WakeCode × Byte)) : (s.wakesOccur l).ldg = s.ldg := by
  unfold State.wakesOccur; dsimp only; (repeat' split) <;> simp
@[simp] theorem sleepBody_ldg (s : State) (a : CmdArgs) : (sleepBody s a).state.ldg = s.ldg := by simp [sleepBody]
@[simp] theorem State.domainGoesOff_ldg (s : State) (d : Nat) : (s.domainGoesOff d).ldg = s.ldg := by
  unfold State.domainGoesOff; dsimp only; (repeat' split) <;> simp
@[simp] theorem State.domainGoesOn_ldg (s : State) (d : Nat) : (s.domainGoesOn d).ldg = s.ldg := by
  unfold State.domainGoesOn; dsimp only; (repeat' split) <;> simp
@[simp] theorem pwrDomainBody_ldg (s : State) (a : CmdArgs) : (pwrDomainBody s a).state.ldg = s.ldg := by simp [pwrDomainBody]
@[simp] theorem State.drainOver_ldg (s : State) : s.drainOver.ldg = s.ldg := by
  unfold State.drainOver; split <;> simp

/-! ### Machine/Vault -/

@[simp] theorem State.programRow_ldg (s : State) (r : Nat) (v : Word) : (s.programRow r v).ldg = s.ldg := by
  unfold State.programRow; split <;> simp
@[simp] theorem otpWriteBody_ldg (s : State) (a : CmdArgs) : (otpWriteBody s a).state.ldg = s.ldg := by simp [otpWriteBody]
@[simp] theorem vaultLockBody_ldg (s : State) (a : CmdArgs) : (vaultLockBody s a).state.ldg = s.ldg := by simp [vaultLockBody]

/-! ### Machine/Boot -/

@[simp] theorem State.recordFail_ldg (s : State) (slot : Bool) (c : Nat) : (s.recordFail slot c).ldg = s.ldg := by
  simp [State.recordFail]
@[simp] theorem State.applyPort_ldg (s : State) (k : PortId) (e : ProfilePort) : (s.applyPort k e).ldg = s.ldg := by
  simp [State.applyPort]
@[simp] theorem State.applyProfile_ldg (s : State) : s.applyProfile.ldg = s.ldg := by simp [State.applyProfile]
@[simp] theorem State.endStep6_ldg (s : State) : s.endStep6.ldg = s.ldg := by simp [State.endStep6]
@[simp] theorem State.runImage_ldg (s : State) (slot : Bool) (i : ImageInfo) : (s.runImage slot i).ldg = s.ldg := by
  simp [State.runImage]
@[simp] theorem State.enterRecovery_ldg (s : State) : s.enterRecovery.ldg = s.ldg := by simp [State.enterRecovery]
@[simp] theorem State.checkReady_ldg (s : State) : s.checkReady.ldg = s.ldg := by simp [State.checkReady]
@[simp] theorem fwStageBody_ldg (s : State) (a : CmdArgs) : (fwStageBody s a).state.ldg = s.ldg := by simp [fwStageBody]
@[simp] theorem State.setImage_ldg (s : State) (slot : Bool) (i : ImageInfo) : (s.setImage slot i).ldg = s.ldg := by
  simp [State.setImage]
@[simp] theorem fwCommitBody_ldg (s : State) (n : CmdArgs) : (fwCommitBody s n).state.ldg = s.ldg := by simp [fwCommitBody]
@[simp] theorem fwSwapBody_ldg (s : State) (n : CmdArgs) : (fwSwapBody s n).state.ldg = s.ldg := by
  unfold fwSwapBody; simp; (repeat' split) <;> simp
@[simp] theorem State.fwSwapped_ldg (s : State) : s.fwSwapped.ldg = s.ldg := by simp [State.fwSwapped]
@[simp] theorem State.rollBack_ldg (s : State) : s.rollBack.ldg = s.ldg := by simp [State.rollBack]
@[simp] theorem State.abortAll_ldg (s : State) : s.abortAll.ldg = s.ldg := by
  unfold State.abortAll
  simp only [State.endWith_ldg]
  exact foldl_ldg _ _ _ fun t e => by simp
@[simp] theorem State.haltTeller_ldg (s : State) : s.haltTeller.ldg = s.ldg := by simp [State.haltTeller]
@[simp] theorem State.firmwareFault_ldg (s : State) : s.firmwareFault.ldg = s.ldg := by
  unfold State.firmwareFault; dsimp only; split <;> simp
@[simp] theorem State.rearmKeys_ldg (s : State) : s.rearmKeys.ldg = s.ldg := by simp [State.rearmKeys]
@[simp] theorem State.restartTeller_ldg (s : State) : s.restartTeller.ldg = s.ldg := by simp [State.restartTeller]

/-! ### Machine/Spline -/

@[simp] theorem State.returnCharges_ldg (s : State) (k : PortId) : (s.returnCharges k).ldg = s.ldg := by
  simp [State.returnCharges]
@[simp] theorem State.shutPort_ldg (s : State) (k : PortId) : (s.shutPort k).ldg = s.ldg := by simp [State.shutPort]
@[simp] theorem State.shutStile_ldg (s : State) (i : StileId) : (s.shutStile i).ldg = s.ldg := by simp [State.shutStile]
@[simp] theorem State.linkGoesDown_ldg (s : State) (i : StileId) : (s.linkGoesDown i).ldg = s.ldg := by
  simp [State.linkGoesDown]
@[simp] theorem State.resyncPort_ldg (s : State) (k : PortId) : (s.resyncPort k).ldg = s.ldg := by simp [State.resyncPort]

/-! ### Machine/Tally -/

@[simp] theorem State.stampNear_ldg (s : State) (x : Dword) (w : Nat) : (s.stampNear x w).2.ldg = s.ldg := by
  simp [State.stampNear]
@[simp] theorem State.tNow_ldg (s : State) : s.tNow.2.ldg = s.ldg := by simp [State.tNow]
@[simp] theorem State.tallyEvent_ldg (s : State) (aux data : Nat) : (s.tallyEvent aux data).ldg = s.ldg := by
  simp [State.tallyEvent]
@[simp] theorem State.enterHoldover_ldg (s : State) : s.enterHoldover.ldg = s.ldg := by simp [State.enterHoldover]
@[simp] theorem State.refLost_ldg (s : State) : s.refLost.ldg = s.ldg := by
  unfold State.refLost; dsimp only; (repeat' split) <;> simp
@[simp] theorem State.measureMissing_ldg (s : State) : s.measureMissing.ldg = s.ldg := by
  unfold State.measureMissing; dsimp only; split <;> simp
@[simp] theorem State.refChanged_ldg (s : State) : s.refChanged.ldg = s.ldg := by
  unfold State.refChanged; dsimp only; (repeat' split) <;> simp
@[simp] theorem State.measure_ldg (s : State) (e : ℤ) : (s.measure e).ldg = s.ldg := by
  unfold State.measure; dsimp only; (repeat' split) <;> simp
@[simp] theorem tlySetBody_ldg (s : State) (a : CmdArgs) : (tlySetBody s a).state.ldg = s.ldg := by simp [tlySetBody]
@[simp] theorem State.hearLink_ldg (s : State) (f : DoveFrame) : (s.hearLink f).ldg = s.ldg := by simp [State.hearLink]
@[simp] theorem State.badFrame_ldg (s : State) : s.badFrame.ldg = s.ldg := by simp [State.badFrame]
@[simp] theorem State.dvtTrained_ldg (s : State) (size pos : Nat) : (s.dvtTrained size pos).ldg = s.ldg := by
  simp [State.dvtTrained]
@[simp] theorem State.dvtConflict_ldg (s : State) : s.dvtConflict.ldg = s.ldg := by simp [State.dvtConflict]
@[simp] theorem State.ringClosed_ldg (s : State) (hop : Nat) (delayNs : BitVec 16) :
    (s.ringClosed hop delayNs).ldg = s.ldg := by simp [State.ringClosed]
@[simp] theorem State.hearOrigin_ldg (s : State) (o : BitVec 7) (hop : Nat) : (s.hearOrigin o hop).ldg = s.ldg := by
  unfold State.hearOrigin; simp; (repeat' split) <;> simp
@[simp] theorem State.syncMeasure_ldg (s : State) (launch ns arrival : Dword) :
    (s.syncMeasure launch ns arrival).ldg = s.ldg := by simp [State.syncMeasure]
@[simp] theorem State.sendHold_ldg (s : State) (cause : Nat) (before : List (List Byte)) :
    (s.sendHold cause before).ldg = s.ldg := by simp [State.sendHold]
@[simp] theorem State.loopStep_ldg (s : State) (err : ℤ) : (s.loopStep err).ldg = s.ldg := by simp [State.loopStep]
@[simp] theorem State.pull_ldg (s : State) (err : ℤ) : (s.pull err).ldg = s.ldg := by simp [State.pull]
@[simp] theorem State.discipline_ldg (s : State) : s.discipline.ldg = s.ldg := by
  unfold State.discipline; dsimp only; (repeat' split) <;> simp
@[simp] theorem State.applyMode_ldg (s : State) : s.applyMode.ldg = s.ldg := by
  unfold State.applyMode; dsimp only; (repeat' split) <;> simp
@[simp] theorem State.applyRelabels_ldg (s : State) : s.applyRelabels.ldg = s.ldg := by simp [State.applyRelabels]
@[simp] theorem State.tallySnapshot_ldg (s : State) : s.tallySnapshot.ldg = s.ldg := by simp [State.tallySnapshot]
@[simp] theorem State.syncCheck_ldg (s : State) : s.syncCheck.ldg = s.ldg := by simp [State.syncCheck]
@[simp] theorem State.trainSend_ldg (s : State) : s.trainSend.ldg = s.ldg := by simp [State.trainSend]
@[simp] theorem State.tallyBoundary_ldg (s : State) : s.tallyBoundary.ldg = s.ldg := by simp [State.tallyBoundary]

/-! ### Machine/Mint -/

@[simp] theorem State.mintEvent_ldg (s : State) (cs : List ChanId) (aux data : Nat) :
    (s.mintEvent cs aux data).ldg = s.ldg := by simp [State.mintEvent]
@[simp] theorem State.setGroup_ldg (s : State) (g : GroupId) (st : GroupState) : (s.setGroup g st).ldg = s.ldg := by
  simp [State.setGroup]
@[simp] theorem State.mintHold_ldg (s : State) (c : ChanId) (why : Cause) (more : Bool) :
    (s.mintHold c why more).ldg = s.ldg := by
  unfold State.mintHold; split <;> simp
@[simp] theorem State.followStop_ldg (s : State) (c : ChanId) (k : Nat) : (s.followStop c k).ldg = s.ldg := by
  simp [State.followStop]
@[simp] theorem State.checkHeld_ldg (s : State) (g : GroupId) : (s.checkHeld g).ldg = s.ldg := by simp [State.checkHeld]
@[simp] theorem State.reportHold_ldg (s : State) (g : GroupId) : (s.reportHold g).ldg = s.ldg := by simp [State.reportHold]
@[simp] theorem State.applyHold_ldg (s : State) (g : GroupId) (bits : BitVec 16) (who : Option ChanId) (early : Bool) :
    (s.applyHold g bits who early).ldg = s.ldg := by
  unfold State.applyHold; dsimp only; split <;> simp
@[simp] theorem State.endStopWaits_ldg (s : State) : s.endStopWaits.ldg = s.ldg := by simp [State.endStopWaits]
@[simp] theorem State.pendMint_ldg (s : State) (o : MintOp) : (s.pendMint o).ldg = s.ldg := by simp [State.pendMint]
@[simp] theorem mntCfgBody_ldg (s : State) (a : CmdArgs) : (mntCfgBody s a).state.ldg = s.ldg := by simp [mntCfgBody]
@[simp] theorem mntSegBody_ldg (s : State) (a : CmdArgs) : (mntSegBody s a).state.ldg = s.ldg := by simp [mntSegBody]
@[simp] theorem mntStartBody_ldg (s : State) (a : CmdArgs) : (mntStartBody s a).state.ldg = s.ldg := by simp [mntStartBody]
@[simp] theorem mntHoldBody_ldg (s : State) (a : CmdArgs) : (mntHoldBody s a).state.ldg = s.ldg := by simp [mntHoldBody]
@[simp] theorem mntReleaseBody_ldg (s : State) (a : CmdArgs) : (mntReleaseBody s a).state.ldg = s.ldg := by
  simp [mntReleaseBody]
@[simp] theorem mntFbtemplateBody_ldg (s : State) (a : CmdArgs) : (mntFbtemplateBody s a).state.ldg = s.ldg := by
  simp [mntFbtemplateBody]
@[simp] theorem State.takeSamples_ldg (s : State) (t : TemplId) (late : Bool) (l : List Byte) :
    (s.takeSamples t late l).ldg = s.ldg := by
  exact foldl_ldg _ _ _ fun _ _ => by rfl
@[simp] theorem State.feedbackPacket_ldg (s : State) (t : TemplId) (late : Bool) (l : List Byte) :
    (s.feedbackPacket t late l).ldg = s.ldg := by
  unfold State.feedbackPacket; dsimp only; split <;> simp
@[simp] theorem State.useSample_ldg (s : State) (c : ChanId) (x : Sample) : (s.useSample c x).ldg = s.ldg := by
  unfold State.useSample; split <;> simp
@[simp] theorem State.channelSamples_ldg (s : State) (c : ChanId) : (s.channelSamples c).ldg = s.ldg := by
  simp [State.channelSamples]
@[simp] theorem State.raiseMissing_ldg (s : State) (c : ChanId) (more : Bool) : (s.raiseMissing c more).ldg = s.ldg := by
  simp [State.raiseMissing]
@[simp] theorem State.emptyGroup_ldg (s : State) (g : GroupId) : (s.emptyGroup g).ldg = s.ldg := by
  unfold State.emptyGroup; simp; (repeat' split) <;> simp
@[simp] theorem State.releaseGroup_ldg (s : State) (g : GroupId) : (s.releaseGroup g).ldg = s.ldg := by
  unfold State.releaseGroup
  dsimp only
  split
  · rfl
  · rw [State.setGroup_ldg, foldl_ldg _ _ _ fun _ _ => by rfl]; rfl
@[simp] theorem State.abandonStart_ldg (s : State) (g : GroupId) : (s.abandonStart g).ldg = s.ldg := by
  simp [State.abandonStart]
@[simp] theorem State.lateStart_ldg (s : State) (g : GroupId) (late : ℤ) : (s.lateStart g late).ldg = s.ldg := by
  simp [State.lateStart]
@[simp] theorem State.fireStart_ldg (s : State) (g : GroupId) (heldToo : Bool) : (s.fireStart g heldToo).1.ldg = s.ldg := by
  have h : ∀ (l : List ChanId) (t : State), (l.foldl (fun t c => t.modChan c Chan.startState) t).ldg = t.ldg :=
    fun l t => foldl_ldg _ l t fun _ _ => rfl
  unfold State.fireStart
  dsimp only
  (repeat' split) <;> simp [h]
@[simp] theorem State.meetGroup_ldg (s : State) (g : GroupId) (pend : BitVec 16 × Option ChanId) :
    (s.meetGroup g pend).1.ldg = s.ldg := by
  unfold State.meetGroup; split <;> simp
@[simp] theorem State.failNext_ldg (s : State) (c : ChanId) (why : Cause) : (s.failNext c why).ldg = s.ldg := by
  simp [State.failNext]

/-! ### Machine/Holds -/

@[simp] theorem State.holdListed_ldg (s : State) (c : Cause) : (s.holdListed c).ldg = s.ldg := by simp [State.holdListed]

/-! ### Machine/Clearance -/

@[simp] theorem State.pendClr_ldg (s : State) (o : ClrOp) : (s.pendClr o).ldg = s.ldg := by simp [State.pendClr]
@[simp] theorem clrBodyBody_ldg (s : State) (a : CmdArgs) : (clrBodyBody s a).state.ldg = s.ldg := by simp [clrBodyBody]
@[simp] theorem clrArmBody_ldg (s : State) (a : CmdArgs) : (clrArmBody s a).state.ldg = s.ldg := by
  unfold clrArmBody
  dsimp only
  split
  · rfl
  · rw [Res.snap_state, State.pendClr_ldg]; exact foldl_ldg _ _ _ fun _ _ => by rfl
@[simp] theorem State.clrEvent_ldg (s : State) (cs : List ChanId) (aux data : Nat) : (s.clrEvent cs aux data).ldg = s.ldg := by
  simp [State.clrEvent]
@[simp] theorem State.applyClrOp_ldg (s : State) (o : ClrOp) : (s.applyClrOp o).ldg = s.ldg := by
  unfold State.applyClrOp
  split
  · rfl
  · rfl
  · dsimp only
    rw [State.ite_ldg, State.clrEvent_ldg, foldl_ldg _ _ _ fun _ _ => by rfl, ite_self]
  · dsimp only
    rw [State.ite_ldg, State.clrEvent_ldg, foldl_ldg _ _ _ fun _ _ => by rfl, ite_self]
@[simp] theorem State.resolveBody_ldg (s : State) (lost : Option BodyId) (b : BodyId) :
    (State.resolveBody lost s b).ldg = s.ldg := by
  unfold State.resolveBody; dsimp only; split <;> simp
@[simp] theorem State.violate_ldg (s : State) (p : PairId) (r : PairRec) (step : Nat) (inside unres : Bool) :
    (s.violate p r step inside unres).ldg = s.ldg := by simp [State.violate]
@[simp] theorem State.runSlot_ldg (s : State) (p : PairId) (step : Nat) : (s.runSlot p step).ldg = s.ldg := by
  unfold State.runSlot; dsimp only; split <;> simp
@[simp] theorem State.decide_ldg (s : State) (p : PairId) : (s.decide_ p).ldg = s.ldg := by
  unfold State.decide_; dsimp only; split <;> simp
@[simp] theorem State.clrFinish_ldg (s : State) : s.clrFinish.ldg = s.ldg := by simp [State.clrFinish]

/-! ### Machine/MintSend -/

@[simp] theorem State.periodNext_ldg (s : State) : s.periodNext.2.ldg = s.ldg := by simp [State.periodNext]
@[simp] theorem State.sendChannel_ldg (s : State) (c : ChanId) : (s.sendChannel c).ldg = s.ldg := by
  unfold State.sendChannel; dsimp only; split <;> simp
@[simp] theorem State.packFrames_ldg (s : State) (period : Nat) : (s.packFrames period).ldg = s.ldg := by
  have h : ∀ (l : List (OrderId × List Byte)) (t : State), (l.foldl (fun t x =>
      t.modOrder x.1 fun o => { o with occ := o.occ.map fun y => { y with src := x.2 } }) t).ldg = t.ldg :=
    fun l t => foldl_ldg _ l t fun _ _ => by rfl
  simp only [State.packFrames, h]

/-! ### Machine/Purses -/

@[simp] theorem State.purseEvent_ldg (s : State) (n : PurseId) (aux data : Nat) : (s.purseEvent n aux data).ldg = s.ldg := by
  simp [State.purseEvent]
@[simp] theorem State.purseLoss_ldg (s : State) (n : PurseId) (k : Nat) : (s.purseLoss n k).ldg = s.ldg := by
  simp [State.purseLoss]
@[simp] theorem State.purseReset_ldg (s : State) (n : PurseId) (bad : Option Nat) : (s.purseReset n bad).ldg = s.ldg := by
  simp [State.purseReset]
@[simp] theorem State.purseFault_ldg (s : State) (n : PurseId) (bad : Option Nat) : (s.purseFault n bad).ldg = s.ldg := by
  simp [State.purseFault]
@[simp] theorem State.purseRoom_ldg (s : State) (n : PurseId) (k fuel : Nat) : (State.purseRoom n k fuel s).ldg = s.ldg := by
  induction fuel generalizing s with
  | zero => rfl
  | succ f ih =>
    unfold State.purseRoom
    dsimp only
    split
    · rfl
    · rw [ih, State.purseLoss_ldg]; rfl
@[simp] theorem State.purseStore_ldg (s : State) (n : PurseId) (l : List PurseWord) : (s.purseStore n l).ldg = s.ldg := by
  simp [State.purseStore]
@[simp] theorem State.pursePush_ldg (s : State) (n : PurseId) (l : List PurseWord) : (s.pursePush n l).ldg = s.ldg := by
  simp [State.pursePush]
@[simp] theorem prsCfgBody_ldg (s : State) (a : CmdArgs) : (prsCfgBody s a).state.ldg = s.ldg := by simp [prsCfgBody]
@[simp] theorem idleItem_ldg (s : State) (n : PurseId) : (idleItem s n).state.ldg = s.ldg := by simp [idleItem]

/-! ### Machine/Orders -/

@[simp] theorem State.stmtEvent_ldg (s : State) (h : SlotId) (aux data : Nat) : (s.stmtEvent h aux data).ldg = s.ldg := by
  simp [State.stmtEvent]
@[simp] theorem State.deleteOrder_ldg (s : State) (n : OrderId) : (s.deleteOrder n).ldg = s.ldg := by simp [State.deleteOrder]
@[simp] theorem soDeleteBody_ldg (s : State) (a : CmdArgs) : (soDeleteBody s a).state.ldg = s.ldg := by
  unfold soDeleteBody; dsimp only; split <;> simp
@[simp] theorem State.noteSkipped_ldg (s : State) : s.noteSkipped.ldg = s.ldg := by simp [State.noteSkipped]

/-! ### Machine/PowerPath -/

@[simp] theorem portPowerOn_ldg (s : State) (k : PortId) (nowait : Bool) : (portPowerOn s k nowait).state.ldg = s.ldg := by
  simp [portPowerOn]
@[simp] theorem portPowerOff_ldg (s : State) (k : PortId) : (portPowerOff s k).state.ldg = s.ldg := by simp [portPowerOff]
@[simp] theorem portPowerBody_ldg (s : State) (a : CmdArgs) : (portPowerBody s a).state.ldg = s.ldg := by simp [portPowerBody]
@[simp] theorem gateCfgBody_ldg (s : State) (a : CmdArgs) : (gateCfgBody s a).state.ldg = s.ldg := by simp [gateCfgBody]
@[simp] theorem modelCfgBody_ldg (s : State) (a : CmdArgs) : (modelCfgBody s a).state.ldg = s.ldg := by simp [modelCfgBody]
@[simp] theorem State.purgeQueue_ldg (s : State) : s.purgeQueue.ldg = s.ldg := by simp [State.purgeQueue]
@[simp] theorem State.unpower_ldg (s : State) (k : PortId) : (s.unpower k).ldg = s.ldg := by simp [State.unpower]

/-! ### Machine/Statements -/

@[simp] theorem stmtLayoutBody_ldg (s : State) (a : CmdArgs) : (stmtLayoutBody s a).state.ldg = s.ldg := by
  unfold stmtLayoutBody; split <;> simp
@[simp] theorem stmtSubscribeBody_ldg (s : State) (a : CmdArgs) : (stmtSubscribeBody s a).state.ldg = s.ldg := by
  unfold stmtSubscribeBody; split <;> simp
@[simp] theorem State.stmtAccess_ldg (s : State) (h : SlotId) : (s.stmtAccess h).ldg = s.ldg := by
  unfold State.stmtAccess; dsimp only; split <;> simp
@[simp] theorem State.stmtBoundary_ldg (s : State) : s.stmtBoundary.ldg = s.ldg := by simp [State.stmtBoundary]
@[simp] theorem State.queueStatement_ldg (s : State) (h : SlotId) (st : Statement) : (s.queueStatement h st).ldg = s.ldg := by
  simp [State.queueStatement]
@[simp] theorem State.assemble_ldg (s : State) (h : SlotId) : (s.assemble h).ldg = s.ldg := by
  unfold State.assemble; dsimp only; split <;> simp

/-! ### Machine/StileRegs -/

@[simp] theorem State.refreshStile_ldg (s : State) (i : StileId) : (s.refreshStile i).ldg = s.ldg := by
  simp [State.refreshStile]
@[simp] theorem State.stileBoundary_ldg (s : State) : s.stileBoundary.ldg = s.ldg := by simp [State.stileBoundary]

/-! ### Machine/Registers -/

@[simp] theorem State.setUnlocked_ldg (s : State) (p : Path) (b : Bool) : (s.setUnlocked p b).ldg = s.ldg := by
  unfold State.setUnlocked; split <;> simp
@[simp] theorem State.post_ldg (s : State) (addr : Nat) (v : Word) : (s.post addr v).ldg = s.ldg := by simp [State.post]
@[simp] theorem State.violation_ldg (s : State) (p : Path) (code addr : Nat) : (s.violation p code addr).ldg = s.ldg := by
  simp [State.violation]
@[simp] theorem State.writeUnlock_ldg (s : State) (p : Path) (v : Word) : (s.writeUnlock p v).ldg = s.ldg := by
  simp [State.writeUnlock]
@[simp] theorem State.rowParity_ldg (s : State) (row : Fin 128) : (s.rowParity row).ldg = s.ldg := by simp [State.rowParity]

/-! ### Machine/General -/

@[simp] theorem cancelBody_ldg (s : State) (a : CmdArgs) : (cancelBody s a).state.ldg = s.ldg := by
  unfold cancelBody; dsimp only; (repeat' split) <;> simp

/-! ### Machine/RegOps -/

@[simp] theorem State.accessTime_ldg (s : State) (a n : Nat) : (s.accessTime a n).2.ldg = s.ldg := by simp [State.accessTime]

/-! ### Machine/Boundary -/

@[simp] theorem State.releaseKeys_ldg (s : State) : s.releaseKeys.ldg = s.ldg := by simp [State.releaseKeys]
@[simp] theorem State.launchSof_ldg (s : State) (k : PortId) : (s.launchSof k).ldg = s.ldg := by simp [State.launchSof]
@[simp] theorem State.launchSofs_ldg (s : State) : s.launchSofs.ldg = s.ldg := by simp [State.launchSofs]

/-! ### Machine/CcPd -/

@[simp] theorem State.applyCc_ldg (s : State) (k : PortId) (r : CcRec) : (s.applyCc k r).ldg = s.ldg := by simp [State.applyCc]
@[simp] theorem ccCfgBody_ldg (s : State) (a : CmdArgs) : (ccCfgBody s a).state.ldg = s.ldg := by simp [ccCfgBody]
@[simp] theorem pdCfgBody_ldg (s : State) (a : CmdArgs) : (pdCfgBody s a).state.ldg = s.ldg := by simp [pdCfgBody]
@[simp] theorem txFail_ldg (s : State) (st : Status) (r0 : Nat) : (txFail st r0 s).state.ldg = s.ldg := by simp [txFail]
@[simp] theorem State.txTake_ldg (s : State) (k : PortId) (sop : Nat) (m : List Byte) : (s.txTake k sop m).ldg = s.ldg := by
  unfold State.txTake; dsimp only; split <;> simp
@[simp] theorem pdTxBody_ldg (s : State) (a : CmdArgs) : (pdTxBody s a).state.ldg = s.ldg := by
  unfold pdTxBody; dsimp only; (repeat' split) <;> simp
@[simp] theorem pdHardresetBody_ldg (s : State) (a : CmdArgs) : (pdHardresetBody s a).state.ldg = s.ldg := by
  simp [pdHardresetBody]

/-! ### Machine/Teller -/

@[simp] theorem State.cutOff_ldg (s : State) (h : SlotId) (op : Byte) (a : CmdArgs) (plen : Nat) :
    (s.cutOff h op a plen).ldg = s.ldg := by simp [State.cutOff]
@[simp] theorem State.framing_ldg (s : State) (h : SlotId) (n : Nat) : (s.framing h n).ldg = s.ldg := by simp [State.framing]
@[simp] theorem State.takeEntry_ldg (s : State) (i pos : Nat) : (s.takeEntry i pos).ldg = s.ldg := by
  unfold State.takeEntry; split <;> simp

/-! ### Machine/Step -/

@[simp] theorem State.withFetchWord_ldg (s : State) (nbits w : Nat) : (s.withFetchWord nbits w).ldg = s.ldg := by
  unfold State.withFetchWord; split <;> simp

end Sys2Proof.Machine
end

section
/-! SUPPORT. The operations that do touch the Ledger keep `Ledger.Ok` (R80, R383, R387, R414, R475): reads and writes of tables,
rings and records, the test modes, the self-test, the image payload, and sleep. -/
namespace Sys2Proof.Machine

/-! ### Segments, templates and Drafts -/

/-- A segment written keeps `Ok`. -/
theorem State.writeSegment_ok {s : State} (h : s.ldg.Ok) (c : ChanId) (e : Nat) (l : List Byte) :
    (s.writeSegment c e l).ldg.Ok :=
  State.writeLedger_ok h _ l
/-- A template written keeps `Ok`. -/
theorem State.writeTemplate_ok {s : State} (h : s.ldg.Ok) (t : TemplId) (l : List Byte) : (s.writeTemplate t l).ldg.Ok :=
  State.writeLedger_ok h _ l
/-- The job that builds a Mint frame keeps `Ok`. -/
theorem State.frameJob_ok {s : State} (h : s.ldg.Ok) : s.frameJob.2.ldg.Ok := by
  have hr := State.ownReads_ok h .draft inProduced
  unfold State.frameJob
  dsimp only
  split
  · exact hr
  · exact State.draftHalts_ok hr _
/-- Taking a Draft keeps `Ok`. -/
theorem State.takeDraft_ok {s : State} (h : s.ldg.Ok) (client : BitVec 4) : (s.takeDraft client).2.ldg.Ok := by
  have hf : (s.freeBelow ((allFin 32).filter fun d => !s.ldg.drafts[d.val].busy).length).2.ldg.Ok := by simpa using h
  unfold State.takeDraft
  dsimp only
  split
  · exact h
  · split
    · exact hf
    · exact hf.of_eq rfl rfl rfl
/-- Freeing a Draft keeps `Ok`. -/
theorem State.freeDraft_ok {s : State} (h : s.ldg.Ok) (d : Option (Fin 32)) : (s.freeDraft d).ldg.Ok := by
  unfold State.freeDraft
  split
  · exact h
  · exact h.of_eq rfl rfl rfl

/-! ### Opcodes of the Ledger, and its test modes -/

/-- LDG_RD keeps `Ok`. -/
theorem ldgRdBody_ok {s : State} (h : s.ldg.Ok) (a : CmdArgs) : (ldgRdBody s a).state.ldg.Ok := by
  have hr := State.readLedger_ok h .draft a.arg0.toNat a.arg1.toNat
  unfold ldgRdBody
  dsimp only
  split
  · exact h
  · split <;> exact hr
/-- LDG_WR keeps `Ok`. -/
theorem ldgWrBody_ok {s : State} (h : s.ldg.Ok) (a : CmdArgs) : (ldgWrBody s a).state.ldg.Ok := by
  unfold ldgWrBody
  dsimp only
  split
  · exact h
  · exact State.writeLedger_ok h _ _
/-- What a test mode reads keeps `Ok`. -/
theorem State.testStored_ok {s : State} (h : s.ldg.Ok) : s.testStored.2.2.ldg.Ok := by
  have hi := State.inlayCheck_ok h s.ldg.testAddr.toNat
  unfold State.testStored
  dsimp only
  split
  · exact hi
  · exact State.openLine_ok hi _
/-- LOAD keeps `Ok`. -/
theorem State.testLoad_ok {s : State} (h : s.ldg.Ok) : s.testLoad.ldg.Ok :=
  (State.testStored_ok h).of_eq rfl rfl rfl
/-- A test operation keeps `Ok`. -/
theorem State.testOp_ok {s : State} (h : s.ldg.Ok) (op : Nat) : (s.testOp op).ldg.Ok := by
  unfold State.testOp
  split_ifs
  · exact State.testLoad_ok h
  · exact State.testStore_ok (State.testStored_ok h) _ _
  · exact State.testStore_ok (State.testStored_ok h) _ _
  · exact State.testStore_ok (State.inlayCheck_ok h _) _ _
  · exact h

/-! ### Resets, sleep and self-test -/

/-- A reset of the Carcass empties the Ledger. -/
@[simp] theorem State.carcassReset_ldg (s : State) (cause : BitVec 3) (held sleep : Bool) :
    (s.carcassReset cause held sleep).ldg = {} := rfl
/-- The entry into S2 or S3 keeps `Ok`. -/
theorem State.fallAsleep_ok {s : State} (h : s.ldg.Ok) (level : BitVec 2) : (s.fallAsleep level).ldg.Ok := by
  unfold State.fallAsleep
  dsimp only
  split
  · split
    · exact h.bank0
    · exact Ledger.ok_default
  · exact Ledger.ok_default
/-- A tick of an entry into sleep keeps `Ok`. -/
theorem State.entryTick_ok {s : State} (h : s.ldg.Ok) : s.entryTick.ldg.Ok := by
  unfold State.entryTick
  split
  · split_ifs
    · exact h
    · exact State.fallAsleep_ok h _
    · simpa using h
    · exact h
  · exact h
/-- The self-test of some lines leaves the stored bytes. -/
theorem Ledger.Ok.selfTestLines {g : Ledger} (h : g.Ok) (l : List Nat) : (Ledger.selfTestLines l g).2.Ok := by
  induction l generalizing g with
  | nil => exact h
  | cons line l ih =>
    unfold Ledger.selfTestLines
    split
    · next k hk =>
      refine ih ?_
      unfold Ledger.selfTestLine at hk
      split at hk
      · cases hk
      · obtain ⟨x, -, rfl⟩ := Option.map_eq_some_iff.mp hk
        exact h.of_eq rfl rfl rfl
    · exact h
/-- The self-test leaves the stored bytes. -/
theorem Ledger.Ok.selfTest {g : Ledger} (h : g.Ok) (badLines badSpares : List Nat) (tests : Nat → Bool) :
    (g.selfTest badLines badSpares tests).2.Ok := by
  unfold Ledger.selfTest
  refine Ledger.Ok.selfTestLines ?_ _
  exact h.of_eq rfl rfl rfl
/-- Discarding bank 0 keeps `Ok`. -/
theorem Ledger.Ok.dropBank0 {g : Ledger} (h : g.Ok) : g.dropBank0.Ok := by
  refine ⟨memWfFrom_filter _ h.mem, Nat.zero_le _, fun c hc => ?_⟩
  simp only [Ledger.dropBank0, List.mem_filter, decide_eq_true_eq] at hc
  simp only [Ledger.dropBank0, List.contains_iff_mem, List.mem_filter, decide_eq_true_eq]
  exact ⟨List.contains_iff_mem.1 (h.written c hc.1), by omega⟩
/-- The self-test leaves the Ledger that it is given. -/
@[simp] theorem State.tested_ldg (s : State) (ok : Bool) (g : Ledger) : (s.tested ok g).ldg = g := rfl

/-! ### Images and Teller's own reads -/

/-- Trying the image slots keeps `Ok`. -/
theorem State.tryImages_ok {s : State} (h : s.ldg.Ok) (f : FlashView) : (s.tryImages f).ldg.Ok := by
  unfold State.tryImages
  extract_lets first pick load c1 t c2
  have hload : ∀ (u : State) (b : Bool), u.ldg.Ok → (load u b).ldg.Ok := fun u b hu => by
    simpa [load] using hu.loadPayload b _ _
  have ht : t.ldg.Ok := by simpa [t] using h
  split
  · exact hload s first h
  · split
    · simpa using ht
    · split
      · exact hload t _ ht
      · simpa using ht
/-- Hashing a retained payload keeps `Ok`. -/
theorem State.rehashRetained_ok {s : State} (h : s.ldg.Ok) : s.rehashRetained.ldg.Ok :=
  foldl_inv (fun t : State => t.ldg.Ok) _ (fun _ c ht => State.readLine_ok ht .fabric c.1) _ _ h
/-- Discarding a retained bank 0 keeps `Ok`. -/
theorem State.discardRetained_ok {s : State} (h : s.ldg.Ok) (f : FlashView) (badLines badSpares : List Nat) :
    (s.discardRetained f badLines badSpares).ldg.Ok := by
  have hg := h.dropBank0.selfTest badLines badSpares fun b => b == 0
  unfold State.discardRetained
  dsimp only
  split
  · exact State.tryImages_ok hg f
  · exact hg
/-- A refetch of the code keeps `Ok`. -/
theorem State.refetchCode_ok {s : State} (h : s.ldg.Ok) : s.refetchCode.2.ldg.Ok :=
  foldl_inv (fun a : Bool × State => a.2.ldg.Ok) _ (fun _ l ha => State.readLine_ok ha .fetch l) _ _ h
/-- A line that Teller reads keeps `Ok`. -/
theorem State.tellerRead_ok {s : State} (h : s.ldg.Ok) (line : Nat) : (s.tellerRead line).ldg.Ok := by
  have hr := State.readLine_ok h (if line < 0x4000 then .fetch else .fabric) line
  simp only [State.tellerRead, State.ite_ldg, State.restartTeller_ldg, State.firmwareFault_ldg, ite_self]
  split
  · exact h
  · exact hr
/-- The lines that Teller reads keep `Ok`. -/
theorem State.tellerReads_ok {s : State} (h : s.ldg.Ok) : s.tellerReads.ldg.Ok := by
  unfold State.tellerReads
  split
  · refine foldl_inv (fun t : State => t.ldg.Ok) _ (fun t l ht => ?_) _ _ h
    dsimp only
    split
    · exact State.tellerRead_ok (by simpa using ht) l
    · simpa using ht
  · exact h

/-! ### Mint and Clearance -/

/-- A Mint command that takes effect keeps `Ok`. -/
theorem State.applyMintOp_ok {s : State} (h : s.ldg.Ok) (o : MintOp) : (s.applyMintOp o).ldg.Ok := by
  cases o with
  | config c r reseed flush => exact State.writeChanRecord_ok (by simpa using h) c _
  | segments c l =>
    refine foldl_inv (fun t : State => t.ldg.Ok) _ (fun t g ht => ?_) _ _ h
    exact State.writeSegment_ok ht c _ _
  | template t p => exact State.writeTemplate_ok (by simpa using h) t _
/-- Reading a channel's record keeps `Ok`. -/
theorem State.readChannel_ok {s : State} (h : s.ldg.Ok) (c : ChanId) : (s.readChannel c).2.2.ldg.Ok := by
  unfold State.readChannel
  extract_lets x r y
  have hr : r.2.ldg.Ok := State.checkRecord_ok h _ _
  have hy : y.2.ldg.Ok := by
    simp only [y]
    split
    · exact hr
    · exact State.checkRecord_ok hr _ _
  split
  · exact hy
  · split
    · exact hy
    · exact State.checkRecord_ok hy _ _
/-- The evaluation of a channel keeps `Ok`. -/
theorem State.evaluate_ok {s : State} (h : s.ldg.Ok) (c : ChanId) (start : Bool) : (s.evaluate c start).ldg.Ok := by
  have hr := State.readChannel_ok h c
  unfold State.evaluate
  dsimp only
  (repeat' split) <;> simp [h, hr]
/-- Mint's part of the boundary keeps `Ok`. -/
theorem State.mintBoundary_ok {s : State} (h : s.ldg.Ok) : s.mintBoundary.ldg.Ok := by
  unfold State.mintBoundary
  extract_lets s1 s2 n m3 s3 pends ops m4 s4 s5 s6 s7 r s8 s9 load m10 s10 m11 s11
  have h4 : s4.ldg.Ok := by simpa [s4, s3, s2, s1] using h
  have h5 : s5.ldg.Ok := foldl_inv (fun t : State => t.ldg.Ok) _ (fun _ o ht => State.applyMintOp_ok ht o) _ _ h4
  have hr : r.1.ldg = s7.ldg :=
    foldl_inv (fun a : State × List ChanId => a.1.ldg = s7.ldg) _ (fun a gp ha => by simpa using ha) _ _ rfl
  have h8 : s8.ldg.Ok :=
    foldl_inv (fun t : State => t.ldg.Ok) _ (fun _ c ht => State.evaluate_ok ht c _) _ _ (by simpa [hr, s7, s6] using h5)
  simpa [s11, s10, s9] using h8
/-- Clearance's part of the boundary keeps `Ok`. -/
theorem State.clrBoundary_ok {s : State} (h : s.ldg.Ok) : s.clrBoundary.ldg.Ok := by
  unfold State.clrBoundary
  dsimp only
  split
  · simpa using h
  · exact State.ownWrites_ok (by simpa using h) _
/-- Looking for a lost body keeps `Ok`. -/
theorem State.lostBody_ok {s : State} (h : s.ldg.Ok) : s.lostBody.2.ldg.Ok := by
  have hr := State.ownReads_ok h .fabric inClrRecords
  unfold State.lostBody
  dsimp only
  split
  · exact hr
  · simpa using hr
/-- Clearance's preparation keeps `Ok`. -/
theorem State.clrPrepare_ok {s : State} (h : s.ldg.Ok) : s.clrPrepare.ldg.Ok := by
  have hl := State.lostBody_ok h
  simpa [State.clrPrepare] using hl
/-- What Mint produces is written, and `Ok` kept. -/
theorem State.writeProduced_ok {s : State} (h : s.ldg.Ok) : s.writeProduced.ldg.Ok :=
  State.ownWrites_ok h _

/-! ### Purses and orders -/

/-- A copy that starts keeps `Ok`. -/
theorem State.startCopy_ok {s : State} (h : s.ldg.Ok) (n : PurseId) : (s.startCopy n).ldg.Ok := by
  unfold State.startCopy
  split
  · exact h
  · exact State.takeDraft_ok h 3
/-- PRS_READ keeps `Ok`. -/
theorem prsReadBody_ok {s : State} (h : s.ldg.Ok) (a : CmdArgs) : (prsReadBody s a).state.ldg.Ok := by
  unfold prsReadBody
  dsimp only
  (repeat' split) <;> simp [h]
  exact State.startCopy_ok (by simpa using h) _
/-- An order written keeps `Ok`. -/
theorem State.writeOrder_ok {s : State} (h : s.ldg.Ok) (n : OrderId) (r : OrderRec) : (s.writeOrder n r).ldg.Ok :=
  State.writeOrderRecord_ok (by simpa using h) n _
/-- SO_CREATE keeps `Ok`. -/
theorem soCreateBody_ok {s : State} (h : s.ldg.Ok) (a : CmdArgs) : (soCreateBody s a).state.ldg.Ok := by
  unfold soCreateBody
  dsimp only
  split
  · exact h
  · split
    · split
      · exact h
      · split
        · exact h
        · exact State.writeOrder_ok (by simpa using h) _ _
    · split
      · exact h
      · split
        · exact h
        · exact State.writeOrder_ok h _ _
/-- SO_MODIFY keeps `Ok`. -/
theorem soModifyBody_ok {s : State} (h : s.ldg.Ok) (a : CmdArgs) : (soModifyBody s a).state.ldg.Ok := by
  unfold soModifyBody
  extract_lets n o r held
  split
  · exact h
  · split
    · exact h
    · split
      · exact h
      · split
        · exact h
        · split
          · exact h
          · exact State.writeOrder_ok h _ _
/-- An entry of a Ledger ring keeps `Ok`. -/
theorem State.ringEntry_ok {s : State} (h : s.ldg.Ok) (n : OrderId) (c : Occurrence) (st : OccStatus) (l : List Byte) :
    (s.ringEntry n c st l).ldg.Ok :=
  State.writeLedger_ok (State.writeLedger_ok h _ _) _ _
/-- Placing what an occurrence got keeps `Ok`. -/
theorem State.place_ok {s : State} (h : s.ldg.Ok) (n : OrderId) (c : Occurrence) (st : OccStatus) (late : Bool) :
    (s.place n c st late).ldg.Ok := by
  unfold State.place
  extract_lets r k l t
  have ht : t.ldg.Ok := by
    simp only [t]
    split
    · simpa using h
    · split
      · simpa using h
      · exact h
    · exact State.ringEntry_ok h n c st l
    · exact h
  simpa using ht
/-- The end of an occurrence keeps `Ok`. -/
theorem State.endOccurrence_ok {s : State} (h : s.ldg.Ok) (n : OrderId) (c : Occurrence) (st : OccStatus) (late : Bool) :
    (s.endOccurrence n c st late).ldg.Ok := by
  unfold State.endOccurrence
  extract_lets r k lost shown s1 s2 s3 s4
  have h2 : s2.ldg.Ok := by simpa [s2, s1] using h
  have h3 : s3.ldg.Ok := by
    simp only [s3]
    split
    · exact h2
    · exact State.place_ok h2 n c shown late
  simpa [s4] using h3
/-- Building what a transaction sends keeps `Ok`. -/
theorem State.buildOut_ok {s : State} (h : s.ldg.Ok) (c : Occurrence) : (s.buildOut c).2.ldg.Ok := by
  have hf := State.frameJob_ok h
  have hr := State.readLedger_ok h .draft (c.cfg.laddr + c.txn * c.cfg.maxp) (c.cfg.txnBytes c.txn)
  unfold State.buildOut
  dsimp only
  (repeat' split) <;> assumption
/-- Building without turns left builds nothing. The turn of a port is generalized, since its evaluation runs over every order. -/
theorem State.buildNext_zero (k : PortId) (s : State) : State.buildNext 0 k s = s := by
  delta State.buildNext State.buildNext._f
  generalize State.nextFirst = next
  rfl
/-- Building with a turn left: the transaction that is next, or the one after an occurrence that cannot be built. -/
theorem State.buildNext_succ (f : Nat) (k : PortId) (s : State) : State.buildNext (f + 1) k s =
    match s.nextFirst k with
    | none => s
    | some (n, c) =>
      match (s.buildOut c).1 with
      | some d => (s.buildOut c).2.modOrder n fun o => { o with occ := some d }
      | none => State.buildNext f k ((s.buildOut c).2.endOccurrence n c .skipped false) := by
  delta State.buildNext State.buildNext._f
  generalize State.nextFirst = next
  rfl
/-- Building the next transaction keeps `Ok`. -/
theorem State.buildNext_ok {s : State} (h : s.ldg.Ok) (f : Nat) (k : PortId) : (State.buildNext f k s).ldg.Ok := by
  induction f generalizing s with
  | zero => rw [State.buildNext_zero]; exact h
  | succ f ih =>
    rw [State.buildNext_succ]
    split
    · exact h
    · next n c _ =>
      have hb := State.buildOut_ok h c
      split
      · simpa using hb
      · exact ih (State.endOccurrence_ok hb n c _ _)
/-- The end of an order's window keeps `Ok`. -/
theorem State.windowEnd_ok {s : State} (h : s.ldg.Ok) (n : OrderId) : (s.windowEnd n).ldg.Ok := by
  unfold State.windowEnd
  split
  · exact h
  · exact State.endOccurrence_ok h n _ _ _
/-- The ends of windows keep `Ok`. -/
theorem State.windowEnds_ok {s : State} (h : s.ldg.Ok) (l : List OrderId) : (l.foldl State.windowEnd s).ldg.Ok :=
  foldl_inv (fun t : State => t.ldg.Ok) _ (fun _ n ht => State.windowEnd_ok ht n) l s h
/-- The close of the orders at a boundary keeps `Ok`. -/
theorem State.closeOrders_ok {s : State} (h : s.ldg.Ok) (n : Dword) : (s.closeOrders n).ldg.Ok :=
  State.windowEnds_ok h _
/-- Taking an order that is due keeps `Ok`. -/
theorem State.takeDue_ok {s : State} (h : s.ldg.Ok) (m : OrderId) : (s.takeDue m).ldg.Ok := by
  have hc := State.checkRecord_ok h (0x139000 + 32 * m.val) 32
  unfold State.takeDue
  dsimp only
  split
  · exact h
  · split_ifs
    · simpa using hc
    · exact State.endOccurrence_ok hc m _ _ _
    · exact h
/-- The orders' part of the boundary keeps `Ok`. -/
theorem State.ordersBoundary_ok {s : State} (h : s.ldg.Ok) : s.ordersBoundary.ldg.Ok := by
  unfold State.ordersBoundary
  extract_lets s1 s2 s3
  refine foldl_inv (fun t : State => t.ldg.Ok) _ (fun _ k ht => State.buildNext_ok ht 16 k) _ _ ?_
  refine foldl_inv (fun t : State => t.ldg.Ok) _ (fun _ m ht => State.takeDue_ok ht m) _ _ ?_
  exact h
/-- Reading a Statement's buffer keeps `Ok`. -/
theorem State.readBuffer_ok {s : State} (hs : s.ldg.Ok) (h : SlotId) (n : Word) (l : List Byte) :
    (s.readBuffer h n l).2.ldg.Ok := by
  unfold State.readBuffer
  refine foldl_inv (fun a : List Byte × State => a.2.ldg.Ok) _ (fun a line ha => ?_) _ _ (State.meets_ok hs _)
  have hu := State.noteUncorrectable_ok (s := (a.2.freeBelow (ceilDiv l.length 64)).2) (by simpa using ha) line .draft
  simpa using hu

end Sys2Proof.Machine
end

section
/-! SUPPORT. Registers and commands keep `Ledger.Ok`: every row of the opcode tables, and every access to a register. -/
namespace Sys2Proof.Machine

/-! ### What a command keeps -/

/-- A row of the opcode tables whose body keeps the Ledger `Ok`. -/
def OpSpec.KeepsOk (o : OpSpec) : Prop := ∀ (s : State) (a : CmdArgs), s.ldg.Ok → (o.body s a).state.ldg.Ok

/-- A body that leaves the Ledger keeps it `Ok`. -/
theorem OpSpec.KeepsOk.of_ldg {o : OpSpec} (h : ∀ s a, (o.body s a).state.ldg = s.ldg) : o.KeepsOk :=
  fun s a hs => by rw [h]; exact hs

/-- Whatever only answers keeps the Ledger `Ok`. -/
theorem State.Answering.ok {s t : State} (h : s.Answering t) (hs : s.ldg.Ok) : t.ldg.Ok := by rw [h.ldg]; exact hs

/-- Dispatching a command keeps `Ok`. -/
theorem OpSpec.KeepsOk.runEntry {o : OpSpec} (ho : o.KeepsOk) {s : State} (h : s.ldg.Ok) (e : TillEntry) (pos : Nat) :
    (runEntry o s e pos).ldg.Ok :=
  runEntry_keeps (fun t => t.ldg.Ok) o s e pos (fun _ _ => State.Answering.ok) (fun t ht => by simpa using ht)
    (fun t ht => State.fetchParams_ok ht e) (fun t ht => by simpa using ht) (fun t u ht => by simpa using ht)
    (fun t ht => ho t e.args ht) h

/-- A command handed to Teller keeps `Ok`. -/
theorem OpSpec.KeepsOk.issue {o : OpSpec} (ho : o.KeepsOk) {s : State} (h : s.ldg.Ok) (a : CmdArgs) : (issue o a s).ldg.Ok :=
  issue_keeps (fun t => t.ldg.Ok) o a s (fun _ _ => State.Answering.ok) (fun t ht => by simpa using ht)
    (fun t e ht => State.fetchParams_ok ht e) (fun t ht => by simpa using ht) (fun t u ht => by simpa using ht)
    (fun t ht => ho t a ht) h

/-- A command that enters a Till keeps `Ok`, where its row's body does. -/
theorem State.enter_ok {s : State} (hs : s.ldg.Ok) {o : Option OpSpec} (ho : ∀ x, o = some x → x.KeepsOk) (op : Byte)
    (h : SlotId) (a : CmdArgs) : (s.enter o op h a).ldg.Ok := by
  unfold State.enter
  extract_lets e busy t
  have ht : t.ldg.Ok := by simpa [t] using hs
  split
  · simpa using hs
  · split
    · simpa using ht
    · split
      · simpa using ht
      · exact ht
      · next x _ =>
        split
        · simpa using ht
        · split
          · exact (ho x rfl).runEntry ht _ _
          · simpa using ht

/-- The mailbox command that starts keeps `Ok`, where its row's body does. -/
theorem State.startMbx_ok {s : State} (hs : s.ldg.Ok) {o : Option OpSpec} (ho : ∀ x, o = some x → x.KeepsOk) (op : Byte)
    (a : CmdArgs) : (s.startMbx o op a).ldg.Ok := by
  unfold State.startMbx
  extract_lets e busy t
  have ht : t.ldg.Ok := by simpa [t] using hs
  split
  · simpa using ht
  · split
    · simpa using ht
    · exact ht
    · next x _ =>
      split
      · simpa using ht
      · split
        · exact (ho x rfl).runEntry ht _ _
        · simpa using ht

/-- An opcode is found among the rows of a table. -/
theorem opOf_mem {l : List OpSpec} {code : Byte} {o : OpSpec} (h : opOf l code = some o) : o ∈ l := List.mem_of_find?_eq_some h

/-! ### Registers -/

/-- Clearing a register that is read keeps `Ok`. -/
theorem State.clearRc_ok {s : State} (h : s.ldg.Ok) (r : Reg) : (s.clearRc r).ldg.Ok := by
  cases r with
  | stlPwrCnt k => rw [State.clearRc_stlPwrCnt]; split <;> exact h
  | stlPdCnt k => rw [State.clearRc_stlPdCnt]; split <;> exact h
  | _ => exact h.of_eq rfl rfl rfl
/-- Storing into a register keeps `Ok`, where the start of the mailbox does. -/
theorem State.storeReg_ok {go : State → State} (hgo : ∀ t : State, t.ldg.Ok → (go t).ldg.Ok) {s : State} (h : s.ldg.Ok)
    (p : Path) (addr : Nat) (r : Reg) (v : Word) : (State.storeReg go s p addr r v).ldg.Ok := by
  cases r with
  | unlock => simpa only [State.storeReg, State.writeUnlock_ldg] using h
  | presence => simpa only [State.storeReg, State.ite_ldg, State.closePresence_ldg, ite_self] using h
  | mbxGo =>
    simp only [State.storeReg]
    split
    · exact hgo s h
    · exact h
  | ldgTestCtrl => exact State.testOp_ok h _
  | nsfRuleHit => simpa only [State.storeReg, State.ite_ldg, State.post_ldg, State.modNsf_ldg, ite_self] using h
  | _ => exact h.of_eq rfl rfl rfl
/-- A core register that fails its parity keeps `Ok`. -/
theorem State.coreParity_ok {s : State} (h : s.ldg.Ok) (addr : Nat) (r : Reg) : (s.coreParity addr r).ldg.Ok := by
  have hn : (s.noteParity addr).ldg.Ok := by simpa using h
  unfold State.coreParity
  dsimp only
  split
  · exact hn
  · exact hn
  · exact hn
  · exact hn
  · exact hn
  · exact hn
  · exact State.storeReg_ok (fun _ ht => ht) hn _ _ _ _
/-- The parity check of a register that is read keeps `Ok`. -/
theorem State.parityRead_ok {s : State} (h : s.ldg.Ok) (addr : Nat) (r : Reg) : (s.parityRead addr r).ldg.Ok := by
  unfold State.parityRead
  split
  · simpa using h
  · split_ifs
    · exact h
    · simpa using h
    · exact State.coreParity_ok h _ _
/-- A register read keeps `Ok`. -/
theorem State.regRead_ok {s : State} (h : s.ldg.Ok) (p : Path) (now : Dword) (clear : Bool) (addr : Nat) :
    (s.regRead p now clear addr).2.2.ldg.Ok := by
  unfold State.regRead
  split
  · simpa using h
  · next r _ =>
    have hp := State.parityRead_ok h addr r
    dsimp only
    split
    · exact State.clearRc_ok hp r
    · exact hp
/-- A register write keeps `Ok`, where the start of the mailbox does. -/
theorem State.regWrite_ok {go : State → State} (hgo : ∀ t : State, t.ldg.Ok → (go t).ldg.Ok) {s : State} (h : s.ldg.Ok)
    (p : Path) (addr : Nat) (v : Word) : (State.regWrite go s p addr v).2.ldg.Ok := by
  unfold State.regWrite
  split
  · simpa using h
  · next r _ =>
    unfold State.regPut
    split
    · simpa using h
    · extract_lets t u
      have ht : t.ldg.Ok := by simpa [t] using h
      split
      · simpa using ht
      · exact State.storeReg_ok hgo (by simpa [u] using ht) p addr r v
/-- Register reads keep `Ok`. -/
theorem State.readWords_ok {s : State} (h : s.ldg.Ok) (p : Path) (now : Dword) (a : Nat) (l : List Nat) :
    (State.readWords p now a l s).2.2.ldg.Ok := by
  induction l generalizing s with
  | nil => exact h
  | cons i l ih =>
    have hr := State.regRead_ok h p now true (wordAddr a i)
    unfold State.readWords
    dsimp only
    split
    · exact hr
    · exact ih hr
/-- REG_RD keeps `Ok`. -/
theorem regRdBody_ok {s : State} (h : s.ldg.Ok) (a : CmdArgs) : (regRdBody s a).state.ldg.Ok :=
  State.readWords_ok (s := (s.accessTime a.arg0.toNat a.arg1.toNat).2) (by simpa using h) _ _ _ _
/-- Register writes keep `Ok`, where the start of the mailbox does. -/
theorem State.writeWords_ok {go : State → State} (hgo : ∀ t : State, t.ldg.Ok → (go t).ldg.Ok) {s : State} (h : s.ldg.Ok)
    (p : Path) (a : Nat) (l : List Word) : (State.writeWords go p a l s).2.ldg.Ok := by
  induction l generalizing a s with
  | nil => exact h
  | cons w l ih =>
    have hw := State.regWrite_ok hgo h p a w
    unfold State.writeWords
    dsimp only
    split
    · exact hw
    · exact ih hw _
/-- REG_WR keeps `Ok`, where the start of the mailbox does. -/
theorem opRegWrG_keepsOk {go : State → State} (hgo : ∀ t : State, t.ldg.Ok → (go t).ldg.Ok) : (opRegWrG go).KeepsOk :=
  fun _ _ h => State.writeWords_ok hgo h _ _ _
/-- REG_RMW keeps `Ok`, where the start of the mailbox does. -/
theorem opRegRmwG_keepsOk {go : State → State} (hgo : ∀ t : State, t.ldg.Ok → (go t).ldg.Ok) : (opRegRmwG go).KeepsOk := by
  intro s a h
  have hr := State.regRead_ok (s := (s.accessTime a.arg0.toNat 1).2) (by simpa using h) (pathOf a.caller)
    (s.accessTime a.arg0.toNat 1).1 false a.arg0.toNat
  simp only [opRegRmwG]
  unfold regRmwBody
  dsimp only
  split
  · exact hr
  · exact State.regWrite_ok hgo hr _ _ _

/-! ### The rows of the opcode tables -/

theorem opNop_keepsOk : opNop.KeepsOk := .of_ldg fun _ _ => rfl
theorem opEcho_keepsOk : opEcho.KeepsOk := .of_ldg fun _ _ => rfl
theorem opGetInfo_keepsOk : opGetInfo.KeepsOk := .of_ldg fun _ _ => rfl
theorem opFence_keepsOk : opFence.KeepsOk := .of_ldg fun _ _ => rfl
theorem opCancel_keepsOk : opCancel.KeepsOk := .of_ldg cancelBody_ldg
theorem opRegRd_keepsOk : opRegRd.KeepsOk := fun _ a h => regRdBody_ok h a
theorem opPortMode_keepsOk : opPortMode.KeepsOk := .of_ldg portModeBody_ldg
theorem opPortPower_keepsOk : opPortPower.KeepsOk := .of_ldg portPowerBody_ldg
theorem opPortReset_keepsOk : opPortReset.KeepsOk := .of_ldg portResetBody_ldg
theorem opPortSuspend_keepsOk : opPortSuspend.KeepsOk := .of_ldg portSuspendBody_ldg
theorem opPortResume_keepsOk : opPortResume.KeepsOk := .of_ldg portResumeBody_ldg
theorem opDeedRelease_keepsOk : opDeedRelease.KeepsOk := .of_ldg fun s a => by simp [opDeedRelease, deedDone]
theorem opDeedClaim_keepsOk : opDeedClaim.KeepsOk := .of_ldg fun s a => by simp [opDeedClaim, deedDone]
theorem opDeedSeize_keepsOk : opDeedSeize.KeepsOk := .of_ldg fun s a => by simp [opDeedSeize, deedDone]
theorem opDeedView_keepsOk : opDeedView.KeepsOk := .of_ldg fun s a => by simp [opDeedView, deedDone]
theorem opCtrlXfer_keepsOk : opCtrlXfer.KeepsOk := .of_ldg (xferBody_ldg · 0x30)
theorem opBulkXfer_keepsOk : opBulkXfer.KeepsOk := .of_ldg (xferBody_ldg · 0x31)
theorem opIntXfer_keepsOk : opIntXfer.KeepsOk := .of_ldg (xferBody_ldg · 0x32)
theorem opIsoXfer_keepsOk : opIsoXfer.KeepsOk := .of_ldg (xferBody_ldg · 0x33)
theorem opSoCreate_keepsOk : opSoCreate.KeepsOk := fun _ a h => soCreateBody_ok h a
theorem opSoModify_keepsOk : opSoModify.KeepsOk := fun _ a h => soModifyBody_ok h a
theorem opSoDelete_keepsOk : opSoDelete.KeepsOk := .of_ldg soDeleteBody_ldg
theorem opSoQuery_keepsOk : opSoQuery.KeepsOk := .of_ldg fun _ _ => rfl
theorem opStmtLayout_keepsOk : opStmtLayout.KeepsOk := .of_ldg stmtLayoutBody_ldg
theorem opStmtSubscribe_keepsOk : opStmtSubscribe.KeepsOk := .of_ldg stmtSubscribeBody_ldg
theorem opMntCfg_keepsOk : opMntCfg.KeepsOk := .of_ldg mntCfgBody_ldg
theorem opMntSeg_keepsOk : opMntSeg.KeepsOk := .of_ldg mntSegBody_ldg
theorem opMntStart_keepsOk : opMntStart.KeepsOk := .of_ldg mntStartBody_ldg
theorem opMntHold_keepsOk : opMntHold.KeepsOk := .of_ldg mntHoldBody_ldg
theorem opMntRelease_keepsOk : opMntRelease.KeepsOk := .of_ldg mntReleaseBody_ldg
theorem opMntQuery_keepsOk : opMntQuery.KeepsOk := .of_ldg fun _ _ => rfl
theorem opMntFbtemplate_keepsOk : opMntFbtemplate.KeepsOk := .of_ldg mntFbtemplateBody_ldg
theorem opClrBody_keepsOk : opClrBody.KeepsOk := .of_ldg clrBodyBody_ldg
theorem opClrPair_keepsOk : opClrPair.KeepsOk := .of_ldg fun s a => by simp [opClrPair]
theorem opClrArm_keepsOk : opClrArm.KeepsOk := .of_ldg clrArmBody_ldg
theorem opClrDisarm_keepsOk : opClrDisarm.KeepsOk := .of_ldg fun s a => by simp [opClrDisarm]
theorem opTlySet_keepsOk : opTlySet.KeepsOk := .of_ldg tlySetBody_ldg
theorem opTlyMode_keepsOk : opTlyMode.KeepsOk := .of_ldg fun _ _ => rfl
theorem opTlyQuery_keepsOk : opTlyQuery.KeepsOk := .of_ldg fun s _ => by simp [opTlyQuery]
theorem opCcCfg_keepsOk : opCcCfg.KeepsOk := .of_ldg ccCfgBody_ldg
theorem opPdCfg_keepsOk : opPdCfg.KeepsOk := .of_ldg pdCfgBody_ldg
theorem opPdTx_keepsOk : opPdTx.KeepsOk := .of_ldg pdTxBody_ldg
theorem opPdHardreset_keepsOk : opPdHardreset.KeepsOk := .of_ldg pdHardresetBody_ldg
theorem opEscBudget_keepsOk : opEscBudget.KeepsOk := .of_ldg fun s a => by simp [opEscBudget]
theorem opEscPriority_keepsOk : opEscPriority.KeepsOk := .of_ldg fun s a => by simp [opEscPriority]
theorem opGateCfg_keepsOk : opGateCfg.KeepsOk := .of_ldg gateCfgBody_ldg
theorem opModelCfg_keepsOk : opModelCfg.KeepsOk := .of_ldg modelCfgBody_ldg
theorem opEscQuery_keepsOk : opEscQuery.KeepsOk := .of_ldg fun _ _ => rfl
theorem opLdgRd_keepsOk : opLdgRd.KeepsOk := fun _ a h => ldgRdBody_ok h a
theorem opLdgWr_keepsOk : opLdgWr.KeepsOk := fun _ a h => ldgWrBody_ok h a
theorem opPlaneCfg_keepsOk : opPlaneCfg.KeepsOk := fun _ _ h => h.of_eq rfl rfl rfl
theorem opInlayQuery_keepsOk : opInlayQuery.KeepsOk := .of_ldg fun _ _ => rfl
theorem opPrsCfg_keepsOk : opPrsCfg.KeepsOk := .of_ldg prsCfgBody_ldg
theorem opPrsRead_keepsOk : opPrsRead.KeepsOk := fun _ a h => prsReadBody_ok h a
theorem opPwrDomain_keepsOk : opPwrDomain.KeepsOk := .of_ldg pwrDomainBody_ldg
theorem opSleep_keepsOk : opSleep.KeepsOk := .of_ldg sleepBody_ldg
theorem opFwStage_keepsOk : opFwStage.KeepsOk := .of_ldg fwStageBody_ldg
theorem opFwCommit_keepsOk : opFwCommit.KeepsOk := .of_ldg fwCommitBody_ldg
theorem opFwSwap_keepsOk : opFwSwap.KeepsOk := .of_ldg fwSwapBody_ldg
theorem opOtpWrite_keepsOk : opOtpWrite.KeepsOk := .of_ldg otpWriteBody_ldg
theorem opVaultLock_keepsOk : opVaultLock.KeepsOk := .of_ldg vaultLockBody_ldg

/-- Every opcode that the mailbox takes keeps the Ledger `Ok`. -/
theorem mbxOps_keepsOk : ∀ o ∈ mbxOps, o.KeepsOk := by
  have hid : ∀ t : State, t.ldg.Ok → (id t).ldg.Ok := fun _ ht => ht
  simp only [mbxOps, List.forall_mem_cons]
  exact ⟨opNop_keepsOk, opEcho_keepsOk, opGetInfo_keepsOk, opRegRd_keepsOk, opRegWrG_keepsOk hid, opRegRmwG_keepsOk hid,
    opPortPower_keepsOk, opDeedRelease_keepsOk, opEscQuery_keepsOk, opTlyQuery_keepsOk, opInlayQuery_keepsOk,
    opPwrDomain_keepsOk, opSleep_keepsOk, opFwStage_keepsOk, opFwCommit_keepsOk, opFwSwap_keepsOk, opOtpWrite_keepsOk,
    opVaultLock_keepsOk, List.forall_mem_nil _⟩
/-- A mailbox command that GO starts keeps `Ok`. -/
theorem State.mbxStart_ok {s : State} (h : s.ldg.Ok) : s.mbxStart.ldg.Ok :=
  State.startMbx_ok h (fun x hx => mbxOps_keepsOk x (opOf_mem hx)) _ _
theorem opRegWr_keepsOk : opRegWr.KeepsOk := opRegWrG_keepsOk fun _ ht => State.mbxStart_ok ht
theorem opRegRmw_keepsOk : opRegRmw.KeepsOk := opRegRmwG_keepsOk fun _ ht => State.mbxStart_ok ht
/-- Every row of the opcode tables keeps the Ledger `Ok`. -/
theorem opTable_keepsOk : ∀ o ∈ opTable, o.KeepsOk := by
  simp only [opTable, List.forall_mem_append, List.forall_mem_cons]
  exact ⟨⟨⟨opNop_keepsOk, opEcho_keepsOk, opGetInfo_keepsOk, opFence_keepsOk, opCancel_keepsOk, opRegRd_keepsOk, opRegWr_keepsOk,
    opRegRmw_keepsOk, opPortMode_keepsOk, opPortPower_keepsOk, opPortReset_keepsOk, opPortSuspend_keepsOk,
    opPortResume_keepsOk, opDeedRelease_keepsOk, opDeedClaim_keepsOk, opDeedSeize_keepsOk, opDeedView_keepsOk,
    opCtrlXfer_keepsOk, opBulkXfer_keepsOk, opIntXfer_keepsOk, opIsoXfer_keepsOk,
    List.forall_mem_nil _⟩,
    opSoCreate_keepsOk, opSoModify_keepsOk, opSoDelete_keepsOk, opSoQuery_keepsOk, opStmtLayout_keepsOk,
    opStmtSubscribe_keepsOk, opMntCfg_keepsOk, opMntSeg_keepsOk, opMntStart_keepsOk, opMntHold_keepsOk, opMntRelease_keepsOk,
    opMntQuery_keepsOk, opMntFbtemplate_keepsOk, opClrBody_keepsOk, opClrPair_keepsOk, opClrArm_keepsOk, opClrDisarm_keepsOk,
    opTlySet_keepsOk, opTlyMode_keepsOk, opTlyQuery_keepsOk,
    List.forall_mem_nil _⟩,
    opCcCfg_keepsOk, opPdCfg_keepsOk, opPdTx_keepsOk, opPdHardreset_keepsOk, opEscBudget_keepsOk, opEscPriority_keepsOk,
    opGateCfg_keepsOk, opModelCfg_keepsOk, opEscQuery_keepsOk, opLdgRd_keepsOk, opLdgWr_keepsOk, opPlaneCfg_keepsOk,
    opInlayQuery_keepsOk, opPrsCfg_keepsOk, opPrsRead_keepsOk, opPwrDomain_keepsOk, opSleep_keepsOk, opFwStage_keepsOk,
    opFwCommit_keepsOk, opFwSwap_keepsOk, opOtpWrite_keepsOk, opVaultLock_keepsOk,
    List.forall_mem_nil _⟩

end Sys2Proof.Machine
end

section
/-! SUPPORT. Every command keeps `Ledger.Ok`: the MGMT bus, the microframe boundary, the transport, and each event of the table. -/
namespace Sys2Proof.Machine

/-! ### Registers on a path, and the MGMT bus -/

/-- A write on a path keeps `Ok`. -/
theorem State.writeBy_ok {s : State} (h : s.ldg.Ok) (p : Path) (addr : Nat) (v : Word) : (s.writeBy p addr v).ldg.Ok := by
  have hgo : ∀ t : State, t.ldg.Ok → t.mbxStart.ldg.Ok := fun _ => State.mbxStart_ok
  unfold State.writeBy
  split
  · exact h
  · split
    · split
      · exact State.regWrite_ok hgo h _ _ _
      · exact h
    · exact State.regWrite_ok (fun _ ht => ht) h _ _ _
    · exact State.regWrite_ok hgo h _ _ _
/-- A word that MGMT reads keeps `Ok`. -/
theorem State.mgmtReadWord_ok {s : State} (h : s.ldg.Ok) (now : Dword) (a n : Nat) (seen : Bool) :
    (s.mgmtReadWord now a n seen).2.2.ldg.Ok := by
  have hr := State.regRead_ok h .mgmt now (decide (n = 4)) a
  cases hreg : regAt a with
  | none => simpa [State.mgmtReadWord, hreg] using h
  | some r => simpa [State.mgmtReadWord, hreg] using hr
/-- The words that MGMT reads keep `Ok`. -/
theorem State.mgmtRead_ok {s : State} (h : s.ldg.Ok) (now : Dword) (a : Nat) (l : List Nat) (n : Nat) (seen : Bool) :
    (State.mgmtRead now a l n seen s).2.ldg.Ok := by
  induction l generalizing n seen s with
  | nil => exact h
  | cons i l ih => exact ih (State.mgmtReadWord_ok h now _ _ seen) _ _
/-- The words that MGMT writes keep `Ok`. -/
theorem State.mgmtWrite_ok {s : State} (h : s.ldg.Ok) (a : Nat) (l : List Word) (seen : Bool) :
    (State.mgmtWrite a l seen s).ldg.Ok := by
  induction l generalizing a seen s with
  | nil => exact h
  | cons w l ih =>
    unfold State.mgmtWrite
    split
    · exact ih (by simpa using h) _ _
    · exact ih (State.regWrite_ok (fun _ => State.mbxStart_ok) h _ _ _) _ _
/-- A write transaction keeps `Ok`. -/
theorem State.mgmtWriteXact_ok {s : State} (h : s.ldg.Ok) (a : Nat) (addr data : List Byte) :
    (s.mgmtWriteXact a addr data).ldg.Ok := by
  have hw := State.mgmtWrite_ok h a (wordsOf (data.length / 4) data) false
  unfold State.mgmtWriteXact
  dsimp only
  split
  · simpa using h
  · split
    · simpa using h
    · simpa using hw
/-- A transaction keeps `Ok`. -/
theorem State.mgmtXact_ok {s : State} (h : s.ldg.Ok) (x : MgmtXact) : (s.mgmtXact x).ldg.Ok := by
  unfold State.mgmtXact
  extract_lets t zeros answer u a n now r
  have ht : t.ldg.Ok := h
  split
  · simpa [answer, u] using ht
  · split
    · exact State.mgmtWriteXact_ok ht a _ _
    · split
      · simpa [answer] using ht
      · exact State.mgmtRead_ok (s := (t.accessTime a (ceilDiv x.count 4)).2) (by simpa using ht) _ _ _ _ _
/-- What the MGMT bus brings keeps `Ok`. -/
theorem State.mgmtBus_ok {s : State} (h : s.ldg.Ok) (x : MgmtXact) : (s.mgmtBus x).ldg.Ok := by
  unfold State.mgmtBus
  split
  · exact h
  · split
    · exact State.mgmtXact_ok h x
    · simpa using h

/-! ### The microframe boundary -/

/-- The parity checks of the boundary keep `Ok`. -/
theorem State.tallyParity_ok {s : State} (h : s.ldg.Ok) : s.tallyParity.ldg.Ok := by
  refine foldl_inv (fun t : State => t.ldg.Ok) _ (fun t x ht => ?_) _ _ h
  split
  · exact State.coreParity_ok ht _ _
  · exact ht
/-- The boundary keeps `Ok`. -/
theorem State.boundary_ok {s : State} (h : s.ldg.Ok) : s.boundary.ldg.Ok := by
  unfold State.boundary
  extract_lets s1 s2 s3 s4
  have h1 : s1.ldg.Ok := State.closeOrders_ok h _
  have hp : s3.releaseKeys.tallyParity.ldg.Ok := State.tallyParity_ok (by simpa [s3, s2] using h1)
  have hm := State.mintBoundary_ok (s := s3.releaseKeys.tallyParity.tallyBoundary.stileBoundary) (by simpa using hp)
  have ho := State.ordersBoundary_ok (State.clrBoundary_ok hm)
  rw [State.checkReady_ldg]
  exact State.tellerReads_ok (by simpa [s4] using ho)

/-! ### Commands and records of a slot -/

/-- The commands of a transfer keep `Ok`. -/
theorem State.takeCommands_ok {s : State} (hs : s.ldg.Ok) (h : SlotId) (f : Nat) (b : List Byte) :
    (State.takeCommands h f b s).ldg.Ok := by
  induction f generalizing b s with
  | zero => exact hs
  | succ f ih =>
    unfold State.takeCommands
    dsimp only
    split_ifs
    · exact hs
    · simpa using hs
    · exact hs
    · simpa using hs
    · exact ih (State.enter_ok hs (fun x hx => opTable_keepsOk x (opOf_mem hx)) _ h _) _
/-- A record delivered keeps `Ok`. -/
theorem State.sendRecord_ok {s : State} (hs : s.ldg.Ok) (h : SlotId) (r : Record) : (s.sendRecord h r).2.ldg.Ok := by
  cases r with
  | completion c =>
    simp only [State.sendRecord]
    split
    · exact hs
    · exact State.haltJob_ok hs _
  | event e => exact hs
/-- The records of a transfer keep `Ok`. -/
theorem State.sendRecords_ok {s : State} (hs : s.ldg.Ok) (h : SlotId) (l : List Record) :
    (State.sendRecords h l s).2.ldg.Ok := by
  induction l generalizing s with
  | nil => exact hs
  | cons r l ih => exact ih (State.sendRecord_ok hs h r)

/-- Where an answer has a next state, the Ledger of that state is `Ok`. -/
def OkAfter (o : Out) : Prop := ∀ t, o = .next t → t.ldg.Ok
/-- A next state answered. -/
@[simp] theorem okAfter_next {t : State} : OkAfter (.next t) ↔ t.ldg.Ok :=
  ⟨fun h => h t rfl, fun h u e => by injection e with e; rw [← e]; exact h⟩

/-! ### Machine/Ports -/

theorem execResumeSignallingEnd_ok {s : State} (hs : s.ldg.Ok) (k : PortId) : OkAfter (execResumeSignallingEnd k s) := by
  simpa [execResumeSignallingEnd] using hs
theorem execSetPortPower_ok {s : State} (hs : s.ldg.Ok) (h : SlotId) (k : PortId) : OkAfter (execSetPortPower h k s) := by
  simpa [execSetPortPower, State.hubRequest] using hs
theorem execClearPortPower_ok {s : State} (hs : s.ldg.Ok) (h : SlotId) (k : PortId) : OkAfter (execClearPortPower h k s) := by
  simpa [execClearPortPower, State.hubRequest] using hs
theorem execSetPortReset_ok {s : State} (hs : s.ldg.Ok) (h : SlotId) (k : PortId) : OkAfter (execSetPortReset h k s) := by
  simpa [execSetPortReset, State.hubRequest] using hs
theorem execSetPortSuspend_ok {s : State} (hs : s.ldg.Ok) (h : SlotId) (k : PortId) : OkAfter (execSetPortSuspend h k s) := by
  simpa [execSetPortSuspend, State.hubRequest] using hs
theorem execClearPortSuspend_ok {s : State} (hs : s.ldg.Ok) (h : SlotId) (k : PortId) :
    OkAfter (execClearPortSuspend h k s) := by simpa [execClearPortSuspend, State.hubRequest] using hs
theorem execSetPortIndicator_ok {s : State} (hs : s.ldg.Ok) (h : SlotId) (k : PortId) (m : LedMode) :
    OkAfter (execSetPortIndicator h k m s) := by simpa [execSetPortIndicator, State.hubRequest] using hs
theorem execGetPortStatus_ok {s : State} (hs : s.ldg.Ok) (h : SlotId) (k : PortId) : OkAfter (execGetPortStatus h k s) := by
  simpa [execGetPortStatus] using hs
theorem execSetPortTest_ok {s : State} (hs : s.ldg.Ok) (h : SlotId) (k : PortId) (m : TestMode) :
    OkAfter (execSetPortTest h k m s) := by simpa [execSetPortTest] using hs
theorem execClearTtBuffer_ok {s : State} (hs : s.ldg.Ok) (h : SlotId) (k : PortId) (key : BitVec 16) :
    OkAfter (execClearTtBuffer h k key s) := by simpa [execClearTtBuffer, State.hubRequest] using hs
theorem execResetTt_ok {s : State} (hs : s.ldg.Ok) (h : SlotId) (k : PortId) : OkAfter (execResetTt h k s) := by
  simpa [execResetTt, State.hubRequest] using hs
theorem execGetTtState_ok {s : State} (hs : s.ldg.Ok) (h : SlotId) (k : PortId) : OkAfter (execGetTtState h k s) := by
  simpa [execGetTtState] using hs
theorem execStopTt_ok {s : State} (hs : s.ldg.Ok) (h : SlotId) (k : PortId) : OkAfter (execStopTt h k s) := by
  simpa [execStopTt] using hs
theorem execTtStartSplit_ok {s : State} (hs : s.ldg.Ok) (k : PortId) (periodic isoOut : Bool) (key : BitVec 16) (bytes : Nat) :
    OkAfter (execTtStartSplit k periodic isoOut key bytes s) := by simpa [execTtStartSplit] using hs
theorem execTtCompleteSplit_ok {s : State} (hs : s.ldg.Ok) (k : PortId) (periodic : Bool) (key : BitVec 16) (r : TtResult) :
    OkAfter (execTtCompleteSplit k periodic key r s) := by
  rw [execTtCompleteSplit, okAfter_next]; dsimp only; (repeat' split) <;> simpa using hs
theorem execTtResultDiscard_ok {s : State} (hs : s.ldg.Ok) (k : PortId) (key : BitVec 16) :
    OkAfter (execTtResultDiscard k key s) := by simpa [execTtResultDiscard] using hs
theorem execUsbConnect_ok {s : State} (hs : s.ldg.Ok) (k : PortId) (_dplus : Bool) : OkAfter (execUsbConnect k _dplus s) := by
  simpa [execUsbConnect] using hs
theorem execUsbDisconnect_ok {s : State} (hs : s.ldg.Ok) (k : PortId) : OkAfter (execUsbDisconnect k s) := by
  simpa [execUsbDisconnect] using hs
theorem execConnectDebounceEnd_ok {s : State} (hs : s.ldg.Ok) (k : PortId) : OkAfter (execConnectDebounceEnd k s) := by
  simpa [execConnectDebounceEnd] using hs
theorem execPortResetEnd_ok {s : State} (hs : s.ldg.Ok) (k : PortId) (chirp dplus : Bool) :
    OkAfter (execPortResetEnd k chirp dplus s) := by simpa [execPortResetEnd] using hs
theorem execPowerCycleNoConnect_ok {s : State} (hs : s.ldg.Ok) (k : PortId) : OkAfter (execPowerCycleNoConnect k s) := by
  simpa [execPowerCycleNoConnect] using hs
theorem execRelayRemoteWake_ok {s : State} (hs : s.ldg.Ok) (k : PortId) : OkAfter (execRelayRemoteWake k s) := by
  rw [execRelayRemoteWake, okAfter_next]; dsimp only; (repeat' split) <;> simpa using hs

/-! ### Machine/Proxy -/

theorem execEnumRequestDone_ok {s : State} (hs : s.ldg.Ok) (k : PortId) (r : XactResult) :
    OkAfter (execEnumRequestDone k r s) := by
  unfold execEnumRequestDone
  rw [okAfter_next]
  (repeat' split) <;> simpa using hs
theorem execEnumRequestTimeout_ok {s : State} (hs : s.ldg.Ok) (k : PortId) : OkAfter (execEnumRequestTimeout k s) := by
  simpa [execEnumRequestTimeout] using hs
theorem execPortBabble_ok {s : State} (hs : s.ldg.Ok) (k : PortId) : OkAfter (execPortBabble k s) := by
  simpa [execPortBabble] using hs
theorem execProxyRemoteWake_ok {s : State} (hs : s.ldg.Ok) (k : PortId) : OkAfter (execProxyRemoteWake k s) := by
  unfold execProxyRemoteWake
  rw [okAfter_next]
  (repeat' split) <;> simpa using hs
theorem execXferTransactionDone_ok {s : State} (hs : s.ldg.Ok) (k : PortId) (ep : BitVec 4) (isIn : Bool) (r : XactResult) :
    OkAfter (execXferTransactionDone k ep isIn r s) := by
  rw [execXferTransactionDone, okAfter_next]; dsimp only; (repeat' split) <;> simpa using hs
theorem execXferTimeout_ok {s : State} (hs : s.ldg.Ok) (k : PortId) (ep : BitVec 4) (isIn : Bool) :
    OkAfter (execXferTimeout k ep isIn s) := by rw [execXferTimeout, okAfter_next]; split <;> simpa using hs

/-! ### Machine/Slots -/

theorem execSlotVbusRise_ok {s : State} (hs : s.ldg.Ok) (h : SlotId) (cc : BitVec 2) : OkAfter (execSlotVbusRise h cc s) := by
  simpa [execSlotVbusRise] using hs
theorem execSlotVbusLoss_ok {s : State} (hs : s.ldg.Ok) (h : SlotId) : OkAfter (execSlotVbusLoss h s) := by
  simpa [execSlotVbusLoss] using hs
theorem execSsTrainingTimeout_ok {s : State} (hs : s.ldg.Ok) (h : SlotId) : OkAfter (execSsTrainingTimeout h s) := by
  simpa [execSsTrainingTimeout] using hs
theorem execSsLinkTrained_ok {s : State} (hs : s.ldg.Ok) (h : SlotId) (gen2 : Bool) : OkAfter (execSsLinkTrained h gen2 s) := by
  simpa [execSsLinkTrained] using hs
theorem execSsLinkFailure_ok {s : State} (hs : s.ldg.Ok) (h : SlotId) : OkAfter (execSsLinkFailure h s) := by
  simpa [execSsLinkFailure] using hs
theorem execSlotBusReset_ok {s : State} (hs : s.ldg.Ok) (h : SlotId) (kind : BusReset) :
    OkAfter (execSlotBusReset h kind s) := by rw [execSlotBusReset, okAfter_next]; split <;> simpa using hs
theorem execSlotSuspend_ok {s : State} (hs : s.ldg.Ok) (h : SlotId) : OkAfter (execSlotSuspend h s) := by
  simpa [execSlotSuspend] using hs
theorem execSlotResume_ok {s : State} (hs : s.ldg.Ok) (h : SlotId) : OkAfter (execSlotResume h s) := by
  simpa [execSlotResume] using hs
theorem execUsb2HubSuspend_ok {s : State} (hs : s.ldg.Ok) (h : SlotId) : OkAfter (execUsb2HubSuspend h s) := by
  simpa [execUsb2HubSuspend] using hs
theorem execUsb2HubResume_ok {s : State} (hs : s.ldg.Ok) (h : SlotId) : OkAfter (execUsb2HubResume h s) := by
  simpa [execUsb2HubResume] using hs
theorem execUpstreamLinkU1U2_ok {s : State} (hs : s.ldg.Ok) (h : SlotId) (st : BitVec 2) (own : Bool) :
    OkAfter (execUpstreamLinkU1U2 h st own s) := by simpa [execUpstreamLinkU1U2] using hs
theorem execUpstreamSof_ok {s : State} (hs : s.ldg.Ok) (h : SlotId) (ts : Dword) (itp : Bool) :
    OkAfter (execUpstreamSof h ts itp s) := by simpa [execUpstreamSof] using hs
theorem execStandardRequest_ok {s : State} (hs : s.ldg.Ok) (h : SlotId) (f : SlotFunction) (r : StdRequest) :
    OkAfter (execStandardRequest h f r s) := by
  unfold execStandardRequest
  rw [okAfter_next]
  (repeat' split) <;> simpa using hs

/-! ### Machine/Ledger -/

theorem execPlaneVisit_ok {s : State} (hs : s.ldg.Ok) : OkAfter (execPlaneVisit s) := by
  rw [execPlaneVisit, okAfter_next]
  split
  · exact State.planeVisit_ok hs
  · exact hs

/-! ### Machine/Nightsafe -/

theorem execCabKeyDebounced_ok {s : State} (hs : s.ldg.Ok) : OkAfter (execCabKeyDebounced s) := by
  simpa [execCabKeyDebounced] using hs
theorem execCabKeyRelease_ok {s : State} (hs : s.ldg.Ok) : OkAfter (execCabKeyRelease s) := by
  simpa [execCabKeyRelease] using hs
theorem execPresenceWindowExpiry_ok {s : State} (hs : s.ldg.Ok) : OkAfter (execPresenceWindowExpiry s) := by
  simpa [execPresenceWindowExpiry] using hs
theorem execSealBit_ok {s : State} (hs : s.ldg.Ok) (r : SealReturn) : OkAfter (execSealBit r s) := by
  rw [execSealBit, okAfter_next]; dsimp only; (repeat' split) <;> simpa using hs
theorem execAdcSample_ok {s : State} (hs : s.ldg.Ok) (x : BitVec 12) : OkAfter (execAdcSample x s) := by
  rw [execAdcSample, okAfter_next]; dsimp only; (repeat' split) <;> simpa using hs
theorem execBoardTempUpdate_ok {s : State} (hs : s.ldg.Ok) : OkAfter (execBoardTempUpdate s) := by
  simpa [execBoardTempUpdate] using hs
theorem execNightsafeCycle_ok {s : State} (hs : s.ldg.Ok) : OkAfter (execNightsafeCycle s) := by
  rw [execNightsafeCycle, okAfter_next]
  split
  · exact hs
  · refine State.entryTick_ok ?_
    simpa using hs
theorem execSleepDecision_ok {s : State} (hs : s.ldg.Ok) (pending : BitVec 8) (detail : Byte) :
    OkAfter (execSleepDecision pending detail s) := by rw [execSleepDecision, okAfter_next]; split <;> simpa using hs
theorem execWakeSource_ok {s : State} (hs : s.ldg.Ok) (l : List (WakeCode × Byte)) : OkAfter (execWakeSource l s) := by
  simpa [execWakeSource] using hs
theorem execLatchedWake_ok {s : State} (hs : s.ldg.Ok) : OkAfter (execLatchedWake s) := by
  rw [execLatchedWake, okAfter_next]; split <;> simpa using hs
theorem execXt32Switch_ok {s : State} (hs : s.ldg.Ok) : OkAfter (execXt32Switch s) := by simpa [execXt32Switch] using hs
theorem execVsvcRise_ok {s : State} (hs : s.ldg.Ok) (mgmtAddr : BitVec 3) (vbusDet : BitVec 4) (keyLow : Bool) :
    OkAfter (execVsvcRise mgmtAddr vbusDet keyLow s) := by simpa [execVsvcRise] using hs
theorem execDrainEnd_ok {s : State} (hs : s.ldg.Ok) : OkAfter (execDrainEnd s) := by simpa [execDrainEnd] using hs
theorem execDrainTimeout_ok {s : State} (hs : s.ldg.Ok) : OkAfter (execDrainTimeout s) := by simpa [execDrainTimeout] using hs

/-! ### Machine/Boot -/

theorem execPorNLow_ok {s : State} (hs : s.ldg.Ok) : OkAfter (execPorNLow s) := by
  rw [execPorNLow, okAfter_next]
  split
  · exact hs
  · exact Ledger.ok_default
theorem execResetNLow_ok {s : State} (hs : s.ldg.Ok) (bootSlot cascadeEn : Bool) :
    OkAfter (execResetNLow bootSlot cascadeEn s) := by
  rw [execResetNLow, okAfter_next]
  split
  · exact hs
  · simpa using Ledger.ok_default
theorem execSupplyMonitorReset_ok {s : State} (hs : s.ldg.Ok) : OkAfter (execSupplyMonitorReset s) := by
  rw [execSupplyMonitorReset, okAfter_next]
  split
  · exact hs
  · exact Ledger.ok_default
theorem execClockLoss_ok {s : State} (hs : s.ldg.Ok) : OkAfter (execClockLoss s) := by
  rw [execClockLoss, okAfter_next]
  split
  · exact hs
  · simpa using Ledger.ok_default
theorem execVsvcLoss_ok {s : State} (hs : s.ldg.Ok) : OkAfter (execVsvcLoss s) := by
  rw [execVsvcLoss, okAfter_next]
  split
  · exact hs
  · exact Ledger.ok_default
theorem execPowerGood_ok {s : State} (hs : s.ldg.Ok) (bootSlot cascadeEn : Bool) :
    OkAfter (execPowerGood bootSlot cascadeEn s) := by simpa [execPowerGood] using hs
theorem execStileResetLine_ok {s : State} (hs : s.ldg.Ok) (i : StileId) : OkAfter (execStileResetLine i s) := by
  simpa [execStileResetLine] using hs
theorem execClocksStable_ok {s : State} (hs : s.ldg.Ok) (ssLocked : BitVec 4) : OkAfter (execClocksStable ssLocked s) := by
  simpa [execClocksStable] using hs
theorem execPllLockTimeout_ok {s : State} (hs : s.ldg.Ok) (w : PllWhich) : OkAfter (execPllLockTimeout w s) := by
  unfold execPllLockTimeout
  rw [okAfter_next]
  (repeat' split) <;> simpa using hs
theorem execLedgerSelfTestEnd_ok {s : State} (hs : s.ldg.Ok) (badLines badSpares : List Nat) :
    OkAfter (execLedgerSelfTestEnd badLines badSpares s) := by
  have hg : (if s.nsf.retained.isSome then s.ldg else {}).Ok := by
    split
    · exact hs
    · exact Ledger.ok_default
  rw [execLedgerSelfTestEnd, okAfter_next]
  split
  · exact hg.selfTest _ _ _
  · exact hs
theorem execImageCheckEnd_ok {s : State} (hs : s.ldg.Ok) (f : FlashView) (badLines badSpares : List Nat) :
    OkAfter (execImageCheckEnd f badLines badSpares s) := by
  rw [execImageCheckEnd, okAfter_next]
  split
  · extract_lets kept t src u v
    have hu : u.ldg.Ok := hs
    clear_value kept
    split
    · have hv : v.ldg.Ok := State.rehashRetained_ok hu
      extract_lets now same
      split
      · simpa using hv
      · exact State.discardRetained_ok hv f _ _
    · exact State.tryImages_ok hu f
  · exact hs
theorem execSwapReady_ok {s : State} (hs : s.ldg.Ok) : OkAfter (execSwapReady s) := by
  rw [execSwapReady, okAfter_next]
  (repeat' split)
  · simpa using hs.loadPayload _ _ _
  · simpa using hs
  · exact hs
theorem execSwapRollback_ok {s : State} (hs : s.ldg.Ok) : OkAfter (execSwapRollback s) := by simpa [execSwapRollback] using hs
theorem execTellerWatchdogExpiry_ok {s : State} (hs : s.ldg.Ok) : OkAfter (execTellerWatchdogExpiry s) := by
  simpa [execTellerWatchdogExpiry] using hs
theorem execTellerRestartEnd_ok {s : State} (hs : s.ldg.Ok) : OkAfter (execTellerRestartEnd s) := by
  have hr := State.refetchCode_ok hs
  rw [execTellerRestartEnd, okAfter_next]
  split
  · dsimp only
    split
    · simpa using hr
    · simpa using hr
  · exact hs

/-! ### Machine/Spline -/

theorem execSplineFlitError_ok {s : State} (hs : s.ldg.Ok) (i : StileId) (place : BitVec 3) (seen : Option (List Byte)) (again : Bool) :
    OkAfter (execSplineFlitError i place seen again s) := by simpa [execSplineFlitError] using hs
theorem execSplineLinkDown_ok {s : State} (hs : s.ldg.Ok) (i : StileId) : OkAfter (execSplineLinkDown i s) := by
  simpa [execSplineLinkDown] using hs
theorem execSplineHoldoverExpiry_ok {s : State} (hs : s.ldg.Ok) (i : StileId) : OkAfter (execSplineHoldoverExpiry i s) := by
  simpa [execSplineHoldoverExpiry] using hs
theorem execSplineLinkUp_ok {s : State} (hs : s.ldg.Ok) (i : StileId) : OkAfter (execSplineLinkUp i s) := by
  simpa [execSplineLinkUp] using hs

/-! ### Machine/Tally -/

theorem execMsyncInEdge_ok {s : State} (hs : s.ldg.Ok) (rising : Bool) (ts : Dword) (widthNs : Nat) :
    OkAfter (execMsyncInEdge rising ts widthNs s) := by simpa [execMsyncInEdge] using hs
theorem execMsyncInMissing_ok {s : State} (hs : s.ldg.Ok) : OkAfter (execMsyncInMissing s) := by
  simpa [execMsyncInMissing] using hs
theorem execMsyncOutPulse_ok {s : State} (hs : s.ldg.Ok) : OkAfter (execMsyncOutPulse s) := by
  simpa [execMsyncOutPulse] using hs
theorem execDovetailTrainReceived_ok {s : State} (hs : s.ldg.Ok) (f : DoveFrame) (delayNs : BitVec 16) :
    OkAfter (execDovetailTrainReceived f delayNs s) := by simpa [execDovetailTrainReceived] using hs
theorem execDovetailTrainTimeout_ok {s : State} (hs : s.ldg.Ok) : OkAfter (execDovetailTrainTimeout s) := by
  simpa [execDovetailTrainTimeout] using hs
theorem execDovetailSyncLaunch_ok {s : State} (hs : s.ldg.Ok) : OkAfter (execDovetailSyncLaunch s) := by
  simpa [execDovetailSyncLaunch] using hs
theorem execDovetailSyncReceived_ok {s : State} (hs : s.ldg.Ok) (f : DoveFrame) (arrival : Dword) :
    OkAfter (execDovetailSyncReceived f arrival s) := by simpa [execDovetailSyncReceived] using hs
theorem execDoveInReturn_ok {s : State} (hs : s.ldg.Ok) : OkAfter (execDoveInReturn s) := by simpa [execDoveInReturn] using hs

/-! ### Machine/Mint -/

theorem execFeedbackMissing_ok {s : State} (hs : s.ldg.Ok) (c : ChanId) : OkAfter (execFeedbackMissing c s) := by
  simpa [execFeedbackMissing] using hs
theorem execMntStartAbandon_ok {s : State} (hs : s.ldg.Ok) (g : GroupId) : OkAfter (execMntStartAbandon g s) := by
  rw [execMntStartAbandon, okAfter_next]; dsimp only; (repeat' split) <;> simpa using hs

/-! ### Machine/Holds -/

theorem execDovetailHoldReceived_ok {s : State} (hs : s.ldg.Ok) (f : DoveFrame) : OkAfter (execDovetailHoldReceived f s) := by
  simpa [execDovetailHoldReceived] using hs
theorem execDoveInLoss_ok {s : State} (hs : s.ldg.Ok) (invalid : Nat) : OkAfter (execDoveInLoss invalid s) := by
  simpa [execDoveInLoss] using hs

/-! ### Machine/Clearance -/

theorem execClearanceSlot_ok {s : State} (hs : s.ldg.Ok) (i : Fin 896) : OkAfter (execClearanceSlot i s) := by
  simpa [execClearanceSlot] using hs
theorem execYoungCountExpiry_ok {s : State} (hs : s.ldg.Ok) (b : BodyId) : OkAfter (execYoungCountExpiry b s) := by
  simpa [execYoungCountExpiry] using hs

/-! ### Machine/MintSend -/

theorem execMintSend_ok {s : State} (hs : s.ldg.Ok) : OkAfter (execMintSend s) := by
  rw [execMintSend, okAfter_next]
  split
  · exact hs
  · refine State.clrPrepare_ok (State.writeProduced_ok ?_)
    simpa using hs

/-! ### Machine/Purses -/

theorem execPrsReadCopyDone_ok {s : State} (hs : s.ldg.Ok) (n : PurseId) : OkAfter (execPrsReadCopyDone n s) := by
  exact okAfter_next.mpr (State.freeDraft_ok hs _)

/-! ### Machine/Orders -/

theorem execOrderTransactionDone_ok {s : State} (hs : s.ldg.Ok) (n : OrderId) (r : XactResult) (late retryFits : Bool) :
    OkAfter (execOrderTransactionDone n r late retryFits s) := by
  unfold execOrderTransactionDone
  rw [okAfter_next]
  split
  · exact hs
  · next c _ =>
    extract_lets k s1 b s2
    have h1 : s1.ldg.Ok := by simpa [s1] using hs
    have hb : b.2.ldg.Ok := State.buildOut_ok h1 c
    have h2 : s2.ldg.Ok := by
      simp only [s2]
      split
      · exact State.endOccurrence_ok hb n c _ _
      · have ht : ∀ d : Occurrence, (if d.cfg.isIn then b.2 else b.2.modOrder n fun o =>
            { o with sent := b.2.outBytes n d }).ldg.Ok := fun d => by simpa using hb
        split
        · exact ht _
        · exact State.endOccurrence_ok (ht _) n _ _ _
        · simpa using hb
    split
    · exact hs
    · split
      · exact h2
      · exact State.buildNext_ok h2 16 k
theorem execOrderWindowEnd_ok {s : State} (hs : s.ldg.Ok) (k : PortId) (w : OrderWindow) :
    OkAfter (execOrderWindowEnd k w s) := by
  exact okAfter_next.mpr (State.buildNext_ok (State.windowEnds_ok hs _) 16 k)

/-! ### Machine/PowerPath -/

theorem execSeatPinChange_ok {s : State} (hs : s.ldg.Ok) (k : PortId) (aLow bLow : Bool) :
    OkAfter (execSeatPinChange k aLow bLow s) := by simpa [execSeatPinChange] using hs
theorem execSeatingConfirmed_ok {s : State} (hs : s.ldg.Ok) (k : PortId) : OkAfter (execSeatingConfirmed k s) := by
  simpa [execSeatingConfirmed] using hs
theorem execSeatingLost_ok {s : State} (hs : s.ldg.Ok) (k : PortId) : OkAfter (execSeatingLost k s) := by
  simpa [execSeatingLost] using hs
theorem execEscrowGrant_ok {s : State} (hs : s.ldg.Ok) : OkAfter (execEscrowGrant s) := by simpa [execEscrowGrant] using hs
theorem execRampPrechargeEnd_ok {s : State} (hs : s.ldg.Ok) (k : PortId) : OkAfter (execRampPrechargeEnd k s) := by
  simpa [execRampPrechargeEnd] using hs
theorem execRampSlewEnd_ok {s : State} (hs : s.ldg.Ok) (k : PortId) (vbusMv : Nat) : OkAfter (execRampSlewEnd k vbusMv s) := by
  simpa [execRampSlewEnd] using hs
theorem execPortPowerGood_ok {s : State} (hs : s.ldg.Ok) (k : PortId) (vbusMv vgsMv : Nat) :
    OkAfter (execPortPowerGood k vbusMv vgsMv s) := by simpa [execPortPowerGood] using hs
theorem execRampTimeout_ok {s : State} (hs : s.ldg.Ok) (k : PortId) : OkAfter (execRampTimeout k s) := by
  simpa [execRampTimeout] using hs
theorem execTransitionSettled_ok {s : State} (hs : s.ldg.Ok) (k : PortId) (vbusMv : Nat) :
    OkAfter (execTransitionSettled k vbusMv s) := by simpa [execTransitionSettled] using hs
theorem execDischargeTo5v_ok {s : State} (hs : s.ldg.Ok) (k : PortId) : OkAfter (execDischargeTo5v k s) := by
  simpa [execDischargeTo5v] using hs
theorem execDischargeFailure_ok {s : State} (hs : s.ldg.Ok) (k : PortId) : OkAfter (execDischargeFailure k s) := by
  simpa [execDischargeFailure] using hs
theorem execSwitchOffDischarged_ok {s : State} (hs : s.ldg.Ok) (k : PortId) (vbusMv : Nat) :
    OkAfter (execSwitchOffDischarged k vbusMv s) := by simpa [execSwitchOffDischarged] using hs
theorem execSwitchOffDischTimeout_ok {s : State} (hs : s.ldg.Ok) (k : PortId) (vbusMv : Nat) :
    OkAfter (execSwitchOffDischTimeout k vbusMv s) := by simpa [execSwitchOffDischTimeout] using hs
theorem execCurrentLimit_ok {s : State} (hs : s.ldg.Ok) (k : PortId) (iMa : Int) : OkAfter (execCurrentLimit k iMa s) := by
  simpa [execCurrentLimit] using hs
theorem execLimitingEnd_ok {s : State} (hs : s.ldg.Ok) (k : PortId) : OkAfter (execLimitingEnd k s) := by
  simpa [execLimitingEnd] using hs
theorem execFastTrip_ok {s : State} (hs : s.ldg.Ok) (k : PortId) (iMa : Int) (vbusMv : Nat) :
    OkAfter (execFastTrip k iMa vbusMv s) := by simpa [execFastTrip] using hs
theorem execOverVoltage_ok {s : State} (hs : s.ldg.Ok) (k : PortId) (vbusMv : Nat) : OkAfter (execOverVoltage k vbusMv s) := by
  simpa [execOverVoltage] using hs
theorem execVbusLow_ok {s : State} (hs : s.ldg.Ok) (k : PortId) (vbusMv : Nat) : OkAfter (execVbusLow k vbusMv s) := by
  simpa [execVbusLow] using hs
theorem execCooldownEnd_ok {s : State} (hs : s.ldg.Ok) (k : PortId) : OkAfter (execCooldownEnd k s) := by
  simpa [execCooldownEnd] using hs
theorem execThermalModelStep_ok {s : State} (hs : s.ldg.Ok) (k : PortId) (m : StileSample) :
    OkAfter (execThermalModelStep k m s) := by simpa [execThermalModelStep] using hs
theorem execVgdUndervoltage_ok {s : State} (hs : s.ldg.Ok) (i : StileId) : OkAfter (execVgdUndervoltage i s) := by
  simpa [execVgdUndervoltage] using hs
theorem execVgdRecover_ok {s : State} (hs : s.ldg.Ok) (i : StileId) : OkAfter (execVgdRecover i s) := by
  simpa [execVgdRecover] using hs
theorem execVgdLoss_ok {s : State} (hs : s.ldg.Ok) (i : StileId) : OkAfter (execVgdLoss i s) := by simpa [execVgdLoss] using hs
theorem execVgdPresent_ok {s : State} (hs : s.ldg.Ok) (i : StileId) : OkAfter (execVgdPresent i s) := by
  rw [execVgdPresent, okAfter_next]
  split
  · exact hs
  · dsimp only
    rw [foldl_ldg _ _ _ fun _ _ => by rfl]
    exact hs
theorem execRail5vInRange_ok {s : State} (hs : s.ldg.Ok) (i : StileId) (mv : Nat) : OkAfter (execRail5vInRange i mv s) := by
  simpa [execRail5vInRange] using hs

/-! ### Machine/Statements -/

theorem execStatementAssembly_ok {s : State} (hs : s.ldg.Ok) : OkAfter (execStatementAssembly s) := by
  simpa [execStatementAssembly] using hs
theorem execStatementDelivery_ok {s : State} (hs : s.ldg.Ok) (h : SlotId) : OkAfter (execStatementDelivery h s) := by
  rw [execStatementDelivery, okAfter_next]
  dsimp only
  split
  · exact hs
  · split
    · exact hs
    · exact State.readBuffer_ok hs _ _ _

/-! ### Machine/RegOps -/

theorem execMgmtMbxGo_ok {s : State} (hs : s.ldg.Ok) (p : Path) : OkAfter (execMgmtMbxGo p s) := by
  exact okAfter_next.mpr (State.writeBy_ok hs _ _ _)
theorem execGlbUnlock_ok {s : State} (hs : s.ldg.Ok) (p : Path) (v : Word) : OkAfter (execGlbUnlock p v s) := by
  exact okAfter_next.mpr (State.writeBy_ok hs _ _ _)
theorem execGlbLock_ok {s : State} (hs : s.ldg.Ok) (p : Path) (v : Word) : OkAfter (execGlbLock p v s) := by
  exact okAfter_next.mpr (State.writeBy_ok hs _ _ _)
theorem execPresenceClose_ok {s : State} (hs : s.ldg.Ok) (p : Path) : OkAfter (execPresenceClose p s) := by
  exact okAfter_next.mpr (State.writeBy_ok hs _ _ _)
theorem execLdgTestLoad_ok {s : State} (hs : s.ldg.Ok) (p : Path) : OkAfter (execLdgTestLoad p s) := by
  exact okAfter_next.mpr (State.writeBy_ok hs _ _ _)
theorem execLdgTestStoreData_ok {s : State} (hs : s.ldg.Ok) (p : Path) : OkAfter (execLdgTestStoreData p s) := by
  exact okAfter_next.mpr (State.writeBy_ok hs _ _ _)
theorem execLdgTestStoreCheck_ok {s : State} (hs : s.ldg.Ok) (p : Path) : OkAfter (execLdgTestStoreCheck p s) := by
  exact okAfter_next.mpr (State.writeBy_ok hs _ _ _)
theorem execLdgTestStoreBoth_ok {s : State} (hs : s.ldg.Ok) (p : Path) : OkAfter (execLdgTestStoreBoth p s) := by
  exact okAfter_next.mpr (State.writeBy_ok hs _ _ _)
theorem execLdgFlip_ok {s : State} (hs : s.ldg.Ok) (p : Path) (v : Word) : OkAfter (execLdgFlip p v s) := by
  exact okAfter_next.mpr (State.writeBy_ok hs _ _ _)
theorem execForceOffClear_ok {s : State} (hs : s.ldg.Ok) (p : Path) (hits : BitVec 16) :
    OkAfter (execForceOffClear p hits s) := by
  exact okAfter_next.mpr (State.writeBy_ok hs _ _ _)
theorem execRegisterWrite_ok {s : State} (hs : s.ldg.Ok) (p : Path) (addr v : Word) :
    OkAfter (execRegisterWrite p addr v s) := by
  exact okAfter_next.mpr (State.writeBy_ok hs _ _ _)
theorem execMgmtTransaction_ok {s : State} (hs : s.ldg.Ok) (x : MgmtXact) : OkAfter (execMgmtTransaction x s) := by
  exact okAfter_next.mpr (State.mgmtBus_ok hs x)
theorem execSclLowTimeout_ok {s : State} (hs : s.ldg.Ok) (x : MgmtXact) : OkAfter (execSclLowTimeout x s) := by
  exact okAfter_next.mpr (State.mgmtBus_ok hs x)

/-! ### Machine/Boundary -/

theorem execMicroframeBoundary_ok {s : State} (hs : s.ldg.Ok) : OkAfter (execMicroframeBoundary s) := by
  rw [execMicroframeBoundary, okAfter_next]
  split
  · exact State.boundary_ok hs
  · exact hs

/-! ### Machine/CcPd -/

theorem execCcChange_ok {s : State} (hs : s.ldg.Ok) (k : PortId) (cc1 cc2 : CcTerm) : OkAfter (execCcChange k cc1 cc2 s) := by
  simpa [execCcChange] using hs
theorem execCcAttachConfirmed_ok {s : State} (hs : s.ldg.Ok) (k : PortId) : OkAfter (execCcAttachConfirmed k s) := by
  rw [execCcAttachConfirmed, okAfter_next]; dsimp only; (repeat' split) <;> simpa using hs
theorem execCcDetach_ok {s : State} (hs : s.ldg.Ok) (k : PortId) : OkAfter (execCcDetach k s) := by
  rw [execCcDetach, okAfter_next]; dsimp only; (repeat' split) <;> simpa using hs
theorem execDrpToggle_ok {s : State} (hs : s.ldg.Ok) (k : PortId) : OkAfter (execDrpToggle k s) := by
  simpa [execDrpToggle] using hs
theorem execTrySrcTimeout_ok {s : State} (hs : s.ldg.Ok) (k : PortId) : OkAfter (execTrySrcTimeout k s) := by
  simpa [execTrySrcTimeout] using hs
theorem execSourcePartnerBackoff_ok {s : State} (hs : s.ldg.Ok) (k : PortId) : OkAfter (execSourcePartnerBackoff k s) := by
  simpa [execSourcePartnerBackoff] using hs
theorem execPdMessageReceived_ok {s : State} (hs : s.ldg.Ok) (k : PortId) (sop : BitVec 2) (msg : List Byte) (crcOk : Bool) :
    OkAfter (execPdMessageReceived k sop msg crcOk s) := by simpa [execPdMessageReceived] using hs
theorem execPdRequestReceived_ok {s : State} (hs : s.ldg.Ok) (k : PortId) (msg : List Byte) :
    OkAfter (execPdRequestReceived k msg s) := by simpa [execPdRequestReceived] using hs
theorem execSoftResetReceived_ok {s : State} (hs : s.ldg.Ok) (k : PortId) (sop : BitVec 2) :
    OkAfter (execSoftResetReceived k sop s) := by simpa [execSoftResetReceived, State.ownRx] using hs
theorem execEprKeepaliveReceived_ok {s : State} (hs : s.ldg.Ok) (k : PortId) : OkAfter (execEprKeepaliveReceived k s) := by
  simpa [execEprKeepaliveReceived, State.ownRx] using hs
theorem execHardResetReceived_ok {s : State} (hs : s.ldg.Ok) (k : PortId) : OkAfter (execHardResetReceived k s) := by
  simpa [execHardResetReceived] using hs
theorem execBistReceived_ok {s : State} (hs : s.ldg.Ok) (k : PortId) (carrier : Bool) :
    OkAfter (execBistReceived k carrier s) := by simpa [execBistReceived, State.ownRx] using hs
theorem execPsRdyReceived_ok {s : State} (hs : s.ldg.Ok) (k : PortId) : OkAfter (execPsRdyReceived k s) := by
  simpa [execPsRdyReceived, State.ownRx] using hs
theorem execGoodcrcReceived_ok {s : State} (hs : s.ldg.Ok) (k : PortId) : OkAfter (execGoodcrcReceived k s) := by
  rw [execGoodcrcReceived, okAfter_next]; split <;> simpa using hs
theorem execCrcReceiveTimeout_ok {s : State} (hs : s.ldg.Ok) (k : PortId) : OkAfter (execCrcReceiveTimeout k s) := by
  rw [execCrcReceiveTimeout, okAfter_next]; split <;> simpa using hs
theorem execAutoResponse_ok {s : State} (hs : s.ldg.Ok) (k : PortId) : OkAfter (execAutoResponse k s) := by
  simpa [execAutoResponse] using hs
theorem execWaitTimerExpiry_ok {s : State} (hs : s.ldg.Ok) (k : PortId) : OkAfter (execWaitTimerExpiry k s) := by
  simpa [execWaitTimerExpiry] using hs
theorem execSinkTxWaitEnd_ok {s : State} (hs : s.ldg.Ok) (k : PortId) : OkAfter (execSinkTxWaitEnd k s) := by
  rw [execSinkTxWaitEnd, okAfter_next]; split <;> simpa using hs
theorem execExchangeEnd_ok {s : State} (hs : s.ldg.Ok) (k : PortId) : OkAfter (execExchangeEnd k s) := by
  simpa [execExchangeEnd] using hs
theorem execSrcTransitionEnd_ok {s : State} (hs : s.ldg.Ok) (k : PortId) : OkAfter (execSrcTransitionEnd k s) := by
  unfold execSrcTransitionEnd
  rw [okAfter_next]
  (repeat' split) <;> simpa using hs
theorem execEprKeepaliveTimeout_ok {s : State} (hs : s.ldg.Ok) (k : PortId) : OkAfter (execEprKeepaliveTimeout k s) := by
  simpa [execEprKeepaliveTimeout] using hs
theorem execEprVbusGuard_ok {s : State} (hs : s.ldg.Ok) (k : PortId) : OkAfter (execEprVbusGuard k s) := by
  simpa [execEprVbusGuard] using hs
theorem execVconnSourceTimeout_ok {s : State} (hs : s.ldg.Ok) (k : PortId) : OkAfter (execVconnSourceTimeout k s) := by
  simpa [execVconnSourceTimeout] using hs
theorem execVconnSwapPsRdySend_ok {s : State} (hs : s.ldg.Ok) (k : PortId) : OkAfter (execVconnSwapPsRdySend k s) := by
  simpa [execVconnSwapPsRdySend] using hs
theorem execHardResetPathsOff_ok {s : State} (hs : s.ldg.Ok) (k : PortId) : OkAfter (execHardResetPathsOff k s) := by
  simpa [execHardResetPathsOff] using hs
theorem execHardResetVsafe0v_ok {s : State} (hs : s.ldg.Ok) (k : PortId) : OkAfter (execHardResetVsafe0v k s) := by
  simpa [execHardResetVsafe0v] using hs
theorem execHardResetRecover_ok {s : State} (hs : s.ldg.Ok) (k : PortId) : OkAfter (execHardResetRecover k s) := by
  simpa [execHardResetRecover] using hs
theorem execBistCarrierEnd_ok {s : State} (hs : s.ldg.Ok) (k : PortId) : OkAfter (execBistCarrierEnd k s) := by
  simpa [execBistCarrierEnd] using hs
theorem execVconnTrip_ok {s : State} (hs : s.ldg.Ok) (k : PortId) : OkAfter (execVconnTrip k s) := by
  simpa [execVconnTrip] using hs

/-! ### Machine/Teller -/

theorem execCommandTransfer_ok {s : State} (hs : s.ldg.Ok) (h : SlotId) (bytes : List Byte) :
    OkAfter (execCommandTransfer h bytes s) := by
  rw [execCommandTransfer, okAfter_next]
  split
  · exact State.takeCommands_ok hs h _ _
  · exact hs
theorem execCommandDispatch_ok {s : State} (hs : s.ldg.Ok) : OkAfter (execCommandDispatch s) := by
  rw [execCommandDispatch, okAfter_next]
  (repeat' split)
  · exact hs
  · exact hs
  · exact hs
  · next o ho => exact (opTable_keepsOk o (opOf_mem ho)).runEntry (by simpa using hs) _ _
theorem execRecordDelivery_ok {s : State} (hs : s.ldg.Ok) (h : SlotId) : OkAfter (execRecordDelivery h s) := by
  rw [execRecordDelivery, okAfter_next]
  split
  · exact State.sendRecords_ok hs h _
  · exact hs

/-! ### Every command -/

/-- Whatever command runs, the Ledger of the next state is `Ok`. -/
theorem exec_okAfter {s : State} (h : s.ldg.Ok) (i : Instr) : OkAfter (exec i s) := by
  cases i with
  | nop a => exact okAfter_next.mpr (opNop_keepsOk.issue h a)
  | echo a => exact okAfter_next.mpr (opEcho_keepsOk.issue h a)
  | getInfo a => exact okAfter_next.mpr (opGetInfo_keepsOk.issue h a)
  | fence a => exact okAfter_next.mpr (opFence_keepsOk.issue h a)
  | cancel a => exact okAfter_next.mpr (opCancel_keepsOk.issue h a)
  | regRd a => exact okAfter_next.mpr (opRegRd_keepsOk.issue h a)
  | regWr a => exact okAfter_next.mpr (opRegWr_keepsOk.issue h a)
  | regRmw a => exact okAfter_next.mpr (opRegRmw_keepsOk.issue h a)
  | portMode a => exact okAfter_next.mpr (opPortMode_keepsOk.issue h a)
  | portPower a => exact okAfter_next.mpr (opPortPower_keepsOk.issue h a)
  | portReset a => exact okAfter_next.mpr (opPortReset_keepsOk.issue h a)
  | portSuspend a => exact okAfter_next.mpr (opPortSuspend_keepsOk.issue h a)
  | portResume a => exact okAfter_next.mpr (opPortResume_keepsOk.issue h a)
  | deedRelease a => exact okAfter_next.mpr (opDeedRelease_keepsOk.issue h a)
  | deedClaim a => exact okAfter_next.mpr (opDeedClaim_keepsOk.issue h a)
  | deedSeize a => exact okAfter_next.mpr (opDeedSeize_keepsOk.issue h a)
  | deedView a => exact okAfter_next.mpr (opDeedView_keepsOk.issue h a)
  | ctrlXfer a => exact okAfter_next.mpr (opCtrlXfer_keepsOk.issue h a)
  | bulkXfer a => exact okAfter_next.mpr (opBulkXfer_keepsOk.issue h a)
  | intXfer a => exact okAfter_next.mpr (opIntXfer_keepsOk.issue h a)
  | isoXfer a => exact okAfter_next.mpr (opIsoXfer_keepsOk.issue h a)
  | soCreate a => exact okAfter_next.mpr (opSoCreate_keepsOk.issue h a)
  | soModify a => exact okAfter_next.mpr (opSoModify_keepsOk.issue h a)
  | soDelete a => exact okAfter_next.mpr (opSoDelete_keepsOk.issue h a)
  | soQuery a => exact okAfter_next.mpr (opSoQuery_keepsOk.issue h a)
  | stmtLayout a => exact okAfter_next.mpr (opStmtLayout_keepsOk.issue h a)
  | stmtSubscribe a => exact okAfter_next.mpr (opStmtSubscribe_keepsOk.issue h a)
  | mntCfg a => exact okAfter_next.mpr (opMntCfg_keepsOk.issue h a)
  | mntSeg a => exact okAfter_next.mpr (opMntSeg_keepsOk.issue h a)
  | mntStart a => exact okAfter_next.mpr (opMntStart_keepsOk.issue h a)
  | mntHold a => exact okAfter_next.mpr (opMntHold_keepsOk.issue h a)
  | mntRelease a => exact okAfter_next.mpr (opMntRelease_keepsOk.issue h a)
  | mntQuery a => exact okAfter_next.mpr (opMntQuery_keepsOk.issue h a)
  | mntFbtemplate a => exact okAfter_next.mpr (opMntFbtemplate_keepsOk.issue h a)
  | clrBody a => exact okAfter_next.mpr (opClrBody_keepsOk.issue h a)
  | clrPair a => exact okAfter_next.mpr (opClrPair_keepsOk.issue h a)
  | clrArm a => exact okAfter_next.mpr (opClrArm_keepsOk.issue h a)
  | clrDisarm a => exact okAfter_next.mpr (opClrDisarm_keepsOk.issue h a)
  | tlySet a => exact okAfter_next.mpr (opTlySet_keepsOk.issue h a)
  | tlyMode a => exact okAfter_next.mpr (opTlyMode_keepsOk.issue h a)
  | tlyQuery a => exact okAfter_next.mpr (opTlyQuery_keepsOk.issue h a)
  | ccCfg a => exact okAfter_next.mpr (opCcCfg_keepsOk.issue h a)
  | pdCfg a => exact okAfter_next.mpr (opPdCfg_keepsOk.issue h a)
  | pdTx a => exact okAfter_next.mpr (opPdTx_keepsOk.issue h a)
  | pdHardreset a => exact okAfter_next.mpr (opPdHardreset_keepsOk.issue h a)
  | escBudget a => exact okAfter_next.mpr (opEscBudget_keepsOk.issue h a)
  | escPriority a => exact okAfter_next.mpr (opEscPriority_keepsOk.issue h a)
  | gateCfg a => exact okAfter_next.mpr (opGateCfg_keepsOk.issue h a)
  | modelCfg a => exact okAfter_next.mpr (opModelCfg_keepsOk.issue h a)
  | escQuery a => exact okAfter_next.mpr (opEscQuery_keepsOk.issue h a)
  | ldgRd a => exact okAfter_next.mpr (opLdgRd_keepsOk.issue h a)
  | ldgWr a => exact okAfter_next.mpr (opLdgWr_keepsOk.issue h a)
  | planeCfg a => exact okAfter_next.mpr (opPlaneCfg_keepsOk.issue h a)
  | inlayQuery a => exact okAfter_next.mpr (opInlayQuery_keepsOk.issue h a)
  | prsCfg a => exact okAfter_next.mpr (opPrsCfg_keepsOk.issue h a)
  | prsRead a => exact okAfter_next.mpr (opPrsRead_keepsOk.issue h a)
  | pwrDomain a => exact okAfter_next.mpr (opPwrDomain_keepsOk.issue h a)
  | sleep a => exact okAfter_next.mpr (opSleep_keepsOk.issue h a)
  | fwStage a => exact okAfter_next.mpr (opFwStage_keepsOk.issue h a)
  | fwCommit a => exact okAfter_next.mpr (opFwCommit_keepsOk.issue h a)
  | fwSwap a => exact okAfter_next.mpr (opFwSwap_keepsOk.issue h a)
  | otpWrite a => exact okAfter_next.mpr (opOtpWrite_keepsOk.issue h a)
  | vaultLock a => exact okAfter_next.mpr (opVaultLock_keepsOk.issue h a)
  | commandTransfer g bytes => exact execCommandTransfer_ok h g bytes
  | commandDispatch => exact execCommandDispatch_ok h
  | recordDelivery g => exact execRecordDelivery_ok h g
  | statementDelivery g => exact execStatementDelivery_ok h g
  | mgmtMbxGo p => exact execMgmtMbxGo_ok h p
  | mgmtTransaction x => exact execMgmtTransaction_ok h x
  | glbUnlock p v => exact execGlbUnlock_ok h p v
  | glbLock p v => exact execGlbLock_ok h p v
  | presenceClose p => exact execPresenceClose_ok h p
  | ldgTestLoad p => exact execLdgTestLoad_ok h p
  | ldgTestStoreData p => exact execLdgTestStoreData_ok h p
  | ldgTestStoreCheck p => exact execLdgTestStoreCheck_ok h p
  | ldgTestStoreBoth p => exact execLdgTestStoreBoth_ok h p
  | ldgFlip p v => exact execLdgFlip_ok h p v
  | forceOffClear p hits => exact execForceOffClear_ok h p hits
  | registerWrite p addr v => exact execRegisterWrite_ok h p addr v
  | setPortPower g k => exact execSetPortPower_ok h g k
  | clearPortPower g k => exact execClearPortPower_ok h g k
  | setPortReset g k => exact execSetPortReset_ok h g k
  | setPortSuspend g k => exact execSetPortSuspend_ok h g k
  | clearPortSuspend g k => exact execClearPortSuspend_ok h g k
  | setPortIndicator g k m => exact execSetPortIndicator_ok h g k m
  | getPortStatus g k => exact execGetPortStatus_ok h g k
  | setPortTest g k m => exact execSetPortTest_ok h g k m
  | clearTtBuffer g k key => exact execClearTtBuffer_ok h g k key
  | resetTt g k => exact execResetTt_ok h g k
  | getTtState g k => exact execGetTtState_ok h g k
  | stopTt g k => exact execStopTt_ok h g k
  | slotVbusRise g cc => exact execSlotVbusRise_ok h g cc
  | slotVbusLoss g => exact execSlotVbusLoss_ok h g
  | ssTrainingTimeout g => exact execSsTrainingTimeout_ok h g
  | ssLinkFailure g => exact execSsLinkFailure_ok h g
  | slotBusReset g kind => exact execSlotBusReset_ok h g kind
  | slotSuspend g => exact execSlotSuspend_ok h g
  | slotResume g => exact execSlotResume_ok h g
  | upstreamSof g ts itp => exact execUpstreamSof_ok h g ts itp
  | proxyRemoteWake k => exact execProxyRemoteWake_ok h k
  | relayRemoteWake k => exact execRelayRemoteWake_ok h k
  | microframeBoundary => exact execMicroframeBoundary_ok h
  | feedbackMissing c => exact execFeedbackMissing_ok h c
  | mntStartAbandon g => exact execMntStartAbandon_ok h g
  | mintSend => exact execMintSend_ok h
  | clearanceSlot j => exact execClearanceSlot_ok h j
  | youngCountExpiry b => exact execYoungCountExpiry_ok h b
  | statementAssembly => exact execStatementAssembly_ok h
  | orderTransactionDone n r late retryFits => exact execOrderTransactionDone_ok h n r late retryFits
  | orderWindowEnd k w => exact execOrderWindowEnd_ok h k w
  | prsReadCopyDone n => exact execPrsReadCopyDone_ok h n
  | msyncInEdge rising ts widthNs => exact execMsyncInEdge_ok h rising ts widthNs
  | msyncInMissing => exact execMsyncInMissing_ok h
  | msyncOutPulse => exact execMsyncOutPulse_ok h
  | dovetailTrainReceived frame delayNs => exact execDovetailTrainReceived_ok h frame delayNs
  | dovetailTrainTimeout => exact execDovetailTrainTimeout_ok h
  | dovetailSyncLaunch => exact execDovetailSyncLaunch_ok h
  | dovetailSyncReceived frame arrival => exact execDovetailSyncReceived_ok h frame arrival
  | dovetailHoldReceived frame => exact execDovetailHoldReceived_ok h frame
  | doveInLoss invalid => exact execDoveInLoss_ok h invalid
  | doveInReturn => exact execDoveInReturn_ok h
  | usbConnect k dplus => exact execUsbConnect_ok h k dplus
  | usbDisconnect k => exact execUsbDisconnect_ok h k
  | connectDebounceEnd k => exact execConnectDebounceEnd_ok h k
  | portResetEnd k chirp dplus => exact execPortResetEnd_ok h k chirp dplus
  | enumRequestDone k r => exact execEnumRequestDone_ok h k r
  | enumRequestTimeout k => exact execEnumRequestTimeout_ok h k
  | portBabble k => exact execPortBabble_ok h k
  | xferTransactionDone k ep isIn r => exact execXferTransactionDone_ok h k ep isIn r
  | xferTimeout k ep isIn => exact execXferTimeout_ok h k ep isIn
  | resumeSignallingEnd k => exact execResumeSignallingEnd_ok h k
  | ttStartSplit k periodic isoOut key bytes => exact execTtStartSplit_ok h k periodic isoOut key bytes
  | ttResultDiscard k key => exact execTtResultDiscard_ok h k key
  | powerCycleNoConnect k => exact execPowerCycleNoConnect_ok h k
  | seatPinChange k aLow bLow => exact execSeatPinChange_ok h k aLow bLow
  | seatingConfirmed k => exact execSeatingConfirmed_ok h k
  | seatingLost k => exact execSeatingLost_ok h k
  | ccChange k cc1 cc2 => exact execCcChange_ok h k cc1 cc2
  | ccAttachConfirmed k => exact execCcAttachConfirmed_ok h k
  | ccDetach k => exact execCcDetach_ok h k
  | drpToggle k => exact execDrpToggle_ok h k
  | trySrcTimeout k => exact execTrySrcTimeout_ok h k
  | sourcePartnerBackoff k => exact execSourcePartnerBackoff_ok h k
  | pdMessageReceived k sop msg crcOk => exact execPdMessageReceived_ok h k sop msg crcOk
  | pdRequestReceived k msg => exact execPdRequestReceived_ok h k msg
  | softResetReceived k sop => exact execSoftResetReceived_ok h k sop
  | eprKeepaliveReceived k => exact execEprKeepaliveReceived_ok h k
  | hardResetReceived k => exact execHardResetReceived_ok h k
  | bistReceived k carrier => exact execBistReceived_ok h k carrier
  | psRdyReceived k => exact execPsRdyReceived_ok h k
  | goodcrcReceived k => exact execGoodcrcReceived_ok h k
  | crcReceiveTimeout k => exact execCrcReceiveTimeout_ok h k
  | autoResponse k => exact execAutoResponse_ok h k
  | waitTimerExpiry k => exact execWaitTimerExpiry_ok h k
  | sinkTxWaitEnd k => exact execSinkTxWaitEnd_ok h k
  | exchangeEnd k => exact execExchangeEnd_ok h k
  | srcTransitionEnd k => exact execSrcTransitionEnd_ok h k
  | eprKeepaliveTimeout k => exact execEprKeepaliveTimeout_ok h k
  | eprVbusGuard k => exact execEprVbusGuard_ok h k
  | vconnSourceTimeout k => exact execVconnSourceTimeout_ok h k
  | vconnSwapPsRdySend k => exact execVconnSwapPsRdySend_ok h k
  | hardResetPathsOff k => exact execHardResetPathsOff_ok h k
  | hardResetVsafe0v k => exact execHardResetVsafe0v_ok h k
  | hardResetRecover k => exact execHardResetRecover_ok h k
  | bistCarrierEnd k => exact execBistCarrierEnd_ok h k
  | vconnTrip k => exact execVconnTrip_ok h k
  | escrowGrant => exact execEscrowGrant_ok h
  | rampPrechargeEnd k => exact execRampPrechargeEnd_ok h k
  | rampSlewEnd k vbusMv => exact execRampSlewEnd_ok h k vbusMv
  | portPowerGood k vbusMv vgsMv => exact execPortPowerGood_ok h k vbusMv vgsMv
  | rampTimeout k => exact execRampTimeout_ok h k
  | transitionSettled k vbusMv => exact execTransitionSettled_ok h k vbusMv
  | dischargeTo5v k => exact execDischargeTo5v_ok h k
  | dischargeFailure k => exact execDischargeFailure_ok h k
  | switchOffDischarged k vbusMv => exact execSwitchOffDischarged_ok h k vbusMv
  | switchOffDischTimeout k vbusMv => exact execSwitchOffDischTimeout_ok h k vbusMv
  | currentLimit k iMa => exact execCurrentLimit_ok h k iMa
  | limitingEnd k => exact execLimitingEnd_ok h k
  | fastTrip k iMa vbusMv => exact execFastTrip_ok h k iMa vbusMv
  | overVoltage k vbusMv => exact execOverVoltage_ok h k vbusMv
  | vbusLow k vbusMv => exact execVbusLow_ok h k vbusMv
  | thermalModelStep k m => exact execThermalModelStep_ok h k m
  | cooldownEnd k => exact execCooldownEnd_ok h k
  | boardTempUpdate => exact execBoardTempUpdate_ok h
  | vgdUndervoltage j => exact execVgdUndervoltage_ok h j
  | vgdRecover j => exact execVgdRecover_ok h j
  | vgdLoss j => exact execVgdLoss_ok h j
  | vgdPresent j => exact execVgdPresent_ok h j
  | splineFlitError j place seen again => exact execSplineFlitError_ok h j place seen again
  | splineLinkDown j => exact execSplineLinkDown_ok h j
  | splineHoldoverExpiry j => exact execSplineHoldoverExpiry_ok h j
  | splineLinkUp j => exact execSplineLinkUp_ok h j
  | stileResetLine j => exact execStileResetLine_ok h j
  | planeVisit => exact execPlaneVisit_ok h
  | cabKeyDebounced => exact execCabKeyDebounced_ok h
  | presenceWindowExpiry => exact execPresenceWindowExpiry_ok h
  | sealBit r => exact execSealBit_ok h r
  | adcSample x => exact execAdcSample_ok h x
  | wakeSource l => exact execWakeSource_ok h l
  | sleepDecision pending detail => exact execSleepDecision_ok h pending detail
  | drainEnd => exact execDrainEnd_ok h
  | drainTimeout => exact execDrainTimeout_ok h
  | latchedWake => exact execLatchedWake_ok h
  | xt32Switch => exact execXt32Switch_ok h
  | vsvcRise mgmtAddr vbusDet keyLow => exact execVsvcRise_ok h mgmtAddr vbusDet keyLow
  | vsvcLoss => exact execVsvcLoss_ok h
  | porNLow => exact execPorNLow_ok h
  | resetNLow bootSlot cascadeEn => exact execResetNLow_ok h bootSlot cascadeEn
  | supplyMonitorReset => exact execSupplyMonitorReset_ok h
  | powerGood bootSlot cascadeEn => exact execPowerGood_ok h bootSlot cascadeEn
  | pllLockTimeout w => exact execPllLockTimeout_ok h w
  | ledgerSelfTestEnd badLines badSpares => exact execLedgerSelfTestEnd_ok h badLines badSpares
  | imageCheckEnd f badLines badSpares => exact execImageCheckEnd_ok h f badLines badSpares
  | clockLoss => exact execClockLoss_ok h
  | tellerWatchdogExpiry => exact execTellerWatchdogExpiry_ok h
  | tellerRestartEnd => exact execTellerRestartEnd_ok h
  | swapRollback => exact execSwapRollback_ok h
  | cabKeyRelease => exact execCabKeyRelease_ok h
  | ssLinkTrained g gen2 => exact execSsLinkTrained_ok h g gen2
  | standardRequest g f r => exact execStandardRequest_ok h g f r
  | sclLowTimeout x => exact execSclLowTimeout_ok h x
  | ttCompleteSplit k periodic key r => exact execTtCompleteSplit_ok h k periodic key r
  | clocksStable ssLocked => exact execClocksStable_ok h ssLocked
  | swapReady => exact execSwapReady_ok h
  | nightsafeCycle => exact execNightsafeCycle_ok h
  | usb2HubSuspend g => exact execUsb2HubSuspend_ok h g
  | usb2HubResume g => exact execUsb2HubResume_ok h g
  | upstreamLinkU1U2 g st own => exact execUpstreamLinkU1U2_ok h g st own
  | rail5vInRange j mv => exact execRail5vInRange_ok h j mv

/-- Settles O3: the queue is no part of the Ledger, and every command keeps the Ledger `Ok`. -/
theorem everyStepKeepsTheLedgerCanonical : Obligations.EveryStepKeepsTheLedgerCanonical := by
  unfold Obligations.EveryStepKeepsTheLedgerCanonical
  intro s t h hstep
  cases hp : s.pending with
  | nil =>
    simp only [step, hp] at hstep
    exact okAfter_next.mpr h t hstep
  | cons c rest =>
    simp only [step, hp] at hstep
    exact exec_okAfter (s := { s with pending := rest }) h c t hstep

end Sys2Proof.Machine
end

section
/-! SUPPORT. What a start-up keeps while slots are presented and ports ask for power: the Carcass registers, the firmware's record,
Teller's run and the Deeds. -/
namespace Sys2Proof.Machine

/-! ### Completions leave Teller's run -/

/-- Completing the mailbox command leaves Teller's run. -/
@[simp] theorem State.finishMbx_run (s : State) (e : TillEntry) (st : Status) (r0 : Word) (d : List Byte) :
    (s.finishMbx e st r0 d).teller.run = s.teller.run := rfl

/-- Noting an ended tag changes ports alone. -/
@[simp] theorem State.noteEnded_teller (s : State) (h : SlotId) (e : TillEntry) (st : Status) :
    (s.noteEnded h e st).teller = s.teller := by
  unfold State.noteEnded
  split
  · dsimp only
    split <;> rfl
  · rfl

/-- Ending tags leaves Teller's run. -/
@[simp] theorem State.endTags_run (s : State) (p : TillEntry → Bool) (st : Status) :
    (s.endTags p st).teller.run = s.teller.run := by
  have hmbx : ∀ t : State, (t.endMbxTag p st).teller.run = t.teller.run := by
    intro t
    unfold State.endMbxTag
    split
    · split <;> rfl
    · rfl
  have hslot : ∀ (t : State) (h : SlotId), (t.endSlotTags h p st).teller.run = t.teller.run := by
    intro t h
    unfold State.endSlotTags
    apply foldl_keeps (·.teller.run)
    intro u e
    dsimp only
    rw [State.noteEnded_teller]
    rfl
  unfold State.endTags
  dsimp only
  rw [hmbx]
  exact foldl_keeps (·.teller.run) (fun t h => t.endSlotTags h p st) hslot allSlots
    { s with orphans := s.orphans.filter fun e => !p e }

/-- Changing commands that wait leaves Teller's run. -/
@[simp] theorem State.modEntries_run (s : State) (p : TillEntry → Bool) (f : TillEntry → TillEntry) :
    (s.modEntries p f).teller.run = s.teller.run := by
  unfold State.modEntries
  rfl

/-- Ending waits leaves Teller's run. -/
@[simp] theorem State.endWaits_run (s : State) (p : Wait → Bool) (st : Status) :
    (s.endWaits p st).teller.run = s.teller.run := by
  unfold State.endWaits
  exact s.endTags_run _ st

/-- Completing commands without undoing them leaves Teller's run. -/
@[simp] theorem State.endWith_run (s : State) (p : TillEntry → Bool) (st : Status) (r0 : Word) :
    (s.endWith p st r0).teller.run = s.teller.run := by
  unfold State.endWith
  have hslots : (allSlots.foldl (fun (t : State) (h : SlotId) =>
      (t.slots[h.val].till.filter p).foldl (fun s e => s.finishSlot h e st r0 []) t) s).teller.run = s.teller.run := by
    apply foldl_keeps (·.teller.run)
    intro t h
    apply foldl_keeps (·.teller.run)
    exact fun _ _ => rfl
  generalize allSlots.foldl (fun (t : State) (h : SlotId) =>
    (t.slots[h.val].till.filter p).foldl (fun s e => s.finishSlot h e st r0 []) t) s = t at hslots ⊢
  dsimp only
  split
  · split
    · exact (t.finishMbx_run _ _ _ _).trans hslots
    · exact hslots
  · exact hslots

/-! ### What a start-up keeps while slots are presented and ports ask for power -/

/-- The Carcass registers but for the state of the core, the firmware's record, Teller's run and every port's Deed stay. -/
structure State.KeepsBoot (s t : State) : Prop where
  glb : t.glb = { s.glb with core := t.glb.core }
  fw : t.fw = s.fw
  run : t.teller.run = s.teller.run
  deed : ∀ k : PortId, t.ports[k.val].deed = s.ports[k.val].deed

/-- Nothing done. -/
theorem State.KeepsBoot.refl (s : State) : s.KeepsBoot s := ⟨rfl, rfl, rfl, fun _ => rfl⟩

/-- One change after the other. -/
theorem State.KeepsBoot.trans {s t u : State} (h : s.KeepsBoot t) (k : t.KeepsBoot u) : s.KeepsBoot u where
  glb := by rw [k.glb, h.glb]
  fw := k.fw.trans h.fw
  run := k.run.trans h.run
  deed i := (k.deed i).trans (h.deed i)

/-- Changes made one by one over a list. -/
theorem State.KeepsBoot.foldl {α : Type} (f : State → α → State) (hf : ∀ (s : State) (a : α), s.KeepsBoot (f s a)) (l : List α)
    (s : State) : s.KeepsBoot (l.foldl f s) :=
  foldl_inv (fun t => s.KeepsBoot t) f (fun t a h => h.trans (hf t a)) l s (.refl s)

/-- Events keep it. -/
theorem State.Evented.keepsBoot {s t : State} (h : s.Evented t) : s.KeepsBoot t :=
  ⟨by rw [h.glb], h.fw, by rw [h.teller], fun k => by rw [h.ports]⟩

/-- Completions keep it, with Teller's run. -/
theorem State.Answering.keepsBoot {s t : State} (h : s.Answering t) (hr : t.teller.run = s.teller.run) : s.KeepsBoot t :=
  ⟨by rw [h.glb], h.fw, hr, fun k => by rw [h.ports k]⟩

/-- A change of a slot keeps it. -/
theorem State.modSlot_keepsBoot (s : State) (h : SlotId) (f : Slot → Slot) : s.KeepsBoot (s.modSlot h f) :=
  ⟨rfl, rfl, rfl, fun _ => rfl⟩

/-- A change of a port that leaves its Deed keeps it. -/
theorem State.modPort_keepsBoot (s : State) (k : PortId) (f : Port → Port) (hf : ∀ p, (f p).deed = p.deed) :
    s.KeepsBoot (s.modPort k f) := by
  refine ⟨rfl, rfl, rfl, fun j => ?_⟩
  show (vmod s.ports k f)[j.val].deed = _
  rw [vmod_get]
  split
  · exact hf _
  · rfl

/-- Holding a port's Mint groups keeps it. -/
theorem State.holdPort_keepsBoot (s : State) (k : PortId) (c : Cause) : s.KeepsBoot (s.holdPort k c) := by
  unfold State.holdPort
  refine .foldl _ (fun t g => ?_) _ s
  exact ⟨rfl, rfl, rfl, fun _ => rfl⟩

/-- Leaving ACTIVE keeps it. -/
theorem State.leaveActive_keepsBoot (s : State) (k : PortId) : s.KeepsBoot (s.leaveActive k) := by
  unfold State.leaveActive
  split
  · exact s.holdPort_keepsBoot k .port
  · exact .refl s

/-- Suspending a port keeps it. -/
theorem State.suspendPort_keepsBoot (s : State) (k : PortId) : s.KeepsBoot (s.suspendPort k) :=
  s.modPort_keepsBoot k _ fun _ => rfl

/-- Suspending a slot keeps it. -/
theorem State.suspendSlot_keepsBoot (s : State) (h : SlotId) : s.KeepsBoot (s.suspendSlot h) := by
  unfold State.suspendSlot
  split
  · exact .refl s
  · refine (s.modSlot_keepsBoot h _).trans ((State.KeepsBoot.foldl _ ?groups _ _).trans (.foldl _ ?ports _ _))
    case groups => exact fun t k => t.holdPort_keepsBoot k .suspend
    case ports =>
      have hactive : ∀ (t : State) (k : PortId),
          t.KeepsBoot (((t.leaveActive k).suspendPort k).modPort k fun p => { p with slotSuspend := true }) := fun t k =>
        (t.leaveActive_keepsBoot k).trans ((State.suspendPort_keepsBoot _ k).trans
          (State.modPort_keepsBoot _ k _ fun _ => rfl))
      intro t k
      split
      · exact .refl t
      · split
        · exact hactive t k
        · exact hactive t k
        · exact t.modPort_keepsBoot k _ fun _ => rfl
        · exact t.modPort_keepsBoot k _ fun _ => rfl
        · exact t.modPort_keepsBoot k _ fun _ => rfl
        · exact t.modPort_keepsBoot k _ fun _ => rfl
        · exact .refl t

/-- The end of S1 keeps it. -/
theorem State.exitS1_keepsBoot (s : State) : s.KeepsBoot s.exitS1 := by
  unfold State.exitS1
  split
  · have hcore : s.KeepsBoot (s.modGlb fun g => { g with core := .s0 }) := ⟨rfl, rfl, rfl, fun _ => rfl⟩
    exact hcore.trans (State.everySlotEvent_evented _ _ _ _).keepsBoot
  · exact .refl s

/-- Resuming a slot keeps it. -/
theorem State.resumeSlot_keepsBoot (s : State) (h : SlotId) : s.KeepsBoot (s.resumeSlot h) := by
  unfold State.resumeSlot
  split
  · refine (s.modSlot_keepsBoot h _).trans ((State.KeepsBoot.foldl _ ?ports _ _).trans (State.exitS1_keepsBoot _))
    intro t k
    split
    · split
      · exact t.modPort_keepsBoot k _ fun _ => rfl
      · exact t.modPort_keepsBoot k _ fun _ => rfl
    · exact .refl t
  · exact .refl s

/-- Resuming a slot's USB 2.0 hub keeps it. -/
theorem State.resumeHub2_keepsBoot (s : State) (h : SlotId) : s.KeepsBoot (s.resumeHub2 h) := by
  unfold State.resumeHub2
  refine (s.modSlot_keepsBoot h _).trans (.foldl _ (fun t k => ?_) _ _)
  dsimp only
  split
  · exact t.modPort_keepsBoot k _ fun _ => rfl
  · exact .refl t

/-- Teller's move to port 25 keeps it. -/
theorem State.toPort25_keepsBoot (s : State) (h : SlotId) : s.KeepsBoot (s.toPort25 h) := by
  unfold State.toPort25
  extract_lets t
  have ht : s.KeepsBoot t := s.modSlot_keepsBoot h _
  split
  · exact ht.trans (t.suspendSlot_keepsBoot h)
  · exact ht.trans (t.resumeSlot_keepsBoot h)

/-- The answer to a PWR_DOMAIN that waited for a slot keeps it. -/
theorem State.domainPresented_keepsBoot (s : State) (h : SlotId) : s.KeepsBoot (s.domainPresented h) := by
  unfold State.domainPresented
  dsimp only
  split
  · exact ((s.endWith_answering _ _ _).keepsBoot (s.endWith_run _ _ _)).trans
      (State.everySlotEvent_evented _ _ _ _).keepsBoot
  · exact .refl s

/-- Presenting a slot keeps it. -/
theorem State.presentSlot_keepsBoot (s : State) (h : SlotId) : s.KeepsBoot (s.presentSlot h) := by
  unfold State.presentSlot
  dsimp only
  split
  · split
    · exact (((s.modSlot_keepsBoot h _).trans (State.resumeHub2_keepsBoot _ h)).trans (State.resumeSlot_keepsBoot _ h)).trans
        (State.domainPresented_keepsBoot _ h)
    · split
      · have hshown : s.KeepsBoot (s.showSlot h) :=
          (s.modSlot_keepsBoot h _).trans (State.resumeHub2_keepsBoot _ h)
        split
        · exact hshown.trans (State.domainPresented_keepsBoot _ h)
        · exact hshown.trans ((State.toPort25_keepsBoot _ h).trans (State.domainPresented_keepsBoot _ h))
      · exact .refl s
  · exact .refl s

/-- A request that can never fit is withdrawn. -/
theorem State.removeRequest_keepsBoot (s : State) (k : PortId) : s.KeepsBoot (s.removeRequest k) := by
  unfold State.removeRequest
  extract_lets c t
  have ht : s.KeepsBoot t := ⟨rfl, rfl, rfl, fun _ => rfl⟩
  have hend := (t.endWaits_answering (fun w => Wait.isPortOn k w || Wait.isCycle k w) .eBudget).keepsBoot (t.endWaits_run _ _)
  exact ht.trans (hend.trans (State.powerEvent_evented _ k 0xC c).keepsBoot)

/-- A request that has entered the queue keeps it. -/
theorem State.requestQueued_keepsBoot (s : State) (k : PortId) : s.KeepsBoot (s.requestQueued k) := by
  unfold State.requestQueued
  extract_lets nowait
  have hend := (s.endTags_answering nowait .ok).keepsBoot (s.endTags_run nowait .ok)
  exact hend.trans ((State.modEntries_answering _ _ _).keepsBoot (State.modEntries_run _ _ _))

/-- A request for power keeps it, whether it enters the queue or leaves it for good. -/
theorem State.tryQueue_keepsBoot (s : State) (k : PortId) : s.KeepsBoot (s.tryQueue k) := by
  unfold State.tryQueue
  split
  · have hasked : s.KeepsBoot ((s.modEscrow fun e => { e with entries := s.escrow.entries + 1 }).modPwr k fun w =>
        { w with queued := some s.escrow.entries, budgetWait := false }) := ⟨rfl, rfl, rfl, fun _ => rfl⟩
    refine hasked.trans ?_
    dsimp only
    split
    · exact State.removeRequest_keepsBoot _ k
    · exact State.requestQueued_keepsBoot _ k
  · exact .refl s

end Sys2Proof.Machine
end

section
/-! SUPPORT. The bring-up: the boot profile and the image (R81, R83, R84), the self-test (R76), and the events of file 03's start-up
sequence. -/
namespace Sys2Proof.Machine

/-! ### The boot profile and the image (R83, R84, R86) -/

/-- One port's profile changes no Carcass register, firmware record or Teller. -/
theorem State.applyPort_boot (s : State) (k : PortId) (e : ProfilePort) :
    (s.applyPort k e).glb = s.glb ∧ (s.applyPort k e).fw = s.fw ∧ (s.applyPort k e).teller = s.teller := by
  have hcc : ∀ t : State, (t.enableCc k).glb = t.glb ∧ (t.enableCc k).fw = t.fw ∧ (t.enableCc k).teller = t.teller := by
    intro t
    unfold State.enableCc
    split
    · exact ⟨rfl, rfl, rfl⟩
    · exact ⟨rfl, rfl, rfl⟩
  unfold State.applyPort
  dsimp only
  split
  · exact ⟨rfl, rfl, rfl⟩
  · exact hcc _

/-- Enabling CC leaves the ports' half outside PD. -/
@[simp] theorem State.enableCc_ports (s : State) (k : PortId) : (s.enableCc k).ports = s.ports := by
  unfold State.enableCc
  split <;> rfl

/-- The Deed that the boot profile gives to a port that is not OFF (R84). -/
def bootDeed (e : ProfilePort) : Deed := { owner := some e.owner, mode := e.mode, viewers := e.viewers, gen := 0 }

/-- A port's profile changes its own port alone, and a mode other than OFF gives it the profile's Deed. -/
theorem State.applyPort_deed (s : State) (k j : PortId) (e : ProfilePort) (hj : k = j → e.mode ≠ .off) :
    (s.applyPort k e).ports[j.val].deed = if k = j then bootDeed e else s.ports[j.val].deed := by
  have hports : (s.applyPort k e).ports = vmod s.ports k fun p => { p with
      deed := { owner := if e.mode = .off then none else some e.owner, mode := e.mode, viewers := e.viewers, gen := 0 }
      state := if e.mode = .off then .off else .waitAttach } := by
    unfold State.applyPort
    dsimp only
    split
    · rfl
    · rw [State.enableCc_ports]; rfl
  rw [hports, vmod_get]
  by_cases hk : k = j
  · rw [if_pos (congrArg Fin.val hk), if_pos hk, if_neg (hj hk)]
    rfl
  · rw [if_neg (fun h => hk (Fin.ext h)), if_neg hk]

/-- The boot profile's row of a port; a port that it does not name is OFF. -/
def bootRow (p : BootProfile) (k : PortId) : ProfilePort :=
  (p.ports[k.val]?).getD { mode := .off, owner := 0, viewers := 0, rp := .ua80, priority := 0 }

/-- The boot profile changes no Carcass register, firmware record or Teller. -/
theorem State.applyProfile_boot (s : State) :
    s.applyProfile.glb = s.glb ∧ s.applyProfile.fw = s.fw ∧ s.applyProfile.teller = s.teller := by
  unfold State.applyProfile
  exact foldl_inv (fun t : State => t.glb = s.glb ∧ t.fw = s.fw ∧ t.teller = s.teller) _
    (fun t k ⟨hg, hf, ht⟩ => let ⟨hg', hf', ht'⟩ := t.applyPort_boot k _; ⟨hg'.trans hg, hf'.trans hf, ht'.trans ht⟩)
    _ _ ⟨rfl, rfl, rfl⟩

/-- Profiles applied port by port give each port that its row does not leave OFF the Deed of its row. -/
theorem foldl_applyPort_deed (row : PortId → ProfilePort) (j : PortId) (hj : (row j).mode ≠ .off) (l : List PortId) (s : State)
    (h : j ∈ l ∨ s.ports[j.val].deed = bootDeed (row j)) :
    (l.foldl (fun s k => s.applyPort k (row k)) s).ports[j.val].deed = bootDeed (row j) := by
  induction l generalizing s with
  | nil => exact h.resolve_left List.not_mem_nil
  | cons k l ih =>
    have hstep := s.applyPort_deed k j (row k) fun hk => hk ▸ hj
    refine ih _ ?_
    by_cases hk : k = j
    · subst hk
      rw [if_pos rfl] at hstep
      exact .inr hstep
    · rw [if_neg hk] at hstep
      rw [hstep]
      exact h.imp_left fun hmem => (List.mem_cons.mp hmem).resolve_left fun h' => hk h'.symm

/-- The boot profile gives each port that it does not leave OFF its Deed (R84). -/
theorem State.applyProfile_deed (s : State) (k : PortId) (e : ProfilePort) (he : s.fw.profile.ports[k.val]? = some e)
    (hm : e.mode ≠ .off) : s.applyProfile.ports[k.val].deed = bootDeed e := by
  have hrow : bootRow s.fw.profile k = e := by simp [bootRow, he]
  rw [← hrow] at hm ⊢
  unfold State.applyProfile
  exact foldl_applyPort_deed (bootRow s.fw.profile) k hm allPorts _ (.inl (List.mem_finRange k))

/-- Step 6 ends in phase 6, with every port's Deed and the firmware as they were (R87). -/
theorem State.endStep6_eq (s : State) (h : s.glb.phase = 5) :
    (s.modGlb fun g => { g with phase := 6 }).KeepsBoot s.endStep6 := by
  unfold State.endStep6
  rw [if_pos h]
  exact .foldl _ State.tryQueue_keepsBoot _ _

/-- What running an image makes of the Carcass, of Teller and of the ports (R83, R84, R86). -/
theorem State.runImage_spec (s : State) (slot : Bool) (i : ImageInfo) :
    (s.runImage slot i).glb.phase = (if s.glb.cascadeEn then 5 else 6) ∧ (s.runImage slot i).glb.image = slot ∧
    (s.runImage slot i).glb.unsealed = !s.keyFused ∧ (s.runImage slot i).teller.run = .running ∧
    (s.runImage slot i).fw.version = i.version ∧
    ∀ (k : PortId) (e : ProfilePort), i.profile.ports[k.val]? = some e → e.mode ≠ .off →
      (s.runImage slot i).ports[k.val].deed = bootDeed e := by
  generalize ht : s.runImage slot i = t
  unfold State.runImage at ht
  extract_lets a fw b c d e at ht
  have hd : d.glb = c.glb ∧ d.fw = c.fw ∧ d.teller = c.teller := c.applyProfile_boot
  have he : d.KeepsBoot e := .foldl _ State.presentSlot_keepsBoot _ _
  obtain ⟨hglb, hfw, hteller⟩ := hd
  have hphase : e.glb.phase = 5 := by rw [he.glb, hglb]; rfl
  have hcascade : e.glb.cascadeEn = s.glb.cascadeEn := by rw [he.glb, hglb]; rfl
  have himage : e.glb.image = slot := by rw [he.glb, hglb]; rfl
  have hseal : e.glb.unsealed = !s.keyFused := by rw [he.glb, hglb]; rfl
  have hrun : e.teller.run = .running := by rw [he.run, hteller]; rfl
  have hver : e.fw.version = i.version := by rw [he.fw, hfw]; rfl
  have hdeed : ∀ (k : PortId) (p : ProfilePort), i.profile.ports[k.val]? = some p → p.mode ≠ .off →
      e.ports[k.val].deed = bootDeed p := fun k p hp hm => by rw [he.deed k]; exact c.applyProfile_deed k p hp hm
  clear_value e
  subst ht
  rw [← hcascade]
  split
  · exact ⟨hphase, himage, hseal, hrun, hver, hdeed⟩
  · have hend := e.endStep6_eq hphase
    exact ⟨by rw [hend.glb]; rfl, by rw [hend.glb]; exact himage, by rw [hend.glb]; exact hseal, hend.run.trans hrun,
      hend.fw ▸ hver, fun k p hp hm => (hend.deed k).trans (hdeed k p hp hm)⟩

/-- RECOVERY shows the start-up slot's image as the one in force and lets Teller run, with both reasons kept (R84). -/
theorem State.enterRecovery_spec (s : State) :
    s.enterRecovery.glb.phase = 0xE ∧ s.enterRecovery.glb.image = s.glb.bootSlot ∧ s.enterRecovery.teller.run = .running ∧
    s.enterRecovery.glb.failA = s.glb.failA ∧ s.enterRecovery.glb.failB = s.glb.failB := by
  generalize ht : s.enterRecovery = t
  unfold State.enterRecovery at ht
  extract_lets a b at ht
  subst ht
  have hk : b.KeepsBoot (allSlots.foldl State.presentSlot b) := .foldl _ State.presentSlot_keepsBoot _ _
  rw [hk.glb, hk.run]
  exact ⟨rfl, rfl, rfl, rfl, rfl⟩

/-- The first image that passes R81 is loaded and run; with no image that passes, RECOVERY holds both reasons (R81, R84). -/
theorem State.tryImages_eq (s : State) (f : FlashView) :
    let pick := fun (b : Bool) => if b then f.b else f.a
    let first := s.glb.bootSlot
    (s.imageFail f.sfdpOk (pick first) = 0 → s.tryImages f =
      (s.modLdg fun g => g.loadPayload first (pick first).length (pick first).payload).runImage first (pick first)) ∧
    (s.imageFail f.sfdpOk (pick first) ≠ 0 → s.imageFail f.sfdpOk (pick first) ≠ 1 →
      s.imageFail f.sfdpOk (pick (!first)) ≠ 0 → s.tryImages f =
      ((s.recordFail first (s.imageFail f.sfdpOk (pick first))).recordFail (!first)
        (s.imageFail f.sfdpOk (pick (!first)))).enterRecovery) := by
  intro pick first
  constructor
  · intro h
    unfold State.tryImages
    exact if_pos h
  · intro h0 h1 h2
    unfold State.tryImages
    dsimp only
    rw [if_neg h0, if_neg h1]
    have hrec : (s.recordFail first (s.imageFail f.sfdpOk (pick first))).imageFail f.sfdpOk (pick (!first)) =
        s.imageFail f.sfdpOk (pick (!first)) := rfl
    exact (if_neg (by rw [hrec]; exact h2)).trans (by rw [hrec])

/-- Both reasons stand in the fault register, each under its slot (R84). -/
theorem State.recordFail_both (s : State) (first : Bool) (c d : Nat) :
    let t := (s.recordFail first c).recordFail (!first) d
    (if first then t.glb.failB else t.glb.failA) = BitVec.ofNat 4 c ∧
    (if first then t.glb.failA else t.glb.failB) = BitVec.ofNat 4 d ∧ t.glb.bootSlot = s.glb.bootSlot := by
  cases first <;> exact ⟨rfl, rfl, rfl⟩

/-- The state in which IMAGE_CHECK_END tries the images: both of Flash's slots are known (R81). -/
def State.imagesRead (s : State) (f : FlashView) : State :=
  { s.modNsf (fun n => { n with retained := none }) with
    fw := { s.fw with sfdpOk := f.sfdpOk, slotA := some f.a, slotB := some f.b } }

/-- IMAGE_CHECK_END in step 4, with no retained image. -/
theorem exec_imageCheckEnd {f : FlashView} {bl bs : List Nat} {s : State} (ha : s.awake = true) (hp : s.glb.phase = 3)
    (hr : s.nsf.retained = none) : exec (.imageCheckEnd f bl bs) s = .next ((s.imagesRead f).tryImages f) := by
  show execImageCheckEnd f bl bs s = _
  unfold execImageCheckEnd
  rw [if_pos ⟨ha, hp⟩]
  dsimp only
  rw [hr]
  rfl

/-! ### The self-test (R76) -/

/-- A new element makes a rising list longer by one. -/
theorem length_insertRising {x : Nat} {l : List Nat} (h : x ∉ l) : (insertRising x l).length = l.length + 1 := by
  induction l with
  | nil => rfl
  | cons y l ih =>
    obtain ⟨hy, hl⟩ : x ≠ y ∧ x ∉ l := by simpa using h
    unfold insertRising
    rw [if_neg hy]
    split
    · rfl
    · simp [ih hl]

/-- Distinct new elements make a rising list longer by their number. -/
theorem length_foldl_insertRising {xs : List Nat} (hxs : xs.Nodup) (l : List Nat) (hl : ∀ x ∈ xs, x ∉ l) :
    (xs.foldl (fun l x => insertRising x l) l).length = l.length + xs.length := by
  induction xs generalizing l with
  | nil => rfl
  | cons x xs ih =>
    obtain ⟨hx, hnd⟩ := List.nodup_cons.mp hxs
    rw [List.foldl_cons, ih hnd, length_insertRising (hl x List.mem_cons_self), List.length_cons]
    · omega
    · intro y hy hmem
      rcases mem_insertRising.mp hmem with rfl | hmem
      · exact hx hy
      · exact hl y (List.mem_cons_of_mem _ hy) hmem

/-- A failing line takes one of eight Inlay entries, or cannot be repaired (R76). -/
theorem Ledger.selfTestLine_some {g g' : Ledger} {line : Nat} (h : g.selfTestLine line = some g') :
    g.inlay.length < 8 ∧ g'.inlay.length = g.inlay.length + 1 := by
  unfold Ledger.selfTestLine at h
  split at h
  · cases h
  · next hlen =>
    obtain ⟨x, -, rfl⟩ := Option.map_eq_some_iff.mp h
    exact ⟨by omega, by simp⟩

/-- More failing lines than the Inlay holds cannot all be repaired (R76). -/
theorem Ledger.selfTestLines_fails (l : List Nat) (g : Ledger) (hg : g.inlay.length ≤ 8) (h : 9 ≤ g.inlay.length + l.length) :
    (Ledger.selfTestLines l g).1 = false := by
  induction l generalizing g with
  | nil => simp only [List.length_nil] at h; omega
  | cons line l ih =>
    rw [List.length_cons] at h
    unfold Ledger.selfTestLines
    split
    · next g' hg' =>
      obtain ⟨hlt, hlen⟩ := Ledger.selfTestLine_some hg'
      exact ih g' (by omega) (by omega)
    · rfl

/-- A self-test of an empty Ledger with nine failing lines or more fails (R76). -/
theorem Ledger.selfTest_fails {lines : List Nat} (hnd : lines.Nodup) (hlt : ∀ x ∈ lines, x < 131072) (h : 9 ≤ lines.length) :
    (({} : Ledger).selfTest lines [] fun _ => true).1 = false := by
  unfold Ledger.selfTest
  have hall : (lines.filter fun x => decide (true = true ∧ x < 131072)) = lines :=
    List.filter_eq_self.mpr fun x hx => by simpa using hlt x hx
  refine Ledger.selfTestLines_fails _ _ (Nat.zero_le 8) ?_
  rw [hall, length_foldl_insertRising hnd [] (by simp)]
  simpa using h

/-- One failing line of an empty Ledger is given the first spare of its bank (R76). -/
theorem Ledger.selfTest_single {line : Nat} (h : line < 131072) :
    (({} : Ledger).selfTest [line] [] fun _ => true) =
      (true, { badLines := [line], usedSpares := [bankOf line * 8]
               inlay := [{ runtime := false, spare := 0, line := line, n := 0 }] }) := by
  simp [Ledger.selfTest, h, insertRising, Ledger.selfTestLines, Ledger.selfTestLine, Ledger.freeSpare, List.range_succ]

/-- LEDGER_SELF_TEST_END in step 3, with nothing retained. -/
theorem exec_ledgerSelfTestEnd {bl bs : List Nat} {s : State} (ha : s.awake = true) (hp : s.glb.phase = 2)
    (hr : s.nsf.retained = none) : exec (.ledgerSelfTestEnd bl bs) s =
      .next (s.tested (({} : Ledger).selfTest bl bs fun _ => true).1 (({} : Ledger).selfTest bl bs fun _ => true).2) := by
  show execLedgerSelfTestEnd bl bs s = _
  unfold execLedgerSelfTestEnd
  rw [if_pos ⟨ha, hp⟩]
  simp only [hr, Option.isSome_none, Option.isNone_none, Bool.true_or, Bool.false_eq_true, if_false]

/-! ### The bring-up events -/

/-- VSVC_RISE starts a Nightsafe that did not run (R70, R73). -/
theorem exec_vsvcRise {m : BitVec 3} {v : BitVec 4} {low : Bool} {s : State} (h : s.nsf.running = false) :
    ∃ t, exec (.vsvcRise m v low) s = .next t ∧ t.nsf.running = true ∧ t.nsf.railEn = true ∧ t.nsf.mgmtAddr = m ∧
      t.nsf.crystal = false ∧ t.nsf.keyLow = low ∧ (v = 0 → t.nsf.passbook = []) ∧
      (v ≠ 0 → ∃ r, t.nsf.passbook = [r] ∧ r.code = 6 ∧ r.fromState = 0xF ∧ r.aborted = false) ∧
      ∀ h : SlotId, t.slots[h.val].vbus = testBit v h.val := by
  have hrise : execVsvcRise m v low s = .next _ := congrArg Host.Outcome.next (if_neg (by simp [h]))
  refine ⟨_, hrise, ?_⟩
  dsimp only
  by_cases hv : v = 0
  · rw [if_pos hv]
    exact ⟨rfl, rfl, rfl, rfl, rfl, fun _ => rfl, fun hn => absurd hv hn, fun h => by simp⟩
  · rw [if_neg hv]
    exact ⟨rfl, rfl, rfl, rfl, rfl, fun hz => absurd hz hv, fun _ => ⟨_, rfl, rfl, rfl, rfl⟩, fun h => by simp⟩

/-- POWER_GOOD on a held Carcass begins step 1 with the straps (R72). -/
theorem exec_powerGood {b c : Bool} {s : State} (hheld : s.glb.held = true) (hrun : s.nsf.running = true)
    (hrail : s.nsf.railEn = true) (hawake : s.nsf.asleep = none) :
    exec (.powerGood b c) s = .next (s.startUp (some (b, c))) :=
  congrArg Host.Outcome.next (if_pos ⟨hheld, hrun, hrail, hawake⟩)

/-- CLOCKS_STABLE ends step 2: MGMT acknowledges, Tally runs, and a slot keeps its SuperSpeed PLL where it locked (R72, R75). -/
theorem exec_clocksStable {l : BitVec 4} {s : State} (ha : s.awake = true) (hp : s.glb.phase = 1)
    (hc : s.glb.clocksOk = false) (hf : s.glb.fClock = false) :
    ∃ t, exec (.clocksStable l) s = .next t ∧ t.glb.phase = 2 ∧ t.glb.clocksOk = true ∧
      t.tally = { s.tally with running := true } ∧ t.glb.fClock = s.nsf.clockFail ∧
      ∀ h : SlotId, t.slots[h.val].ssPll = (s.slots[h.val].ssPll && testBit l h.val) := by
  have hstable : execClocksStable l s = .next _ := congrArg Host.Outcome.next (if_pos (by simp [ha, hp, hc, hf]))
  exact ⟨_, hstable, rfl, rfl, rfl, rfl, fun h => by simp⟩

/-- PLL_LOCK_TIMEOUT in step 2, before the clocks are stable (R75). -/
theorem exec_pllLockTimeout {s : State} (ha : s.awake = true) (hp : s.glb.phase = 1) (hc : s.glb.clocksOk = false)
    (w : PllWhich) : exec (.pllLockTimeout w) s = .next (match w with
      | .system =>
        if s.glb.pllRetry then s.modGlb fun g => { g with fClock := true } else s.modGlb fun g => { g with pllRetry := true }
      | .ss h => s.modSlot h fun x => { x with ssPll := false }) :=
  congrArg Host.Outcome.next (if_pos (by simp [ha, hp, hc]))

/-- Settles O16: each bring-up event by its own equation; the self-test by the number of Inlay entries, the image by what
presenting slots and asking for power leave unchanged. -/
theorem bringUpGoesStepByStep : Obligations.BringUpGoesStepByStep := by
  unfold Obligations.BringUpGoesStepByStep
  refine ⟨fun m v low s h => exec_vsvcRise h, fun s h => congrArg Host.Outcome.next (if_pos h), ?power, ?clocks, ?test, ?image⟩
  case power =>
    intro b c s hheld hrun hrail hawake
    exact ⟨_, exec_powerGood hheld hrun hrail hawake, rfl, rfl, rfl, rfl, rfl, rfl, fun i => by simp [State.startUp]⟩
  case clocks =>
    intro l s ha hp hc
    refine ⟨exec_clocksStable ha hp hc, fun hr => ?_, fun hr => ?_, fun h => exec_pllLockTimeout ha hp hc (.ss h)⟩
    · exact (exec_pllLockTimeout ha hp hc .system).trans (congrArg Host.Outcome.next (if_neg (by simp [hr])))
    · exact (exec_pllLockTimeout ha hp hc .system).trans (congrArg Host.Outcome.next (if_pos hr))
  case test =>
    intro s ha hp hr
    refine ⟨⟨_, exec_ledgerSelfTestEnd ha hp hr, rfl, rfl, rfl⟩, fun line hline => ?_, fun lines hnd hlt hlen => ?_⟩
    · refine ⟨_, exec_ledgerSelfTestEnd ha hp hr, ?_⟩
      rw [Ledger.selfTest_single hline]
      exact ⟨rfl, rfl, rfl, rfl⟩
    · refine ⟨_, exec_ledgerSelfTestEnd ha hp hr, ?_, rfl, rfl⟩
      rw [Ledger.selfTest_fails hnd hlt hlen]
      rfl
  case image =>
    intro f bl bs s ha hp hr first second
    obtain ⟨hrun, hrecovery⟩ := (s.imagesRead f).tryImages_eq f
    have hsecond : (if (!s.glb.bootSlot) = true then f.b else f.a) = second := by
      cases hb : s.glb.bootSlot <;> simp [second, hb]
    refine ⟨fun h0 => ?_, fun h0 h1 h2 => ?_⟩
    · refine ⟨_, exec_imageCheckEnd ha hp hr, ?_⟩
      rw [hrun h0]
      exact State.runImage_spec _ _ _
    · refine ⟨_, exec_imageCheckEnd ha hp hr, ?_⟩
      rw [← hsecond] at h2 ⊢
      rw [hrecovery h0 h1 h2]
      obtain ⟨hphase, himage, hteller, hfailA, hfailB⟩ := State.enterRecovery_spec
        (((s.imagesRead f).recordFail s.glb.bootSlot (s.imageFail f.sfdpOk first)).recordFail (!s.glb.bootSlot)
          (s.imageFail f.sfdpOk (if (!s.glb.bootSlot) = true then f.b else f.a)))
      obtain ⟨hc1, hc2, hboot⟩ := (s.imagesRead f).recordFail_both s.glb.bootSlot (s.imageFail f.sfdpOk first)
        (s.imageFail f.sfdpOk (if (!s.glb.bootSlot) = true then f.b else f.a))
      rw [← hfailA, ← hfailB] at hc1 hc2
      exact ⟨hphase, himage.trans hboot, hteller, hc1, hc2⟩

end Sys2Proof.Machine
end

section
/-! SUPPORT. FW_STAGE, FW_COMMIT and FW_SWAP as bodies past the charge of their caller (R190, R473, R474, R477). -/
namespace Sys2Proof.Machine

/-! ### What the firmware commands read, once Teller has taken them -/

/-- Which commands are in flight is said by the Tills and the mailbox. -/
theorem State.anyEntry_congr {s t : State} (hs : ∀ g : SlotId, t.slots[g.val].till = s.slots[g.val].till)
    (hm : t.teller.mbxEntry = s.teller.mbxEntry) (p : TillEntry → Bool) : t.anyEntry p = s.anyEntry p := by
  unfold State.anyEntry
  simp only [hs, hm]

/-- The mailbox's command is no part of the charge. -/
@[simp] theorem State.charged_mbxEntry (u : State) (a : CmdArgs) (m : Vector Word 68) :
    (u.charged a m).teller.mbxEntry = u.teller.mbxEntry := by
  unfold State.charged; split <;> rfl

/-- Taking a command puts none in flight and ends none. -/
theorem takes_anyEntry {o : OpSpec} {a : CmdArgs} {s : State} (h : s.takes o a = true) (p : TillEntry → Bool) :
    (s.atDispatch o a).anyEntry p = s.anyEntry p := by
  have hr := takes_running h
  obtain ⟨m, hm⟩ := s.atDispatch_charged o a hr
  rw [hm]
  refine State.anyEntry_congr (fun g => ?_) (by rw [State.charged_mbxEntry, State.leaveS1_teller s _ hr]) p
  have htill : (s.leaveS1 o.code).slots[g.val].till = s.slots[g.val].till := by
    rw [State.leaveS1_slots s _ hr g]
    split
    · exact (s.slots[g.val].afterEvent_frame s.nLow 0x48 0x2 0).1
    · rfl
  rw [State.charged_slots, ← htill]
  split <;> rfl

/-- R81's checks read the Vault alone. -/
theorem State.imageFail_congr {s t : State} (h : t.vault = s.vault) (b : Bool) (i : ImageInfo) :
    t.imageFail b i = s.imageFail b i := by
  have hprog : ∀ r, t.vaultProgrammed r = s.vaultProgrammed r := fun r => by simp only [State.vaultProgrammed, h]
  have hrow : ∀ r, t.vaultRow r = s.vaultRow r := fun r => by simp only [State.vaultRow, h]
  have hfused : t.keyFused = s.keyFused := by simp only [State.keyFused, hprog]
  have hhash : t.keyHash = s.keyHash := by simp only [State.keyHash, hrow]
  have hfloor : t.floor = s.floor := by simp only [State.floor, hrow]
  unfold State.imageFail State.imageTail
  rw [hfused, hhash, hfloor]

/-- Dispatch finds the same image to commit or to swap to. -/
@[simp] theorem State.atDispatch_otherImage (s : State) (o : OpSpec) (a : CmdArgs) :
    (s.atDispatch o a).otherImage = s.otherImage := by
  simp [State.otherImage]

/-! ### FW_STAGE, FW_COMMIT and FW_SWAP (R190, R474, R477) -/

/-- FW_STAGE, while no swap runs: the pieces join those staged (R190). -/
theorem fwStage_joins {a : CmdArgs} {s : State} (hno : s.anyEntry (fun e => e.wait == .swap) = false)
    (h : s.takes opFwStage a = true) :
    let new := if a.caller = .mbx then [(a.arg0.toNat, a.params)] else pieces4k 17 a.arg0.toNat a.params
    (issue opFwStage a s).answered opFwStage a .ok 0 [] ∧
    ({ s.leaveS1 0xD0 with fw := { s.fw with
      pieces := new.foldl (fun p x => stagePiece (a.caller == .mbx) x.1 x.2 p) s.fw.pieces
      staged := true, committed := false } } : State).SameButAnswer (issue opFwStage a s) a.caller [] := by
  intro new
  obtain ⟨m, hm⟩ := s.atDispatch_charged opFwStage a (takes_running h)
  have hnew : (if (a.caller == .mbx) = true then [(a.arg0.toNat, a.params)] else pieces4k 17 a.arg0.toNat a.params) = new := by
    simp [new]
  refine issue_completes (m := m) h ?_ (State.fits_of_till (takes_fits h) fun _ => ⟨rfl, rfl, rfl⟩)
  show fwStageBody (s.atDispatch opFwStage a) a = _
  unfold fwStageBody
  rw [if_neg (by rw [takes_anyEntry h, hno]; exact Bool.false_ne_true)]
  dsimp only
  rw [hnew, State.atDispatch_fw, hm]
  exact congrArg Res.ok ((s.leaveS1 0xD0).charged_comm a m (fun u => { u with fw := { s.fw with
      pieces := new.foldl (fun p x => stagePiece (a.caller == .mbx) x.1 x.2 p) s.fw.pieces
      staged := true, committed := false } }) (fun _ _ => rfl) fun _ => rfl)

/-- FW_COMMIT with nothing staged, while no swap runs (R190). -/
theorem fwCommit_unstaged {a : CmdArgs} {s : State} (hno : s.anyEntry (fun e => e.wait == .swap) = false)
    (h : s.takes opFwCommit a = true) (hst : s.fw.staged = false) :
    (issue opFwCommit a s).answered opFwCommit a .eNotReady 0 [] ∧
    (s.leaveS1 0xD1).SameButAnswer (issue opFwCommit a s) a.caller [] := by
  obtain ⟨m, hm⟩ := s.atDispatch_charged opFwCommit a (takes_running h)
  refine issue_completes (m := m) h ?_ (takes_fits h)
  show fwCommitBody (s.atDispatch opFwCommit a) a = _
  unfold fwCommitBody
  rw [if_neg (by rw [takes_anyEntry h, hno]; exact Bool.false_ne_true), if_pos (by simp [hst]), hm]
  rfl

/-- Putting an image into a slot of Flash goes past the charge. -/
theorem State.setImage_charged (u : State) (a : CmdArgs) (m : Vector Word 68) (slot : Bool) (i : ImageInfo) :
    (u.charged a m).setImage slot i = (u.setImage slot i).charged a m :=
  u.charged_comm a m (·.setImage slot i) (fun _ _ => rfl) fun _ => rfl

/-- FW_COMMIT of what is staged, while no swap runs: the image stands in the other slot, and is committed where it passes R81's
checks (R190, R474). -/
theorem fwCommit_staged {a : CmdArgs} {s : State} (hno : s.anyEntry (fun e => e.wait == .swap) = false)
    (h : s.takes opFwCommit a = true) (hst : s.fw.staged = true) :
    let i := Config.stagedImage s.fw.pieces
    let c := s.imageFail s.fw.sfdpOk i
    let u := (s.leaveS1 0xD1).setImage s.targetSlot i
    (c = 0 → (issue opFwCommit a s).answered opFwCommit a .ok 0 [] ∧
      ({ u with fw := { u.fw with staged := false, committed := true } } : State).SameButAnswer (issue opFwCommit a s)
        a.caller []) ∧
    (c ≠ 0 → (issue opFwCommit a s).answered opFwCommit a .eData (toWord c) [] ∧
      u.SameButAnswer (issue opFwCommit a s) a.caller []) := by
  intro i c u
  obtain ⟨m, hm⟩ := s.atDispatch_charged opFwCommit a (takes_running h)
  have hbody : opFwCommit.body (s.atDispatch opFwCommit a) a =
      if c ≠ 0 then .done .eData (toWord c) [] (u.charged a m)
      else .ok { u.charged a m with fw := { u.fw with staged := false, committed := true } } := by
    have hfail : (s.atDispatch opFwCommit a).imageFail s.fw.sfdpOk i = c := State.imageFail_congr (by simp) _ _
    have hslot : (s.atDispatch opFwCommit a).targetSlot = s.targetSlot := by simp [State.targetSlot]
    have hset : (s.atDispatch opFwCommit a).setImage s.targetSlot i = u.charged a m := by
      rw [hm]; exact State.setImage_charged _ a m _ i
    show fwCommitBody (s.atDispatch opFwCommit a) a = _
    unfold fwCommitBody
    rw [if_neg (by rw [takes_anyEntry h, hno]; exact Bool.false_ne_true), if_neg (by simp [hst])]
    dsimp only
    rw [State.atDispatch_fw, hfail, hslot, hset, State.charged_fw]
  have hfits : u.fits a := State.fits_of_till (takes_fits h) fun _ => ⟨rfl, rfl, rfl⟩
  refine ⟨fun hc => ?_, fun hc => ?_⟩
  · rw [if_neg (not_not.mpr hc)] at hbody
    refine issue_completes (m := m) h (hbody.trans (congrArg Res.ok ?_)) (State.fits_of_till hfits fun _ => ⟨rfl, rfl, rfl⟩)
    exact u.charged_comm a m (fun v => { v with fw := { u.fw with staged := false, committed := true } }) (fun _ _ => rfl)
      fun _ => rfl
  · rw [if_pos hc] at hbody
    exact issue_completes h hbody hfits

/-- FW_SWAP without a committed image, while no swap runs (R477). -/
theorem fwSwap_uncommitted {a : CmdArgs} {s : State} (hno : s.anyEntry (fun e => e.wait == .swap) = false)
    (h : s.takes opFwSwap a = true) (hc : s.fw.committed = false) :
    (issue opFwSwap a s).answered opFwSwap a .eNotReady 0 [] ∧
    (s.leaveS1 0xD2).SameButAnswer (issue opFwSwap a s) a.caller [] := by
  obtain ⟨m, hm⟩ := s.atDispatch_charged opFwSwap a (takes_running h)
  refine issue_completes (m := m) h ?_ (takes_fits h)
  show fwSwapBody (s.atDispatch opFwSwap a) a = _
  unfold fwSwapBody
  rw [if_neg (by rw [takes_anyEntry h, hno]; exact Bool.false_ne_true)]
  split
  · rw [if_neg (by simp [hc]), hm]; rfl
  · rw [hm]; rfl

/-- A command kept waiting leaves Teller's run. -/
@[simp] theorem State.keepEntry_run (s : State) (c : Caller) (pos : Nat) (e : TillEntry) :
    (s.keepEntry c pos e).teller.run = s.teller.run := by
  unfold State.keepEntry; split <;> rfl

/-- A command kept in its place is in flight. -/
theorem State.keepEntry_inFlight (s u : State) (o : OpSpec) (a : CmdArgs) (pos : Nat) (p : CmdPoint) (w : Wait) :
    (u.keepEntry a.caller pos { o.entryOf a s with point := p, wait := w }).inFlight o a p w := by
  rcases hc : a.caller with g | _
  · simp only [State.inFlight, hc, State.keepEntry, State.modSlot_slots, vmod_same]
    exact ⟨_, List.mem_append_right _ List.mem_cons_self, rfl, rfl, rfl, rfl⟩
  · simp only [State.inFlight, hc, State.keepEntry, State.modTeller_teller]
    exact ⟨_, rfl, rfl, rfl, rfl, rfl⟩

/-- FW_SWAP to a committed image whose tables fit, while no swap runs: the hold begins and the command waits (R473, R477). -/
theorem fwSwap_starts {a : CmdArgs} {s : State} {i : ImageInfo} (hno : s.anyEntry (fun e => e.wait == .swap) = false)
    (h : s.takes opFwSwap a = true) (hc : s.fw.committed = true) (hi : s.otherImage = some i) (hf : s.formatOk i = true) :
    issue opFwSwap a s = ((s.atDispatch opFwSwap a).modTeller fun t => { t with run := .swapping }).keepEntry a.caller
      (s.tillPos a.caller) { opFwSwap.entryOf a s with point := .effected, wait := .swap } := by
  have hbody : opFwSwap.body (s.atDispatch opFwSwap a) a =
      .wait .effected .swap ((s.atDispatch opFwSwap a).modTeller fun t => { t with run := .swapping }) := by
    show fwSwapBody (s.atDispatch opFwSwap a) a = _
    unfold fwSwapBody
    rw [if_neg (by rw [takes_anyEntry h, hno]; exact Bool.false_ne_true), State.atDispatch_otherImage, hi]
    dsimp only
    rw [if_pos]
    simpa [State.formatOk, hc] using hf
  rw [issue_takes _ _ _ h, hbody]
  rfl

/-- FW_STAGE, FW_COMMIT and FW_SWAP while a swap runs: EBUSY at once, and nothing else (R473). -/
theorem enter_swapping {o : OpSpec} {a : CmdArgs} {s : State} {h : SlotId} (hrun : s.teller.run = .swapping)
    (hc : a.caller = .slot h) (hpath : s.pathOpen h = true) (hroom : s.slots[h.val].room a.params.length = true)
    (htag : a.tag.toNat ≤ 511) (hfree : s.slots[h.val].tagInFlight a.tag = false)
    (hbar : s.swapBars (BitVec.ofNat 8 o.code) = true) (hsyn : syntaxCheck (some o) a = none) :
    (issue o a s).answered o a .eBusy 0 [] ∧ s.SameButAnswer (issue o a s) a.caller [] := by
  have hfits : s.fits a := by
    intro g hg
    obtain rfl : h = g := by rw [hc] at hg; exact Caller.slot.inj hg
    refine ⟨hroom, fun e he => ?_⟩
    simp only [Slot.tagInFlight, Bool.or_eq_false_iff, List.any_eq_false] at hfree
    simpa using hfree.1 e he
  have hissue : issue o a s = (s.charged a s.teller.mbxCmd).finish a.caller (o.entryOf a s) .eBusy 0 [] := by
    have hnt : ¬ (a.tag.toNat > 511 ∨ s.slots[h.val].tagInFlight a.tag = true) := by
      rw [hfree]; simp; omega
    rw [State.charged_of_slot s _ hc]
    simp only [issue, hc, hpath, hroom, Bool.and_true, if_true, State.enter, if_neg hnt, State.modSlot_teller, hrun, hsyn,
      reduceCtorEq, if_false]
    exact if_pos hbar
  rw [hissue]
  exact ⟨finish_answered o a s _ _ _ _, State.finish_charged hfits o s _ _ _ _⟩

end Sys2Proof.Machine
end

section
/-! SUPPORT. Ending every command that meets a condition: slot by slot, each Till loses those commands and each is completed (R164). -/
namespace Sys2Proof.Machine

/-! ### Ending every command that meets a condition -/

/-- What a completion makes of its slot: the command leaves the Till, and its record is posted (R164). -/
def Slot.complete (x : Slot) (e : TillEntry) (st : Status) (r0 : Word) (d : List Byte) : Slot :=
  ({ x with till := x.till.filter fun y => y.args.tag != e.args.tag }).addCompletion (e.completion st r0 d) (notifyOf e.args)

/-- What ending the commands that meet a condition makes of a slot. -/
def Slot.endWith (x : Slot) (p : TillEntry → Bool) (st : Status) (r0 : Word) : Slot :=
  (x.till.filter p).foldl (fun x e => x.complete e st r0 []) x

/-- Completing commands of one slot changes that slot alone. -/
theorem foldl_finishSlot (l : List TillEntry) (s : State) (h : SlotId) (st : Status) (r0 : Word) :
    l.foldl (fun s e => s.finishSlot h e st r0 []) s =
      s.modSlot h fun x => l.foldl (fun x e => x.complete e st r0 []) x := by
  induction l generalizing s with
  | nil => exact (congrArg (fun v => { s with slots := v }) (vmod_id s.slots h (fun x => x) rfl)).symm
  | cons e l ih =>
    rw [List.foldl_cons, ih]
    exact congrArg (fun v => { s with slots := v }) (vmod_vmod s.slots h (fun x => x.complete e st r0 [])
      fun x => l.foldl (fun x e => x.complete e st r0 []) x)

/-- A change made slot by slot changes each slot of the list once. -/
theorem foldl_modSlot_slots (f : Slot → Slot) {l : List SlotId} (hl : l.Nodup) (s : State) (g : SlotId) :
    (l.foldl (fun s h => s.modSlot h f) s).slots[g.val] = if g ∈ l then f s.slots[g.val] else s.slots[g.val] := by
  induction l generalizing s with
  | nil => rfl
  | cons h l ih =>
    obtain ⟨hh, hnd⟩ := List.nodup_cons.mp hl
    rw [List.foldl_cons, ih hnd, State.modSlot_slots, vmod_get]
    by_cases hg : h = g
    · subst hg
      simp [hh]
    · rw [if_neg fun q => hg (Fin.ext q)]
      simp [Ne.symm hg]

/-- Ending commands changes each slot by its own Till. -/
theorem State.endWith_slots (s : State) (p : TillEntry → Bool) (st : Status) (r0 : Word) (g : SlotId) :
    (s.endWith p st r0).slots[g.val] = s.slots[g.val].endWith p st r0 := by
  have hstep : (fun (t : State) (h : SlotId) => (t.slots[h.val].till.filter p).foldl (fun s e => s.finishSlot h e st r0 []) t) =
      fun t h => t.modSlot h fun x => x.endWith p st r0 := by
    funext t h
    rw [foldl_finishSlot]
    rfl
  have hall := foldl_modSlot_slots (fun x => x.endWith p st r0) (List.nodup_finRange 4) s g
  rw [if_pos (List.mem_finRange g)] at hall
  unfold State.endWith
  rw [hstep]
  rw [← hall]
  dsimp only
  split
  · split <;> rfl
  · rfl

/-- Ending commands without undoing them leaves the ports. -/
theorem State.endWith_ports (s : State) (p : TillEntry → Bool) (st : Status) (r0 : Word) : (s.endWith p st r0).ports = s.ports := by
  have hslots : (allSlots.foldl (fun (t : State) (h : SlotId) =>
      (t.slots[h.val].till.filter p).foldl (fun s e => s.finishSlot h e st r0 []) t) s).ports = s.ports := by
    apply foldl_keeps (·.ports)
    intro t h
    apply foldl_keeps (·.ports)
    exact fun _ _ => rfl
  unfold State.endWith
  generalize allSlots.foldl (fun (t : State) (h : SlotId) =>
    (t.slots[h.val].till.filter p).foldl (fun s e => s.finishSlot h e st r0 []) t) s = t at hslots ⊢
  dsimp only
  split
  · split
    · exact hslots
    · exact hslots
  · exact hslots

/-- Ending commands changes Teller in the mailbox alone. -/
theorem State.endWith_teller (s : State) (p : TillEntry → Bool) (st : Status) (r0 : Word) :
    (s.endWith p st r0).teller = match s.teller.mbxEntry with
      | some e => if p e then (s.finishMbx e st r0 []).teller else s.teller
      | none => s.teller := by
  have hslots : (allSlots.foldl (fun (t : State) (h : SlotId) =>
      (t.slots[h.val].till.filter p).foldl (fun s e => s.finishSlot h e st r0 []) t) s).teller = s.teller := by
    apply foldl_keeps (·.teller)
    intro t h
    apply foldl_keeps (·.teller)
    exact fun _ _ => rfl
  unfold State.endWith
  generalize allSlots.foldl (fun (t : State) (h : SlotId) =>
    (t.slots[h.val].till.filter p).foldl (fun s e => s.finishSlot h e st r0 []) t) s = t at hslots ⊢
  dsimp only
  rw [hslots]
  cases s.teller.mbxEntry with
  | none => exact hslots
  | some e =>
    dsimp only
    split
    · simp only [State.finishMbx, State.modTeller_teller, hslots]
    · exact hslots

/-- The mailbox's command ends where it meets the condition. -/
theorem State.endWith_mbxEntry (s : State) (p : TillEntry → Bool) (st : Status) (r0 : Word) :
    (s.endWith p st r0).teller.mbxEntry = s.teller.mbxEntry.filter fun e => !p e := by
  rw [State.endWith_teller]
  cases hm : s.teller.mbxEntry with
  | none => exact hm
  | some e =>
    cases hp : p e
    · simp [hp, hm, Option.filter]
    · simp [hp, Option.filter, State.finishMbx]

/-- Ending commands leaves when the firmware last failed. -/
@[simp] theorem State.endWith_lastFault (s : State) (p : TillEntry → Bool) (st : Status) (r0 : Word) :
    (s.endWith p st r0).teller.lastFault = s.teller.lastFault := by
  rw [State.endWith_teller]
  split
  · split <;> rfl
  · rfl

/-- The completed commands have left the Till, by their tags. -/
theorem mem_till_complete (l : List TillEntry) (x : Slot) (st : Status) (r0 : Word) (y : TillEntry) :
    y ∈ (l.foldl (fun x e => x.complete e st r0 []) x).till ↔ y ∈ x.till ∧ ∀ e ∈ l, y.args.tag ≠ e.args.tag := by
  induction l generalizing x with
  | nil => simp
  | cons e l ih =>
    rw [List.foldl_cons, ih, Slot.complete, Slot.addCompletion_till]
    simp [and_assoc]

/-- A completion loses no record of its slot. -/
theorem Slot.complete_records (x : Slot) (e : TillEntry) (st : Status) (r0 : Word) (d : List Byte) :
    x.records ⊆ (x.complete e st r0 d).records := by
  intro r hr
  unfold Slot.complete
  rw [Slot.addCompletion_records]
  split
  · exact List.mem_append_left _ hr
  · cases hv : isEvent r <;> simp [hr, hv]

/-- Completions lose no record of their slot. -/
theorem records_subset_complete (l : List TillEntry) (x : Slot) (st : Status) (r0 : Word) :
    x.records ⊆ (l.foldl (fun x e => x.complete e st r0 []) x).records := by
  induction l generalizing x with
  | nil => exact List.Subset.refl _
  | cons e l ih =>
    exact List.Subset.trans (x.complete_records e st r0 []) (ih _)

/-- Every completed command has its record. -/
theorem completion_mem_complete {l : List TillEntry} {e : TillEntry} (h : e ∈ l) (x : Slot) (st : Status) (r0 : Word) :
    Record.completion (e.completion st r0 []) ∈ (l.foldl (fun x e => x.complete e st r0 []) x).records := by
  induction l generalizing x with
  | nil => exact absurd h List.not_mem_nil
  | cons f l ih =>
    rw [List.foldl_cons]
    rcases List.mem_cons.mp h with rfl | h
    · exact records_subset_complete l _ st r0 (Slot.mem_addCompletion _ _ _)
    · exact ih h _

/-- The commands that stay are those of the Till that do not meet the condition. -/
theorem Slot.mem_endWith_till {x : Slot} {p : TillEntry → Bool} {st : Status} {r0 : Word} {y : TillEntry}
    (h : y ∈ (x.endWith p st r0).till) : y ∈ x.till ∧ p y = false := by
  obtain ⟨hy, htag⟩ := (mem_till_complete _ x st r0 y).mp h
  refine ⟨hy, Bool.eq_false_iff.mpr fun hp => ?_⟩
  exact htag y (List.mem_filter.mpr ⟨hy, hp⟩) rfl

/-- Each command that meets the condition is completed. -/
theorem Slot.completion_mem_endWith {x : Slot} {p : TillEntry → Bool} {e : TillEntry} (he : e ∈ x.till) (hp : p e = true)
    (st : Status) (r0 : Word) : Record.completion (e.completion st r0 []) ∈ (x.endWith p st r0).records :=
  completion_mem_complete (List.mem_filter.mpr ⟨he, hp⟩) x st r0

/-- No command that meets the condition is left. -/
theorem State.endWith_anyEntry (s : State) (p : TillEntry → Bool) (st : Status) (r0 : Word) :
    (s.endWith p st r0).anyEntry p = false := by
  have hslots : (allSlots.any fun h => (s.endWith p st r0).slots[h.val].till.any p) = false := by
    rw [List.any_eq_false]
    intro h _
    rw [Bool.not_eq_true, List.any_eq_false]
    intro e he
    rw [State.endWith_slots] at he
    simp [(Slot.mem_endWith_till he).2]
  have hmbx : (((s.endWith p st r0).teller.mbxEntry).map p).getD false = false := by
    rw [State.endWith_mbxEntry]
    cases s.teller.mbxEntry with
    | none => rfl
    | some e => cases hp : p e <;> simp [hp, Option.filter]
  unfold State.anyEntry
  rw [hslots, hmbx]
  rfl

end Sys2Proof.Machine
end

section
/-! SUPPORT. Aborting and restarting Teller (R94, R469, R470), and the end of a swap (R475, R476). -/
namespace Sys2Proof.Machine

/-! ### Aborting and restarting Teller (R94, R469, R470) -/

/-- What undoing commands that were not yet effected leaves as it was: all but Escrow's ports, their PD and the orders. -/
structure State.Undone (s t : State) : Prop where
  glb : t.glb = s.glb
  fw : t.fw = s.fw
  teller : t.teller = s.teller
  slots : t.slots = s.slots
  tally : t.tally = s.tally
  mint : t.mint = s.mint
  clr : t.clr = s.clr
  ldg : t.ldg = s.ldg
  vault : t.vault = s.vault

/-- Nothing undone. -/
theorem State.Undone.refl (s : State) : s.Undone s := ⟨rfl, rfl, rfl, rfl, rfl, rfl, rfl, rfl, rfl⟩

/-- One after the other. -/
theorem State.Undone.trans {s t u : State} (h : s.Undone t) (k : t.Undone u) : s.Undone u :=
  ⟨k.glb.trans h.glb, k.fw.trans h.fw, k.teller.trans h.teller, k.slots.trans h.slots, k.tally.trans h.tally,
    k.mint.trans h.mint, k.clr.trans h.clr, k.ldg.trans h.ldg, k.vault.trans h.vault⟩

/-- A change of one port's power half. -/
theorem State.modPwr_undone (s : State) (k : PortId) (f : Pwr → Pwr) : s.Undone (s.modPwr k f) :=
  ⟨rfl, rfl, rfl, rfl, rfl, rfl, rfl, rfl, rfl⟩

/-- A change of one port's PD. -/
theorem State.modPd_undone (s : State) (k : PortId) (f : Pd → Pd) : s.Undone (s.modPd k f) :=
  ⟨rfl, rfl, rfl, rfl, rfl, rfl, rfl, rfl, rfl⟩

/-- A change of one order. -/
theorem State.modOrder_undone (s : State) (n : OrderId) (f : Order → Order) : s.Undone (s.modOrder n f) :=
  ⟨rfl, rfl, rfl, rfl, rfl, rfl, rfl, rfl, rfl⟩

/-- A VCONN charge given back. -/
theorem State.releaseVconn_undone (s : State) (k : PortId) : s.Undone (s.releaseVconn k) := by
  unfold State.releaseVconn
  extract_lets t
  have ht : s.Undone t := s.modPd_undone k _
  split
  · exact ht
  · refine ht.trans ?_
    unfold State.returnVconn
    split
    · exact t.modPwr_undone k _
    · exact .refl t

/-- A message taken back from PD. -/
theorem State.unsend_undone (s : State) (k : PortId) (x : PdTx) : s.Undone (s.unsend k x) := by
  unfold State.unsend
  split
  · exact (s.modPwr_undone k _).trans (State.modPd_undone _ k _)
  · split
    · exact s.releaseVconn_undone k
    · exact .refl s

/-- A command that is not yet effected is undone in the part that it waits for. -/
theorem State.undo_undone (s : State) (e : TillEntry) : s.Undone (s.undo e) := by
  unfold State.undo
  split
  · exact .refl s
  · split
    · exact s.modPwr_undone _ _
    · exact s.modPwr_undone _ _
    · exact s.modPwr_undone _ _
    · unfold State.dropHeld
      split
      · exact (s.modPd_undone _ _).trans (State.unsend_undone _ _ _)
      · exact .refl s
    · exact s.modOrder_undone _ _
    · exact .refl s

/-- What aborting every command in flight leaves as it was (R469). -/
structure State.Aborted (s t : State) : Prop where
  glb : t.glb = s.glb
  fw : t.fw = s.fw
  tally : t.tally = s.tally
  mint : t.mint = s.mint
  clr : t.clr = s.clr
  ldg : t.ldg = s.ldg
  vault : t.vault = s.vault
  lastFault : t.teller.lastFault = s.teller.lastFault
  slots : ∀ h : SlotId, t.slots[h.val] = s.slots[h.val].endWith (fun _ => true) .eAborted 0

/-- Every command in flight is undone and ends EABORTED (R469). -/
theorem State.abortAll_aborted (s : State) : s.Aborted s.abortAll := by
  unfold State.abortAll
  extract_lets l
  have hu : s.Undone (l.foldl State.undo s) :=
    foldl_inv (fun t => s.Undone t) _ (fun t e h => h.trans (t.undo_undone e)) l s (.refl s)
  generalize l.foldl State.undo s = u at hu
  have ha := u.endWith_answering (fun _ => true) .eAborted 0
  exact {
    glb := ha.glb.trans hu.glb, fw := ha.fw.trans hu.fw, tally := ha.tally.trans hu.tally, mint := ha.mint.trans hu.mint
    clr := ha.clr.trans hu.clr, ldg := ha.ldg.trans hu.ldg, vault := ha.vault.trans hu.vault
    lastFault := by rw [State.endWith_lastFault, hu.teller]
    slots := fun h => by rw [State.endWith_slots, hu.slots] }

/-- No Till holds a command then. -/
theorem State.Aborted.till {s t : State} (h : s.Aborted t) (g : SlotId) : t.slots[g.val].till = [] := by
  rw [h.slots g, List.eq_nil_iff_forall_not_mem]
  intro e he
  simpa using (Slot.mem_endWith_till he).2

/-- Each command of a Till has its completion, EABORTED. -/
theorem State.Aborted.completion {s t : State} (h : s.Aborted t) {g : SlotId} {e : TillEntry} (he : e ∈ s.slots[g.val].till) :
    Record.completion (e.completion .eAborted 0 []) ∈ t.slots[g.val].records := by
  rw [h.slots g]
  exact Slot.completion_mem_endWith he rfl .eAborted 0

/-- Teller held back by a restart, before its faults are counted (R94, R469). -/
def State.restarted (s : State) : State :=
  (((s.abortAll.rearmKeys).modGlb fun g => { g with fFirmware := true }).modTeller fun t => { t with
    run := .restarting
    restarts := (s.teller.restarts.filter fun x => decide (s.glb.clock < x + 80000)) ++ [s.glb.clock] })

/-- TELLER_WATCHDOG_EXPIRY of a running Teller: a restart, and at the third within 10 s a firmware fault (R469, R470). -/
theorem exec_tellerWatchdogExpiry {s : State} (hrun : s.teller.run = .running) (hhub : s.hubSide = true) :
    exec .tellerWatchdogExpiry s = .next
      (if 2 ≤ (s.teller.restarts.filter fun x => decide (s.glb.clock < x + 80000)).length then s.restarted.firmwareFault
        else s.restarted) := by
  show execTellerWatchdogExpiry s = _
  unfold execTellerWatchdogExpiry
  rw [if_neg (by rw [hrun]; exact nofun), if_pos ⟨hrun, hhub⟩]
  rfl

/-- The keys are armed again, for every source (R94). -/
theorem State.restarted_locked (s : State) (p : Path) : s.restarted.unlockedBy p = false := by
  unfold State.unlockedBy
  split
  · simp [State.restarted, State.rearmKeys]
  · rfl

/-- A restart empties every Till, each command with its completion (R94, R469). -/
theorem State.restarted_till (s : State) (h : SlotId) : s.restarted.slots[h.val].till = [] ∧
    ∀ e ∈ s.slots[h.val].till, Record.completion (e.completion .eAborted 0 []) ∈ s.restarted.slots[h.val].records := by
  have ha := s.abortAll_aborted
  unfold State.restarted State.rearmKeys
  generalize s.abortAll = u at ha ⊢
  simp only [State.modTeller_slots, State.modGlb_slots, Vector.getElem_map]
  exact ⟨ha.till h, fun e he => ha.completion he⟩

/-- Posting what was held leaves Teller with nothing held, and its run. -/
theorem State.postHeld_teller (s : State) : s.postHeld.teller = { s.teller with heldEvents := [] } := by
  unfold State.postHeld
  dsimp only
  apply foldl_keeps (·.teller) (fun (t : State) (x : SlotId × Event) => t.modSlot x.1 fun y => y.queueEvent x.2)
  exact fun _ _ => rfl

/-- Posting what was held leaves the Tills. -/
theorem State.postHeld_till (s : State) (h : SlotId) : s.postHeld.slots[h.val].till = s.slots[h.val].till := by
  rw [s.postHeld_evented.slots h]

/-- A halted Teller has aborted what was in flight (R470). -/
theorem State.haltTeller_spec (s : State) :
    s.haltTeller.teller.run = .halted ∧ s.haltTeller.glb = s.glb ∧ (∀ h : SlotId, s.haltTeller.slots[h.val].till = []) ∧
    s.haltTeller.mint = s.mint ∧ s.haltTeller.clr = s.clr := by
  have ha := s.abortAll_aborted
  unfold State.haltTeller
  generalize s.abortAll = u at ha
  have he := (u.modTeller fun t => { t with run := .halted }).postHeld_evented
  refine ⟨by rw [he.teller]; rfl, he.glb.trans ha.glb, fun h => ?_, he.mint.trans ha.mint, he.clr.trans ha.clr⟩
  rw [State.postHeld_till]
  exact ha.till h

/-- A firmware fault with no other image halts Teller (R470). -/
theorem State.firmwareFault_halts {s : State} (ho : s.otherImage = none) :
    s.firmwareFault = ((s.modGlb fun g => { g with fFirmware := true }).modTeller fun t =>
      { t with lastFault := some s.glb.clock }).haltTeller := by
  unfold State.firmwareFault
  extract_lets now again a b
  have hb : b.otherImage = none := ho
  rw [hb]

/-- A first firmware fault with another image that passes R81's checks starts the swap to it (R470). -/
theorem State.firmwareFault_swaps {s : State} {i : ImageInfo} (ho : s.otherImage = some i)
    (hi : s.imageFail s.fw.sfdpOk i = 0) (hl : s.teller.lastFault = none) :
    s.firmwareFault = ((s.modGlb fun g => { g with fFirmware := true }).modTeller fun t =>
      { t with lastFault := some s.glb.clock }).modTeller fun t => { t with run := .swapping } := by
  unfold State.firmwareFault
  extract_lets now again a b
  have hb : b.otherImage = some i := ho
  have hc : b.imageFail b.fw.sfdpOk i = 0 := hi
  have hagain : again = false := by simp [again, hl]
  rw [hb]
  exact if_pos (by simp [hagain, hc])

/-- A restart leaves which image is the other one, and its checks. -/
theorem State.restarted_images (s : State) :
    s.restarted.otherImage = s.otherImage ∧ s.restarted.fw = s.fw ∧ s.restarted.vault = s.vault ∧
    s.restarted.teller.lastFault = s.teller.lastFault ∧ s.restarted.glb.clock = s.glb.clock := by
  have ha := s.abortAll_aborted
  unfold State.restarted State.rearmKeys
  generalize s.abortAll = u at ha ⊢
  refine ⟨?_, ha.fw, ha.vault, ha.lastFault, show u.glb.clock = s.glb.clock by rw [ha.glb]⟩
  show u.otherImage = s.otherImage
  simp only [State.otherImage, ha.fw, ha.glb]

/-- A restart counts itself, sets GLB_FAULT.FIRMWARE, and leaves Mint, Clearance, Tally and the Ledger (R94, R469). -/
theorem State.restarted_blocks (s : State) :
    s.restarted.teller.run = .restarting ∧ s.restarted.glb.fFirmware = true ∧
    s.restarted.teller.restarts = (s.teller.restarts.filter fun x => decide (s.glb.clock < x + 80000)) ++ [s.glb.clock] ∧
    s.restarted.mint = s.mint ∧ s.restarted.clr = s.clr ∧ s.restarted.tally = s.tally ∧ s.restarted.ldg = s.ldg := by
  have ha := s.abortAll_aborted
  unfold State.restarted State.rearmKeys
  generalize s.abortAll = u at ha ⊢
  exact ⟨rfl, rfl, rfl, ha.mint, ha.clr, ha.tally, ha.ldg⟩

/-- TELLER_RESTART_END with no failing line in the code: Teller runs, and what was held is posted (R469). -/
theorem exec_tellerRestartEnd {s : State} (hrun : s.teller.run = .restarting) (hchk : ∀ c ∈ s.ldg.chk, s.ldg.payloadLines ≤ c.1) :
    exec .tellerRestartEnd s = .next (s.modTeller fun t => { t with run := .running }).postHeld := by
  have hfetch : s.refetchCode = (false, s) := by
    have hnone : (s.ldg.chk.map (·.1)).filter (fun l => decide (l < s.ldg.payloadLines)) = [] := by
      simp only [List.filter_eq_nil_iff, List.mem_map, decide_eq_true_eq, not_lt]
      rintro l ⟨c, hc, rfl⟩
      exact hchk c hc
    unfold State.refetchCode
    rw [hnone]
    rfl
  show execTellerRestartEnd s = _
  unfold execTellerRestartEnd
  rw [if_pos hrun, hfetch]
  rfl

/-! ### The end of a swap (R475, R476) -/

/-- The event of a swap's end leaves all but what events leave. -/
theorem State.fwSwapped_evented (s : State) : s.Evented s.fwSwapped :=
  s.postHeld_evented.trans (State.everySlotEvent_evented _ _ _ _)

/-- The end of a swap completes the FW_SWAP that waited for it, and leaves every other block and Teller's run (R475, R476). -/
theorem State.swapEnded_spec (u : State) (st : Status) :
    let t := u.fwSwapped.endWith (fun e => e.wait == .swap) st 0
    t.glb = u.glb ∧ t.fw = u.fw ∧ t.teller.run = u.teller.run ∧ t.anyEntry (fun e => e.wait == .swap) = false ∧
    (∀ h : SlotId, ∀ e ∈ u.slots[h.val].till, e.wait = .swap →
      Record.completion (e.completion st 0 []) ∈ t.slots[h.val].records) ∧
    t.ports = u.ports ∧ t.pwr = u.pwr ∧ t.orders = u.orders ∧ t.mint = u.mint ∧ t.clr = u.clr ∧ t.tally = u.tally := by
  have he := u.fwSwapped_evented
  generalize u.fwSwapped = v at he
  have ha := v.endWith_answering (fun e => e.wait == .swap) st 0
  refine ⟨ha.glb.trans he.glb, ha.fw.trans he.fw, ?_, v.endWith_anyEntry _ _ _, fun h e hmem hw => ?_,
    (v.endWith_ports _ _ _).trans he.ports, ha.pwr.trans he.pwr, ha.orders.trans he.orders, ha.mint.trans he.mint,
    ha.clr.trans he.clr, ha.tally.trans he.tally⟩
  · exact (v.endWith_run _ _ _).trans (by rw [he.teller])
  · have hmem' : e ∈ v.slots[h.val].till := by rw [he.slots h]; exact hmem
    rw [State.endWith_slots]
    exact Slot.completion_mem_endWith hmem' (by simp [hw]) st 0

/-- The state at the end of a swap, before what was held is posted: the new image is in force and Teller runs (R475). -/
def State.swappedTo (s : State) (i : ImageInfo) : State :=
  let new := !s.glb.image
  let s := (s.setImage new i).modGlb fun g => { g with image := new }
  let s : State := { s with fw := { s.fw with
    version := i.version, format := i.tableFormat, pieces := [], staged := false, committed := false } }
  (s.modLdg fun g => g.loadPayload new i.length i.payload).modTeller fun t => { t with run := .running }

/-- The state that a rollback leaves, before what was held is posted: Teller runs, nothing is committed (R476). -/
def State.rolledBack (s : State) : State :=
  let s := (s.modTeller fun t => { t with run := .running }).modGlb fun g => { g with fFirmware := true }
  { s with fw := { s.fw with committed := false } }

/-- SWAP_READY of a swap to another image (R475). -/
theorem exec_swapReady {s : State} {i : ImageInfo} (hrun : s.teller.run = .swapping) (hi : s.otherImage = some i) :
    exec .swapReady s = .next ((s.swappedTo i).fwSwapped.endWith (fun e => e.wait == .swap) .ok 0) := by
  show execSwapReady s = _
  unfold execSwapReady
  rw [if_pos hrun, hi]
  rfl

/-- SWAP_ROLLBACK of a swap (R476). -/
theorem exec_swapRollback {s : State} (hrun : s.teller.run = .swapping) :
    exec .swapRollback s = .next (s.rolledBack.fwSwapped.endWith (fun e => e.wait == .swap) .eNotReady 0) :=
  congrArg Host.Outcome.next (if_pos hrun)

/-! ### The obligation's clauses -/

/-- SWAP_READY: the new image is in force, and the waiting FW_SWAP completes OK (R475). -/
theorem swapReady_completes {s : State} {i : ImageInfo} (hrun : s.teller.run = .swapping) (hi : s.otherImage = some i) :
    ∃ t, exec .swapReady s = .next t ∧ t.glb.image = !s.glb.image ∧ t.fw.version = i.version ∧
      t.fw.staged = false ∧ t.fw.committed = false ∧ t.teller.run = .running ∧ t.anyEntry (fun e => e.wait == .swap) = false ∧
      (∀ h : SlotId, ∀ e ∈ s.slots[h.val].till, e.wait = .swap →
        Record.completion (e.completion .ok 0 []) ∈ t.slots[h.val].records) ∧
      t.ports = s.ports ∧ t.pwr = s.pwr ∧ t.orders = s.orders ∧ t.mint = s.mint ∧ t.clr = s.clr ∧ t.tally = s.tally := by
  obtain ⟨hglb, hfw, hrun', hentry, hdone, hrest⟩ := (s.swappedTo i).swapEnded_spec .ok
  exact ⟨_, exec_swapReady hrun hi, by rw [hglb]; rfl, by rw [hfw]; rfl, by rw [hfw]; rfl, by rw [hfw]; rfl,
    by rw [hrun']; rfl, hentry, hdone, hrest⟩

/-- SWAP_ROLLBACK: the image stays, GLB_FAULT.FIRMWARE is set, and the waiting FW_SWAP completes ENOTREADY (R476). -/
theorem swapRollback_completes {s : State} (hrun : s.teller.run = .swapping) :
    ∃ t, exec .swapRollback s = .next t ∧ t.glb.image = s.glb.image ∧ t.fw.version = s.fw.version ∧ t.glb.fFirmware = true ∧
      t.fw.committed = false ∧ t.teller.run = .running ∧ t.anyEntry (fun e => e.wait == .swap) = false ∧
      (∀ h : SlotId, ∀ e ∈ s.slots[h.val].till, e.wait = .swap →
        Record.completion (e.completion .eNotReady 0 []) ∈ t.slots[h.val].records) ∧
      t.ports = s.ports ∧ t.pwr = s.pwr ∧ t.orders = s.orders ∧ t.mint = s.mint ∧ t.clr = s.clr ∧ t.tally = s.tally := by
  obtain ⟨hglb, hfw, hrun', hentry, hdone, hrest⟩ := s.rolledBack.swapEnded_spec .eNotReady
  exact ⟨_, exec_swapRollback hrun, by rw [hglb]; rfl, by rw [hfw]; rfl, by rw [hglb]; rfl, by rw [hfw]; rfl,
    by rw [hrun']; rfl, hentry, hdone, hrest⟩

/-- TELLER_WATCHDOG_EXPIRY: the restart, the halt at the third within 10 s, or the swap to the other image (R94, R469, R470). -/
theorem tellerWatchdogExpiry_restarts {s : State} (hrun : s.teller.run = .running) (hhub : s.hubSide = true) :
    let recent := s.teller.restarts.filter fun x => decide (s.glb.clock < x + 80000)
    (recent.length < 2 → ∃ t, exec .tellerWatchdogExpiry s = .next t ∧ t.teller.run = .restarting ∧ t.glb.fFirmware = true ∧
      t.teller.restarts = recent ++ [s.glb.clock] ∧ (∀ p : Path, t.unlockedBy p = false) ∧
      (∀ h : SlotId, t.slots[h.val].till = [] ∧ ∀ e ∈ s.slots[h.val].till,
        Record.completion (e.completion .eAborted 0 []) ∈ t.slots[h.val].records) ∧
      t.mint = s.mint ∧ t.clr = s.clr ∧ t.tally = s.tally ∧ t.ldg = s.ldg) ∧
    (2 ≤ recent.length → s.otherImage = none → ∃ t, exec .tellerWatchdogExpiry s = .next t ∧ t.teller.run = .halted ∧
      t.glb.fFirmware = true ∧ (∀ h : SlotId, t.slots[h.val].till = []) ∧ t.mint = s.mint ∧ t.clr = s.clr) ∧
    (∀ i, 2 ≤ recent.length → s.otherImage = some i → s.imageFail s.fw.sfdpOk i = 0 → s.teller.lastFault = none →
      ∃ t, exec .tellerWatchdogExpiry s = .next t ∧ t.teller.run = .swapping ∧ t.glb.fFirmware = true ∧
        t.teller.lastFault = some s.glb.clock ∧ t.mint = s.mint ∧ t.clr = s.clr) := by
  intro recent
  obtain ⟨hother, hfw, hvault, hfault, hclock⟩ := s.restarted_images
  obtain ⟨hrestarting, hset, hcount, hmint, hclr, htally, hldg⟩ := s.restarted_blocks
  have hexec := exec_tellerWatchdogExpiry hrun hhub
  have hlocked := s.restarted_locked
  have htill := s.restarted_till
  generalize s.restarted = r at hrestarting hset hcount hmint hclr htally hldg hother hfw hvault hfault hclock hexec hlocked htill
  refine ⟨fun hlen => ?_, fun hlen ho => ?_, fun i hlen ho hi hl => ?_⟩
  · rw [if_neg (Nat.not_le.mpr hlen)] at hexec
    exact ⟨_, hexec, hrestarting, hset, hcount, hlocked, htill, hmint, hclr, htally, hldg⟩
  · rw [if_pos hlen, State.firmwareFault_halts (hother.trans ho)] at hexec
    obtain ⟨hhalt, hglb, hempty, hm, hc⟩ := State.haltTeller_spec ((r.modGlb fun g =>
      { g with fFirmware := true }).modTeller fun t => { t with lastFault := some r.glb.clock })
    exact ⟨_, hexec, hhalt, by rw [hglb]; rfl, hempty, hm.trans hmint, hc.trans hclr⟩
  · have hi' : r.imageFail r.fw.sfdpOk i = 0 := by rw [hfw, State.imageFail_congr hvault, hi]
    rw [if_pos hlen, State.firmwareFault_swaps (hother.trans ho) hi' (hfault.trans hl)] at hexec
    exact ⟨_, hexec, rfl, rfl, congrArg some hclock, hmint, hclr⟩

/-- Settles O17: each command by its body past the charge of its caller; the end of a swap and a restart by what ending commands
makes of the slots. -/
theorem firmwareIsStagedCommittedAndSwapped : Obligations.FirmwareIsStagedCommittedAndSwapped := by
  unfold Obligations.FirmwareIsStagedCommittedAndSwapped
  refine ⟨fun a s hno => ⟨?stage, ?unstaged, ?commit, ?swap, ?uncommitted⟩, ?barred,
    fun s hrun => ⟨fun i hi => swapReady_completes hrun hi, swapRollback_completes hrun⟩,
    fun s hrun hhub => tellerWatchdogExpiry_restarts hrun hhub, ?restarted⟩
  case stage => exact fun h => ⟨_, rfl, fwStage_joins hno h⟩
  case unstaged => exact fun h hst => ⟨_, rfl, fwCommit_unstaged hno h hst⟩
  case commit =>
    intro h hst i c u
    obtain ⟨hok, hbad⟩ := fwCommit_staged hno h hst
    exact ⟨fun hc => ⟨_, rfl, hok hc⟩, fun hc => ⟨_, rfl, hbad hc⟩⟩
  case swap =>
    intro i h hc hi hf
    have hissue := fwSwap_starts hno h hc hi hf
    refine ⟨_, congrArg Host.Outcome.next hissue, State.keepEntry_inFlight s _ _ _ _ _ _, State.keepEntry_run _ _ _ _, ?_⟩
    simp
  case uncommitted => exact fun h hc => ⟨_, rfl, fwSwap_uncommitted hno h hc⟩
  case barred =>
    intro a h s hrun hc hpath hroom htag hfree
    have hbar : ∀ op : Byte, 0xD0 ≤ op.toNat → op.toNat ≤ 0xD2 → s.swapBars op = true := fun op hlo hhi => by
      simp [State.swapBars, hrun, hlo, hhi]
    exact ⟨fun hsyn => ⟨_, rfl, enter_swapping hrun hc hpath hroom htag hfree (hbar 0xD0 (by decide) (by decide)) hsyn⟩,
      fun hsyn => ⟨_, rfl, enter_swapping hrun hc hpath hroom htag hfree (hbar 0xD1 (by decide) (by decide)) hsyn⟩,
      fun hsyn => ⟨_, rfl, enter_swapping hrun hc hpath hroom htag hfree (hbar 0xD2 (by decide) (by decide)) hsyn⟩⟩
  case restarted =>
    intro s hrun hchk
    refine ⟨_, exec_tellerRestartEnd hrun hchk, ?_, ?_, (State.postHeld_evented _).ldg, fun h => State.postHeld_till _ h⟩
    · rw [State.postHeld_teller]; rfl
    · rw [State.postHeld_teller]

end Sys2Proof.Machine
end

section
/-! SUPPORT. Ending the commands that wait for a condition (R155, R156, R171): a Till loses the commands that meet it, and a slot
changes in what completions leave alone. -/
namespace Sys2Proof.Machine

/-- Noting an ended tag changes ports alone. -/
@[simp] theorem State.noteEnded_slots (s : State) (h : SlotId) (e : TillEntry) (st : Status) :
    (s.noteEnded h e st).slots = s.slots := by
  unfold State.noteEnded
  split
  · dsimp only
    split <;> rfl
  · rfl

/-- Ending the mailbox command leaves the slots. -/
@[simp] theorem State.endMbxTag_slots (s : State) (p : TillEntry → Bool) (st : Status) :
    (s.endMbxTag p st).slots = s.slots := by
  unfold State.endMbxTag
  split
  · split <;> rfl
  · rfl

/-! ### What stays in a Till -/

/-- The list of slots holds every slot. -/
theorem mem_allSlots (g : SlotId) : g ∈ allSlots := List.mem_finRange g

/-- A completion takes no command into a Till, and leaves none with its tag in its own. -/
theorem State.mem_finishSlot_till {s : State} {h g : SlotId} {e x : TillEntry} {st : Status} {r0 : Word} {d : List Byte}
    (hx : x ∈ (s.finishSlot h e st r0 d).slots[g.val].till) :
    x ∈ s.slots[g.val].till ∧ (g = h → x.args.tag ≠ e.args.tag) := by
  rw [State.finishSlot, State.modSlot_slots, vmod_get] at hx
  split at hx
  · rw [Slot.addCompletion_till, List.mem_filter] at hx
    exact ⟨hx.1, fun _ => by simpa using hx.2⟩
  · next hne => exact ⟨hx, fun hg => absurd (congrArg Fin.val hg.symm) hne⟩

/-- Commands completed one by one leave no command with one of their tags. -/
theorem State.mem_foldl_finishSlot_till {h g : SlotId} {st : Status} {x : TillEntry} (l : List TillEntry) (s : State)
    (hx : x ∈ (l.foldl (fun s e =>
      (s.finishSlot h e st (s.endResult e st).1 (s.endResult e st).2).noteEnded h e st) s).slots[g.val].till) :
    x ∈ s.slots[g.val].till ∧ (g = h → ∀ e ∈ l, x.args.tag ≠ e.args.tag) := by
  induction l generalizing s with
  | nil => exact ⟨hx, fun _ _ he => absurd he List.not_mem_nil⟩
  | cons e l ih =>
    obtain ⟨hrest, hl⟩ := ih _ hx
    rw [State.noteEnded_slots] at hrest
    obtain ⟨hmem, he⟩ := State.mem_finishSlot_till hrest
    exact ⟨hmem, fun hg => List.forall_mem_cons.mpr ⟨he hg, hl hg⟩⟩

/-- Ending the commands of a slot that meet a condition leaves it those that do not. -/
theorem State.mem_endSlotTags_till {s : State} {h g : SlotId} {p : TillEntry → Bool} {st : Status} {x : TillEntry}
    (hx : x ∈ (s.endSlotTags h p st).slots[g.val].till) : x ∈ s.slots[g.val].till ∧ (g = h → p x = false) := by
  obtain ⟨hmem, htag⟩ := State.mem_foldl_finishSlot_till _ s hx
  refine ⟨hmem, fun hg => Bool.eq_false_iff.mpr fun hp => ?_⟩
  subst hg
  exact htag rfl x (List.mem_filter.mpr ⟨hmem, hp⟩) rfl

/-- Ending the commands of several slots leaves each of them those that do not meet the condition. -/
theorem State.mem_foldl_endSlotTags_till {p : TillEntry → Bool} {st : Status} {g : SlotId} {x : TillEntry} (l : List SlotId)
    (s : State) (hx : x ∈ (l.foldl (fun s h => s.endSlotTags h p st) s).slots[g.val].till) :
    x ∈ s.slots[g.val].till ∧ (g ∈ l → p x = false) := by
  induction l generalizing s with
  | nil => exact ⟨hx, fun hg => absurd hg List.not_mem_nil⟩
  | cons h l ih =>
    obtain ⟨hrest, hl⟩ := ih _ hx
    obtain ⟨hmem, hh⟩ := State.mem_endSlotTags_till hrest
    exact ⟨hmem, fun hg => (List.mem_cons.mp hg).elim hh hl⟩

/-- Ending the commands that wait for something leaves no command in a Till that waits for it. -/
theorem State.mem_endWaits_till {s : State} {p : Wait → Bool} {st : Status} {g : SlotId} {x : TillEntry}
    (hx : x ∈ (s.endWaits p st).slots[g.val].till) : p x.wait = false := by
  rw [State.endWaits, State.endTags, State.endMbxTag_slots] at hx
  obtain ⟨-, hp⟩ := State.mem_foldl_endSlotTags_till allSlots _ hx
  exact hp (mem_allSlots g)

/-! ### What ending commands leaves of a slot -/

/-- Ending the commands of a slot changes the slots as completions do. -/
theorem State.endSlotTags_told (s : State) (h : SlotId) (p : TillEntry → Bool) (st : Status) (g : SlotId) :
    s.slots[g.val].Told (s.endSlotTags h p st).slots[g.val] := by
  refine Slot.Told.foldl g _ (fun t e => ?_) _ s
  dsimp only
  rw [State.noteEnded_slots]
  exact t.finishSlot_told h e st _ _ g

/-- Ending the commands that wait for something changes the slots as completions do. -/
theorem State.endWaits_told (s : State) (p : Wait → Bool) (st : Status) (g : SlotId) :
    s.slots[g.val].Told (s.endWaits p st).slots[g.val] := by
  rw [State.endWaits, State.endTags, State.endMbxTag_slots]
  exact Slot.Told.foldl g (fun t h => t.endSlotTags h (fun e => p e.wait) st) (fun t h => t.endSlotTags_told h _ st g) allSlots
    { s with orphans := s.orphans.filter fun e => !p e.wait }

/-! ### What marking a change on a hub leaves of a slot (R101) -/

/-- `y` is `x` but for the changes that its USB 2.0 hub marks. -/
def Slot.HubMarked (x y : Slot) : Prop := y = { x with hub := y.hub }

/-- A change marked on a slot's hub changes that alone. -/
theorem State.hubChange_marked (s : State) (h : SlotId) (k : PortId) (f : HubChange → HubChange) (g : SlotId) :
    s.slots[g.val].HubMarked (s.hubChange h k f).slots[g.val] := by
  rw [State.hubChange, State.modSlot_slots, vmod_get]
  split <;> rfl

/-- A change marked for the owner of a RELAY port changes the slots in that alone. -/
theorem State.relayChange_marked (s : State) (k : PortId) (f : HubChange → HubChange) (g : SlotId) :
    s.slots[g.val].HubMarked (s.relayChange k f).slots[g.val] := by
  unfold State.relayChange
  split
  · exact s.hubChange_marked _ k f g
  · rfl

end Sys2Proof.Machine
end

section
/-! SUPPORT. A port's Transaction Translator (R115, R137, R138, R155): what a start-split and a complete-split do there. -/
namespace Sys2Proof.Machine

/-! ### Start-splits (R137, R138) -/

/-- Whether a list of periodic slots holds one of a transaction. -/
theorem any_key_iff {l : List TtPeriodic} {key : BitVec 16} : (l.any fun x => x.key == key) = true ↔ ∃ x ∈ l, x.key = key := by
  simp

/-- No periodic slot of a transaction. -/
theorem any_key_eq_false_iff {l : List TtPeriodic} {key : BitVec 16} :
    (l.any fun x => x.key == key) = false ↔ ∀ x ∈ l, x.key ≠ key := by
  simp

/-- Bytes of the pool that the periodic slots of a port's TT take (R137). -/
def Port.ttLoad (p : Port) : Nat := (p.ttPeriodic.map (·.bytes)).sum

/-- Whether a TT has a slot for a periodic start-split (R137). -/
def Port.ttRoom (p : Port) (key : BitVec 16) : Bool :=
  (p.ttPeriodic.any fun x => x.key == key) || p.ttPeriodic.length < 16

/-- A periodic start-split that finds a slot and bytes in the pool is taken (R137). -/
theorem exec_ttStartSplit_fits {k : PortId} {key : BitVec 16} {iso : Bool} {n : Nat} {s : State} (hup : s.ttUp k = true)
    (hroom : s.ports[k.val].ttRoom key = true) (hload : s.ports[k.val].ttLoad + n ≤ 4096) :
    exec (.ttStartSplit k true iso key n) s =
      .next (s.modPort k fun p => { p.addPeriodic iso key n s.glb.clock with ttReply := .none }) := by
  refine congrArg Host.Outcome.next ?_
  dsimp only
  rw [hup, Bool.not_true, if_neg Bool.false_ne_true, if_pos rfl]
  exact if_pos ⟨hroom, hload⟩

/-- A periodic start-split that does not is counted as an overflow (R138, R155). -/
theorem exec_ttStartSplit_overflows {k : PortId} {key : BitVec 16} {iso : Bool} {n : Nat} {s : State} (hup : s.ttUp k = true)
    (hfull : 4096 < s.ports[k.val].ttLoad + n ∨ s.ports[k.val].ttRoom key = false) :
    exec (.ttStartSplit k true iso key n) s = .next (s.ttOverflow k) := by
  refine congrArg Host.Outcome.next ?_
  dsimp only
  rw [hup, Bool.not_true, if_neg Bool.false_ne_true, if_pos rfl]
  refine if_neg fun h => ?_
  obtain ⟨hroom, hload⟩ := h
  exact hfull.elim (Nat.not_lt.mpr hload) fun hno => Bool.false_ne_true (hno.symm.trans hroom)

/-- A non-periodic start-split meets ACK where its transaction has a buffer or one is free, and NAK otherwise (R138). -/
theorem exec_ttStartSplit_buffers {k : PortId} {key : BitVec 16} {iso : Bool} {n : Nat} {s : State} (hup : s.ttUp k = true) :
    exec (.ttStartSplit k false iso key n) s = .next (
      if s.ports[k.val].ttBuffers.contains key then s.modPort k fun p => { p with ttReply := .ack }
      else if s.ports[k.val].ttBuffers.length < 4 then
        s.modPort k fun p => { p with ttBuffers := p.ttBuffers ++ [key], ttReply := .ack }
      else s.modPort k fun p => { p with ttReply := .nak }) := by
  refine congrArg Host.Outcome.next ?_
  dsimp only
  rw [hup, Bool.not_true, if_neg Bool.false_ne_true, if_neg Bool.false_ne_true]

/-- A start-split of a transaction that has no slot takes one. -/
theorem Port.addPeriodic_new {p : Port} {key : BitVec 16} (h : ∀ x ∈ p.ttPeriodic, x.key ≠ key) (iso : Bool) (n now : Nat) :
    p.addPeriodic iso key n now =
      { p with ttPeriodic := p.ttPeriodic ++ [{ key := key, bytes := n, isoOut := iso, born := now }] } := by
  rw [Port.addPeriodic, any_key_eq_false_iff.mpr h]
  rfl

/-- A start-split of a transaction that has a slot adds its bytes there. -/
theorem Port.addPeriodic_held {p : Port} {key : BitVec 16} (h : ∃ x ∈ p.ttPeriodic, x.key = key) (iso : Bool) (n now : Nat) :
    p.addPeriodic iso key n now =
      { p with ttPeriodic := p.ttPeriodic.map fun x => { x with bytes := x.bytes + if x.key = key then n else 0 } } := by
  rw [Port.addPeriodic, if_pos (any_key_iff.mpr h)]
  have hmap : (fun x : TtPeriodic => if x.key = key then { x with bytes := x.bytes + n } else x) =
      fun x => { x with bytes := x.bytes + if x.key = key then n else 0 } := by
    funext x
    split <;> rfl
  rw [hmap]

/-- Changes of an element that agree on it change the vector alike. -/
theorem vmod_congr {α : Type} {n : Nat} {v : Vector α n} {i : Fin n} {f g : α → α} (h : f v[i.val] = g v[i.val]) :
    vmod v i f = vmod v i g := by
  unfold vmod
  rw [h]

/-- Changes of a port that agree on it change the state alike. -/
theorem State.modPort_congr {s : State} {k : PortId} {f g : Port → Port} (h : f s.ports[k.val] = g s.ports[k.val]) :
    s.modPort k f = s.modPort k g :=
  congrArg (fun v => { s with ports := v }) (vmod_congr h)

/-- An event to a port's owner leaves the ports. -/
@[simp] theorem State.portEvent_ports (s : State) (k : PortId) (c x d : Nat) : (s.portEvent k c x d).ports = s.ports :=
  (s.portEvent_evented k c x d).ports

/-- An overflow of the TT is counted, and changes nothing that the TT holds (R155). -/
theorem State.ttOverflow_port (s : State) (k : PortId) :
    (s.ttOverflow k).ports[k.val].errTtOvf = satAdd s.ports[k.val].errTtOvf 1 ∧
    (s.ttOverflow k).ports[k.val].ttPeriodic = s.ports[k.val].ttPeriodic ∧
    (s.ttOverflow k).ports[k.val].ttBuffers = s.ports[k.val].ttBuffers ∧ (s.ttOverflow k).ports[k.val].ttReply = .none := by
  unfold State.ttOverflow
  dsimp only
  split
  · simp [State.portError]
  · simp

/-! ### Complete-splits (R138, R155) -/

/-- Whether a TT holds a split of a transaction. -/
def Port.ttHolds (p : Port) (periodic : Bool) (key : BitVec 16) : Bool :=
  if periodic then p.ttPeriodic.any fun x => x.key == key else p.ttBuffers.contains key

/-- A split of a transaction leaves the TT: its slot, or its buffer, is free (R137). -/
def Port.ttFree (p : Port) (periodic : Bool) (key : BitVec 16) : Port :=
  if periodic then { p with ttPeriodic := p.ttPeriodic.filter fun x => x.key != key }
  else { p with ttBuffers := p.ttBuffers.filter (· != key) }

/-- A complete-split of a transaction that the TT holds (R138, R155). -/
theorem exec_ttCompleteSplit_held {k : PortId} {periodic : Bool} {key : BitVec 16} {s : State} (hup : s.ttUp k = true)
    (hheld : s.ports[k.val].ttHolds periodic key = true) (r : TtResult) : exec (.ttCompleteSplit k periodic key r) s = .next (
      match r with
      | .part l => s.modPort k fun p => { p with ttReply := .data l }
      | .notYet => s.modPort k fun p => { p with ttReply := .nyet }
      | .ready l => s.modPort k fun p => { p.ttFree periodic key with ttReply := .data l }
      | .err => s.modPort k fun p => { p.ttFree periodic key with ttReply := .err, errXact := satAdd p.errXact 1 }) := by
  refine congrArg Host.Outcome.next ?_
  dsimp only
  rw [hup, Bool.not_true, if_neg Bool.false_ne_true]
  refine (if_pos hheld).trans ?_
  cases r <;> rfl

/-- A complete-split of a transaction that the TT does not hold (R138). -/
theorem exec_ttCompleteSplit_missing {k : PortId} {periodic : Bool} {key : BitVec 16} {s : State} (hup : s.ttUp k = true)
    (hfree : s.ports[k.val].ttHolds periodic key = false) (r : TtResult) : exec (.ttCompleteSplit k periodic key r) s = .next (
      if periodic then s.modPort k fun p => { p with ttReply := .err }
      else (s.freeBelow 4).2.modPort k fun p => { p with
        ttReply := if (s.freeBelow 4).1 = 0 then .nak else if (s.freeBelow 4).1 = 1 then .nyet
          else if (s.freeBelow 4).1 = 2 then .err else .noAnswer }) := by
  refine congrArg Host.Outcome.next ?_
  dsimp only
  rw [hup, Bool.not_true, if_neg Bool.false_ne_true]
  exact if_neg (Bool.eq_false_iff.mp hfree)

/-- What the end of a split leaves of a TT: every other slot and buffer (R137). -/
theorem Port.ttFree_spec (p : Port) (key : BitVec 16) :
    (key ∉ (p.ttFree false key).ttBuffers ∧ ∀ x, x ≠ key → (x ∈ (p.ttFree false key).ttBuffers ↔ x ∈ p.ttBuffers)) ∧
    (∀ x, x ∈ (p.ttFree true key).ttPeriodic ↔ x ∈ p.ttPeriodic ∧ x.key ≠ key) := by
  refine ⟨⟨?_, fun x hx => ?_⟩, fun x => ?_⟩
  · simp [Port.ttFree]
  · simp [Port.ttFree, hx]
  · simp [Port.ttFree]

/-- A split that ends for good: the last data, or an error, which is counted (R155). -/
theorem ttCompleteSplit_ends {k : PortId} {per : Bool} {key : BitVec 16} {s : State} (hup : s.ttUp k = true)
    (hheld : s.ports[k.val].ttHolds per key = true) {r : TtResult} (hr : (∃ l, r = .ready l) ∨ r = .err) :
    ∃ t f, exec (.ttCompleteSplit k per key r) s = .next t ∧ t = s.modPort k f ∧
      (f s.ports[k.val]).ttBuffers = (s.ports[k.val].ttFree per key).ttBuffers ∧
      (f s.ports[k.val]).ttPeriodic = (s.ports[k.val].ttFree per key).ttPeriodic ∧
      (∀ l, r = .ready l → (f s.ports[k.val]).ttReply = .data l ∧ (f s.ports[k.val]).errXact = s.ports[k.val].errXact) ∧
      (r = .err → (f s.ports[k.val]).ttReply = .err ∧ (f s.ports[k.val]).errXact = satAdd s.ports[k.val].errXact 1) := by
  have hexec := exec_ttCompleteSplit_held hup hheld r
  rcases hr with ⟨l, rfl⟩ | rfl
  · refine ⟨_, _, hexec, rfl, rfl, rfl, fun m hm => ⟨?_, ?_⟩, nofun⟩
    · rw [TtResult.ready.inj hm]
    · cases per <;> rfl
  · exact ⟨_, _, hexec, rfl, rfl, rfl, nofun, fun _ => ⟨rfl, rfl⟩⟩

/-- On a port without an owner, or not in RELAY, or without power, splits change nothing (R115). -/
theorem exec_splits_down {k : PortId} {key : BitVec 16} {s : State} (hup : s.ttUp k = false) :
    (∀ per iso n, exec (.ttStartSplit k per iso key n) s = .next s) ∧
    (∀ per r, exec (.ttCompleteSplit k per key r) s = .next s) :=
  ⟨fun _ _ _ => congrArg Host.Outcome.next (if_pos (by rw [hup]; rfl)),
    fun _ _ => congrArg Host.Outcome.next (if_pos (by rw [hup]; rfl))⟩

/-- Settles O49: each split by whether the TT holds its transaction or has room for it. -/
theorem ttHoldsSplits : Obligations.TtHoldsSplits := by
  unfold Obligations.TtHoldsSplits
  intro k key s p load
  refine ⟨fun hup => ⟨?new, ?more, ?overflow, ?buffers, ?held, ?missing, ?unanswered⟩, exec_splits_down, _, rfl, ?_, ?_⟩
  case new =>
    intro iso n hnew hlen hload
    refine ⟨_, exec_ttStartSplit_fits hup ?_ hload, (State.modPort_ports ..).trans (vmod_congr ?_)⟩
    · exact Bool.or_eq_true_iff.mpr (.inr (decide_eq_true hlen))
    · exact congrArg (fun q : Port => { q with ttReply := .none }) (Port.addPeriodic_new hnew iso n s.glb.clock)
  case more =>
    intro iso n hmore hload
    refine ⟨_, exec_ttStartSplit_fits hup ?_ hload, (State.modPort_ports ..).trans (vmod_congr ?_)⟩
    · rw [Port.ttRoom, any_key_iff.mpr hmore, Bool.true_or]
    · exact congrArg (fun q : Port => { q with ttReply := .none }) (Port.addPeriodic_held hmore iso n s.glb.clock)
  case overflow =>
    intro iso n hfull
    refine ⟨_, exec_ttStartSplit_overflows hup (hfull.imp_right fun ⟨hlen, hnew⟩ => ?_), s.ttOverflow_port k⟩
    rw [Port.ttRoom, any_key_eq_false_iff.mpr hnew, Bool.false_or, decide_eq_false_iff_not, Nat.not_lt]
    exact hlen
  case buffers =>
    intro iso n
    refine ⟨_, exec_ttStartSplit_buffers hup, ?_⟩
    by_cases hkey : key ∈ s.ports[k.val].ttBuffers
    · rw [if_pos (by simpa using hkey)]
      simp [p, hkey]
    · rw [if_neg (by simpa using hkey)]
      by_cases hlen : s.ports[k.val].ttBuffers.length < 4
      · rw [if_pos hlen]
        simp [p, hkey, hlen]
      · rw [if_neg hlen]
        simp [p, hkey, hlen]
  case held =>
    intro per hheld
    have hholds : s.ports[k.val].ttHolds per key = true := by
      cases per <;> simpa [Port.ttHolds] using hheld
    obtain ⟨⟨hgone, hothers⟩, hslots⟩ := s.ports[k.val].ttFree_spec key
    refine ⟨fun l => exec_ttCompleteSplit_held hup hholds _, exec_ttCompleteSplit_held hup hholds _, fun r hr => ?_⟩
    obtain ⟨t, f, hexec, rfl, hbuf, hper, hdata, herr⟩ := ttCompleteSplit_ends hup hholds hr
    refine ⟨_, hexec, ?_⟩
    rw [State.modPort_ports, vmod_same, hbuf, hper]
    refine ⟨?_, ?_, hdata, herr, fun j hj => vmod_other _ _ _ _ _ fun e => hj (Fin.ext e).symm⟩
    · rintro rfl; exact ⟨hgone, rfl, hothers⟩
    · rintro rfl; exact ⟨rfl, hslots⟩
  case missing =>
    exact fun r hnew => exec_ttCompleteSplit_missing (periodic := true) hup (any_key_eq_false_iff.mpr hnew) r
  case unanswered =>
    intro r hno
    exact ⟨_, _, exec_ttCompleteSplit_missing (periodic := false) hup (by simpa [Port.ttHolds] using hno) r, rfl, rfl, rfl⟩
  · exact State.modPort_congr (by simp)
  · intro x
    simp [p]

end Sys2Proof.Machine
end

section
/-! SUPPORT. Hub class requests (R102, R118, R119, R139, R153, R154): what the slot's hub does on a port in its reach, and that it
does nothing on any other. -/
namespace Sys2Proof.Machine

/-! ### The reach of a hub (R119) -/

/-- A hub request on a port out of reach is acknowledged and changes nothing (R119). -/
theorem State.hubRequest_foreign {s : State} {h : SlotId} {k : PortId} (hup : s.hubUp h = true)
    (hrel : s.ownRelay h k = false) (f : State → State) : s.hubRequest h k f = s.reply h .ack := by
  unfold State.hubRequest
  rw [hup, hrel]
  rfl

/-- A hub request on the slot's own RELAY port acts and is acknowledged (R102). -/
theorem State.hubRequest_own {s : State} {h : SlotId} {k : PortId} (hup : s.hubUp h = true) (hrel : s.ownRelay h k = true)
    (f : State → State) : s.hubRequest h k f = (f s).reply h .ack := by
  unfold State.hubRequest
  rw [hup, hrel]
  rfl

/-- A slot's own RELAY port is its own, in RELAY mode. -/
theorem State.ownRelay_iff {s : State} {h : SlotId} {k : PortId} :
    s.ownRelay h k = true ↔ s.owns h k = true ∧ s.mode k = .relay := by
  simp [State.ownRelay]

/-- GetPortStatus is answered with wPortStatus and wPortChange (R102, R118). -/
theorem exec_getPortStatus {s : State} {h : SlotId} (hup : s.hubUp h = true) (k : PortId) : exec (.getPortStatus h k) s =
    .next (s.reply h (.data (leBytes 2 (s.portStatusWord h k) ++ leBytes 2 s.slots[h.val].hub[k.val].word))) :=
  congrArg Host.Outcome.next (if_pos hup)

/-- wPortStatus shows nothing of a port that the slot does not own, and no more than the power of a PROXY port (R118). -/
theorem State.portStatusWord_spec (s : State) (h : SlotId) (k : PortId) :
    (s.owns h k = false → s.portStatusWord h k = 0) ∧
    (s.owns h k = true → s.mode k = .proxy → s.portStatusWord h k = flagAt (s.powered k) 8) := by
  unfold State.portStatusWord
  refine ⟨fun hno => ?_, fun hown hmode => ?_⟩
  · rw [hno]; rfl
  · rw [hown, hmode]; rfl

/-- GET_TT_STATE and STOP_TT meet a STALL on a port the slot owns, and complete on any other (R119, R139). -/
theorem State.ttStall_eq {s : State} {h : SlotId} (hup : s.hubUp h = true) (k : PortId) :
    s.ttStall h k = s.reply h (if s.owns h k then .stall else .ack) :=
  if_pos hup

/-! ### SetPortFeature(PORT_TEST) (R154) -/

/-- PORT_TEST on a port the slot does not own is acknowledged and changes nothing (R119). -/
theorem exec_setPortTest_foreign {s : State} {h : SlotId} {k : PortId} (hup : s.hubUp h = true) (hno : s.owns h k = false)
    (m : TestMode) : exec (.setPortTest h k m) s = .next (s.reply h .ack) := by
  refine congrArg Host.Outcome.next ?_
  rw [hup, hno]
  rfl

/-- Whether a port may enter a test mode: it is unpowered, disabled or suspended (R154). -/
def State.testable (s : State) (k : PortId) : Prop :=
  s.pwr[k.val].vbusOn = false ∨ s.ports[k.val].state = .disabled ∨ s.ports[k.val].state = .suspended

/-- PORT_TEST on a port of the slot enters the test mode or meets a STALL (R154). -/
theorem exec_setPortTest_own {s : State} {h : SlotId} {k : PortId} (hup : s.hubUp h = true) (hown : s.owns h k = true)
    (m : TestMode) :
    (s.mode k = .relay → s.testable k → exec (.setPortTest h k m) s =
      .next ((s.modPort k fun p => { p with state := .test, test := some m, prev := .off }).reply h .ack)) ∧
    (s.mode k ≠ .relay ∨ ¬ s.testable k → exec (.setPortTest h k m) s = .next (s.reply h .stall)) := by
  have htest : (!s.pwr[k.val].vbusOn || s.ports[k.val].state == .disabled || s.ports[k.val].state == .suspended) = true ↔
      s.testable k := by
    simp [State.testable, or_assoc]
  refine ⟨fun hmode ht => congrArg Host.Outcome.next ?_, fun hno => congrArg Host.Outcome.next ?_⟩
  all_goals
    rw [hup, hown, Bool.not_true, if_neg Bool.false_ne_true, if_neg Bool.false_ne_true]
  · exact if_pos ⟨hmode, htest.mpr ht⟩
  · exact if_neg fun ⟨hmode, ht⟩ => hno.elim (· hmode) (· (htest.mp ht))

/-! ### PORT_POWER (R102, R154, R361) -/

/-- Power wanted on a port without attach is a request that waits (R377). -/
theorem State.wantPower_unattached {s : State} {k : PortId} (hatt : s.attached k = false) :
    s.wantPower k = s.modPwr k fun w => { w with want := true } := by
  unfold State.wantPower State.tryQueue
  refine if_neg ?_
  have hno : (s.modPwr k fun w => { w with want := true }).attached k = false := hatt
  simp [State.mayQueue, hno]

/-- Paths that go off leave the power half as `Pwr.opened` says. -/
theorem State.pathsOff_pwr (s : State) (k : PortId) (disch : Bool) :
    (s.pathsOff k disch).pwr = vmod s.pwr k fun w => w.opened disch (s.linkUp k) := rfl

/-- The owner's request for power on a port is withdrawn (R361). -/
def Pwr.withdrawn (w : Pwr) : Pwr := { w with want := false, queued := none, budgetWait := false }

/-- A switch-off of a powered port whose link is up withdraws the request and opens the paths (R361). -/
theorem State.switchOff_pwr {s : State} {k : PortId} (hpow : s.powered k = true) (hlink : s.linkUp k = true) :
    (s.switchOff k).pwr = vmod s.pwr k fun w => w.withdrawn.opened true true := by
  have hpow' : (s.modPwr k Pwr.withdrawn).powered k = true := by
    simpa [State.powered, Pwr.withdrawn] using hpow
  have hlink' : (s.modPwr k Pwr.withdrawn).linkUp k = true := hlink
  have hoff : s.switchOff k = (((s.modPwr k Pwr.withdrawn).pathsOff k true).endWaits (Wait.isPortOn k) .ok).loseDevice k
      ((s.modPwr k Pwr.withdrawn).unpoweredState k) .eDetached true (Wait.endsOnUsbLoss k) :=
    (if_pos hpow').trans (if_pos hlink')
  rw [hoff, (State.loseDevice_samePower ..).pwr, (State.endWaits_answering ..).pwr, State.pathsOff_pwr, hlink',
    State.modPwr_pwr, vmod_vmod]
  rfl

/-- A powered port whose link is up goes off with DISCH applied, its power no longer wanted (R361). -/
theorem State.switchOff_powered {s : State} {k : PortId} (hpow : s.powered k = true) (hlink : s.linkUp k = true) :
    (s.switchOff k).pwr[k.val].gateL = false ∧ (s.switchOff k).pwr[k.val].gateH = false ∧
    (s.switchOff k).pwr[k.val].disch = true ∧ (s.switchOff k).pwr[k.val].want = false := by
  rw [State.switchOff_pwr hpow hlink, vmod_same]
  refine ⟨rfl, rfl, ?_, rfl⟩
  simp only [State.powered, Bool.or_eq_true] at hpow
  simp only [Pwr.opened, Pwr.pathsOff, Pwr.withdrawn, if_true, Bool.and_true, Bool.or_eq_true]
  exact .inl hpow

/-- ClearPortFeature(PORT_POWER) switches an own RELAY port off, its test mode ended first (R102, R154). -/
theorem exec_clearPortPower {s : State} {h : SlotId} {k : PortId} (hup : s.hubUp h = true) (hrel : s.ownRelay h k = true) :
    exec (.clearPortPower h k) s = .next (((if s.ports[k.val].test.isSome then
      s.modPort k fun p => { p with test := none, state := s.idleState k } else s).switchOff k).reply h .ack) :=
  congrArg Host.Outcome.next (State.hubRequest_own hup hrel _)

/-- ClearPortFeature(PORT_POWER) opens both gates of a powered port whose link is up. -/
theorem clearPortPower_opens {s : State} {h : SlotId} {k : PortId} (hup : s.hubUp h = true) (hrel : s.ownRelay h k = true)
    (hpow : s.powered k = true) (hlink : s.linkUp k = true) : ∃ t, exec (.clearPortPower h k) s = .next t ∧
      t.pwr[k.val].gateL = false ∧ t.pwr[k.val].gateH = false ∧ t.pwr[k.val].disch = true ∧ t.pwr[k.val].want = false ∧
      t.slots[h.val].ctl = .ack := by
  refine ⟨_, exec_clearPortPower hup hrel, ?_⟩
  obtain ⟨u, hu, hpow', hlink'⟩ : ∃ u, (if s.ports[k.val].test.isSome then
      s.modPort k fun p => { p with test := none, state := s.idleState k } else s) = u ∧
      u.powered k = true ∧ u.linkUp k = true := by
    refine ⟨_, rfl, ?_⟩
    split <;> exact ⟨hpow, hlink⟩
  rw [hu]
  obtain ⟨hl, hh, hd, hw⟩ := State.switchOff_powered hpow' hlink'
  refine ⟨hl, hh, hd, hw, ?_⟩
  rw [State.reply, State.modSlot_slots, vmod_same]

/-! ### The obligations -/

/-- Settles O47: requests by the reach of the hub, and wPortStatus does not read the answer of endpoint 0. That
an owned port outside RELAY is out of reach too is the model's reading of R119. -/
theorem foreignHubRequestsChangeNothing : Obligations.ForeignHubRequestsChangeNothing := by
  unfold Obligations.ForeignHubRequestsChangeNothing
  intro h k s hup
  refine ⟨fun hrel => ?reach, fun hno => ?own, fun _ => rfl⟩
  case reach =>
    have hreq := fun f => congrArg (Host.Outcome.next (φ := Fault) (ρ := Refusal)) (State.hubRequest_foreign hup hrel f)
    exact ⟨hreq _, hreq _, hreq _, hreq _, hreq _, fun _ => hreq _, fun _ => hreq _, hreq _⟩
  case own =>
    have htt : s.ttStall h k = s.reply h .ack := by rw [State.ttStall_eq hup, hno]; rfl
    exact ⟨congrArg Host.Outcome.next htt, congrArg Host.Outcome.next htt, exec_setPortTest_foreign hup hno, _,
      exec_getPortStatus hup k⟩

/-- Settles O48: each request by what it does on the slot's own RELAY port. -/
theorem hubRequestsActOnRelayPorts : Obligations.HubRequestsActOnRelayPorts := by
  unfold Obligations.HubRequestsActOnRelayPorts
  intro h k s hup
  refine ⟨fun hrel => ?relay, fun hown hmode m => ((exec_setPortTest_own hup hown m).2 (.inl hmode)), fun hown => ?stalls,
    _, exec_getPortStatus hup k, s.portStatusWord_spec h k⟩
  case relay =>
    obtain ⟨hown, hmode⟩ := State.ownRelay_iff.mp hrel
    have hreq := fun (f : State → State) (t : State) (hf : f s = t) =>
      congrArg (Host.Outcome.next (φ := Fault) (ρ := Refusal)) ((State.hubRequest_own hup hrel f).trans
        (congrArg (State.reply · h .ack) hf))
    refine ⟨fun hatt => hreq _ _ (State.wantPower_unattached hatt), clearPortPower_opens hup hrel, fun hon hconn htest => ?_,
      fun hact => ?_, fun hsusp => hreq _ _ (if_pos hsusp), fun m => hreq _ _ rfl, fun key => ?_, hreq _ _ rfl,
      fun ht m => (exec_setPortTest_own hup hown m).1 hmode ht, fun hvbus hdis hsusp m =>
        (exec_setPortTest_own hup hown m).2 (.inr ?_)⟩
    · exact hreq _ _ (if_pos ⟨hon, hconn, by rw [htest]; rfl⟩)
    · refine hreq _ _ ((if_pos hact).trans (State.modPort_congr ?_))
      rw [show s.ports[k.val].deed.mode = .relay from hmode]
      simp
    · refine ⟨_, hreq _ _ rfl, ?_, fun x hx => ?_, ?_⟩
      · simp [State.reply]
      · simp [State.reply, hx]
      · simp [State.reply]
    · simp [State.testable, hvbus, hdis, hsusp]
  case stalls =>
    have htt : s.ttStall h k = s.reply h .stall := by rw [State.ttStall_eq hup, hown]; rfl
    exact ⟨congrArg Host.Outcome.next htt, congrArg Host.Outcome.next htt⟩

end Sys2Proof.Machine
end

section
/-! SUPPORT. Bus resets of a slot (R125, R168, R172, R221): what they leave of its Till, its credits and its functions. -/
namespace Sys2Proof.Machine

/-! ### The Till and the credits (R125, R168, R172) -/

/-- Taking back a slot's commands leaves the slots. -/
theorem foldl_undo_slots (l : List TillEntry) (s : State) : (l.foldl State.undo s).slots = s.slots :=
  foldl_keeps (·.slots) _ (fun t e => (t.undo_undone e).slots) l s

/-- Abandoning a slot's commands changes the slots as completions do. -/
theorem State.abandonSlot_told (s : State) (h : SlotId) (st : Status) (g : SlotId) :
    s.slots[g.val].Told (s.abandonSlot h st).slots[g.val] := by
  unfold State.abandonSlot
  extract_lets l t
  have hslots : t.slots = s.slots := foldl_undo_slots l s
  rw [← hslots]
  exact t.endSlotTags_told h _ st g

/-- Abandoning a slot's commands leaves it those that have taken effect (R125). -/
theorem State.mem_abandonSlot_till {s : State} {h : SlotId} {st : Status} {e : TillEntry}
    (he : e ∈ (s.abandonSlot h st).slots[h.val].till) : e.point = .effected := by
  obtain ⟨-, hp⟩ := State.mem_endSlotTags_till he
  simpa using hp rfl

/-- `y` is the slot `x` after a bus reset that has not chosen its functions yet: Teller not configured, full credits, no queued
Statement, and only commands that have taken effect; its answers and the changes its hub marks aside. -/
structure Slot.Emptied (x y : Slot) : Prop where
  slot : y = { x with
    tellerCfg := false, statements := [], entryCredits := 512, lineCredits := 8192, dropped := y.dropped
    dropBefore := y.dropBefore, ctl := y.ctl, till := y.till, records := y.records, seq := y.seq
    wakeSignal := y.wakeSignal, hub := y.hub }
  till : ∀ e ∈ y.till, e.point = .effected

/-- A bus reset of the tags of a slot empties it (R125, R172, R221). -/
theorem State.resetTags_emptied (s : State) (h : SlotId) : s.slots[h.val].Emptied (s.resetTags h).slots[h.val] := by
  unfold State.resetTags
  extract_lets t u
  have ht : t.slots[h.val] = { s.slots[h.val] with
      tellerCfg := false, till := s.slots[h.val].till.map fun e => { e with credit := false }
      records := s.slots[h.val].records.map Record.noCredit, statements := [] } := vmod_same ..
  have hu : t.slots[h.val].Told u.slots[h.val] := (t.orphan h fun e => e.op == 0x30).abandonSlot_told h .eAborted h
  have htill : ∀ e ∈ u.slots[h.val].till, e.point = .effected := fun e => State.mem_abandonSlot_till
  rw [State.modSlot_slots, vmod_same]
  refine ⟨?_, htill⟩
  rw [hu, ht]

/-- A relayed port that is reset marks a change on its hub, and leaves the slots otherwise (R125). -/
theorem State.resetRelay_marked (s : State) (h : SlotId) (k : PortId) :
    s.slots[h.val].HubMarked (s.resetRelay h k).slots[h.val] := by
  unfold State.resetRelay
  split
  · extract_lets t test st
    have ht : s.slots[h.val].HubMarked t.slots[h.val] := by
      show Slot.HubMarked _ (if _ then _ else _ : State).slots[h.val]
      split
      · exact s.hubChange_marked h k _ h
      · rfl
    split <;> exact ht
  · rfl

/-- A bus reset empties the slot, and DROPPED with it (R125, R215). -/
theorem State.slotReset_emptied (s : State) (h : SlotId) :
    s.slots[h.val].Emptied (s.slotReset h).slots[h.val] ∧ (s.slotReset h).slots[h.val].dropped = 0 := by
  unfold State.slotReset
  dsimp only
  refine foldl_inv (fun t : State => s.slots[h.val].Emptied t.slots[h.val] ∧ t.slots[h.val].dropped = 0) _ ?relay allPorts _
    ⟨?tags, ?dropped⟩
  case relay =>
    intro t k ⟨⟨hslot, htill⟩, hdropped⟩
    have hrel := t.resetRelay_marked h k
    generalize (t.resetRelay h k).slots[h.val] = y at hrel
    refine ⟨⟨?_, ?_⟩, ?_⟩
    · rw [hrel, hslot]
    · rw [hrel]; exact htill
    · rw [hrel]; exact hdropped
  case tags =>
    obtain ⟨hslot, htill⟩ := s.resetTags_emptied h
    rw [State.modSlot_slots, vmod_same]
    exact ⟨by rw [hslot], htill⟩
  case dropped => rw [State.modSlot_slots, vmod_same]

/-! ### The functions (R125) -/

/-- A free bit leaves the slots. -/
theorem State.freeBit_slots (s : State) : s.freeBit.2.slots = s.slots := rfl

/-- What a USB 2.0 reset that carries Teller makes of the functions of a slot. -/
def Slot.hub2Reset (x : Slot) (hs : Bool) : Slot :=
  { x with
    hub2Addr := 0, hub2Cfg := false, wakeHub2 := false, hub2Susp := false, hubWake := false, hs := hs
    tellerCfg := false, tellerAddr := 0, wakeTeller := false }

/-- What a warm reset that carries Teller makes of the functions of a slot. -/
def Slot.warmReset (x : Slot) : Slot :=
  { x with
    ssHubAddr := 0, ssHubCfg := false, u1En := false, u2En := false, ssTerm := x.ssPll, ssLink := 0
    tellerCfg := false, tellerAddr := 0, wakeTeller := false }

/-- SLOT_BUS_RESET, USB 2.0, of a slot whose Teller is on port 25 (R120, R125). -/
theorem exec_slotBusReset_usb2 {h : SlotId} {s : State} (hp : s.slots[h.val].presented = true)
    (hpath : s.slots[h.val].tellerPath = 2) : exec (.slotBusReset h .usb2) s = .next
      (((s.slotReset h).freeBit.2.modSlot h fun x => x.hub2Reset (s.slotReset h).freeBit.1).resumeSlot h) := by
  refine congrArg Host.Outcome.next ?_
  dsimp only
  rw [hp, hpath, Bool.not_true, if_neg Bool.false_ne_true, if_pos (.inl rfl)]
  simp [Slot.hub2Reset]

/-- SLOT_BUS_RESET, warm, of a slot whose Teller is on its SuperSpeed link (R120, R125). -/
theorem exec_slotBusReset_warm {h : SlotId} {s : State} (hp : s.slots[h.val].presented = true)
    (hpath : s.slots[h.val].tellerPath = 1) : exec (.slotBusReset h .warm) s = .next
      (((s.slotReset h).modSlot h Slot.warmReset).resumeSlot h) := by
  refine congrArg Host.Outcome.next ?_
  dsimp only
  rw [hp, hpath, Bool.not_true, if_neg Bool.false_ne_true, if_neg (by simp), if_pos ⟨rfl, rfl⟩]
  refine congrArg (fun f => ((s.slotReset h).modSlot h f).resumeSlot h) (funext fun x => ?_)
  simp [Slot.warmReset]

/-- A slot that was emptied, whose Teller function was reset and which then resumes, was reset as every bus reset that carries
Teller resets it (R125). -/
theorem State.slotWasReset_of_heard {t : State} {h : SlotId} {x y z : Slot} (he : x.Emptied y) (hd : y.dropped = 0)
    (hz : z = { z with
      till := y.till, statements := y.statements, dropped := y.dropped, entryCredits := y.entryCredits
      lineCredits := y.lineCredits, tellerCfg := false, tellerAddr := 0, wakeTeller := false })
    (ht : ({ z with suspended := false } : Slot).Heard t.slots[h.val]) : t.SlotWasReset h := by
  obtain ⟨hy, htill⟩ := he
  refine ⟨?_, ?_, ?_, ?_, ?_⟩
  · rw [ht, hz]; exact ⟨rfl, rfl, rfl⟩
  · rw [ht, hz, hy]; exact ⟨rfl, rfl⟩
  · rw [ht, hz]; exact ⟨by rw [hy], hd⟩
  · rw [ht]
  · rw [ht, hz]; exact htill

/-- Settles O54: the slot is emptied, its functions reset, and it resumes with what events leave. -/
theorem busResetEmptiesTheTill : Obligations.BusResetEmptiesTheTill := by
  unfold Obligations.BusResetEmptiesTheTill
  intro h s hp
  obtain ⟨hempty, hdropped⟩ := s.slotReset_emptied h
  refine ⟨fun hpath => ⟨_, exec_slotBusReset_usb2 hp hpath, ?_⟩, fun hpath => ⟨_, exec_slotBusReset_warm hp hpath, ?_⟩⟩
  · have hheard := State.resumeSlot_heard ((s.slotReset h).freeBit.2.modSlot h
      fun x => x.hub2Reset (s.slotReset h).freeBit.1) h
    rw [State.modSlot_slots, vmod_same, State.freeBit_slots] at hheard
    generalize (s.slotReset h).slots[h.val] = y at hempty hdropped hheard
    refine ⟨State.slotWasReset_of_heard hempty hdropped ?_ hheard, ?_⟩
    · rfl
    · rw [hheard]; exact ⟨rfl, rfl⟩
  · have hheard := State.resumeSlot_heard ((s.slotReset h).modSlot h Slot.warmReset) h
    rw [State.modSlot_slots, vmod_same] at hheard
    generalize (s.slotReset h).slots[h.val] = y at hempty hdropped hheard
    refine ⟨State.slotWasReset_of_heard hempty hdropped ?_ hheard, ?_⟩
    · rfl
    · rw [hheard]; exact ⟨rfl, rfl, rfl⟩

end Sys2Proof.Machine
end

section
/-! SUPPORT. Suspend and resume of a slot and of its USB 2.0 hub (R120 to R122): the Mint groups held, the ports that resume, and
that the end of S1 wakes no slot that has resumed. -/
namespace Sys2Proof.Machine

/-! ### Folds that reach something -/

/-- A fold whose step at `k` turns `P` into `Q`, while no step loses `P` but for `Q`, and none loses `Q`. -/
theorem foldl_reaches {α : Type} {P Q : State → Prop} {f : State → α → State} {k : α} (hk : ∀ s, P s → Q (f s k))
    (hP : ∀ s j, P s → j ≠ k → P (f s j)) (hQ : ∀ s j, Q s → Q (f s j)) {l : List α} (hl : k ∈ l) {s : State} (hs : P s) :
    Q (l.foldl f s) := by
  induction l generalizing s with
  | nil => exact absurd hl List.not_mem_nil
  | cons j l ih =>
    by_cases hj : j = k
    · subst hj
      exact foldl_inv Q f hQ l _ (hk s hs)
    · exact ih ((List.mem_cons.mp hl).resolve_left (Ne.symm hj)) (hP s j hs hj)

/-- A change of one port leaves every other. -/
theorem State.modPort_other (s : State) {j k : PortId} (hj : j ≠ k) (f : Port → Port) :
    (s.modPort j f).ports[k.val] = s.ports[k.val] :=
  vmod_other _ _ _ _ _ fun e => hj (Fin.ext e)

/-- A change of one port keeps on every port what it keeps on one. -/
theorem State.modPort_keeps {P : Port → Prop} {s : State} {j k : PortId} {f : Port → Port} (hf : ∀ p, P p → P (f p))
    (h : P s.ports[k.val]) : P (s.modPort j f).ports[k.val] := by
  rw [State.modPort_ports, vmod_get]
  split
  · exact hf _ h
  · exact h

/-- The list of ports holds every port. -/
theorem mem_allPorts (k : PortId) : k ∈ allPorts := List.mem_finRange k

/-! ### Mint groups that are held (R121) -/

/-- `t` holds the Mint groups that `s` holds, by their causes at least, and the channels lie where they lay. -/
structure State.HoldsMore (s t : State) : Prop where
  chans : t.mint.chans = s.mint.chans
  pend : ∀ (g : GroupId) (i : Nat), testBit s.mint.groups[g.val].pend i = true → testBit t.mint.groups[g.val].pend i = true

theorem State.HoldsMore.refl (s : State) : s.HoldsMore s := ⟨rfl, fun _ _ h => h⟩

theorem State.HoldsMore.trans {s t u : State} (h : s.HoldsMore t) (k : t.HoldsMore u) : s.HoldsMore u :=
  ⟨k.chans.trans h.chans, fun g i hi => k.pend g i (h.pend g i hi)⟩

/-- A step that leaves the Mint. -/
theorem State.HoldsMore.of_mint {s t : State} (h : t.mint = s.mint) : s.HoldsMore t :=
  ⟨by rw [h], fun _ _ hi => by rw [h]; exact hi⟩

/-- Holds raised one after the other. -/
theorem State.HoldsMore.foldl {α : Type} (f : State → α → State) (hf : ∀ (s : State) (a : α), s.HoldsMore (f s a)) (l : List α)
    (s : State) : s.HoldsMore (l.foldl f s) :=
  foldl_inv (fun t => s.HoldsMore t) f (fun t a h => h.trans (hf t a)) l s (.refl s)

/-- A cause that is raised pends on its group. -/
theorem State.raiseHold_pends (s : State) (g : GroupId) (c : Cause) (who : Option ChanId) :
    testBit (s.raiseHold g c who).mint.groups[g.val].pend c.bit = true := by
  rw [State.raiseHold_group]
  cases c <;> simp [testBit, Cause.bit]

/-- A hold adds its cause to those that pend. -/
theorem State.raiseHold_holdsMore (s : State) (g : GroupId) (c : Cause) (who : Option ChanId) :
    s.HoldsMore (s.raiseHold g c who) := by
  refine ⟨rfl, fun j i hi => ?_⟩
  by_cases hj : g = j
  · subst hj
    rw [State.raiseHold_group]
    simp only [testBit] at hi
    simp [testBit, hi]
  · rw [State.raiseHold_other _ _ _ _ _ hj]
    exact hi

/-- Holding a port's groups adds its cause to those that pend. -/
theorem State.holdPort_holdsMore (s : State) (k : PortId) (c : Cause) : s.HoldsMore (s.holdPort k c) :=
  .foldl _ (fun t g => t.raiseHold_holdsMore g c none) _ s

/-- Leaving ACTIVE ends no hold. -/
theorem State.leaveActive_holdsMore (s : State) (k : PortId) : s.HoldsMore (s.leaveActive k) := by
  unfold State.leaveActive
  split
  · exact s.holdPort_holdsMore k .port
  · exact .refl s

/-- The groups of a port depend on the channels only (R285). -/
theorem State.HoldsMore.portGroups {s t : State} (h : s.HoldsMore t) (k : PortId) : t.portGroups k = s.portGroups k := by
  have hon : t.chanEnabled = s.chanEnabled := funext fun c => by simp only [State.chanEnabled, h.chans]
  simp only [State.portGroups, State.portEnabled, State.portChans, State.chanPort, State.chanGroup, h.chans, hon]

/-- Holding a port has its cause pend on every group with an enabled channel there. -/
theorem State.holdPort_pends {s : State} {k : PortId} {g : GroupId} (hg : g ∈ s.portGroups k) (c : Cause) :
    testBit (s.holdPort k c).mint.groups[g.val].pend c.bit = true :=
  foldl_reaches (f := fun t g => t.raiseHold g c none) (P := fun _ => True)
    (Q := fun t : State => testBit t.mint.groups[g.val].pend c.bit = true) (fun t _ => t.raiseHold_pends g c none)
    (fun _ _ h _ => h) (fun t j h => (t.raiseHold_holdsMore j c none).pend g _ h) hg trivial

/-- Holding several ports does so for each of them. -/
theorem foldl_holdPort_pends {s : State} {k : PortId} {g : GroupId} {l : List PortId} (hk : k ∈ l) (hg : g ∈ s.portGroups k)
    (c : Cause) : testBit (l.foldl (fun s k => s.holdPort k c) s).mint.groups[g.val].pend c.bit = true :=
  foldl_reaches (f := fun t k => t.holdPort k c) (P := fun t => g ∈ t.portGroups k)
    (Q := fun t : State => testBit t.mint.groups[g.val].pend c.bit = true)
    (fun _ h => State.holdPort_pends h c) (fun t j h _ => ((t.holdPort_holdsMore j c).portGroups k).symm ▸ h)
    (fun t j h => (t.holdPort_holdsMore j c).pend g _ h) hk hg

/-- A slot that becomes suspended holds every group with an enabled channel on one of its PROXY ports, with cause SUSPEND
(R121). -/
theorem State.suspendSlot_pends {s : State} {h : SlotId} {k : PortId} {g : GroupId} (hs : s.slots[h.val].suspended = false)
    (hown : s.owns h k = true) (hmode : s.mode k = .proxy) (hg : g ∈ s.portGroups k) :
    testBit (s.suspendSlot h).mint.groups[g.val].pend 12 = true := by
  unfold State.suspendSlot
  rw [if_neg (by rw [hs]; exact Bool.false_ne_true)]
  extract_lets t mine u
  have hmine : k ∈ mine := List.mem_filter.mpr ⟨mem_allPorts k, by
    rw [Bool.and_eq_true, beq_iff_eq]; exact ⟨hown, hmode⟩⟩
  have hu : testBit u.mint.groups[g.val].pend 12 = true := foldl_holdPort_pends (s := t) hmine hg .suspend
  refine State.HoldsMore.pend (.foldl _ (fun v j => ?_) mine u) g 12 hu
  have hactive : v.HoldsMore (((v.leaveActive j).suspendPort j).modPort j fun p => { p with slotSuspend := true }) :=
    (v.leaveActive_holdsMore j).trans (.of_mint rfl)
  split
  · exact .refl v
  · split
    · exact hactive
    · exact hactive
    · exact .of_mint rfl
    · exact .of_mint rfl
    · exact .of_mint rfl
    · exact .of_mint rfl
    · exact .refl v

/-! ### Ports that resume (R120, R122) -/

/-- The ports that a slot suspended resume with it (R122). -/
theorem State.resumeSlot_resumes {s : State} {h : SlotId} {k : PortId} (hs : s.slots[h.val].suspended = true)
    (hown : s.owns h k = true) (hflag : s.ports[k.val].slotSuspend = true) (hst : s.ports[k.val].state = .suspended) :
    (s.resumeSlot h).ports[k.val].state = .resuming := by
  have hexit : ∀ t : State, t.exitS1.ports = t.ports := fun t => by
    unfold State.exitS1
    split
    · exact (State.everySlotEvent_evented _ _ _ _).ports
    · rfl
  unfold State.resumeSlot
  rw [if_pos hs]
  dsimp only
  rw [hexit]
  refine foldl_reaches (P := fun t : State => t.ports[k.val] = s.ports[k.val])
    (Q := fun t : State => t.ports[k.val].state = .resuming) ?at_port ?before ?after (mem_allPorts k) rfl
  case at_port =>
    intro t ht
    have hown' : t.owns h k = true := by rw [State.owns, State.owner, ht]; exact hown
    rw [if_pos ⟨hown', by rw [ht]; exact hflag⟩, if_pos (by rw [ht]; exact hst), State.startResume, State.modPort_ports,
      vmod_same]
  case before =>
    intro t j ht hj
    refine Eq.trans ?_ ht
    split
    · split
      · exact t.modPort_other hj _
      · exact t.modPort_other hj _
    · rfl
  case after =>
    intro t j ht
    split
    · split
      · exact State.modPort_keeps (P := (·.state = .resuming)) (fun _ _ => rfl) ht
      · exact State.modPort_keeps (P := (·.state = .resuming)) (fun _ hp => hp) ht
    · exact ht

/-- The relayed ports that follow their hub's suspend resume with it (R120). -/
theorem State.resumeHub2_resumes {s : State} {h : SlotId} {k : PortId} (hrel : s.ownRelay h k = true)
    (hflag : s.ports[k.val].hubSuspend = true) (hst : s.ports[k.val].state = .suspended) :
    (s.resumeHub2 h).ports[k.val].state = .resuming := by
  unfold State.resumeHub2
  dsimp only
  refine foldl_reaches (P := fun t : State => t.ports[k.val] = s.ports[k.val])
    (Q := fun t : State => t.ports[k.val].state = .resuming) ?at_port ?before ?after (mem_allPorts k) rfl
  case at_port =>
    intro t ht
    have hrel' : t.ownRelay h k = true := by
      rw [State.ownRelay, State.owns, State.owner, State.mode, ht]
      exact hrel
    rw [if_pos ⟨hrel', by rw [ht]; exact hflag, by rw [ht]; exact hst⟩, State.modPort_ports, vmod_same]
  case before =>
    intro t j ht hj
    refine Eq.trans ?_ ht
    split
    · exact t.modPort_other hj _
    · rfl
  case after =>
    intro t j ht
    split
    · exact State.modPort_keeps (P := (·.state = .resuming)) (fun _ _ => rfl) ht
    · exact ht

/-! ### Wake-up signals (R122, R123) -/

/-- A slot that is not suspended and signals no remote wake. -/
def Slot.Awake (x : Slot) : Prop := x.suspended = false ∧ x.wakeSignal = false

/-- An event wakes no slot that is not suspended (R123). -/
theorem Slot.Awake.queueEvent {x : Slot} (h : x.Awake) (e : Event) : (x.queueEvent e).Awake := by
  obtain ⟨hs, hw⟩ := h
  unfold Slot.queueEvent
  dsimp only
  split
  · unfold Slot.wakeIfArmed
    rw [if_neg (by simp [hs])]
    exact ⟨hs, hw⟩
  · exact ⟨hs, hw⟩

/-- A change of a slot that keeps it awake. -/
theorem State.awake_modSlot {s : State} {g h : SlotId} {f : Slot → Slot} (hf : ∀ x : Slot, x.Awake → (f x).Awake)
    (hs : s.slots[g.val].Awake) : (s.modSlot h f).slots[g.val].Awake := by
  rw [State.modSlot_slots, vmod_get]
  split
  · exact hf _ hs
  · exact hs

/-- An event wakes no slot that is not suspended, whichever slot it is given. -/
theorem State.give_awake {s : State} {g : SlotId} (hs : s.slots[g.val].Awake) (h : SlotId) (e : Event) :
    (s.give h e).slots[g.val].Awake := by
  have hseq : (s.modSlot h fun x => { x with seq := x.seq + 1 }).slots[g.val].Awake := State.awake_modSlot (fun _ hx => hx) hs
  unfold State.give
  extract_lets t
  split
  · split
    · exact hseq
    · exact hseq
  · exact State.awake_modSlot (fun _ hx => hx.queueEvent e) hseq

/-- The end of S1 wakes no slot that is not suspended (R405). -/
theorem State.exitS1_awake {s : State} {g : SlotId} (hs : s.slots[g.val].Awake) : s.exitS1.slots[g.val].Awake := by
  unfold State.exitS1
  split
  · refine foldl_inv (fun t : State => t.slots[g.val].Awake) _ (fun t h ht => ?_) allSlots _ hs
    split
    · exact State.give_awake ht h _
    · exact ht
  · exact hs

/-- A slot that resumes is awake: its own resume signalling has ended (R122, R124). -/
theorem State.resumeSlot_awake {s : State} {h : SlotId} (hs : s.slots[h.val].suspended = true) :
    (s.resumeSlot h).slots[h.val].Awake := by
  unfold State.resumeSlot
  rw [if_pos hs]
  extract_lets t u
  have hu : u.slots = t.slots := by
    apply foldl_keeps (·.slots)
    intro v k
    split
    · split <;> rfl
    · rfl
  refine State.exitS1_awake ?_
  rw [hu, State.modSlot_slots, vmod_same]
  exact ⟨rfl, rfl⟩

/-! ### The rows -/

/-- SLOT_SUSPEND of a slot whose Teller is on its SuperSpeed link (R120). -/
theorem exec_slotSuspend_ss {h : SlotId} {s : State} (hp : s.slots[h.val].presented = true)
    (hpath : s.slots[h.val].tellerPath = 1) :
    exec (.slotSuspend h) s = .next ((s.modSlot h fun x => { x with ssLink := 3 }).suspendSlot h) := by
  refine congrArg Host.Outcome.next ?_
  dsimp only
  rw [hp, Bool.not_true, if_neg Bool.false_ne_true, if_pos hpath]

/-- SLOT_RESUME of a suspended slot whose Teller is on its SuperSpeed link (R122). -/
theorem exec_slotResume_ss {h : SlotId} {s : State} (hp : s.slots[h.val].presented = true)
    (hpath : s.slots[h.val].tellerPath = 1) (hs : s.slots[h.val].suspended = true) :
    exec (.slotResume h) s = .next ((s.modSlot h fun x => { x with ssLink := 0 }).resumeSlot h) := by
  refine congrArg Host.Outcome.next ?_
  dsimp only
  rw [if_neg (by simp [hp, hs]), if_pos hpath]

/-- USB2_HUB_SUSPEND while Teller is on the SuperSpeed link (R120). -/
theorem exec_usb2HubSuspend_ss {h : SlotId} {s : State} (hp : s.slots[h.val].presented = true)
    (hpath : s.slots[h.val].tellerPath = 1) (hs : s.slots[h.val].hub2Susp = false) :
    exec (.usb2HubSuspend h) s = .next (s.suspendHub2 h) :=
  congrArg Host.Outcome.next (if_pos (by simp [hp, hpath, hs]))

/-- USB2_HUB_RESUME while Teller is on the SuperSpeed link (R120). -/
theorem exec_usb2HubResume_ss {h : SlotId} {s : State} (hp : s.slots[h.val].presented = true)
    (hpath : s.slots[h.val].tellerPath = 1) (hs : s.slots[h.val].hub2Susp = true) :
    exec (.usb2HubResume h) s = .next (s.resumeHub2 h) :=
  congrArg Host.Outcome.next (if_pos (by simp [hp, hpath, hs]))

/-- The hub itself asks for U1 or U2 only while its slot has no subscription and no command in the Till (R100). -/
theorem barsU1U2_iff {x : Slot} {st : BitVec 2} {own : Bool} :
    (own && st != 0 && (x.subscribed || x.nextSubscribed || !x.till.isEmpty)) = true ↔
      own = true ∧ st ≠ 0 ∧ (x.subscribed = true ∨ x.nextSubscribed = true ∨ x.till ≠ []) := by
  simp [and_assoc, or_assoc]

/-- Settles O55: each row's own change of the slot, the groups held, and the ports that resume. -/
theorem slotsSuspendAndResume : Obligations.SlotsSuspendAndResume := by
  unfold Obligations.SlotsSuspendAndResume
  intro h s hp
  refine ⟨fun hpath hs => ⟨_, exec_slotSuspend_ss hp hpath, ?suspended⟩,
    fun hpath hs => ⟨_, exec_slotResume_ss hp hpath hs, ?resumed⟩,
    fun hpath hs => ⟨_, exec_usb2HubSuspend_ss hp hpath hs, s.suspendHub2_slots h⟩,
    fun hpath hs => ⟨_, exec_usb2HubResume_ss hp hpath hs, s.resumeHub2_slots h, fun k => State.resumeHub2_resumes⟩,
    fun st own hspeed hlink => ⟨fun ⟨hmay, hbar⟩ => congrArg Host.Outcome.next (if_pos ⟨hspeed, hlink, hmay, ?entered⟩),
      fun hno => congrArg Host.Outcome.next (if_neg ?barred)⟩,
    fun ts itp => ⟨fun hon => congrArg Host.Outcome.next (if_pos ⟨hp, ?stamped⟩),
      fun hitp hpath => congrArg Host.Outcome.next (if_neg ?unstamped)⟩⟩
  case suspended =>
    rw [State.suspendSlot_slots, vmod_same, State.modSlot_slots, vmod_same]
    refine ⟨rfl, rfl, fun k g hown hmode hg => State.suspendSlot_pends ?_ hown hmode hg⟩
    rw [State.modSlot_slots, vmod_same]
    exact hs
  case resumed =>
    have hs' : (s.modSlot h fun x => { x with ssLink := 0 }).slots[h.val].suspended = true := by
      rw [State.modSlot_slots, vmod_same]
      exact hs
    obtain ⟨hon, hquiet⟩ := State.resumeSlot_awake hs'
    refine ⟨hon, ?_, hquiet, fun k => State.resumeSlot_resumes hs'⟩
    rw [State.resumeSlot_heard, State.modSlot_slots, vmod_same]
  case entered =>
    rw [Bool.not_eq_true', ← Bool.not_eq_true, barsU1U2_iff]
    exact hbar
  case barred =>
    rintro ⟨-, -, hmay, hfree⟩
    rw [Bool.not_eq_true', ← Bool.not_eq_true, barsU1U2_iff] at hfree
    exact hno.elim (· hmay) hfree
  case stamped =>
    simpa using hon
  case unstamped =>
    rintro ⟨-, hon⟩
    exact hon.elim (by simp [hitp]) hpath

end Sys2Proof.Machine
end

section
/-! SUPPORT. Standard and hub requests on endpoint 0 of a slot's functions (R96 to R108, R131): what they set, and the device
descriptor. -/
namespace Sys2Proof.Machine

/-! ### The device descriptor (R96) -/

/-- Two neighbouring numbers out of the first ones. -/
theorem drop_take_range {off n : Nat} (h : off + 2 ≤ n) : ((List.range n).drop off).take 2 = [off, off + 1] := by
  obtain ⟨m, rfl⟩ := Nat.exists_eq_add_of_le h
  rw [List.range_eq_range', List.drop_range', show off + 2 + m - off = m + 2 by omega]
  simp [List.range'_succ]

/-- A descriptor holds a number of two bytes where both bytes are given. -/
theorem leAt_descOf {p ty n off a b : Nat} {l : List (Nat × Nat)} (hn : off + 2 ≤ n)
    (ha : (l.find? fun x => x.1 == off) = some (off, a)) (hb : (l.find? fun x => x.1 == off + 1) = some (off + 1, b)) :
    leAt (descOf p ty n l) off 2 = a % 256 + 256 * (b % 256) := by
  rw [leAt, slice, descOf, ← List.map_drop, ← List.map_take, drop_take_range hn]
  simp [ha, hb, ofLe]

/-- A product number has two bytes (R96). -/
theorem Slot.product_lt (x : Slot) (f : SlotFunction) : x.product f < 65536 := by
  unfold Slot.product
  split
  · decide
  · decide
  · split <;> decide

/-- The device descriptor names the vendor, the product and the release (R96). -/
theorem Slot.deviceDesc_ids (x : Slot) (f : SlotFunction) : leAt (x.deviceDesc f) 8 2 = 0x32B1 ∧
    leAt (x.deviceDesc f) 10 2 = x.product f ∧ leAt (x.deviceDesc f) 12 2 = 0x00B0 := by
  have hlt := x.product_lt f
  have hvendor : leAt (x.deviceDesc f) 8 2 = 0x32B1 := leAt_descOf (a := 0xB1) (b := 0x32) (by decide) rfl rfl
  have hproduct : leAt (x.deviceDesc f) 10 2 = x.product f % 256 % 256 + 256 * (x.product f / 256 % 256) :=
    leAt_descOf (by decide) rfl rfl
  have hrelease : leAt (x.deviceDesc f) 12 2 = 0x00B0 := leAt_descOf (a := 0xB0) (b := 0) (by decide) rfl rfl
  exact ⟨hvendor, by omega, hrelease⟩

/-! ### Configuration (R104) -/

/-- The Teller function is configured, whatever events that brings (R412, R434). -/
theorem State.configured_tellerCfg (s : State) (h : SlotId) : (s.configured h).slots[h.val].tellerCfg = true := by
  have hevent : ∀ (t : State) (c x d : Nat), t.slots[h.val].tellerCfg = true →
      (t.slotEvent h c none x d).slots[h.val].tellerCfg = true := fun t c x d ht => by
    rw [(t.slotEvent_evented h c none x d).heard h]
    exact ht
  unfold State.configured
  extract_lets t u v
  have ht : t.slots[h.val].tellerCfg = true := by
    show (vmod s.slots h _)[h.val].tellerCfg = true
    rw [vmod_same]
  have hu : u.slots[h.val].tellerCfg = true := by
    show (if _ then _ else _ : State).slots[h.val].tellerCfg = true
    split
    · exact hevent t _ _ _ ht
    · exact ht
  split
  · exact hevent u _ _ _ hu
  · exact hu

/-- SET_CONFIGURATION sets the configuration of the Teller function. -/
theorem State.setConfiguration_tellerCfg (s : State) (h : SlotId) (on : Bool) :
    (s.setConfiguration h .teller on).slots[h.val].tellerCfg = on := by
  cases on with
  | true =>
    show (if true = s.slots[h.val].tellerCfg then s else s.configured h).slots[h.val].tellerCfg = true
    split
    case isTrue hcfg => exact hcfg.symm
    case isFalse => exact s.configured_tellerCfg h
  | false =>
    show (if false = s.slots[h.val].tellerCfg then s
      else s.modSlot h fun x => { x with tellerCfg := false }).slots[h.val].tellerCfg = false
    split
    case isTrue hcfg => exact hcfg.symm
    case isFalse =>
      show (vmod s.slots h _)[h.val].tellerCfg = false
      rw [vmod_same]

/-! ### Requests of a function that is up -/

/-- The check of a request's function is passed. -/
theorem State.functionUp_passes {s : State} {h : SlotId} {f : SlotFunction} (hup : s.functionUp h f = true) :
    ¬ (!s.functionUp h f) = true := by
  rw [hup]
  exact Bool.false_ne_true

/-- A function of a slot that is up takes SET_ADDRESS, SET_CONFIGURATION and SET or CLEAR_FEATURE of remote wake, and answers
them (R104, R107, R108). -/
theorem exec_standardRequest_set {s : State} {h : SlotId} {f : SlotFunction} (hup : s.functionUp h f = true) :
    (∀ a, exec (.standardRequest h f (.setAddress a)) s = .next ((s.modSlot h fun x => x.setAddress f a).reply h .ack)) ∧
    exec (.standardRequest h f (.setConfiguration 1)) s = .next ((s.setConfiguration h f true).reply h .ack) ∧
    exec (.standardRequest h f (.setConfiguration 0)) s = .next ((s.setConfiguration h f false).reply h .ack) ∧
    (∀ on, exec (.standardRequest h f (.remoteWake on)) s = .next ((s.modSlot h fun x => x.setWake f on).reply h .ack)) :=
  ⟨fun _ => congrArg Host.Outcome.next (if_neg (State.functionUp_passes hup)),
    congrArg Host.Outcome.next ((if_neg (State.functionUp_passes hup)).trans (if_neg (by decide))),
    congrArg Host.Outcome.next ((if_neg (State.functionUp_passes hup)).trans (if_neg (by decide))),
    fun _ => congrArg Host.Outcome.next (if_neg (State.functionUp_passes hup))⟩

/-- A configuration that the function has not, and a vendor request, meet a STALL (R104). -/
theorem exec_standardRequest_stalls {s : State} {h : SlotId} {f : SlotFunction} (hup : s.functionUp h f = true) :
    (∀ v : Byte, 1 < v.toNat → exec (.standardRequest h f (.setConfiguration v)) s = .next (s.reply h .stall)) ∧
    exec (.standardRequest h f .vendor) s = .next (s.reply h .stall) :=
  ⟨fun _ hv => congrArg Host.Outcome.next ((if_neg (State.functionUp_passes hup)).trans (if_pos hv)),
    congrArg Host.Outcome.next (if_neg (State.functionUp_passes hup))⟩

/-- GET_DESCRIPTOR returns the device descriptor (R96). -/
theorem exec_standardRequest_device {s : State} {h : SlotId} {f : SlotFunction} (hup : s.functionUp h f = true) :
    exec (.standardRequest h f (.getDescriptor 1 0)) s = .next (s.reply h (.data (s.slots[h.val].deviceDesc f))) :=
  congrArg Host.Outcome.next (if_neg (State.functionUp_passes hup))

/-- U1 and U2 are enabled and disabled on the SuperSpeedPlus hub (R100). -/
theorem exec_standardRequest_u1u2 {s : State} {h : SlotId} (hup : s.functionUp h .ssHub = true) :
    (∀ on, exec (.standardRequest h .ssHub (.u1Enable on)) s =
      .next ((s.modSlot h fun x => { x with u1En := on }).reply h .ack)) ∧
    (∀ on, exec (.standardRequest h .ssHub (.u2Enable on)) s =
      .next ((s.modSlot h fun x => { x with u2En := on }).reply h .ack)) :=
  ⟨fun _ => congrArg Host.Outcome.next ((if_neg (State.functionUp_passes hup)).trans (if_pos rfl)),
    fun _ => congrArg Host.Outcome.next ((if_neg (State.functionUp_passes hup)).trans (if_pos rfl))⟩

/-- ClearPortFeature is a request of the USB 2.0 hub (R101). -/
theorem exec_clearPortFeature {s : State} {h : SlotId} (hup : s.functionUp h .hub2 = true) (k : Option PortId) (ft : HubFeature) :
    exec (.standardRequest h .hub2 (.clearPortFeature k ft)) s = .next ((s.clearFeature h k ft).reply h .ack) :=
  congrArg Host.Outcome.next ((if_neg (State.functionUp_passes hup)).trans (if_pos rfl))

/-- A change bit is cleared on the slot's hub (R101). -/
theorem State.clearFeature_connection (s : State) (h : SlotId) (k : PortId) :
    s.clearFeature h (some k) .cConnection = s.hubChange h k fun c => { c with connection := false } :=
  rfl

/-- PORT_ENABLE cleared disables a relayed port of the slot that runs, and no other (R119, R131). -/
theorem State.clearFeature_enable (s : State) (h : SlotId) (k : PortId) : s.clearFeature h (some k) .enable =
    if s.ownRelay h k ∧ (s.ports[k.val].state = .active ∨ s.ports[k.val].state = .suspended ∨ s.ports[k.val].state = .resuming)
    then s.modPort k fun p => { p with state := .disabled, prev := .off, hubSuspend := false } else s :=
  rfl

/-- A request is answered on endpoint 0 of its slot. -/
theorem State.reply_ctl (s : State) (h : SlotId) (r : CtlReply) : (s.reply h r).slots[h.val] = { s.slots[h.val] with ctl := r } :=
  vmod_same ..

/-- Settles O56: each request by what it sets, and the descriptor byte by byte. The STALLs and what ClearPortFeature does are the
model's choice (log 167). -/
theorem standardRequestsAreAnswered : Obligations.StandardRequestsAreAnswered := by
  unfold Obligations.StandardRequestsAreAnswered
  intro h s
  refine ⟨fun f hup => ?any, fun hup => ?teller, fun hup => ?hub2, fun hup => ?ssHub, fun hup k => ?ports⟩
  case any =>
    obtain ⟨hcfg, hvendor⟩ := exec_standardRequest_stalls hup
    exact ⟨hcfg, hvendor, _, exec_standardRequest_device hup, s.slots[h.val].deviceDesc_ids f⟩
  case teller =>
    obtain ⟨haddr, hon, hoff, hwake⟩ := exec_standardRequest_set hup
    refine ⟨haddr, ⟨_, hon, ?_⟩, ⟨_, hoff, ?_⟩, hwake⟩
    · rw [State.reply_ctl]; exact ⟨s.setConfiguration_tellerCfg h true, rfl⟩
    · rw [State.reply_ctl]; exact ⟨s.setConfiguration_tellerCfg h false, rfl⟩
  case hub2 =>
    obtain ⟨haddr, hon, -, hwake⟩ := exec_standardRequest_set hup
    exact ⟨haddr, hon, hwake⟩
  case ssHub =>
    obtain ⟨haddr, -⟩ := exec_standardRequest_set hup
    exact ⟨haddr, exec_standardRequest_u1u2 hup⟩
  case ports =>
    refine ⟨⟨_, exec_clearPortFeature hup _ _, ?_⟩, fun hrel hst => ⟨_, exec_clearPortFeature hup _ _, ?_⟩, fun hrel => ?_⟩
    · rw [State.reply_ctl, State.clearFeature_connection, State.hubChange, State.modSlot_slots, vmod_same, vmod_same]
      exact ⟨rfl, rfl, rfl⟩
    · rw [State.clearFeature_enable, if_pos ⟨hrel, .inl hst⟩, State.reply_ctl]
      exact ⟨by rw [State.reply, State.modSlot_ports, State.modPort_ports, vmod_same], rfl⟩
    · rw [exec_clearPortFeature hup, State.clearFeature_enable, hrel, if_neg fun ⟨hown, _⟩ => Bool.false_ne_true hown]

end Sys2Proof.Machine
end

section
/-! SUPPORT. Connection, reset, resume, remote wake and babble on a port (file 05): what each leaves of the port, and that events,
holds and hub changes leave the ports. -/
namespace Sys2Proof.Machine

/-! ### What leaves the ports -/

/-- A change marked on the owner's hub leaves the ports. -/
@[simp] theorem State.relayChange_ports (s : State) (k : PortId) (f : HubChange → HubChange) :
    (s.relayChange k f).ports = s.ports := by
  unfold State.relayChange
  split <;> rfl

/-- Holding Mint groups leaves the ports. -/
@[simp] theorem State.holdPort_ports (s : State) (k : PortId) (c : Cause) : (s.holdPort k c).ports = s.ports := by
  unfold State.holdPort
  apply foldl_keeps (·.ports)
  exact fun _ _ => rfl

/-- A PROXY port that leaves ACTIVE changes the Mint alone (R143). -/
@[simp] theorem State.leaveActive_ports (s : State) (k : PortId) : (s.leaveActive k).ports = s.ports := by
  unfold State.leaveActive
  split
  · exact s.holdPort_ports k .port
  · rfl

/-- A status that outranks others changes records alone (R156). -/
@[simp] theorem State.outrank_ports (s : State) (k : PortId) (st : Status) : (s.outrank k st).ports = s.ports := by
  unfold State.outrank
  apply foldl_keeps (·.ports)
  exact fun _ _ => rfl

/-- A step that is taken or not, and leaves the ports. -/
theorem State.ite_ports {c : Prop} [Decidable c] {t u : State} (h : t.ports = u.ports) :
    (if c then t else u).ports = u.ports := by
  split
  · exact h
  · rfl

/-- A change of a port that leaves its Deed leaves every Deed. -/
theorem State.deed_of_ports {s t : State} {k : PortId} {f : Port → Port} (h : t.ports = vmod s.ports k f)
    (hf : ∀ p, (f p).deed = p.deed) (j : PortId) : t.ports[j.val].deed = s.ports[j.val].deed := by
  rw [h, vmod_get]
  split
  · exact hf _
  · rfl

/-- A change of a port that leaves its Deed leaves the modes. -/
theorem State.mode_of_ports {s t : State} {k : PortId} {f : Port → Port} (h : t.ports = vmod s.ports k f)
    (hf : ∀ p, (f p).deed = p.deed) (j : PortId) : t.mode j = s.mode j :=
  congrArg Deed.mode (State.deed_of_ports h hf j)

/-- A change of a port that leaves its Deed leaves the owners. -/
theorem State.owner_of_ports {s t : State} {k : PortId} {f : Port → Port} (h : t.ports = vmod s.ports k f)
    (hf : ∀ p, (f p).deed = p.deed) (j : PortId) : t.owner j = s.owner j :=
  congrArg Deed.owner (State.deed_of_ports h hf j)

/-- A changed port that keeps its Deed leaves the modes. -/
theorem State.modPort_mode (s : State) (k j : PortId) {f : Port → Port} (hf : ∀ p, (f p).deed = p.deed) :
    (s.modPort k f).mode j = s.mode j :=
  State.mode_of_ports (s.modPort_ports k f) hf j

/-- A changed port that keeps its Deed leaves the owners. -/
theorem State.modPort_owner (s : State) (k j : PortId) {f : Port → Port} (hf : ∀ p, (f p).deed = p.deed) :
    (s.modPort k f).owner j = s.owner j :=
  State.owner_of_ports (s.modPort_ports k f) hf j

/-- Two changes of a port, one after the other. -/
theorem State.modPort_modPort (s : State) (k : PortId) (f g : Port → Port) :
    (s.modPort k f).modPort k g = s.modPort k fun p => g (f p) := by
  unfold State.modPort
  rw [vmod_vmod]
  rfl

/-- Completions and events leave a hub's suspend. -/
theorem Slot.Told.hub2Susp {x y : Slot} (h : x.Told y) : y.hub2Susp = x.hub2Susp := by
  rw [h]

/-- A change marked on a hub leaves its suspend. -/
theorem Slot.HubMarked.hub2Susp {x y : Slot} (h : x.HubMarked y) : y.hub2Susp = x.hub2Susp := by
  rw [h]

/-! ### The device goes (R132, R155) -/

/-- `q` is `p` but for what it notes of the tags that ended and of its detach (R132, R156). -/
def Port.Noted (p q : Port) : Prop := q = { p with endedTags := q.endedTags, detachedAt := q.detachedAt }

theorem Port.Noted.trans {p q r : Port} (h : p.Noted q) (k : q.Noted r) : p.Noted r := by
  unfold Port.Noted at h k ⊢
  rw [k, h]

/-- Commands that end change a port in what it notes of them. -/
theorem State.Answering.noted {s t : State} (h : s.Answering t) (k : PortId) : s.ports[k.val].Noted t.ports[k.val] := by
  rw [h.ports k]
  rfl

/-- A port without its device, in the state that it comes to. -/
def Port.lost (dst : PortState) (p : Port) : Port :=
  { p.noDevice.flushTt with state := dst, prev := .off, slotSuspend := false, hubSuspend := false, test := none }

/-- A detach is noted by its time. -/
theorem State.outranked_noted (s : State) (k : PortId) (st : Status) (c : Bool) (now : Nat) : s.ports[k.val].Noted
    (if c then (s.outrank k st).modPort k fun p => { p with detachedAt := some now } else s).ports[k.val] := by
  cases c with
  | false => rfl
  | true =>
    rw [if_pos rfl, State.modPort_ports, vmod_same, State.outrank_ports]
    rfl

/-- A port that loses its device, but not its VBUS, keeps what `Port.lost` keeps. -/
theorem State.loseDevice_noted (s : State) (k : PortId) {dst : PortState} (hdst : dst ≠ .waitPower) (st : Status) (tell : Bool)
    (which : Wait → Bool) : (s.ports[k.val].lost dst).Noted (s.loseDevice k dst st tell which).ports[k.val] := by
  unfold State.loseDevice
  extract_lets p before test dst' s₁ s₂ s₃ s₄ now had again s₅
  have htest : test = none := if_neg hdst
  have hdst' : dst' = dst := if_neg (by rw [htest]; exact Bool.false_ne_true)
  have h₂ : s₂.ports = s.ports := (State.ite_ports (State.relayChange_ports ..)).trans (s.leaveActive_ports k)
  have h₃ : s₃.ports[k.val] = s.ports[k.val].lost dst := by
    show (vmod s₂.ports k _)[k.val] = _
    rw [vmod_same, h₂, htest, hdst']
    rfl
  have h₅ : s₄.ports[k.val].Noted s₅.ports[k.val] := s₄.outranked_noted k st _ _
  have h₆ := State.ite_ports (c := (tell && had && !again && p.deed.mode == .proxy) = true)
    (s₅.portEvent_ports k 0x06 0 before.toNat)
  rw [h₆, ← h₃]
  exact ((s₃.endWaits_answering which st).noted k).trans h₅

/-! ### Babble (R155) -/

/-- Babble on a port that does not enumerate disables it, and is counted. -/
theorem State.babble_port {s : State} {k : PortId} (hst : s.ports[k.val].state ≠ .enumerating) :
    (s.babble k).ports[k.val].state = .disabled ∧
      (s.babble k).ports[k.val].errBabble = satAdd s.ports[k.val].errBabble 1 := by
  unfold State.babble
  extract_lets s₁ s₂ s₃ s₄ s₅
  have h₁ : s₁.ports[k.val] = { s.ports[k.val] with errBabble := satAdd s.ports[k.val].errBabble 1 } := vmod_same ..
  have hne : s₁.ports[k.val].state ≠ .enumerating := by
    rw [h₁]
    exact hst
  have h₃ : s₁.ports[k.val].Noted s₃.ports[k.val] := by
    have hend := (s₂.endWaits_answering (Wait.endsOnUsbLoss k) .ePortReset).noted k
    rwa [State.leaveActive_ports] at hend
  rw [if_neg hne]
  by_cases hmode : s₁.mode k = .proxy
  · rw [if_pos hmode, State.portError, State.portEvent_ports, State.outrank_ports, State.modPort_ports, vmod_same, h₃, h₁]
    exact ⟨rfl, rfl⟩
  · rw [if_neg hmode, State.relayChange_ports, State.modPort_ports, vmod_same, h₁]
    exact ⟨rfl, rfl⟩

/-! ### Following a suspended slot or hub (R120, R121) -/

/-- A port that no suspended slot flagged comes to rest as it is. -/
theorem State.followSlot_unflagged {s : State} {k : PortId} (h : s.ports[k.val].slotSuspend = false) : s.followSlot k = s :=
  if_neg fun ⟨hs, _⟩ => Bool.false_ne_true (h.symm.trans hs)

/-- A flagged PROXY port that comes to ACTIVE is suspended (R121). -/
theorem State.followSlot_flagged {s : State} {k : PortId} (h : s.ports[k.val].slotSuspend = true) (hmode : s.mode k = .proxy)
    (hst : s.ports[k.val].state = .active) : s.followSlot k = s.suspendPort k :=
  if_pos ⟨h, hmode, .inl hst⟩

/-- A port follows no hub that is not suspended. -/
theorem State.followHub_awake {s : State} {k : PortId}
    (h : s.mode k = .relay → ∀ g, s.owner k = some g → s.slots[g.val].hub2Susp = false) : s.followHub k = s := by
  unfold State.followHub
  split
  · next g hmode howner => exact if_neg fun ⟨hs, _⟩ => Bool.false_ne_true ((h hmode g howner).symm.trans hs)
  · rfl

/-- An active RELAY port follows its owner's suspended hub (R120). -/
theorem State.followHub_suspended {s : State} {k : PortId} {g : SlotId} (hmode : s.mode k = .relay) (howner : s.owner k = some g)
    (hs : s.slots[g.val].hub2Susp = true) (hst : s.ports[k.val].state = .active) :
    s.followHub k = (s.suspendPort k).modPort k fun p => { p with hubSuspend := true } := by
  unfold State.followHub
  rw [hmode, howner]
  exact if_pos ⟨hs, hst⟩

/-- Following a suspended hub keeps the speed. -/
theorem State.followHub_speed (s : State) (k : PortId) : (s.followHub k).ports[k.val].speed = s.ports[k.val].speed := by
  unfold State.followHub
  split
  · split
    · exact State.modPort_keeps (P := fun p => p.speed = s.ports[k.val].speed) (fun _ h => h)
        (State.modPort_keeps (P := fun p => p.speed = s.ports[k.val].speed) (fun _ h => h) rfl)
    · rfl
  · rfl

/-- Following a suspended slot leaves the slots. -/
@[simp] theorem State.followSlot_slots (s : State) (k : PortId) : (s.followSlot k).slots = s.slots := by
  unfold State.followSlot
  dsimp only
  split <;> rfl

/-- Following a suspended hub leaves the slots. -/
@[simp] theorem State.followHub_slots (s : State) (k : PortId) : (s.followHub k).slots = s.slots := by
  unfold State.followHub
  split
  · split <;> rfl
  · rfl

/-! ### Connection (R134, R135) -/

/-- A device connects to a powered PROXY port (R135). -/
theorem exec_usbConnect_proxy {s : State} {k : PortId} (hon : s.usbOn k = true) (hmode : s.mode k = .proxy)
    (hst : s.shownState k = .powered) (hdev : s.ports[k.val].connected = false) (d : Bool) : exec (.usbConnect k d) s =
      .next (s.modPort k fun p => { p with connected := true, state := .connectDebounce }) := by
  refine congrArg Host.Outcome.next ((if_pos ⟨hon, hst, by rw [hdev]; rfl⟩).trans ((if_pos ?_).trans ?_))
  · rwa [State.modPort_mode]
    exact fun _ => rfl
  · exact s.modPort_modPort k _ _

/-! ### The ends of reset and resume (R136, R151) -/

/-- Port reset signalling ends on a PROXY port: its enumeration starts. -/
theorem exec_portResetEnd_proxy {s : State} {k : PortId} (hon : s.usbOn k = true) (hst : s.ports[k.val].state = .resetting)
    (hmode : s.mode k = .proxy) (chirp dplus : Bool) : exec (.portResetEnd k chirp dplus) s = .next
      (s.modPort k fun p => { p with
        speed := if chirp then 3 else if dplus then 2 else 1, state := .enumerating, step := .device8 }) := by
  refine congrArg Host.Outcome.next ((if_pos ⟨hst, hon⟩).trans ((if_pos ?_).trans ?_))
  · rwa [State.modPort_mode]
    exact fun _ => rfl
  · exact s.modPort_modPort k _ _

/-- A RELAY port as its reset ends, before it follows its hub. -/
def State.resetEnded (s : State) (k : PortId) (chirp dplus : Bool) : State :=
  let s := s.modPort k fun p => { p with speed := if chirp then 3 else if dplus then 2 else 1 }
  let s := s.modPort k fun p => { p with state := .active }
  (s.relayChange k fun c => { c with reset := true }).endWaits (fun w => w == .portReset k) .ok

/-- The end of a reset gives the port its speed and ACTIVE, and leaves the other ports. -/
theorem State.resetEnded_ports (s : State) (k : PortId) (chirp dplus : Bool) : (s.resetEnded k chirp dplus).ports =
    vmod s.ports k fun p => { p with speed := if chirp then 3 else if dplus then 2 else 1, state := .active } := by
  rw [State.resetEnded, State.endWaits_ports rfl, State.relayChange_ports]
  rw [State.modPort_modPort, State.modPort_ports]

/-- The end of a reset leaves the hubs' suspends. -/
theorem State.resetEnded_hub2Susp (s : State) (k : PortId) (chirp dplus : Bool) (g : SlotId) :
    (s.resetEnded k chirp dplus).slots[g.val].hub2Susp = s.slots[g.val].hub2Susp := by
  unfold State.resetEnded
  extract_lets s₁ s₂
  exact (State.endWaits_told _ _ _ g).hub2Susp.trans (s₂.relayChange_marked k _ g).hub2Susp

/-- Port reset signalling ends on a port that is not PROXY. -/
theorem exec_portResetEnd_relay {s : State} {k : PortId} (hon : s.usbOn k = true) (hst : s.ports[k.val].state = .resetting)
    (hmode : s.mode k ≠ .proxy) (chirp dplus : Bool) :
    exec (.portResetEnd k chirp dplus) s = .next ((s.resetEnded k chirp dplus).followHub k) := by
  refine congrArg Host.Outcome.next ((if_pos ⟨hst, hon⟩).trans (if_neg ?_))
  rwa [State.modPort_mode]
  exact fun _ => rfl

/-- A port as its resume ends, before it follows its slot or hub. -/
def State.resumeEnded (s : State) (k : PortId) : State :=
  let selective := !s.ports[k.val].hubSuspend
  let s := s.modPort k fun p => { p with state := p.prev, prev := .off, hubSuspend := false, wakeSet := p.wakeSet && !p.wakeCap }
  let s := if selective then s.relayChange k fun c => { c with suspend := true } else s
  s.endWaits (fun w => w == .portResume k) .ok

/-- The end of a resume gives the port the state it had, and leaves the other ports. -/
theorem State.resumeEnded_ports (s : State) (k : PortId) : (s.resumeEnded k).ports =
    vmod s.ports k fun p => { p with state := p.prev, prev := .off, hubSuspend := false, wakeSet := p.wakeSet && !p.wakeCap } := by
  unfold State.resumeEnded
  extract_lets selective s₁ s₂
  rw [State.endWaits_ports rfl]
  show (if _ then _ else _ : State).ports = _
  split
  · exact State.relayChange_ports ..
  · rfl

/-- The end of a resume leaves the hubs' suspends. -/
theorem State.resumeEnded_hub2Susp (s : State) (k : PortId) (g : SlotId) :
    (s.resumeEnded k).slots[g.val].hub2Susp = s.slots[g.val].hub2Susp := by
  unfold State.resumeEnded
  extract_lets selective s₁ s₂
  refine (State.endWaits_told _ _ _ g).hub2Susp.trans ?_
  show (if _ then _ else _ : State).slots[g.val].hub2Susp = _
  split
  · exact (State.relayChange_marked _ k _ g).hub2Susp
  · rfl

/-- Resume signalling ends (R151). -/
theorem exec_resumeSignallingEnd {s : State} {k : PortId} (hst : s.ports[k.val].state = .resuming) :
    exec (.resumeSignallingEnd k) s = .next (((s.resumeEnded k).followSlot k).followHub k) :=
  congrArg Host.Outcome.next (if_pos hst)

/-- A port whose reset ends with its hub awake stays as the reset left it. -/
theorem State.resetEnded_awake {s : State} {k : PortId} (chirp dplus : Bool)
    (h : ∀ g, s.owner k = some g → s.slots[g.val].hub2Susp = false) :
    (s.resetEnded k chirp dplus).followHub k = s.resetEnded k chirp dplus := by
  have howner := State.owner_of_ports (s.resetEnded_ports k chirp dplus) (fun _ => rfl) k
  refine State.followHub_awake fun _ g hg => ?_
  rw [State.resetEnded_hub2Susp]
  exact h g (howner.symm.trans hg)

/-- A RELAY port whose reset ends with its hub suspended is suspended with it (R120). -/
theorem State.resetEnded_suspended {s : State} {k : PortId} {g : SlotId} (chirp dplus : Bool) (hmode : s.mode k = .relay)
    (howner : s.owner k = some g) (hs : s.slots[g.val].hub2Susp = true) :
    ((s.resetEnded k chirp dplus).followHub k).ports[k.val].state = .suspended ∧
      ((s.resetEnded k chirp dplus).followHub k).ports[k.val].hubSuspend = true := by
  have hports := s.resetEnded_ports k chirp dplus
  have hm := (State.mode_of_ports hports (fun _ => rfl) k).trans hmode
  have ho := (State.owner_of_ports hports (fun _ => rfl) k).trans howner
  have hst : (s.resetEnded k chirp dplus).ports[k.val].state = .active := by rw [hports, vmod_same]
  rw [State.followHub_suspended hm ho ((s.resetEnded_hub2Susp k chirp dplus g).trans hs) hst, State.modPort_ports, vmod_same,
    State.suspendPort, State.modPort_ports, vmod_same]
  exact ⟨rfl, rfl⟩

/-- No command waits for a resume that has ended. -/
theorem State.resumeEnded_waits {s : State} {k : PortId} {g : SlotId} {e : TillEntry}
    (he : e ∈ (((s.resumeEnded k).followSlot k).followHub k).slots[g.val].till) : e.wait ≠ .portResume k := by
  rw [State.followHub_slots, State.followSlot_slots] at he
  have hno : (e.wait == .portResume k) = false := State.mem_endWaits_till (p := fun w => w == .portResume k) he
  exact fun hw => by rw [hw, beq_self_eq_true] at hno; cases hno

/-- A port whose resume ends with no suspended slot and no suspended hub stays as the resume left it. -/
theorem State.resumeEnded_awake {s : State} {k : PortId} (hflag : s.ports[k.val].slotSuspend = false)
    (h : s.mode k = .relay → ∀ g, s.owner k = some g → s.slots[g.val].hub2Susp = false) :
    ((s.resumeEnded k).followSlot k).followHub k = s.resumeEnded k := by
  have hports := s.resumeEnded_ports k
  have hmode := State.mode_of_ports hports (fun _ => rfl) k
  have howner := State.owner_of_ports hports (fun _ => rfl) k
  rw [State.followSlot_unflagged (by rw [hports, vmod_same]; exact hflag)]
  refine State.followHub_awake fun hm g ho => ?_
  rw [State.resumeEnded_hub2Susp]
  exact h (hmode.symm.trans hm) g (howner.symm.trans ho)

/-- A PROXY port whose resume ends while its slot is suspended is suspended again (R121). -/
theorem State.resumeEnded_flagged {s : State} {k : PortId} (hflag : s.ports[k.val].slotSuspend = true)
    (hmode : s.mode k = .proxy) (hprev : s.ports[k.val].prev = .active) :
    ((s.resumeEnded k).followSlot k).followHub k = (s.resumeEnded k).suspendPort k := by
  have hport := s.resumeEnded_ports k
  have hm := (State.mode_of_ports hport (fun _ => rfl) k).trans hmode
  rw [State.followSlot_flagged (by rw [hport, vmod_same]; exact hflag) hm (by rw [hport, vmod_same]; exact hprev)]
  refine State.followHub_awake fun hrelay => ?_
  rw [State.suspendPort, State.modPort_mode, hm] at hrelay
  · cases hrelay
  · exact fun _ => rfl

/-! ### Remote wake (R123, R124, R152) -/

/-- A remote wake on a PROXY port with a device, by the state of the port. -/
theorem exec_proxyRemoteWake {s : State} {k : PortId} (hmode : s.mode k = .proxy) (hon : s.usbOn k = true)
    (hdev : s.ports[k.val].connected = true) :
    (s.ports[k.val].state = .suspended → exec (.proxyRemoteWake k) s = .next ((s.startResume k).slotWake k false)) ∧
    (s.ports[k.val].state = .resuming → exec (.proxyRemoteWake k) s = .next (s.slotWake k false)) ∧
    (s.ports[k.val].state = .active → exec (.proxyRemoteWake k) s = .next (s.babble k)) := by
  show (_ → Host.Outcome.next _ = _) ∧ (_ → Host.Outcome.next _ = _) ∧ (_ → Host.Outcome.next _ = _)
  rw [if_pos ⟨hmode, hon, hdev⟩]
  refine ⟨fun h => ?_, fun h => ?_, fun h => ?_⟩ <;> rw [h]

/-- What a remote wake of a RELAY device does before its slot learns of it: the port resumes, or the hub's wake is armed. -/
def State.relayWoken (s : State) (k : PortId) : State :=
  let s := if s.ports[k.val].state = .suspended ∧ !s.ports[k.val].hubSuspend then s.startResume k else s
  match s.owner k with
  | some h => s.modSlot h fun x => if x.hub2Susp && x.wakeHub2 then { x with hubWake := true } else x
  | none => s

/-- A remote wake on a RELAY port that is suspended or resumes. -/
theorem exec_relayRemoteWake {s : State} {k : PortId} (hmode : s.mode k = .relay) (hon : s.usbOn k = true)
    (hst : s.ports[k.val].state = .suspended ∨ s.ports[k.val].state = .resuming) :
    exec (.relayRemoteWake k) s = .next ((s.relayWoken k).slotWake k true) :=
  congrArg Host.Outcome.next ((if_pos ⟨hmode, hon⟩).trans (if_pos hst))

/-- What a remote wake leaves of the ports of a RELAY device's slot. -/
theorem State.relayWoken_ports (s : State) (k : PortId) : (s.relayWoken k).ports =
    if s.ports[k.val].state = .suspended ∧ !s.ports[k.val].hubSuspend then (s.startResume k).ports else s.ports := by
  unfold State.relayWoken
  extract_lets t
  have ht : t.ports = if s.ports[k.val].state = .suspended ∧ !s.ports[k.val].hubSuspend then (s.startResume k).ports
      else s.ports := apply_ite State.ports _ _ _
  rw [← ht]
  split <;> rfl

/-- The hub of a slot whose RELAY device wakes drives resume upstream where it is suspended and armed (R124). -/
theorem State.relayWoken_hubWake {s : State} {k : PortId} {h : SlotId} (howner : s.owner k = some h) :
    (s.relayWoken k).slots[h.val].hubWake = (s.slots[h.val].hubWake || (s.slots[h.val].hub2Susp && s.slots[h.val].wakeHub2)) := by
  unfold State.relayWoken
  extract_lets t
  have hslots : t.slots = s.slots := by
    unfold t
    split <;> rfl
  have ht : t.owner k = some h := by
    unfold t
    split
    · rwa [State.startResume, State.modPort_owner]
      exact fun _ => rfl
    · exact howner
  rw [ht]
  dsimp only
  rw [State.modSlot_slots, vmod_same, hslots]
  cases hsusp : s.slots[h.val].hub2Susp && s.slots[h.val].wakeHub2 with
  | true => rw [if_pos rfl, Bool.or_true]
  | false => rw [if_neg Bool.false_ne_true, Bool.or_false]

/-- Settles O50: each event by the branch that the port takes, and the ports that it leaves. -/
theorem connectionAndResetMoveThePort : Obligations.ConnectionAndResetMoveThePort := by
  unfold Obligations.ConnectionAndResetMoveThePort
  intro k s hon
  refine ⟨?connect, ?disconnect, ?debounce, ?reset, ?resume, ?proxyWake, ?relayWake, ?babble, ?cycle⟩
  case connect =>
    intro d hmode hst hdev
    exact exec_usbConnect_proxy hon hmode hst hdev d
  case disconnect =>
    intro hdev htest
    refine ⟨_, congrArg Host.Outcome.next (if_pos ⟨hon, hdev, by rw [htest]; rfl⟩), ?_⟩
    have hport := s.loseDevice_noted k (dst := .powered) nofun .eDetached true (Wait.endsOnUsbLoss k)
    rw [hport]
    exact ⟨rfl, rfl, rfl, rfl, rfl, (s.loseDevice_samePower k .powered .eDetached true (Wait.endsOnUsbLoss k)).pwr⟩
  case debounce => exact fun hst => congrArg Host.Outcome.next (if_pos ⟨hst, hon⟩)
  case reset =>
    intro chirp dplus hst
    by_cases hmode : s.mode k = .proxy
    · refine ⟨_, exec_portResetEnd_proxy hon hst hmode chirp dplus, ?_⟩
      rw [State.modPort_ports, vmod_same, hmode]
      exact ⟨rfl, fun _ => rfl, nofun, nofun⟩
    · refine ⟨_, exec_portResetEnd_relay hon hst hmode chirp dplus, ?_, fun h => absurd h hmode, fun _ hawake => ?_,
        fun hrelay g howner hs => State.resetEnded_suspended chirp dplus hrelay howner hs⟩
      · rw [State.followHub_speed, State.resetEnded_ports, vmod_same]
      · rw [State.resetEnded_awake chirp dplus hawake, State.resetEnded_ports, vmod_same]
  case resume =>
    intro hst
    refine ⟨_, exec_resumeSignallingEnd hst, fun g e => State.resumeEnded_waits, fun hflag hawake => ?_,
      fun hflag hmode hprev => ?_⟩
    · rw [State.resumeEnded_awake hflag hawake, State.resumeEnded_ports, vmod_same]
      exact ⟨rfl, hflag, rfl⟩
    · rw [State.resumeEnded_flagged hflag hmode hprev, State.suspendPort, State.modPort_ports, vmod_same,
        State.resumeEnded_ports, vmod_same]
      exact ⟨rfl, hprev⟩
  case proxyWake =>
    intro hmode hdev
    obtain ⟨hsusp, hres, hact⟩ := exec_proxyRemoteWake hmode hon hdev
    refine ⟨fun h => ⟨_, hsusp h, State.portEvent_ports ..⟩, fun h => ⟨_, hres h, State.portEvent_ports ..⟩,
      fun h => ⟨_, hact h, (State.babble_port ?_).1⟩⟩
    rw [h]
    exact nofun
  case relayWake =>
    intro hmode hst
    refine ⟨_, exec_relayRemoteWake hmode hon hst, fun h hsel => ?_, fun h => ?_, fun h howner => ?_⟩
    · rw [State.slotWake, State.portEvent_ports, State.relayWoken_ports, if_pos ⟨h, by rw [hsel]; rfl⟩]
      rfl
    · rw [State.slotWake, State.portEvent_ports, State.relayWoken_ports, if_neg]
      rintro ⟨hs, hn⟩
      rcases h with h | h
      · rw [hs] at h
        cases h
      · rw [h] at hn
        cases hn
    · rw [State.slotWake, ((s.relayWoken k).portEvent_evented k 0x03 _ 0).slots h]
      exact State.relayWoken_hubWake howner
  case babble =>
    intro hmode hdev htest hst
    exact ⟨_, congrArg Host.Outcome.next (if_pos ⟨hon, hmode, hdev, by rw [htest]; rfl⟩),
      State.babble_port (by rw [hst]; exact nofun)⟩
  case cycle =>
    intro hmode hst
    refine ⟨_, congrArg Host.Outcome.next (if_pos ⟨hmode, hon, hst⟩), State.endWaits_ports rfl _ _, fun g e he hw => ?_⟩
    have hno := State.mem_endWaits_till he
    rw [hw] at hno
    simp [Wait.isCycle] at hno

end Sys2Proof.Machine
end

section
/-! SUPPORT. A change of OWNER (R112, R114) and the commands that make one: the Deeds it leaves, and the bits of VIEWERS. -/
namespace Sys2Proof.Machine

/-! ### Steps that leave the Deeds -/

/-- Every port has the Deed that it had. -/
def State.SameDeeds (s t : State) : Prop := ∀ j : PortId, t.ports[j.val].deed = s.ports[j.val].deed

theorem State.SameDeeds.trans {s t u : State} (h : s.SameDeeds t) (k : t.SameDeeds u) : s.SameDeeds u :=
  fun j => (k j).trans (h j)

/-- A step that leaves the ports. -/
theorem State.SameDeeds.of_ports {s t : State} (h : t.ports = s.ports) : s.SameDeeds t := fun j => by rw [h]

/-- Commands that end leave the Deeds. -/
theorem State.Answering.sameDeeds {s t : State} (h : s.Answering t) : s.SameDeeds t := fun j => by rw [h.ports j]

/-- A change of a port that leaves its Deed. -/
theorem State.modPort_sameDeeds (s : State) (k : PortId) {f : Port → Port} (hf : ∀ p, (f p).deed = p.deed) :
    s.SameDeeds (s.modPort k f) :=
  State.deed_of_ports (s.modPort_ports k f) hf

/-- A RELAY port that is disabled keeps its Deed. -/
theorem State.disableRelay_sameDeeds (s : State) (k : PortId) : s.SameDeeds (s.disableRelay k) := by
  unfold State.disableRelay
  exact State.modPort_sameDeeds s k fun _ => rfl

/-- The Deed of one port, changed where the Deeds are the same. -/
theorem State.SameDeeds.modDeed {s t : State} (h : s.SameDeeds t) (k : PortId) (f : Deed → Deed) :
    (s.modPort k fun p => { p with deed := f p.deed }).SameDeeds (t.modPort k fun p => { p with deed := f p.deed }) := by
  intro j
  rw [State.modPort_ports, State.modPort_ports, vmod_get, vmod_get]
  split
  · exact congrArg f (h j)
  · exact h j

/-- A message that is taken back leaves the ports. -/
theorem State.dropHeld_ports (s : State) (k : PortId) : (s.dropHeld k).ports = s.ports := by
  have hvconn : ∀ t : State, (t.releaseVconn k).ports = t.ports := fun t => by
    unfold State.releaseVconn State.returnVconn
    dsimp only
    split
    · rfl
    · split <;> rfl
  unfold State.dropHeld
  split
  · unfold State.unsend
    split
    · rfl
    · split
      · exact hvconn _
      · rfl
  · rfl

/-! ### A change of OWNER (R112, R114) -/

/-- The tags of the old owner end; the Deeds stay. -/
theorem State.abortOwner_sameDeeds (s : State) (h : SlotId) (k : PortId) : s.SameDeeds (s.abortOwner h k) := by
  unfold State.abortOwner
  extract_lets mine mark t
  have ht : t.ports = s.ports := State.ite_ports (State.dropHeld_ports ..)
  exact (State.SameDeeds.of_ports ht).trans ((t.orphan h _).endSlotTags_answering h _ _).sameDeeds

/-- The Deed of a port that changes its owner: GEN goes up by one, MODE and VIEWERS stay (R112). -/
def Deed.given (new : Option SlotId) (d : Deed) : Deed := { d with owner := new, gen := d.gen + 1 }

/-- A change of OWNER gives the port its Deed, and leaves every other. -/
theorem State.changeOwner_deeds (s : State) (k : PortId) (new : Option SlotId) :
    (s.modPort k fun p => { p with deed := p.deed.given new }).SameDeeds (s.changeOwner k new) := by
  unfold State.changeOwner
  extract_lets old s₁ s₂ mark s₃ s₄ d s₅ s₆
  have h₁ : s.SameDeeds s₁ := by
    unfold s₁ old
    split
    · exact s.abortOwner_sameDeeds _ k
    · exact .of_ports rfl
  have hmark : ∀ (t : State) (g : Option SlotId), (mark t g).ports = t.ports := fun t g => by cases g <;> rfl
  have h₃ : s₂.SameDeeds s₃ := by
    unfold s₃
    split
    · refine (State.SameDeeds.of_ports (t := mark (mark s₂ old) new) ((hmark _ _).trans (hmark _ _))).trans
        ((State.modPort_sameDeeds _ k (f := Port.flushTt) fun _ => rfl).trans (State.disableRelay_sameDeeds _ k))
    · exact .of_ports rfl
  have h₄ : s₄.ports = s₃.ports := State.ite_ports (s₃.holdPort_ports k .deed)
  have h₅ : s₅.ports = s₄.ports := by
    unfold s₅ old
    split
    · exact (s₄.slotEvent_evented _ _ _ _ _).ports
    · rfl
  have h₆ : s₆.ports = s₅.ports := by
    unfold s₆
    split
    · exact (s₅.slotEvent_evented _ _ _ _ _).ports
    · rfl
  exact (h₁.modDeed k (·.given new)).trans (h₃.trans (.of_ports (h₆.trans (h₅.trans h₄))))

/-! ### The commands -/

/-- The power domains of a port are up at dispatch as they are before it. -/
theorem State.atDispatch_portDown (s : State) (o : OpSpec) (a : CmdArgs) (k : PortId) :
    (s.atDispatch o a).portDown k = s.portDown k := by
  simp only [State.portDown, State.portGrpUp, State.stileOn, State.atDispatch_glb_portGrpOn, State.atDispatch_glb_drain,
    State.atDispatch_stiles]

/-- A deed operation on a port whose domains are up. -/
theorem deedDone_up {s : State} {k : PortId} (h : s.portDown k = false) (f : State → State) :
    deedDone s k f = .done .ok ((f s).prtDeed k) [] (f s) :=
  if_neg (by rw [h]; exact Bool.false_ne_true)

/-- A Deed command that changes the owner: the Deeds, and PRT_DEED in its completion. -/
theorem issue_givesDeed {o : OpSpec} {a : CmdArgs} {s : State} {f : State → State} {new : Option SlotId}
    (htakes : s.takes o a = true) (hup : s.portDown (portArg a) = false)
    (hbody : o.body (s.atDispatch o a) a = deedDone (s.atDispatch o a) (portArg a) f)
    (hf : f (s.atDispatch o a) = (s.atDispatch o a).changeOwner (portArg a) new) :
    (issue o a s).ports[(portArg a).val].deed = s.ports[(portArg a).val].deed.given new ∧
      (issue o a s).answered o a .ok (s.ports[(portArg a).val].deed.given new).word [] ∧
      ∀ j : PortId, j ≠ portArg a → (issue o a s).ports[j.val].deed = s.ports[j.val].deed := by
  have hdeeds := (s.atDispatch o a).changeOwner_deeds (portArg a) new
  rw [issue_takes o a s htakes, hbody, deedDone_up (by rw [State.atDispatch_portDown]; exact hup), hf]
  generalize (s.atDispatch o a).changeOwner (portArg a) new = t at hdeeds
  have hown : t.ports[(portArg a).val].deed = s.ports[(portArg a).val].deed.given new := by
    rw [hdeeds, State.modPort_ports, vmod_same, State.atDispatch_ports]
  refine ⟨?_, ?_, fun j hj => ?_⟩
  · rw [Res.answer, State.finish_ports]
    exact hown
  · rw [Res.answer, State.prtDeed, hown]
    exact finish_answered o a s t .ok _ []
  · rw [Res.answer, State.finish_ports, hdeeds, State.modPort_other _ hj.symm, State.atDispatch_ports]

/-- A change of a port goes past the charge. -/
theorem State.charged_modPort (u : State) (a : CmdArgs) (m : Vector Word 68) (k : PortId) (f : Port → Port) :
    (u.charged a m).modPort k f = (u.modPort k f).charged a m :=
  u.charged_comm a m (·.modPort k f) (fun _ _ => rfl) fun _ => rfl

/-- A Deed command that leaves the owner: it changes its port, and answers with PRT_DEED. -/
theorem issue_keepsOwner {o : OpSpec} {a : CmdArgs} {s : State} {f : State → State} {g : Port → Port}
    (htakes : s.takes o a = true) (hup : s.portDown (portArg a) = false)
    (hbody : o.body (s.atDispatch o a) a = deedDone (s.atDispatch o a) (portArg a) f)
    (hf : f (s.atDispatch o a) = (s.atDispatch o a).modPort (portArg a) g) :
    (issue o a s).answered o a .ok (g s.ports[(portArg a).val]).deed.word [] ∧
      ((s.leaveS1 o.code).modPort (portArg a) g).SameButAnswer (issue o a s) a.caller [] := by
  obtain ⟨m, hm⟩ := s.atDispatch_charged o a (takes_running htakes)
  refine issue_completes htakes (m := m) ?_ (State.fits_of_till (takes_fits htakes) fun _ => ⟨rfl, rfl, rfl⟩)
  rw [hbody, deedDone_up (by rw [State.atDispatch_portDown]; exact hup), hf, State.prtDeed, State.modPort_ports, vmod_same,
    State.atDispatch_ports, ← State.charged_modPort, ← hm]

/-! ### VIEWERS (R111, R112) -/

/-- The bit of a Deed's owner in a mask of slots. -/
def Deed.ownBit (d : Deed) : BitVec 4 := match d.owner with | some h => BitVec.ofNat 4 (2 ^ h.val) | none => 0

/-- The viewers that DEED_VIEW with a mask leaves: the mask, but for the owner's bit, which stays. -/
def Deed.viewersFor (d : Deed) (mask : Nat) : BitVec 4 := (BitVec.ofNat 4 mask &&& ~~~d.ownBit) ||| (d.viewers &&& d.ownBit)

/-- A port whose viewers DEED_VIEW has replaced (R111). -/
def Port.viewedBy (mask : Nat) (p : Port) : Port := { p with deed := { p.deed with viewers := p.deed.viewersFor mask } }

/-- DEED_VIEW replaces the viewers of its port. -/
theorem opDeedView_body (s : State) (a : CmdArgs) : opDeedView.body s a =
    deedDone s (portArg a) fun t => t.modPort (portArg a) (Port.viewedBy a.arg1.toNat) :=
  rfl

/-- The owner's bit is its own alone. -/
theorem Deed.ownBit_getLsbD (d : Deed) (h : SlotId) : d.ownBit.getLsbD h.val = decide (d.owner = some h) := by
  unfold Deed.ownBit
  cases d.owner with
  | none => simp
  | some g =>
    revert g h
    decide

/-- Each viewer's bit is the mask's, but for the owner's. -/
theorem Deed.viewersFor_getLsbD (d : Deed) (w : Word) (h : SlotId) : (d.viewersFor w.toNat).getLsbD h.val =
    if d.owner = some h then d.viewers.getLsbD h.val else w.getLsbD h.val := by
  have hh := h.isLt
  simp only [Deed.viewersFor, BitVec.getLsbD_or, BitVec.getLsbD_and, BitVec.getLsbD_not, Deed.ownBit_getLsbD, BitVec.getLsbD_ofNat]
  by_cases ho : d.owner = some h <;> simp [ho, hh, BitVec.testBit_toNat]

/-- Settles O46: the owner changes by `changeOwner`, whose effects leave the Deeds; the owner's seize and DEED_VIEW leave
it. That DEED_VIEW keeps the owner's stored bit is the model's choice (log 177). -/
theorem deedCommandsChangeTheDeed : Obligations.DeedCommandsChangeTheDeed := by
  unfold Obligations.DeedCommandsChangeTheDeed
  intro a s hup k d
  have howner : ∀ o : OpSpec, (s.atDispatch o a).owner k = d.owner := fun o => by
    rw [State.owner, State.atDispatch_ports]
  refine ⟨fun htakes hown => ⟨issue opDeedRelease a s, rfl, ?release⟩, fun htakes => ⟨issue opDeedClaim a s, rfl, ?claim⟩,
    fun htakes hother => ⟨issue opDeedSeize a s, rfl, ?seize⟩, fun htakes hown => ⟨issue opDeedSeize a s, rfl, ?ownSeize⟩,
    fun htakes => ⟨issue opDeedView a s, d.viewersFor a.arg1.toNat, rfl, ?view⟩⟩
  case release =>
    refine issue_givesDeed (o := opDeedRelease) (f := fun t => if (t.owner k).isSome then t.changeOwner k none else t)
      htakes hup rfl (if_pos ?_)
    rw [howner]
    exact hown
  case claim =>
    exact issue_givesDeed (o := opDeedClaim) (f := fun t => t.changeOwner k (callerSlot a.caller)) htakes hup rfl rfl
  case seize =>
    refine issue_givesDeed (o := opDeedSeize)
      (f := fun t => if t.owner k = callerSlot a.caller then t else t.changeOwner k (callerSlot a.caller))
      htakes hup rfl (if_neg ?_)
    rw [howner]
    exact hother
  case ownSeize =>
    have hid : ∀ t : State, t.modPort k id = t := fun t => congrArg (fun v => { t with ports := v }) (vmod_id _ _ _ rfl)
    have hkeep : (if (s.atDispatch opDeedSeize a).owner k = callerSlot a.caller then s.atDispatch opDeedSeize a
        else (s.atDispatch opDeedSeize a).changeOwner k (callerSlot a.caller)) = s.atDispatch opDeedSeize a :=
      if_pos (by rw [howner]; exact hown)
    obtain ⟨hans, hsame⟩ := issue_keepsOwner (o := opDeedSeize)
      (f := fun t => if t.owner k = callerSlot a.caller then t else t.changeOwner k (callerSlot a.caller)) (g := id)
      htakes hup rfl (hkeep.trans (hid _).symm)
    exact ⟨hans, hsame.of_eq (hid _)⟩
  case view =>
    obtain ⟨hans, hsame⟩ := issue_keepsOwner (o := opDeedView) (f := fun t => t.modPort k (Port.viewedBy a.arg1.toNat))
      (g := Port.viewedBy a.arg1.toNat) htakes hup (opDeedView_body _ a) rfl
    have hports : (s.leaveS1 0x2B).modPort k (Port.viewedBy a.arg1.toNat) = (s.leaveS1 0x2B).modPort k fun p =>
        { p with deed := { p.deed with viewers := d.viewersFor a.arg1.toNat } } :=
      State.modPort_congr (by rw [State.leaveS1_ports]; rfl)
    exact ⟨hans, d.viewersFor_getLsbD a.arg1, hsame.of_eq hports⟩

end Sys2Proof.Machine
end

section
/-! SUPPORT. Commands on a port (R129, R150, R151, R158): what they read as they are dispatched, what of their port they leave,
and how a command is answered whose body changes nothing, changes its port, or goes on waiting. -/
namespace Sys2Proof.Machine

/-! ### What a command on a port reads as it is dispatched -/

@[simp] theorem State.atDispatch_mode (s : State) (o : OpSpec) (a : CmdArgs) (k : PortId) :
    (s.atDispatch o a).mode k = s.mode k := by
  rw [State.mode, State.atDispatch_ports, State.mode]

@[simp] theorem State.atDispatch_shownState (s : State) (o : OpSpec) (a : CmdArgs) (k : PortId) :
    (s.atDispatch o a).shownState k = s.shownState k := by
  simp only [State.shownState, State.atDispatch_mode, State.atDispatch_pwr, State.atDispatch_ports]

@[simp] theorem State.atDispatch_attached (s : State) (o : OpSpec) (a : CmdArgs) (k : PortId) :
    (s.atDispatch o a).attached k = s.attached k := by
  rw [State.attached, State.atDispatch_pd, State.attached]

@[simp] theorem State.atDispatch_powered (s : State) (o : OpSpec) (a : CmdArgs) (k : PortId) :
    (s.atDispatch o a).powered k = s.powered k := by
  simp only [State.powered, State.atDispatch_pwr]

@[simp] theorem State.atDispatch_linkUp (s : State) (o : OpSpec) (a : CmdArgs) (k : PortId) :
    (s.atDispatch o a).linkUp k = s.linkUp k := by
  rw [State.linkUp, State.atDispatch_stiles, State.linkUp]

@[simp] theorem State.atDispatch_usbOn (s : State) (o : OpSpec) (a : CmdArgs) (k : PortId) :
    (s.atDispatch o a).usbOn k = s.usbOn k := by
  simp only [State.usbOn, State.portGrpUp, State.atDispatch_glb_portGrpOn, State.atDispatch_pwr]

@[simp] theorem State.atDispatch_prtDeed (s : State) (o : OpSpec) (a : CmdArgs) (k : PortId) :
    (s.atDispatch o a).prtDeed k = s.prtDeed k := by
  rw [State.prtDeed, State.atDispatch_ports, State.prtDeed]

@[simp] theorem State.atDispatch_prtState (s : State) (o : OpSpec) (a : CmdArgs) (k : PortId) :
    (s.atDispatch o a).prtState k = s.prtState k := by
  simp only [State.prtState, State.atDispatch_shownState, State.atDispatch_attached, State.atDispatch_pwr, State.atDispatch_ports]

@[simp] theorem State.atDispatch_portHasOrder (s : State) (o : OpSpec) (a : CmdArgs) (k : PortId) :
    (s.atDispatch o a).portHasOrder k = s.portHasOrder k := by
  simp only [State.portHasOrder, State.atDispatch_orders]

/-- The Mint says which channels a port carries, and which of them are enabled. -/
theorem State.portEnabled_congr {s t : State} (h : t.mint = s.mint) (k : PortId) : t.portEnabled k = s.portEnabled k := by
  have henabled : t.chanEnabled = s.chanEnabled := funext fun c => by rw [State.chanEnabled, h, State.chanEnabled]
  simp only [State.portEnabled, State.portChans, State.chanPort, henabled, h]

@[simp] theorem State.atDispatch_portEnabled (s : State) (o : OpSpec) (a : CmdArgs) (k : PortId) :
    (s.atDispatch o a).portEnabled k = s.portEnabled k :=
  State.portEnabled_congr (s.atDispatch_mint o a) k

@[simp] theorem State.atDispatch_heldAtRest (s : State) (o : OpSpec) (a : CmdArgs) (k : PortId) :
    (s.atDispatch o a).heldAtRest k = s.heldAtRest k := by
  simp only [State.heldAtRest, State.chanGroup, State.atDispatch_portEnabled, State.atDispatch_mint]

/-! ### How a taken command is answered -/

/-- A taken command whose body completes and changes nothing is answered, and nothing else changes. -/
theorem issue_unchanged {o : OpSpec} {a : CmdArgs} {s : State} {st : Status} {r0 : Word} {d : List Byte}
    (htakes : s.takes o a = true) (hbody : o.body (s.atDispatch o a) a = .done st r0 d (s.atDispatch o a)) :
    (issue o a s).answered o a st r0 d ∧ (s.leaveS1 o.code).SameButAnswer (issue o a s) a.caller [] := by
  obtain ⟨m, hm⟩ := s.atDispatch_charged o a (takes_running htakes)
  exact issue_completes htakes (hbody.trans (congrArg _ hm)) (takes_fits htakes)

/-- A taken command whose body completes and changes a port is answered, and the port alone changes. -/
theorem issue_changesPort {o : OpSpec} {a : CmdArgs} {s : State} {st : Status} {r0 : Word} {d : List Byte} {k : PortId}
    {f : Port → Port} (htakes : s.takes o a = true)
    (hbody : o.body (s.atDispatch o a) a = .done st r0 d ((s.atDispatch o a).modPort k f)) :
    (issue o a s).answered o a st r0 d ∧ ((s.leaveS1 o.code).modPort k f).SameButAnswer (issue o a s) a.caller [] := by
  obtain ⟨m, hm⟩ := s.atDispatch_charged o a (takes_running htakes)
  refine issue_completes htakes (m := m) ?_ (State.fits_of_till (takes_fits htakes) fun _ => ⟨rfl, rfl, rfl⟩)
  rw [hbody, ← State.charged_modPort, ← hm]

/-- A taken command whose body goes on waiting is in flight, and the ports are as its body leaves them. -/
theorem issue_waits {o : OpSpec} {a : CmdArgs} {s u : State} {p : CmdPoint} {w : Wait} (htakes : s.takes o a = true)
    (hbody : o.body (s.atDispatch o a) a = .wait p w u) :
    (issue o a s).inFlight o a p w ∧ (issue o a s).ports = u.ports ∧ (issue o a s).pwr = u.pwr ∧ (issue o a s).pd = u.pd := by
  rw [issue_takes o a s htakes, hbody]
  exact ⟨State.keepEntry_inFlight s u o a _ p w, State.keepEntry_ports .., State.keepEntry_pwr .., State.keepEntry_pd ..⟩

end Sys2Proof.Machine
end

section
/-! SUPPORT. A change of mode (R129): its effects leave every Deed but for the MODE of its port. -/
namespace Sys2Proof.Machine

/-! ### Steps that leave the Deeds -/

/-- Steps that leave the Deeds do so where a condition asks for them. -/
theorem State.SameDeeds.thenIf {s t u : State} {c : Prop} [Decidable c] (h : s.SameDeeds t) (k : t.SameDeeds u) :
    s.SameDeeds (if c then u else t) := by
  split
  · exact h.trans k
  · exact h

/-- Steps that leave the Deeds do so one after the other. -/
theorem State.SameDeeds.foldl {α : Type} {f : State → α → State} (hf : ∀ (s : State) (a : α), s.SameDeeds (f s a))
    (l : List α) (s : State) : s.SameDeeds (l.foldl f s) :=
  foldl_inv (fun t => s.SameDeeds t) f (fun t a h => h.trans (hf t a)) l s fun _ => rfl

/-- Events leave the Deeds. -/
theorem State.Evented.sameDeeds {s t : State} (h : s.Evented t) : s.SameDeeds t := .of_ports h.ports

/-- A port that loses its device keeps its Deed. -/
theorem State.loseDevice_sameDeeds (s : State) (k : PortId) (dst : PortState) (st : Status) (tell : Bool)
    (which : Wait → Bool) : s.SameDeeds (s.loseDevice k dst st tell which) := by
  unfold State.loseDevice
  extract_lets p before test dst' s₁ s₂ s₃ s₄ now had again s₅
  have h₂ : s.SameDeeds s₂ := .of_ports ((State.ite_ports (State.relayChange_ports ..)).trans (s.leaveActive_ports k))
  have h₃ : s₂.SameDeeds s₃ := s₂.modPort_sameDeeds k fun _ => rfl
  have h₄ : s₃.SameDeeds s₄ := (s₃.endWaits_answering which st).sameDeeds
  have h₅ : s₄.SameDeeds s₅ := .thenIf (.of_ports rfl)
    ((State.SameDeeds.of_ports (s₄.outrank_ports k st)).trans (State.modPort_sameDeeds _ k fun _ => rfl))
  exact (h₂.trans (h₃.trans (h₄.trans h₅))).thenIf (.of_ports (s₅.portEvent_ports ..))

/-- A switch-off leaves the Deeds (R361). -/
theorem State.switchOff_sameDeeds (s : State) (k : PortId) : s.SameDeeds (s.switchOff k) := by
  unfold State.switchOff
  extract_lets t
  have ht : s.SameDeeds t := .of_ports rfl
  have hend : ∀ u : State, u.SameDeeds (u.endWaits (Wait.isPortOn k) .ok) := fun u => (u.endWaits_answering _ _).sameDeeds
  split
  · split
    · have hpaths : t.SameDeeds (t.pathsOff k true) := .of_ports rfl
      exact ht.trans (hpaths.trans ((hend _).trans (State.loseDevice_sameDeeds _ k _ _ _ _)))
    · exact ht.trans (hend t)
  · exact ht.trans (hend t)

/-- The outcome of a message that is told leaves the Deeds. -/
theorem State.reportTx_sameDeeds (s : State) (k : PortId) (x : PdTx) (st : Status) : s.SameDeeds (s.reportTx k x st) := by
  unfold State.reportTx
  split
  · exact .of_ports rfl
  · split
    · exact (s.stileEvent_evented k _ _ _ _).sameDeeds
    · exact (s.endWaits_answering _ st).sameDeeds

/-- A partner that goes leaves the Deeds (R332). -/
theorem State.pdDetach_sameDeeds (s : State) (k : PortId) (c : CcState) (inTransition had : Bool) :
    s.SameDeeds (s.pdDetach k c inTransition had) := by
  have hvconn : ∀ t : State, t.SameDeeds (t.returnVconn k) := fun t => by
    unfold State.returnVconn
    split <;> exact .of_ports rfl
  unfold State.pdDetach
  extract_lets p s₁ s₂ s₃
  have h₁ : s.SameDeeds s₁ := (State.SameDeeds.of_ports rfl).trans (hvconn _)
  have h₂ : s₁.SameDeeds s₂ := .foldl (fun t x => t.reportTx_sameDeeds k x .eDetached) _ s₁
  have h₃ : s₂.SameDeeds s₃ := (s₂.endWaits_answering _ _).sameDeeds
  exact (h₁.trans (h₂.trans h₃)).thenIf (s₃.stileEvent_evented k _ _ _ _).sameDeeds

/-- A port that starts to evaluate CC keeps its Deed. -/
theorem State.enableCc_sameDeeds (s : State) (k : PortId) : s.SameDeeds (s.enableCc k) := by
  unfold State.enableCc
  split <;> exact .of_ports rfl

/-! ### The change of mode (R129) -/

/-- The Deed of a port that changes its mode: owner, viewers and GEN stay (R110). -/
def Deed.inMode (m : PortMode) (d : Deed) : Deed := { d with mode := m }

/-- The part with the Deed of one port in another mode, and nothing else changed. -/
def State.deedInMode (s : State) (k : PortId) (m : PortMode) : State :=
  s.modPort k fun p => { p with deed := p.deed.inMode m }

/-- A change of a port that gives its Deed another mode. -/
theorem State.modPort_inMode (s : State) (k : PortId) {m : PortMode} {f : Port → Port}
    (hf : ∀ p, (f p).deed = p.deed.inMode m) : (s.deedInMode k m).SameDeeds (s.modPort k f) := by
  intro j
  rw [State.deedInMode, State.modPort_ports, State.modPort_ports, vmod_get, vmod_get]
  split
  · exact hf _
  · rfl

/-- A port that goes OFF: what follows its change of mode leaves the Deeds. -/
theorem State.toOff_deeds (s : State) (k : PortId) : (s.deedInMode k .off).SameDeeds (s.toOff k) := by
  unfold State.toOff
  extract_lets t u
  have ht : (s.deedInMode k .off).SameDeeds t := s.modPort_inMode k fun _ => rfl
  have hu : t.SameDeeds u := .thenIf (.of_ports rfl) (t.pdDetach_sameDeeds k _ _ _)
  exact ht.trans (hu.trans (u.switchOff_sameDeeds k))

/-- A change of mode gives the port its MODE, and leaves everything else of the Deeds. -/
theorem State.changeMode_deeds (s : State) (k : PortId) (m : PortMode) : (s.deedInMode k m).SameDeeds (s.changeMode k m) := by
  unfold State.changeMode
  extract_lets old s₁ s₂ s₃ s₄ s₅
  have h₂ : s.SameDeeds s₂ :=
    (State.SameDeeds.thenIf (.of_ports rfl) (s.endTags_answering _ _).sameDeeds).trans (.of_ports (s₁.leaveActive_ports k))
  have hmode : (s.deedInMode k m).SameDeeds (s₂.deedInMode k m) := h₂.modDeed k (Deed.inMode m)
  have hon : (s₂.deedInMode k m).SameDeeds
      (if old = .off then (s₄.modPwr k fun w => { w with want := true, priority := 0 }).enableCc k
        else if m = .proxy ∧ s₅.ports[k.val].connected ∧ s₅.usbOn k then s₅.modPort k fun p => p.startReset 1
        else s₅.disableRelay k) := by
    have h₃ : (s₂.deedInMode k m).SameDeeds s₃ := s₂.modPort_inMode k fun _ => rfl
    refine h₃.trans ?_
    split
    · have h₄ : s₃.SameDeeds s₄ := s₃.modPort_sameDeeds k fun _ => rfl
      have hwant : s₄.SameDeeds (s₄.modPwr k fun w => { w with want := true, priority := 0 }) := .of_ports rfl
      exact h₄.trans (hwant.trans (State.enableCc_sameDeeds _ k))
    · have h₅ : s₃.SameDeeds s₅ := by
        unfold s₅
        split <;> exact .of_ports rfl
      refine h₅.trans ?_
      split
      · exact s₅.modPort_sameDeeds k fun _ => rfl
      · exact s₅.disableRelay_sameDeeds k
  cases m with
  | off => exact hmode.trans (s₂.toOff_deeds k)
  | relay => exact hmode.trans hon
  | proxy => exact hmode.trans hon

/-! ### PORT_MODE -/

/-- PORT_MODE with the mode that the port has changes nothing (R129). -/
theorem portModeBody_same {s : State} {a : CmdArgs} (hup : s.portDown (portArg a) = false)
    (hmode : s.mode (portArg a) = modeArg a) : portModeBody s a = .done .ok (s.prtDeed (portArg a)) [] s := by
  unfold portModeBody
  rw [if_neg (Bool.eq_false_iff.mp hup), if_pos hmode]

/-- PORT_MODE with another mode changes it, but on a PROXY port with a standing order or an enabled channel (R129). -/
theorem portModeBody_other {s : State} {a : CmdArgs} (hup : s.portDown (portArg a) = false)
    (hmode : s.mode (portArg a) ≠ modeArg a)
    (hfree : s.mode (portArg a) = .proxy → s.portHasOrder (portArg a) = false ∧ s.portEnabled (portArg a) = []) :
    portModeBody s a = .done .ok ((s.changeMode (portArg a) (modeArg a)).prtDeed (portArg a)) []
      (s.changeMode (portArg a) (modeArg a)) := by
  unfold portModeBody
  rw [if_neg (Bool.eq_false_iff.mp hup), if_neg hmode, if_neg]
  intro hbusy
  rw [Bool.and_eq_true, decide_eq_true_eq] at hbusy
  obtain ⟨hproxy, hbusy⟩ := hbusy
  obtain ⟨horder, henabled⟩ := hfree hproxy
  simp [horder, henabled] at hbusy

/-- Settles O44: the body either changes nothing, or changes the mode, whose effects leave the Deeds. -/
theorem portModeChangesMode : Obligations.PortModeChangesMode := by
  unfold Obligations.PortModeChangesMode
  intro a s htakes hup k
  have hup' : (s.atDispatch opPortMode a).portDown k = false := (s.atDispatch_portDown opPortMode a k).trans hup
  refine ⟨fun hmode => ⟨issue opPortMode a s, rfl, ?same⟩, fun hmode hfree => ⟨issue opPortMode a s, rfl, ?other⟩⟩
  case same =>
    refine issue_unchanged (o := opPortMode) htakes ((portModeBody_same hup' ?_).trans ?_)
    · rw [State.atDispatch_mode]
      exact hmode
    · rw [State.atDispatch_prtDeed]
  case other =>
    have hbody : opPortMode.body (s.atDispatch opPortMode a) a = _ :=
      portModeBody_other hup' (by rw [State.atDispatch_mode]; exact hmode)
        (by rw [State.atDispatch_mode, State.atDispatch_portHasOrder, State.atDispatch_portEnabled]; exact hfree)
    have hdeeds := (s.atDispatch opPortMode a).changeMode_deeds k (modeArg a)
    rw [issue_takes _ a s htakes, hbody, Res.answer]
    generalize (s.atDispatch opPortMode a).changeMode (portArg a) (modeArg a) = t at hdeeds
    have hown : t.ports[k.val].deed = s.ports[k.val].deed.inMode (modeArg a) := by
      rw [hdeeds, State.deedInMode, State.modPort_ports, vmod_same, State.atDispatch_ports]
    refine ⟨?_, ?_, fun j hj => ?_⟩
    · rw [State.finish_ports]
      exact hown
    · rw [State.prtDeed, hown]
      exact finish_answered opPortMode a s t .ok _ []
    · rw [State.finish_ports, hdeeds, State.deedInMode, State.modPort_other _ hj.symm, State.atDispatch_ports]

end Sys2Proof.Machine
end

section
/-! SUPPORT. Reset, power cycle, suspend and resume of a port by command (R150, R151, R158): what each body does, and what it leaves
of the port and of its power. -/
namespace Sys2Proof.Machine

/-! ### Port reset (R136, R158) -/

/-- What notes the tags that ended is carried past the start of a reset. -/
theorem Port.Noted.startReset {p q : Port} (h : p.Noted q) (n : Nat) : (p.startReset n).Noted (q.startReset n) := by
  rw [h]
  rfl

/-- A proxied port's reset starts the reset of its port; tags that end are noted. -/
theorem State.proxyReset_port (s : State) (k : PortId) (n : Nat) :
    (s.ports[k.val].startReset n).Noted (s.proxyReset k n).ports[k.val] := by
  have hend := ((s.leaveActive k).endWaits_answering (Wait.endsOnUsbLoss k) .ePortReset).noted k
  rw [State.leaveActive_ports] at hend
  rw [State.proxyReset, State.modPort_ports, vmod_same]
  exact hend.startReset n

/-- A proxied port's reset leaves power, CC and the Stiles. -/
theorem State.proxyReset_samePower (s : State) (k : PortId) (n : Nat) : s.SamePower (s.proxyReset k n) :=
  ((s.leaveActive_samePower k).trans (State.endWaits_answering _ _ _).samePower).trans (State.modPort_samePower _ k _)

/-- The state in which PORT_RESET waits for the end of reset signalling. -/
def State.resetStarted (s : State) (k : PortId) : State :=
  if s.mode k = .relay then s.modPort k fun p => p.startReset 0 else s.proxyReset k 1

/-- Reset signalling leaves power. -/
theorem State.resetStarted_pwr (s : State) (k : PortId) : (s.resetStarted k).pwr = s.pwr := by
  unfold State.resetStarted
  split
  · rfl
  · exact (s.proxyReset_samePower k 1).pwr

/-- Reset signalling starts on the port, as the first attempt where the port is a PROXY port. -/
theorem State.resetStarted_port (s : State) (k : PortId) :
    ∃ n, (s.mode k = .proxy → n = 1) ∧ (s.ports[k.val].startReset n).Noted (s.resetStarted k).ports[k.val] := by
  by_cases hmode : s.mode k = .relay
  · have hstart : s.resetStarted k = s.modPort k fun p => p.startReset 0 := if_pos hmode
    refine ⟨0, fun h => ?_, ?_⟩
    · rw [hmode] at h
      cases h
    · rw [hstart, State.modPort_ports, vmod_same]
      rfl
  · have hstart : s.resetStarted k = s.proxyReset k 1 := if_neg hmode
    rw [hstart]
    exact ⟨1, fun _ => rfl, s.proxyReset_port k 1⟩

/-! ### The power cycle (R158) -/

/-- A port that loses its device is no longer connected. -/
theorem State.loseDevice_connected (s : State) (k : PortId) (dst : PortState) (st : Status) (tell : Bool) (which : Wait → Bool) :
    (s.loseDevice k dst st tell which).ports[k.val].connected = false := by
  unfold State.loseDevice
  extract_lets p before test dst' s₁ s₂ s₃ s₄ now had again s₅
  have h₃ : s₃.ports[k.val].connected = false := by
    rw [State.modPort_ports, vmod_same]
    rfl
  have hnoted := ((s₃.endWaits_answering which st).noted k).trans (s₄.outranked_noted k st had now)
  rw [State.ite_ports (c := (tell && had && !again && p.deed.mode == .proxy) = true) (s₅.portEvent_ports k 0x06 0 before.toNat),
    hnoted]
  exact h₃

/-- The tags of a port that a power cycle ends before its paths go off: those of a PROXY port. -/
def State.cycleBegun (s : State) (k : PortId) : State :=
  let s := s.leaveActive k
  if s.mode k = .proxy then s.endWaits (Wait.endsOnUsbLoss k) .ePortReset else s

/-- Tags that end leave power, CC and the Stiles. -/
theorem State.cycleBegun_samePower (s : State) (k : PortId) : s.SamePower (s.cycleBegun k) :=
  (s.leaveActive_samePower k).thenIf (State.endWaits_answering _ _ _).samePower

/-- Power and links are as they were where nothing of power, CC and the Stiles has changed. -/
theorem State.SamePower.reads {s t : State} (h : s.SamePower t) (k : PortId) :
    t.powered k = s.powered k ∧ t.linkUp k = s.linkUp k ∧ t.attached k = s.attached k := by
  simp only [State.powered, State.linkUp, State.attached, h.pwr, h.stiles, h.pd, and_self]

/-- The paths of a powered port go off with DISCH applied. -/
theorem State.opened_disch {s : State} {k : PortId} (hpow : s.powered k = true) :
    (s.pwr[k.val].opened true true).disch = true := by
  simp only [State.powered, Bool.or_eq_true] at hpow
  simp only [Pwr.opened, Pwr.pathsOff, if_true, Bool.and_true, Bool.or_eq_true]
  exact .inl hpow

/-- A power cycle turns the paths off and withdraws the request. -/
theorem State.cyclePaths_pwr (s : State) (k : PortId) :
    (s.cyclePaths k).pwr = vmod s.pwr k fun w => (w.opened true (s.linkUp k)).withdrawn := by
  rw [State.cyclePaths, State.modPwr_pwr, (State.loseDevice_samePower ..).pwr, State.pathsOff_pwr, vmod_vmod]
  rfl

/-- The power half of a port that a power cycle turns off. -/
theorem State.cycleBegun_cyclePaths_pwr (s : State) (k : PortId) :
    ((s.cycleBegun k).cyclePaths k).pwr[k.val] = (s.pwr[k.val].opened true (s.linkUp k)).withdrawn := by
  have hsame := s.cycleBegun_samePower k
  obtain ⟨-, hlink, -⟩ := hsame.reads k
  rw [State.cyclePaths_pwr, vmod_same, hsame.pwr, hlink]

/-- A power cycle takes the device. -/
theorem State.cyclePaths_connected (s : State) (k : PortId) : (s.cyclePaths k).ports[k.val].connected = false := by
  rw [State.cyclePaths, State.modPwr_ports]
  exact State.loseDevice_connected _ k _ _ _ _

/-- The power-cycle form on a powered port whose link is down waits, its request withdrawn. [DEDUCED, log 114] -/
theorem portCycleBody_linkDown {s : State} {k : PortId} (hpow : s.powered k = true) (hlink : s.linkUp k = false) :
    portCycleBody s k = .wait .dispatched (.portCycle k) ((s.cycleBegun k).modPwr k Pwr.withdrawn) := by
  obtain ⟨hp, hl, -⟩ := (s.cycleBegun_samePower k).reads k
  refine if_pos ?_
  show (s.cycleBegun k).powered k = true ∧ (!(s.cycleBegun k).linkUp k) = true
  rw [hp, hl, hpow, hlink]
  exact ⟨rfl, rfl⟩

/-- The power-cycle form turns the paths off where the link is up, or where they discharge already. -/
theorem portCycleBody_cycles {s : State} {k : PortId} (hlink : s.powered k = true → s.linkUp k = true)
    (hon : s.powered k = true ∨ s.pwr[k.val].offPending = true) :
    portCycleBody s k = .wait .effected (.portCycle k) ((s.cycleBegun k).cyclePaths k) := by
  obtain ⟨hp, hl, -⟩ := (s.cycleBegun_samePower k).reads k
  refine (if_neg ?_).trans (if_pos ?_)
  · show ¬ ((s.cycleBegun k).powered k = true ∧ (!(s.cycleBegun k).linkUp k) = true)
    rw [hp, hl]
    rintro ⟨h, hdown⟩
    rw [hlink h] at hdown
    cases hdown
  · show (s.cycleBegun k).powered k = true ∨ (s.cycleBegun k).pwr[k.val].offPending = true
    rw [hp, (s.cycleBegun_samePower k).pwr]
    exact hon

/-- The power-cycle form on an unpowered, unattached port wants power. -/
theorem portCycleBody_wants {s : State} {k : PortId} (hpow : s.powered k = false) (hoff : s.pwr[k.val].offPending = false)
    (hatt : s.attached k = false) : portCycleBody s k =
      .wait .effected (.portCycle k) ((s.cycleBegun k).modPwr k fun w => { w with want := true }) := by
  obtain ⟨hp, -, ha⟩ := (s.cycleBegun_samePower k).reads k
  have hwant := State.wantPower_unattached (ha.trans hatt)
  refine (if_neg ?_).trans ((if_neg ?_).trans ((if_pos ?_).trans (congrArg _ hwant)))
  · show ¬ ((s.cycleBegun k).powered k = true ∧ (!(s.cycleBegun k).linkUp k) = true)
    rw [hp, hpow]
    exact fun h => Bool.false_ne_true h.1
  · show ¬ ((s.cycleBegun k).powered k = true ∨ (s.cycleBegun k).pwr[k.val].offPending = true)
    rw [hp, hpow, (s.cycleBegun_samePower k).pwr, hoff]
    exact fun h => Bool.false_ne_true (or_self_iff.mp h)
  · show ((s.cycleBegun k).wantPower k).pwr[k.val].want = true
    rw [hwant, State.modPwr_pwr, vmod_same]

/-! ### The bodies -/

/-- PORT_RESET on a port that is up and not OFF: EDETACHED in the microframe of a detach (R156), and otherwise the power cycle
where ARG1 asks for it. -/
theorem portResetBody_up {s : State} {a : CmdArgs} (hup : s.portDown (portArg a) = false) (hmode : s.mode (portArg a) ≠ .off) :
    (s.ports[(portArg a).val].detachedAt = some s.glb.clock →
      portResetBody s a = .done .eDetached (s.prtState (portArg a)) [] s) ∧
    (s.ports[(portArg a).val].detachedAt ≠ some s.glb.clock → testBit a.arg1 0 = true →
      portResetBody s a = portCycleBody s (portArg a)) := by
  unfold portResetBody
  rw [if_neg (Bool.eq_false_iff.mp hup), if_neg hmode]
  exact ⟨fun hdet => if_pos hdet, fun hdet hbit => (if_neg hdet).trans (if_pos hbit)⟩

/-- PORT_RESET on a connected port with port power good and no test mode starts reset signalling and waits (R136, R158). -/
theorem portResetBody_signals {s : State} {a : CmdArgs} (hup : s.portDown (portArg a) = false) (hmode : s.mode (portArg a) ≠ .off)
    (hdet : s.ports[(portArg a).val].detachedAt ≠ some s.glb.clock) (hbit : testBit a.arg1 0 = false)
    (hon : s.usbOn (portArg a) = true) (hdev : s.ports[(portArg a).val].connected = true)
    (htest : s.ports[(portArg a).val].test = none) :
    portResetBody s a = .wait .effected (.portReset (portArg a)) (s.resetStarted (portArg a)) := by
  unfold portResetBody State.resetStarted
  rw [if_neg (Bool.eq_false_iff.mp hup), if_neg hmode, if_neg hdet, if_neg (Bool.eq_false_iff.mp hbit),
    if_neg (by rw [hon, hdev, htest]; exact Bool.false_ne_true)]
  split <;> rfl

/-- PORT_SUSPEND suspends an active RELAY port, and an addressed or active PROXY port whose channels are held at rest (R150). -/
theorem portSuspendBody_suspends {s : State} {a : CmdArgs} (hup : s.portDown (portArg a) = false)
    (hst : (s.mode (portArg a) = .relay ∧ s.shownState (portArg a) = .active) ∨
      (s.mode (portArg a) = .proxy ∧ (s.shownState (portArg a) = .active ∨ s.shownState (portArg a) = .addressed) ∧
        s.heldAtRest (portArg a) = true)) :
    portSuspendBody s a = .done .ok 0 [] (s.suspendPort (portArg a)) := by
  unfold portSuspendBody
  extract_lets k st
  rw [if_neg (Bool.eq_false_iff.mp hup)]
  rcases hst with ⟨hmode, hact⟩ | ⟨hmode, hst, hheld⟩
  · rw [hmode]
    exact congrArg Res.ok (if_pos hact)
  · rw [hmode]
    refine (if_neg ?_).trans (if_pos ?_)
    · show ¬ s.shownState (portArg a) = .suspended
      rcases hst with h | h <;> rw [h] <;> exact nofun
    · show ((s.shownState (portArg a) == .addressed || s.shownState (portArg a) == .active) && s.heldAtRest (portArg a)) = true
      rw [hheld]
      rcases hst with h | h <;> rw [h] <;> rfl

/-- PORT_RESUME starts resume signalling on a suspended port and waits, and changes nothing on any other (R151). -/
theorem portResumeBody_up {s : State} {a : CmdArgs} (hup : s.portDown (portArg a) = false) (hmode : s.mode (portArg a) ≠ .off) :
    (s.shownState (portArg a) = .suspended →
      portResumeBody s a = .wait .effected (.portResume (portArg a)) (s.startResume (portArg a))) ∧
    (s.shownState (portArg a) ≠ .suspended → portResumeBody s a = .done .ok 0 [] s) := by
  unfold portResumeBody
  rw [if_neg (Bool.eq_false_iff.mp hup), if_neg hmode]
  exact ⟨fun h => if_pos h, fun h => if_neg h⟩

/-! ### The commands -/

/-- PORT_RESET with ARG1's power cycle waits as the power cycle does. -/
theorem issue_portReset_cycle {a : CmdArgs} {s u : State} {p : CmdPoint} (htakes : s.takes opPortReset a = true)
    (hup : s.portDown (portArg a) = false) (hmode : s.mode (portArg a) ≠ .off)
    (hdet : s.ports[(portArg a).val].detachedAt ≠ some s.glb.clock) (hbit : testBit a.arg1 0 = true)
    (hcycle : portCycleBody (s.atDispatch opPortReset a) (portArg a) = .wait p (.portCycle (portArg a)) u) :
    (issue opPortReset a s).inFlight opPortReset a p (.portCycle (portArg a)) ∧
      (issue opPortReset a s).ports = u.ports ∧ (issue opPortReset a s).pwr = u.pwr := by
  obtain ⟨-, hbody⟩ := portResetBody_up (s := s.atDispatch opPortReset a) (a := a) ((State.atDispatch_portDown ..).trans hup)
    (by rw [State.atDispatch_mode]; exact hmode)
  rw [State.atDispatch_ports, State.atDispatch_glb_clock] at hbody
  obtain ⟨hflight, hports, hpwr, -⟩ := issue_waits (o := opPortReset) htakes ((hbody hdet hbit).trans hcycle)
  exact ⟨hflight, hports, hpwr⟩

/-- PORT_RESET without a power cycle waits for the end of reset signalling. -/
theorem issue_portReset_signals {a : CmdArgs} {s : State} (htakes : s.takes opPortReset a = true)
    (hup : s.portDown (portArg a) = false) (hmode : s.mode (portArg a) ≠ .off)
    (hdet : s.ports[(portArg a).val].detachedAt ≠ some s.glb.clock) (hbit : testBit a.arg1 0 = false)
    (hon : s.usbOn (portArg a) = true) (hdev : s.ports[(portArg a).val].connected = true)
    (htest : s.ports[(portArg a).val].test = none) :
    (issue opPortReset a s).inFlight opPortReset a .effected (.portReset (portArg a)) ∧
      (issue opPortReset a s).pwr = s.pwr ∧ ∃ n, (s.mode (portArg a) = .proxy → n = 1) ∧
        (s.ports[(portArg a).val].startReset n).Noted (issue opPortReset a s).ports[(portArg a).val] := by
  have hbody := portResetBody_signals (s := s.atDispatch opPortReset a) (a := a) ((State.atDispatch_portDown ..).trans hup)
    (by rw [State.atDispatch_mode]; exact hmode) (by rw [State.atDispatch_ports, State.atDispatch_glb_clock]; exact hdet) hbit
    ((State.atDispatch_usbOn ..).trans hon) (by rw [State.atDispatch_ports]; exact hdev)
    (by rw [State.atDispatch_ports]; exact htest)
  obtain ⟨hflight, hports, hpwr, -⟩ := issue_waits (o := opPortReset) htakes hbody
  have hport := (s.atDispatch opPortReset a).resetStarted_port (portArg a)
  rw [State.atDispatch_mode, State.atDispatch_ports] at hport
  refine ⟨hflight, hpwr.trans ((State.resetStarted_pwr ..).trans (s.atDispatch_pwr ..)), ?_⟩
  rw [hports]
  exact hport

/-- PORT_SUSPEND of a port that may be suspended suspends it and completes OK (R150). -/
theorem issue_portSuspend_suspends {a : CmdArgs} {s : State} (htakes : s.takes opPortSuspend a = true)
    (hup : s.portDown (portArg a) = false)
    (hst : (s.mode (portArg a) = .relay ∧ s.shownState (portArg a) = .active) ∨
      (s.mode (portArg a) = .proxy ∧ (s.shownState (portArg a) = .active ∨ s.shownState (portArg a) = .addressed) ∧
        s.heldAtRest (portArg a) = true)) :
    (issue opPortSuspend a s).answered opPortSuspend a .ok 0 [] ∧
      ((s.leaveS1 0x23).suspendPort (portArg a)).SameButAnswer (issue opPortSuspend a s) a.caller [] := by
  refine issue_changesPort (o := opPortSuspend) htakes
    (portSuspendBody_suspends ((State.atDispatch_portDown ..).trans hup) ?_)
  rw [State.atDispatch_mode, State.atDispatch_shownState, State.atDispatch_heldAtRest]
  exact hst

/-- Settles O45: each command by what its body does on a port that is up. That a power cycle waits for a link that is down, with
the gates as they are, is the model's choice (log 114). -/
theorem portResetSuspendResumeStart : Obligations.PortResetSuspendResumeStart := by
  unfold Obligations.PortResetSuspendResumeStart
  refine ⟨fun a s htakes hup hmode => ?reset, fun a s htakes hup => ?suspend, fun a s htakes hup hmode => ?resume⟩
  case reset =>
    intro k
    have hpower := s.atDispatch_powered opPortReset a k
    have hlinked := s.atDispatch_linkUp opPortReset a k
    have hpwr := s.atDispatch_pwr opPortReset a
    refine ⟨fun hdet => ⟨issue opPortReset a s, rfl, ?detached⟩, fun hdet =>
      ⟨fun hbit hon hdev htest => ⟨issue opPortReset a s, rfl, ?signals⟩,
        fun hbit hpow hlink => ⟨issue opPortReset a s, rfl, ?opens⟩,
        fun hbit hpow hlink => ⟨issue opPortReset a s, rfl, ?linkDown⟩,
        fun hbit hpow hoff => ⟨issue opPortReset a s, rfl, ?discharges⟩,
        fun hbit hpow hoff hatt => ⟨issue opPortReset a s, rfl, ?wants⟩⟩⟩
    case detached =>
      obtain ⟨hbody, -⟩ := portResetBody_up (s := s.atDispatch opPortReset a) (a := a) ((State.atDispatch_portDown ..).trans hup)
        (by rw [State.atDispatch_mode]; exact hmode)
      rw [State.atDispatch_ports, State.atDispatch_glb_clock, State.atDispatch_prtState] at hbody
      exact issue_unchanged (o := opPortReset) htakes (hbody hdet)
    case signals =>
      obtain ⟨hflight, hkept, n, hn, hport⟩ := issue_portReset_signals htakes hup hmode hdet hbit hon hdev htest
      rw [hport]
      exact ⟨hflight, rfl, rfl, rfl, hn, rfl, hdev, hkept⟩
    case opens =>
      obtain ⟨hflight, hports, hpw⟩ := issue_portReset_cycle htakes hup hmode hdet hbit
        (portCycleBody_cycles (fun _ => hlinked.trans hlink) (.inl (hpower.trans hpow)))
      rw [hports, hpw, State.cycleBegun_cyclePaths_pwr, hpwr, hlinked, hlink]
      exact ⟨hflight, rfl, rfl, State.opened_disch hpow, rfl, State.cyclePaths_connected _ k⟩
    case linkDown =>
      obtain ⟨hflight, -, hpw⟩ := issue_portReset_cycle htakes hup hmode hdet hbit
        (portCycleBody_linkDown (hpower.trans hpow) (hlinked.trans hlink))
      rw [hpw, State.modPwr_pwr, vmod_same, (State.cycleBegun_samePower ..).pwr, hpwr]
      exact ⟨hflight, rfl, rfl, rfl⟩
    case discharges =>
      obtain ⟨hflight, -, hpw⟩ := issue_portReset_cycle htakes hup hmode hdet hbit
        (portCycleBody_cycles (fun h => by rw [hpower, hpow] at h; cases h) (.inr (by rw [hpwr]; exact hoff)))
      rw [hpw, State.cycleBegun_cyclePaths_pwr]
      exact ⟨hflight, rfl⟩
    case wants =>
      obtain ⟨hflight, -, hpw⟩ := issue_portReset_cycle htakes hup hmode hdet hbit
        (portCycleBody_wants (hpower.trans hpow) (by rw [hpwr]; exact hoff) ((State.atDispatch_attached ..).trans hatt))
      rw [hpw, State.modPwr_pwr, vmod_same]
      exact ⟨hflight, rfl⟩
  case suspend =>
    intro k hst
    obtain ⟨hans, hsame⟩ := issue_portSuspend_suspends htakes hup hst
    refine ⟨issue opPortSuspend a s, rfl, hans, hsame.of_eq (State.modPort_congr ?_)⟩
    rw [State.leaveS1_ports]
    rfl
  case resume =>
    intro k
    obtain ⟨hstarts, hidle⟩ := portResumeBody_up (s := s.atDispatch opPortResume a) (a := a)
      ((State.atDispatch_portDown ..).trans hup) (by rw [State.atDispatch_mode]; exact hmode)
    rw [State.atDispatch_shownState] at hstarts hidle
    refine ⟨fun hsusp => ⟨issue opPortResume a s, rfl, ?_⟩, fun hno => ⟨issue opPortResume a s, rfl, ?_⟩⟩
    · obtain ⟨hflight, hports, hpwr, hpd⟩ := issue_waits (o := opPortResume) htakes (hstarts hsusp)
      rw [hports, hpwr, hpd, State.startResume, State.modPort_ports, State.modPort_pwr, State.modPort_pd, State.atDispatch_ports,
        State.atDispatch_pwr, State.atDispatch_pd]
      exact ⟨hflight, rfl, rfl, rfl⟩
    · exact issue_unchanged (o := opPortResume) htakes (hidle hno)

end Sys2Proof.Machine
end

section
/-! SUPPORT. Byte strings (R7): the fields of a record laid out one after the other, and the two record layouts of endpoint 0x81
(R161, R162, R164, R165). -/
namespace Sys2Proof.Machine

/-! ### Fields of a byte string -/

@[simp] theorem leBytes_length (n x : Nat) : (leBytes n x).length = n := by
  induction n generalizing x with
  | zero => rfl
  | succ n ih => rw [leBytes, List.length_cons, ih]

/-- The bytes of a number hold it, as far as they reach. -/
theorem ofLe_leBytes (n x : Nat) : ofLe (leBytes n x) = x % 256 ^ n := by
  induction n generalizing x with
  | zero => exact (Nat.mod_one x).symm
  | succ n ih => rw [leBytes, ofLe, ih, BitVec.toNat_ofNat, Nat.pow_succ' (n := n) (m := 256), Nat.mod_mul]

/-- A field at the front. -/
theorem leAt_field (n x : Nat) (l : List Byte) : leAt (leBytes n x ++ l) 0 n = x % 256 ^ n := by
  rw [leAt, slice, List.drop_zero, List.take_left' (leBytes_length n x), ofLe_leBytes]

/-- A field that fills the bytes. -/
theorem leAt_leBytes (n x : Nat) : leAt (leBytes n x) 0 n = x % 256 ^ n := by
  have h := leAt_field n x []
  rwa [List.append_nil] at h

/-- A field behind others. -/
theorem leAt_behind {k l : List Byte} {off : Nat} (h : k.length ≤ off) (len : Nat) :
    leAt (k ++ l) off len = leAt l (off - k.length) len := by
  rw [leAt, slice, List.drop_append, List.drop_eq_nil_of_le h]
  rfl

/-- A field behind a number. -/
theorem leAt_skip {n off : Nat} (h : n ≤ off) (x len : Nat) (l : List Byte) :
    leAt (leBytes n x ++ l) off len = leAt l (off - n) len := by
  have hlen := leBytes_length n x
  rw [leAt_behind (by rw [hlen]; exact h), hlen]

/-- A field that lies within the front part. -/
theorem leAt_within {k : List Byte} {off len : Nat} (h : off + len ≤ k.length) (l : List Byte) :
    leAt (k ++ l) off len = leAt k off len := by
  rw [leAt, slice, List.drop_append_of_le_length (by omega), List.take_append_of_le_length (by rw [List.length_drop]; omega)]
  rfl

theorem leAt_cons_succ (b : Byte) (l : List Byte) (off len : Nat) : leAt (b :: l) (off + 1) len = leAt l off len := rfl

theorem leAt_cons_one (b : Byte) (l : List Byte) : leAt (b :: l) 0 1 = b.toNat := rfl

/-! ### Padding -/

/-- Padded bytes begin with the bytes. -/
theorem slice_pad8 (k l : List Byte) : slice (k ++ pad8 l) k.length l.length = l := by
  rw [slice, pad8, List.drop_left, List.take_left]

/-- Bytes behind a whole number of eight are padded to one. -/
theorem length_pad8 {k : List Byte} (h : k.length % 8 = 0) (l : List Byte) : (k ++ pad8 l).length % 8 = 0 := by
  rw [pad8, List.length_append, List.length_append, List.length_replicate]
  omega

/-! ### The record tables of file 06 -/

@[simp] theorem Completion.bytes_length (c : Completion) : c.bytes.length = 16 := by
  simp [Completion.bytes]

@[simp] theorem Event.bytes_length (e : Event) : e.bytes.length = 16 := by
  simp [Event.bytes]

/-- Every status has a code of 16 bits. -/
theorem Status.code_lt (st : Status) : st.code < 65536 := by
  cases st <;> decide

/-- Bit 15 beside the 15 bits of LINES. -/
theorem flagAt_fifteen (b : Bool) : flagAt b 15 = if b then 32768 else 0 := by
  cases b <;> rfl

/-- The fields of a completion record (R164). -/
theorem Completion.fields (c : Completion) (hlines : c.lines ≤ 1024) (hdata : c.data.length ≤ 65536) (l : List Byte) :
    leAt (c.bytes ++ l) 1 1 = c.opcode.toNat ∧ leAt (c.bytes ++ l) 2 2 = c.tag.toNat ∧
    leAt (c.bytes ++ l) 4 2 = c.status.code ∧ leAt (c.bytes ++ l) 6 2 = (if c.entry then 32768 else 0) + c.lines ∧
    leAt (c.bytes ++ l) 8 4 = c.data.length ∧ leAt (c.bytes ++ l) 12 4 = c.result0.toNat := by
  have htag := c.tag.isLt
  have hres := c.result0.isLt
  have hst := c.status.code_lt
  have hflags : (if c.entry then 32768 else 0) + c.lines < 65536 := by split <;> omega
  simp only [Completion.bytes, List.cons_append, List.nil_append, List.append_assoc, leAt_cons_succ, leAt_cons_one,
    leAt_skip, leAt_field, flagAt_fifteen, Nat.reduceLeDiff, Nat.reduceSub, Nat.reducePow, Nat.sub_self, le_refl, true_and]
  omega

/-- The fields of an event record (R165). -/
theorem Event.fields (e : Event) (l : List Byte) :
    leAt (e.bytes ++ l) 1 1 = e.code.toNat ∧ leAt (e.bytes ++ l) 2 2 = e.seq.toNat ∧ leAt (e.bytes ++ l) 4 1 = e.port.toNat ∧
    leAt (e.bytes ++ l) 5 1 = (if e.ext then 1 else 0) ∧ leAt (e.bytes ++ l) 6 2 = e.aux.toNat ∧
    leAt (e.bytes ++ l) 8 4 = e.data.toNat ∧ leAt (e.bytes ++ l) 12 4 = e.mf.toNat := by
  have hseq := e.seq.isLt
  have haux := e.aux.isLt
  have hdata := e.data.isLt
  have hmf := e.mf.isLt
  have hext : (BitVec.ofNat 8 (bitOf e.ext)).toNat = if e.ext then 1 else 0 := by cases e.ext <;> rfl
  simp only [Event.bytes, List.cons_append, List.nil_append, List.append_assoc, leAt_cons_succ, leAt_cons_one,
    leAt_skip, leAt_field, hext, Nat.reduceLeDiff, Nat.reduceSub, Nat.reducePow, Nat.sub_self, le_refl, true_and]
  omega

/-- Settles O6: byte 0 by the kind of the record, and the fields of the two record tables. -/
theorem recordsBeginWithTheirKind : Obligations.RecordsBeginWithTheirKind := by
  unfold Obligations.RecordsBeginWithTheirKind
  refine ⟨fun r => ?kind, fun c hlines hdata => ?completion, fun e => ?event⟩
  case kind =>
    cases r with
    | completion c => exact .inl ⟨c, rfl, rfl⟩
    | event e => exact .inr ⟨e, rfl, rfl⟩
  case completion =>
    obtain ⟨hop, htag, hst, hflags, hlen, hres⟩ := c.fields hlines hdata (pad8 c.data)
    refine ⟨hop, htag, hst, hflags, hlen, hres, ?_, length_pad8 (by rw [Completion.bytes_length]) _⟩
    have h := slice_pad8 c.bytes c.data
    rwa [Completion.bytes_length] at h
  case event =>
    obtain ⟨hcode, hseq, hport, hext, haux, hdata, hmf⟩ := e.fields (pad8 e.payload)
    refine ⟨hcode, hseq, hport, hext, haux, hdata, hmf, ?_, length_pad8 (by rw [Event.bytes_length]) _⟩
    have h := slice_pad8 e.bytes e.payload
    rwa [Event.bytes_length] at h

end Sys2Proof.Machine
end

section
/-! SUPPORT. Commands that end on entry to the Till (R170, R173, R179): a bad tag and a failed check on entry give back at once what the
command took. -/
namespace Sys2Proof.Machine

/-! ### A slot that is answered -/

/-- A state in which one slot has more records, perhaps signals wake-up, and holds keys, is the same but for an answer. -/
theorem State.SameButAnswer.modSlot {s : State} {h : SlotId} {f : Slot → Slot} {keys : List Key} {l : List Record} {w : Bool}
    (hf : f s.slots[h.val] =
      { s.slots[h.val] with records := l, wakeSignal := w, keyHold := s.slots[h.val].keyHold ++ keys })
    (hl : ∀ r ∈ s.slots[h.val].records, r ∈ l) : s.SameButAnswer (s.modSlot h f) (.slot h) keys := by
  refine {
    glb := rfl, fw := rfl, ports := rfl, pd := rfl, pwr := rfl, stiles := rfl, escrow := rfl, orders := rfl, purses := rfl
    tally := rfl, dvt := rfl, mint := rfl, clr := rfl, ldg := rfl, vault := rfl, nsf := rfl, orphans := rfl, pending := rfl
    others := fun g hg => ?_, own := fun g hg => ?_, teller := fun _ => rfl, mailbox := nofun }
  · exact vmod_other _ _ _ _ _ fun q => hg (congrArg Caller.slot (Fin.ext q))
  · cases hg
    exact ⟨l, w, (vmod_same ..).trans hf, hl⟩

/-- The completion of the entry that a slot's command makes. -/
theorem OpSpec.entryOf_completion {a : CmdArgs} {h : SlotId} (hc : a.caller = .slot h) (o : OpSpec) (s : State) (st : Status)
    (r0 : Word) (d : List Byte) : (o.entryOf a s).completion st r0 d = completionOf o a st r0 d := by
  rw [completionOf, hc]
  rfl

/-! ### Bad tags (R170) -/

/-- A rejected tag returns what its command took, so that the slot changes in its records and its wake-up. -/
theorem Slot.reject_charged {x : Slot} {n : Nat} (hroom : x.room n = true) (c : Completion) (hentry : c.entry = true)
    (hlines : c.lines = lineCount n) (notify : Bool) : ∃ (l : List Record) (w : Bool),
      ({ x with entryCredits := x.entryCredits - 1, lineCredits := x.lineCredits - lineCount n } : Slot).addCompletion c notify
        = { x with records := l, wakeSignal := w, keyHold := x.keyHold ++ [] } ∧ ∀ r ∈ x.records, r ∈ l := by
  simp only [Slot.room, Bool.and_eq_true, decide_eq_true_eq] at hroom
  obtain ⟨hone, hall⟩ := hroom
  obtain ⟨w, hw⟩ := Slot.addCompletion_eq
    ({ x with entryCredits := x.entryCredits - 1, lineCredits := x.lineCredits - lineCount n } : Slot) c notify
  rw [hw]
  simp only [hentry, hlines, if_true, Nat.sub_add_cancel hone, Nat.sub_add_cancel hall, List.append_nil]
  refine ⟨_, w, rfl, fun r hr => ?_⟩
  split
  · exact List.mem_append_left _ hr
  · cases hv : isEvent r <;> simp [hr, hv]

/-- Rejecting a tag changes nothing but for the ETAG completion that it posts. -/
theorem State.rejectTag_answers {s : State} {a : CmdArgs} {h : SlotId} (hc : a.caller = .slot h)
    (hroom : s.slots[h.val].room a.params.length = true) (o : OpSpec) :
    s.SameButAnswer (s.rejectTag h (o.entryOf a s)) (.slot h) [] ∧
    Record.completion (completionOf o a .eTag 0 []) ∈ (s.rejectTag h (o.entryOf a s)).slots[h.val].records := by
  obtain ⟨l, w, hslot, hl⟩ := Slot.reject_charged hroom ((o.entryOf a s).completion .eTag 0 []) rfl rfl (notifyOf a)
  refine ⟨.modSlot hslot hl, ?_⟩
  rw [State.rejectTag, State.modSlot_slots, vmod_same, OpSpec.entryOf_completion hc]
  exact Slot.mem_addCompletion ..

/-! ### The charge of a slot's and of the mailbox's command -/

/-- A command with a good tag fits where its slot has room for it. -/
theorem State.fits_of_room {s : State} {a : CmdArgs} {h : SlotId} (hc : a.caller = .slot h)
    (hroom : s.slots[h.val].room a.params.length = true) (htag : s.slots[h.val].tagInFlight a.tag = false) : s.fits a := by
  intro g hg
  obtain rfl : h = g := Caller.slot.inj (hc.symm.trans hg)
  simp only [Slot.tagInFlight, Bool.or_eq_false_iff, List.any_eq_false, beq_iff_eq] at htag
  exact ⟨hroom, htag.1⟩

/-- The mailbox's command always fits. -/
theorem State.fits_of_mbx (s : State) {a : CmdArgs} (hc : a.caller = .mbx) : s.fits a := by
  intro g hg
  rw [hc] at hg
  cases hg

/-- A charged command that is answered at once is answered and changes nothing else. -/
theorem State.answers_at_once {s : State} {a : CmdArgs} (hfits : s.fits a) (o : OpSpec) (m : Vector Word 68) (st : Status) :
    s.SameButAnswer ((s.charged a m).finish a.caller (o.entryOf a s) st 0 []) a.caller [] ∧
    ((s.charged a m).finish a.caller (o.entryOf a s) st 0 []).answered o a st 0 [] :=
  ⟨State.finish_charged hfits o s m st 0 [], finish_answered o a s _ st 0 []⟩

/-! ### Entry (R173, R179) -/

/-- A command on an open endpoint with room enters the Till. -/
theorem issue_enters {o : OpSpec} {a : CmdArgs} {s : State} {h : SlotId} (hc : a.caller = .slot h) (hopen : s.pathOpen h = true)
    (hroom : s.slots[h.val].room a.params.length = true) : issue o a s = s.enter (some o) (BitVec.ofNat 8 o.code) h a := by
  simp only [issue, hc, hopen, hroom, Bool.and_self, if_true]

/-- A command with a bad tag is rejected. -/
theorem State.enter_badTag {s : State} {a : CmdArgs} {h : SlotId}
    (htag : 511 < a.tag.toNat ∨ s.slots[h.val].tagInFlight a.tag = true) (o : OpSpec) :
    s.enter (some o) (BitVec.ofNat 8 o.code) h a = s.rejectTag h (o.entryOf a s) :=
  if_pos htag

/-- A command that fails a check on entry is answered with its status. -/
theorem State.enter_badSyntax {s : State} {a : CmdArgs} {h : SlotId} (hc : a.caller = .slot h) (htag : a.tag.toNat ≤ 511)
    (hflight : s.slots[h.val].tagInFlight a.tag = false) (hrun : s.teller.run ≠ .halted) {o : OpSpec} {st : Status}
    (hst : syntaxCheck (some o) a = some st) (m : Vector Word 68) :
    s.enter (some o) (BitVec.ofNat 8 o.code) h a = (s.charged a m).finish a.caller (o.entryOf a s) st 0 [] := by
  have hgood : ¬ (a.tag.toNat > 511 ∨ s.slots[h.val].tagInFlight a.tag = true) := by
    rw [hflight]
    rintro (hgt | hfalse)
    · omega
    · cases hfalse
  rw [State.charged_of_slot s m hc]
  simp only [State.enter, if_neg hgood, State.modSlot_teller, if_neg hrun, hst]
  rfl

/-- Writing a command into the mailbox with GO charges the mailbox. -/
theorem State.writeMbx_charges (s : State) (op : Byte) {a : CmdArgs} (hc : a.caller = .mbx) :
    ∃ m, (s.writeMbx op a).modTeller (fun t => { t with go := true, done := false }) = s.charged a m := by
  refine ⟨(s.writeMbx op a).teller.mbxCmd, ?_⟩
  simp only [s.charged_of_mbx _ hc, State.writeMbx, State.modTeller]

/-- A mailbox command that fails a check on entry is answered with its status. -/
theorem issue_mbx_badSyntax {s : State} {a : CmdArgs} (hc : a.caller = .mbx) (hawake : s.awake = true)
    (hclk : s.glb.clocksOk = true) (hgo : s.teller.go = false) (hstarted : s.tellerStarted = true)
    (hrun : s.teller.run ≠ .halted) {o : OpSpec} {st : Status} (hst : syntaxCheck (some o) a = some st) :
    ∃ m, issue o a s = (s.charged a m).finish a.caller (o.entryOf a s) st 0 [] := by
  obtain ⟨m, hm⟩ := s.writeMbx_charges (BitVec.ofNat 8 o.code) hc
  have hon : (s.charged a m).tellerStarted = true :=
    (tellerStarted_congr (State.charged_glb ..) (State.charged_run ..)).trans hstarted
  refine ⟨m, ?_⟩
  simp only [issue, hc, hawake, hclk, hgo, Bool.not_false, Bool.and_self, if_true, State.startMbx, hm, hon, Bool.not_true,
    Bool.false_or, decide_eq_true_eq, State.charged_run, if_neg hrun, hst, State.finish, OpSpec.entryOf, State.writeMbx_glb]

/-- Settles O7: a bad tag is rejected, and a failed check on entry is answered past the charge of its caller. That the tag is judged
even while Teller is halted (log 12), and that a command on a closed endpoint is no command (log 16, 140), are the model's
choices. -/
theorem commandsThatFailTheEntryChecksChangeNothing : Obligations.CommandsThatFailTheEntryChecksChangeNothing := by
  unfold Obligations.CommandsThatFailTheEntryChecksChangeNothing
  intro o a s
  refine ⟨fun h hc => ⟨fun hclosed => ?closed, fun hopen hroom => ⟨fun htag => ?tag, fun htag hflight hrun st hst => ?entry⟩⟩,
    fun hc hawake hclk hgo hstarted hrun st hst => ?mailbox⟩
  case closed =>
    have hno : ¬ (s.pathOpen h && s.slots[h.val].room a.params.length) = true := by
      rcases hclosed with h | h <;> simp [h]
    simp only [issue, hc, if_neg hno]
  case tag =>
    rw [issue_enters hc hopen hroom, State.enter_badTag htag, hc]
    exact State.rejectTag_answers hc hroom o
  case entry =>
    rw [issue_enters hc hopen hroom, State.enter_badSyntax hc htag hflight hrun hst (Vector.replicate 68 0)]
    exact State.answers_at_once (State.fits_of_room hc hroom hflight) o _ st
  case mailbox =>
    obtain ⟨m, hm⟩ := issue_mbx_badSyntax hc hawake hclk hgo hstarted hrun hst
    rw [hm]
    exact State.answers_at_once (s.fits_of_mbx hc) o m st

end Sys2Proof.Machine
end

section
/-! SUPPORT. The general opcodes (R175, R178, R181, R182): what a slot holds as its command is dispatched, GET_INFO's page, and how far
CANCEL finds its target. -/
namespace Sys2Proof.Machine

/-! ### A slot as its command is dispatched -/

/-- The end of S1 gives a slot at most an event. -/
theorem State.leaveS1_heard (s : State) (op : Nat) (g : SlotId) : s.slots[g.val].Heard (s.leaveS1 op).slots[g.val] := by
  unfold State.leaveS1
  split
  · have hheard := ((s.modGlb fun g => { g with core := .s0 }).everySlotEvent_evented 0x48 0x2 0).heard g
    rwa [State.modGlb_slots] at hheard
  · exact Slot.Heard.refl _

/-- What events leave of a slot: its Till, its path and its configuration. -/
theorem Slot.Heard.kept {x y : Slot} (h : x.Heard y) :
    y.till = x.till ∧ y.tellerPath = x.tellerPath ∧ y.tellerCfg = x.tellerCfg := by
  unfold Slot.Heard at h
  rw [h]
  exact ⟨rfl, rfl, rfl⟩

/-- Dispatch leaves a slot's Till, its path and its configuration. -/
theorem State.atDispatch_slotKept {s : State} {o : OpSpec} {a : CmdArgs} (hrun : s.teller.run = .running) (g : SlotId) :
    (s.atDispatch o a).slots[g.val].till = s.slots[g.val].till ∧
    (s.atDispatch o a).slots[g.val].tellerPath = s.slots[g.val].tellerPath ∧
    (s.atDispatch o a).slots[g.val].tellerCfg = s.slots[g.val].tellerCfg := by
  obtain ⟨m, hm⟩ := s.atDispatch_charged o a hrun
  obtain ⟨htill', hpath', hcfg'⟩ := (s.leaveS1_heard o.code g).kept
  have hslot : (s.atDispatch o a).slots[g.val].till = (s.leaveS1 o.code).slots[g.val].till ∧
      (s.atDispatch o a).slots[g.val].tellerPath = (s.leaveS1 o.code).slots[g.val].tellerPath ∧
      (s.atDispatch o a).slots[g.val].tellerCfg = (s.leaveS1 o.code).slots[g.val].tellerCfg := by
    rw [hm, State.charged_slots]
    split <;> exact ⟨rfl, rfl, rfl⟩
  obtain ⟨htill, hpath, hcfg⟩ := hslot
  exact ⟨htill.trans htill', hpath.trans hpath', hcfg.trans hcfg'⟩

/-- A slot whose command Teller takes is open. -/
theorem takes_pathOpen {o : OpSpec} {a : CmdArgs} {s : State} (h : s.takes o a = true) {g : SlotId} (hc : a.caller = .slot g) :
    s.pathOpen g = true := by
  simp only [State.takes, hc, Bool.and_eq_true] at h
  tauto

/-- The Teller function of an open slot is configured. -/
theorem State.configured_of_open {s : State} {g : SlotId} (h : s.pathOpen g = true) : s.slots[g.val].tellerCfg = true := by
  simp only [State.pathOpen, Bool.and_eq_true] at h
  tauto

/-! ### GET_INFO (R182) -/

/-- Where a command comes from, as GET_INFO reports it. -/
def State.infoWho (s : State) (c : Caller) : Nat × Nat :=
  match c with
  | .slot h => (h.val, s.slots[h.val].tellerPath.toNat)
  | .mbx => (0xFF, 0xFF)

/-- The words and bytes of page 0, laid out one after the other. -/
theorem State.infoPage_eq (s : State) (c : Caller) : s.infoPage c =
    fitTo 64 (leBytes 4 0x4F4C2428 ++ leBytes 4 s.glbStep.toNat ++ leBytes 4 s.fw.version.toNat ++ leBytes 1 (bitOf s.glb.image)
    ++ leBytes 1 s.dvt.chainPos.toNat ++ leBytes 1 (s.infoWho c).1 ++ leBytes 1 (s.infoWho c).2 ++ s.serial ++ leBytes 2 0
    ++ leBytes 2 512 ++ leBytes 2 8192 ++ leBytes 2 1024 ++ leBytes 2 (s.statementCap c) ++ leBytes 4 524288) := by
  cases c <;> rfl

/-- Bytes that fit are filled with zero bytes. -/
theorem fitTo_of_le {n : Nat} {l : List Byte} (h : l.length ≤ n) : fitTo n l = l ++ List.replicate (n - l.length) 0 := by
  rw [fitTo, List.take_of_length_le]
  rw [List.length_append, List.length_replicate]
  omega

/-- The fields of page 0. -/
theorem State.infoPage_fields (s : State) (c : Caller) :
    leAt (s.infoPage c) 0 4 = 0x4F4C2428 ∧ leAt (s.infoPage c) 4 4 = s.glbStep.toNat ∧
    leAt (s.infoPage c) 8 4 = s.fw.version.toNat ∧ leAt (s.infoPage c) 12 1 = bitOf s.glb.image ∧
    leAt (s.infoPage c) 13 1 = s.dvt.chainPos.toNat ∧ leAt (s.infoPage c) 14 1 = (s.infoWho c).1 ∧
    leAt (s.infoPage c) 15 1 = (s.infoWho c).2 ∧ leAt (s.infoPage c) 24 2 = 512 ∧ leAt (s.infoPage c) 26 2 = 8192 ∧
    leAt (s.infoPage c) 28 2 = 1024 ∧ leAt (s.infoPage c) 32 4 = 524288 := by
  have hstep := s.glbStep.isLt
  have hver := s.fw.version.isLt
  have hchain := s.dvt.chainPos.isLt
  have himage : bitOf s.glb.image < 256 := by cases s.glb.image <;> decide
  have hwho : (s.infoWho c).1 < 256 ∧ (s.infoWho c).2 < 256 := by
    cases c with
    | slot h => exact ⟨by have := h.isLt; simp only [State.infoWho]; omega,
        by have := s.slots[h.val].tellerPath.isLt; simp only [State.infoWho]; omega⟩
    | mbx => exact ⟨(by decide : 0xFF < 256), (by decide : 0xFF < 256)⟩
  rw [State.infoPage_eq, fitTo_of_le (by simp [State.serial])]
  simp only [State.serial, List.append_assoc, leAt_skip, leAt_field, Nat.reduceLeDiff, Nat.reduceSub, Nat.reducePow, le_refl,
    Nat.reduceMod, Nat.mod_eq_of_lt, hwho, himage, true_and, and_true]
  omega

/-- Page 0 depends on the Vault, the firmware, the image, CHAIN_POS and the caller's path. -/
theorem State.infoPage_congr {s t : State} {c : Caller} (hvault : t.vault = s.vault) (hfw : t.fw = s.fw) (hdvt : t.dvt = s.dvt)
    (himage : t.glb.image = s.glb.image)
    (hpath : ∀ g : SlotId, t.slots[g.val].tellerPath = s.slots[g.val].tellerPath) : t.infoPage c = s.infoPage c := by
  have hrow : t.vaultRow = s.vaultRow := by
    funext r
    simp only [State.vaultRow, hvault]
  have hcap : t.statementCap c = s.statementCap c := by cases c <;> simp only [State.statementCap, hpath]
  have hwho : t.infoWho c = s.infoWho c := by cases c <;> simp only [State.infoWho, hpath]
  simp only [State.infoPage_eq, State.glbStep, State.serial, hrow, hfw, hdvt, himage, hcap, hwho]

/-- GET_INFO finds page 0 as it stood. -/
theorem State.atDispatch_infoPage {s : State} {o : OpSpec} {a : CmdArgs} (hrun : s.teller.run = .running) (c : Caller) :
    (s.atDispatch o a).infoPage c = s.infoPage c :=
  State.infoPage_congr (State.atDispatch_vault ..) (State.atDispatch_fw ..) (State.atDispatch_dvt ..)
    (State.atDispatch_glb_image ..) fun g => (State.atDispatch_slotKept hrun g).2.1

/-! ### CANCEL (R178) -/

/-- The command of a slot that CANCEL aims at. -/
def State.cancelTarget (s : State) (h : SlotId) (a : CmdArgs) : Option TillEntry :=
  s.slots[h.val].till.find? fun e => e.args.tag.toNat == a.arg0.toNat

/-- CANCEL by its target: none, one whose effect point has come, and one that waits in the Till. -/
theorem cancelBody_target {s : State} {a : CmdArgs} {h : SlotId} (hc : a.caller = .slot h) :
    (s.cancelTarget h a = none → cancelBody s a = .done .eRange 0 [] s) ∧
    (∀ e, s.cancelTarget h a = some e → e.point = .effected → cancelBody s a = .done .eBusy 0 [] s) ∧
    (∀ e, s.cancelTarget h a = some e → e.point = .waiting → e.wait = .none →
      cancelBody s a = .done .ok 0x61 [] (s.finishSlot h e .eCancelled 0 [])) := by
  unfold State.cancelTarget
  refine ⟨fun hnone => ?_, fun e hsome heff => ?_, fun e hsome hwaits hnone => ?_⟩
  · simp only [cancelBody, hc, hnone, Res.fail]
  · simp only [cancelBody, hc, hsome, heff, if_true, Res.fail]
  · have hundo : s.undo e = s := if_pos (by rw [hwaits]; decide)
    simp only [cancelBody, hc, hsome, hwaits, reduceCtorEq, if_false, hundo, State.endResult, hnone]
    rfl

/-- Completing an entry of a configured slot appends its completion. -/
theorem State.finishSlot_configured {s : State} {h : SlotId} (hcfg : s.slots[h.val].tellerCfg = true) (e : TillEntry) (st : Status)
    (r0 : Word) (d : List Byte) :
    (s.finishSlot h e st r0 d).slots[h.val].records = s.slots[h.val].records ++ [.completion (e.completion st r0 d)] ∧
    (s.finishSlot h e st r0 d).slots[h.val].till = s.slots[h.val].till.filter (fun y => y.args.tag != e.args.tag) ∧
    (s.finishSlot h e st r0 d).slots[h.val].tellerCfg = true := by
  rw [State.finishSlot, State.modSlot_slots, vmod_same, Slot.addCompletion_records, Slot.addCompletion_till,
    Slot.addCompletion_tellerCfg]
  exact ⟨if_pos hcfg, rfl, hcfg⟩

/-- No command in flight has the tag of a command that Teller takes. -/
theorem takes_tag {o : OpSpec} {a : CmdArgs} {s : State} (h : s.takes o a = true) {g : SlotId} (hc : a.caller = .slot g) :
    ∀ e ∈ s.slots[g.val].till, e.args.tag ≠ a.tag := by
  obtain ⟨hroom, hflight, -⟩ := takes_slot h g hc
  exact (State.fits_of_room hc hroom hflight g hc).2

/-- CANCEL of a command that waits in the Till: its completion first, then CANCEL's own. -/
theorem issue_cancel_waiting {a : CmdArgs} {s : State} {h : SlotId} (htakes : s.takes opCancel a = true) (hc : a.caller = .slot h)
    {e : TillEntry} (htarget : s.cancelTarget h a = some e) (hwaits : e.point = .waiting) (hnone : e.wait = .none) :
    ∃ l, (issue opCancel a s).slots[h.val].records =
        l ++ [.completion (e.completion .eCancelled 0 []), .completion (completionOf opCancel a .ok 0x61 [])] ∧
      (issue opCancel a s).slots[h.val].till = s.slots[h.val].till.filter (fun y => y.args.tag != e.args.tag) := by
  obtain ⟨htill, -, hcfg⟩ := State.atDispatch_slotKept (o := opCancel) (a := a) (takes_running htakes) h
  have hbody : opCancel.body (s.atDispatch opCancel a) a = _ :=
    (cancelBody_target hc).2.2 e (by rw [State.cancelTarget, htill]; exact htarget) hwaits hnone
  have hopen := hcfg.trans (State.configured_of_open (takes_pathOpen htakes hc))
  obtain ⟨hrec₁, htill₁, hcfg₁⟩ := State.finishSlot_configured hopen e .eCancelled 0 []
  obtain ⟨hrec₂, htill₂, -⟩ := State.finishSlot_configured hcfg₁ (opCancel.entryOf a s) .ok 0x61 []
  refine ⟨(s.atDispatch opCancel a).slots[h.val].records, ?_⟩
  rw [issue_takes opCancel a s htakes, hbody, Res.answer, hc, State.finish, hrec₂, hrec₁, htill₂, htill₁, htill,
    OpSpec.entryOf_completion hc, List.append_assoc]
  refine ⟨rfl, List.filter_eq_self.mpr fun y hy => ?_⟩
  exact bne_iff_ne.mpr (takes_tag htakes hc y (List.mem_filter.mp hy).1)

/-- CANCEL of a command that waits in the Till leaves what is neither a slot nor Teller. -/
theorem issue_cancel_frame {a : CmdArgs} {s : State} {h : SlotId} (htakes : s.takes opCancel a = true) (hc : a.caller = .slot h)
    {e : TillEntry} (htarget : s.cancelTarget h a = some e) (hwaits : e.point = .waiting) (hnone : e.wait = .none) :
    (issue opCancel a s).ports = s.ports ∧ (issue opCancel a s).pwr = s.pwr ∧ (issue opCancel a s).pd = s.pd ∧
    (issue opCancel a s).orders = s.orders ∧ (issue opCancel a s).mint = s.mint ∧ (issue opCancel a s).ldg = s.ldg := by
  obtain ⟨htill, -, -⟩ := State.atDispatch_slotKept (o := opCancel) (a := a) (takes_running htakes) h
  have hbody : opCancel.body (s.atDispatch opCancel a) a = _ :=
    (cancelBody_target hc).2.2 e (by rw [State.cancelTarget, htill]; exact htarget) hwaits hnone
  rw [issue_takes opCancel a s htakes, hbody, Res.answer]
  simp [State.finishSlot]

/-! ### The opcodes -/

/-- Settles O8: NOP, FENCE, ECHO and GET_INFO by their bodies, which change nothing; CANCEL by how far its target has got. -/
theorem generalCommandsAnswer : Obligations.GeneralCommandsAnswer := by
  unfold Obligations.GeneralCommandsAnswer
  refine ⟨⟨fun a s htakes => ?nop, fun a s htakes => ?fence, fun a s htakes => ?echo, fun a s htakes => ?getInfo⟩,
    fun a s h htakes hc => ⟨fun hnone => ?absent, fun e hsome heff => ?effected, fun e hsome hwaits hnone => ?waiting⟩⟩
  case nop =>
    have hstays : s.leaveS1 opNop.code = s := if_neg fun h => h.2.2 rfl
    have hans := issue_unchanged (o := opNop) (st := .ok) (r0 := 0) (d := []) htakes rfl
    rw [hstays] at hans
    exact ⟨_, rfl, hans⟩
  case fence => exact ⟨_, rfl, issue_unchanged (o := opFence) htakes rfl⟩
  case echo => exact ⟨_, rfl, issue_unchanged (o := opEcho) htakes rfl⟩
  case getInfo =>
    have hbody : opGetInfo.body (s.atDispatch opGetInfo a) a =
        .done .ok 0 (s.infoPage a.caller) (s.atDispatch opGetInfo a) := by
      rw [← State.atDispatch_infoPage (o := opGetInfo) (a := a) (takes_running htakes)]
      rfl
    obtain ⟨hans, hsame⟩ := issue_unchanged (o := opGetInfo) htakes hbody
    obtain ⟨hid, hstep, hver, himage, hchain, hslot, hpath, hrest⟩ := s.infoPage_fields a.caller
    refine ⟨_, s.infoPage a.caller, rfl, hans, hsame, fitTo_length .., hid, hstep, hver, himage, hchain, fun h hc => ?_,
      fun hc => ?_, hrest⟩ <;>
    · rw [hslot, hpath, hc]
      exact ⟨rfl, rfl⟩
  all_goals
    obtain ⟨htill, -, -⟩ := State.atDispatch_slotKept (o := opCancel) (a := a) (takes_running htakes) h
    obtain ⟨habsent, heffected, -⟩ := cancelBody_target (s := s.atDispatch opCancel a) hc
    rw [State.cancelTarget, htill] at habsent heffected
  case absent => exact ⟨_, rfl, issue_unchanged (o := opCancel) htakes (habsent hnone)⟩
  case effected => exact ⟨_, rfl, issue_unchanged (o := opCancel) htakes (heffected e hsome heff)⟩
  case waiting =>
    obtain ⟨l, hrec, hleft⟩ := issue_cancel_waiting htakes hc hsome hwaits hnone
    exact ⟨_, l, rfl, hrec, hleft, issue_cancel_frame htakes hc hsome hwaits hnone⟩

end Sys2Proof.Machine
end

section
/-! SUPPORT. Teller's transport (R159 to R163, R168, R176, R465): a transfer that holds one command, the source that dispatch takes,
and the records that one delivery carries. -/
namespace Sys2Proof.Machine

/-! ### One command on endpoint 0x01 (R159, R160, R163) -/

@[simp] theorem header_length (op : Byte) (a : CmdArgs) : (header op a).length = 16 := by
  simp [header]

/-- The fields of a command header. -/
theorem header_fields (op : Byte) {a : CmdArgs} (hlen : a.params.length < 4294967296) (l : List Byte) :
    leAt (header op a ++ l) 0 1 = op.toNat ∧ leAt (header op a ++ l) 1 1 = a.flags.toNat ∧
    leAt (header op a ++ l) 2 2 = a.tag.toNat ∧ leAt (header op a ++ l) 4 4 = a.params.length ∧
    leAt (header op a ++ l) 8 4 = a.arg0.toNat ∧ leAt (header op a ++ l) 12 4 = a.arg1.toNat := by
  have htag := a.tag.isLt
  have harg0 := a.arg0.isLt
  have harg1 := a.arg1.isLt
  simp only [header, List.cons_append, List.nil_append, List.append_assoc, leAt_cons_succ, leAt_cons_one, leAt_skip,
    leAt_field, Nat.reduceLeDiff, Nat.reduceSub, Nat.reducePow, Nat.sub_self, le_refl, true_and]
  omega

/-- A command is read back from its header. -/
theorem cmdOf_header (op : Byte) {a : CmdArgs} (hlen : a.params.length < 4294967296) (l : List Byte) :
    cmdOf a.caller (header op a ++ l) a.params = a := by
  obtain ⟨-, hflags, htag, -, harg0, harg1⟩ := header_fields op hlen l
  rw [cmdOf, hflags, htag, harg0, harg1, toWord, toWord, BitVec.ofNat_toNat, BitVec.ofNat_toNat, BitVec.ofNat_toNat,
    BitVec.ofNat_toNat]
  simp only [BitVec.setWidth_eq]

/-- The parameters of a command fill its transfer. -/
theorem drop_pad8 (l : List Byte) : (pad8 l).drop (8 * ceilDiv l.length 8) = [] := by
  refine List.drop_eq_nil_of_le ?_
  rw [pad8, List.length_append, List.length_replicate, ceilDiv]
  omega

@[simp] theorem State.takeCommands_nil (h : SlotId) (n : Nat) (s : State) : State.takeCommands h n [] s = s := by
  cases n <;> rfl

/-- One command in a transfer enters the Till. -/
theorem State.takeCommands_one {s : State} {h : SlotId} (op : Byte) {a : CmdArgs} (hc : a.caller = .slot h)
    (hlen : a.params.length < 4294967296) (hroom : s.slots[h.val].room a.params.length = true) (n : Nat) :
    State.takeCommands h (n + 1) (header op a ++ pad8 a.params) s = s.enter (opOf opTable op) op h a := by
  obtain ⟨hop, -, -, hplen, -, -⟩ := header_fields op hlen (pad8 a.params)
  have hsize : (header op a ++ pad8 a.params).length = 16 + (pad8 a.params).length := by
    rw [List.length_append, header_length]
  have hempty : (header op a ++ pad8 a.params).isEmpty = false := by
    rw [List.isEmpty_eq_false_iff_exists_mem]
    exact ⟨op, List.mem_append_left _ (List.mem_cons_self ..)⟩
  have hrest : (header op a ++ pad8 a.params).drop 16 = pad8 a.params := List.drop_left' (header_length op a)
  have hparams : (pad8 a.params).take a.params.length = a.params := List.take_left
  have hlong : ¬ (pad8 a.params).length < a.params.length := by
    rw [pad8, List.length_append]
    omega
  have hcmd := cmdOf_header op hlen (pad8 a.params)
  rw [hc] at hcmd
  have hshort : ¬ (header op a ++ pad8 a.params).length < 16 := by omega
  simp only [State.takeCommands, hempty, Bool.false_eq_true, if_false, if_neg hshort, hop, hplen, hrest, hroom, Bool.not_true,
    if_neg hlong, hparams, hcmd, drop_pad8, State.takeCommands_nil, BitVec.ofNat_toNat, BitVec.setWidth_eq]

/-- A transfer of less than a header raises FRAMING (R160). -/
theorem State.takeCommands_short {b : List Byte} (hne : b ≠ []) (hlt : b.length < 16) (h : SlotId) (n : Nat) (s : State) :
    State.takeCommands h (n + 1) b s = s.slotEvent h 0x09 none b.length 0 := by
  have hempty : b.isEmpty = false := by
    rw [Bool.eq_false_iff]
    exact fun he => hne (List.isEmpty_iff.mp he)
  simp only [State.takeCommands, hempty, Bool.false_eq_true, if_false, if_pos hlt]
  rfl

/-! ### The source that dispatch takes (R176, R465) -/

/-- One source after another: the offer of a source is taken where it outranks the best of those before it. -/
def State.pickBetter (s : State) (best : Option (Nat × Nat × TillEntry)) (i : Nat) : Option (Nat × Nat × TillEntry) :=
  match s.offer i with
  | none => best
  | some x =>
    match best with
    | some y => if s.prioNow x.2 > s.prioNow y.2.2 then some (i, x) else best
    | none => some (i, x)

theorem State.pickSource_eq (s : State) :
    s.pickSource = ((List.range 5).map fun j => (s.teller.turn + j) % 5).foldl s.pickBetter none := rfl

/-- The choice is the offer of its source, and no offer of some sources outranks it. -/
def State.BestAmong (s : State) (l : List Nat) : Option (Nat × Nat × TillEntry) → Prop
  | none => ∀ j ∈ l, s.offer j = none
  | some y => s.offer y.1 = some y.2 ∧ ∀ j ∈ l, ∀ x, s.offer j = some x → s.prioNow x.2 ≤ s.prioNow y.2.2

/-- One more source is weighed against the best of those before it. -/
theorem State.BestAmong.pickBetter {s : State} {l : List Nat} {best : Option (Nat × Nat × TillEntry)} (h : s.BestAmong l best)
    (i : Nat) : s.BestAmong (l ++ [i]) (s.pickBetter best i) := by
  unfold State.pickBetter
  rcases hoffer : s.offer i with _ | x
  · rcases best with _ | y
    · intro j hj
      rcases List.mem_append.mp hj with hl | hi
      · exact h j hl
      · rw [List.mem_singleton.mp hi, hoffer]
    · refine ⟨h.1, fun j hj x hx => ?_⟩
      rcases List.mem_append.mp hj with hl | hi
      · exact h.2 j hl x hx
      · rw [List.mem_singleton.mp hi, hoffer] at hx
        cases hx
  · rcases best with _ | y
    · refine ⟨hoffer, fun j hj z hz => ?_⟩
      rcases List.mem_append.mp hj with hl | hi
      · rw [h j hl] at hz
        cases hz
      · rw [List.mem_singleton.mp hi, hoffer] at hz
        cases hz
        exact le_refl _
    · obtain ⟨hy, hmax⟩ := h
      dsimp only
      split
      · next hgt =>
        refine ⟨hoffer, fun j hj z hz => ?_⟩
        rcases List.mem_append.mp hj with hl | hi
        · exact (hmax j hl z hz).trans (Nat.le_of_lt hgt)
        · rw [List.mem_singleton.mp hi, hoffer] at hz
          cases hz
          exact le_refl _
      · next hle =>
        refine ⟨hy, fun j hj z hz => ?_⟩
        rcases List.mem_append.mp hj with hl | hi
        · exact hmax j hl z hz
        · rw [List.mem_singleton.mp hi, hoffer] at hz
          cases hz
          exact Nat.le_of_not_lt hle

/-- Sources weighed one after the other leave the best of all. -/
theorem State.BestAmong.foldl {s : State} {l : List Nat} {best : Option (Nat × Nat × TillEntry)} (h : s.BestAmong l best)
    (k : List Nat) : s.BestAmong (l ++ k) (k.foldl s.pickBetter best) := by
  induction k generalizing l best with
  | nil => rwa [List.append_nil]
  | cons i k ih =>
    have hstep := ih (h.pickBetter i)
    rwa [List.append_assoc] at hstep

/-- Dispatch weighs every source. -/
theorem State.pickSource_best (s : State) :
    s.BestAmong ((List.range 5).map fun j => (s.teller.turn + j) % 5) s.pickSource :=
  State.BestAmong.foldl (l := []) (best := none) nofun _

/-- In turn from any source, the five sources are reached. -/
theorem mem_turn {n j : Nat} (h : j < 5) : j ∈ (List.range 5).map fun i => (n + i) % 5 :=
  List.mem_map.mpr ⟨(j + 5 - n % 5) % 5, List.mem_range.mpr (Nat.mod_lt _ (by omega)), by omega⟩

/-- Where no command is free no source offers one. -/
theorem State.offer_of_noneFree {s : State} (h : s.anyFree = false) (i : Nat) : s.offer i = none := by
  simp only [State.anyFree, Bool.or_eq_false_iff, List.any_eq_false, Bool.not_eq_true', Bool.not_eq_false] at h
  obtain ⟨hslots, hmbx⟩ := h
  unfold State.offer
  split
  · next hi =>
    have hempty : s.slots[i].freeEntries = [] := List.isEmpty_iff.mp (by simpa using hslots ⟨i, hi⟩ (List.mem_finRange _))
    rw [hempty]
    rfl
  · rw [Option.isSome_eq_false_iff.mp hmbx |> Option.isNone_iff_eq_none.mp]
    rfl

/-- Where no command is free dispatch takes none. -/
theorem State.pickSource_of_noneFree {s : State} (h : s.anyFree = false) : s.pickSource = none := by
  have hbest := s.pickSource_best
  rcases hpick : s.pickSource with _ | y
  · rfl
  · rw [hpick] at hbest
    rw [State.BestAmong, State.offer_of_noneFree h] at hbest
    cases hbest.1

/-! ### Records on endpoint 0x81 (R161, R168) -/

/-- The records of a transfer are those at the head of the queue. -/
theorem fitRecords_eq_take (room : Nat) (l : List Record) : l.take (fitRecords room l).length = fitRecords room l := by
  induction l generalizing room with
  | nil => rfl
  | cons r l ih =>
    unfold fitRecords
    split
    · rw [List.length_cons, List.take_succ_cons, ih]
    · rfl

/-- They fit in the transfer. -/
theorem fitRecords_length (room : Nat) (l : List Record) : ((fitRecords room l).flatMap Record.bytes).length ≤ room := by
  induction l generalizing room with
  | nil => exact Nat.zero_le _
  | cons r l ih =>
    unfold fitRecords
    split
    · next hfits =>
      have := ih (room - r.bytes.length)
      rw [List.flatMap_cons, List.length_append]
      omega
    · exact Nat.zero_le _

/-- The first record that stays behind does not fit beside them. -/
theorem fitRecords_full {room : Nat} {l : List Record} {r : Record} {rest : List Record}
    (h : l.drop (fitRecords room l).length = r :: rest) :
    room < ((fitRecords room l).flatMap Record.bytes).length + r.bytes.length := by
  induction l generalizing room with
  | nil => cases h
  | cons x l ih =>
    unfold fitRecords at h ⊢
    split at h
    · next hfits =>
      rw [List.length_cons, List.drop_succ_cons] at h
      have := ih h
      rw [if_pos hfits, List.flatMap_cons, List.length_append]
      omega
    · next hlong =>
      cases h
      rw [if_neg hlong]
      simpa using hlong

/-- Records go as they stand while the lines of the result pool are good (R397). -/
theorem State.sendRecords_clean {s : State} {h : SlotId} (hclean : s.ldg.faulty (inResults h) = []) (l : List Record) :
    State.sendRecords h l s = (l, s) := by
  induction l with
  | nil => rfl
  | cons r l ih =>
    have hone : s.sendRecord h r = (r, s) := by
      cases r with
      | completion c =>
        simp only [State.sendRecord, s.haltJob_clean _ hclean, Bool.false_eq_true, if_false, ite_self]
      | event e => rfl
    rw [State.sendRecords, hone, ih]

/-- Two changes of a slot that agree on it are one. -/
theorem State.modSlot_congr {s : State} {h : SlotId} {f g : Slot → Slot} (hfg : f s.slots[h.val] = g s.slots[h.val]) :
    s.modSlot h f = s.modSlot h g :=
  congrArg (fun v => { s with slots := v }) (vmod_congr hfg)

/-- Settles O9: one command is read back from its header; dispatch weighs the five sources in turn; a delivery takes the records
that fit. The turn moves past the source (log 15) and as many records go as fit (log 18): the model's choices. -/
theorem transfersCarryCommandsAndRecords : Obligations.TransfersCarryCommandsAndRecords := by
  unfold Obligations.TransfersCarryCommandsAndRecords
  refine ⟨fun h op a s hopen hc hlen hroom => ?command, fun h b s hopen hne hlt => ?framing, fun s hnone => ?idle,
    fun s i pos e o hawake hrun hpick ho => ?dispatch, fun h s hopen hclean => ?delivery⟩
  case command =>
    simp only [exec, execCommandTransfer, hopen, if_true, State.takeCommands_one op hc hlen hroom]
  case framing =>
    simp only [exec, execCommandTransfer, hopen, if_true, State.takeCommands_short hne hlt]
  case idle =>
    simp only [exec, execCommandDispatch, State.pickSource_of_noneFree hnone, ite_self]
  case dispatch =>
    obtain ⟨hoffer, hmax⟩ : s.BestAmong _ (some (i, pos, e)) := hpick ▸ s.pickSource_best
    refine ⟨?_, hoffer, fun j x hj hx => hmax j (mem_turn hj) x hx⟩
    simp only [exec, execCommandDispatch, hawake, hrun, hpick, ho, Bool.not_true, bne_self_eq_false, Bool.or_self,
      Bool.false_eq_true, if_false]
  case delivery =>
    refine ⟨_, fitRecords 65552 s.slots[h.val].records, rfl, ?_⟩
    simp only [hopen, if_true, State.sendRecords_clean hclean, fitRecords_eq_take, State.modSlot_slots, vmod_same]
    refine ⟨?_, trivial, fitRecords_length .., fun r rest hrest => fitRecords_full hrest,
      State.modSlot_congr rfl⟩
    conv_lhs => rw [← List.take_append_drop (fitRecords 65552 s.slots[h.val].records).length s.slots[h.val].records]
    rw [fitRecords_eq_take]

end Sys2Proof.Machine
end

section
/-! SUPPORT. Direct MGMT transactions (R191, R423, R428, R453, R481): what one transaction to this device makes of its address bytes
and its data bytes. -/
namespace Sys2Proof.Machine

/-! ### The bus -/

/-- The state in which a transaction to this device finds the MGMT bus: nothing answered yet, and acknowledged. -/
def State.mgmtOpened (s : State) : State := s.modGlb fun g => { g with mgmtOut := [], mgmtAck := true }

/-- Both rows run the transaction on the bus (R191, R453). -/
theorem exec_onBus (x : MgmtXact) (s : State) :
    exec (.mgmtTransaction x) s = .next (s.mgmtBus x) ∧ exec (.sclLowTimeout x) s = .next (s.mgmtBus x) := ⟨rfl, rfl⟩

/-- From the end of bring-up step 2 on, a transaction to this device runs (R73, R191). -/
theorem State.mgmtBus_own {s : State} (hawake : s.awake = true) (hclk : s.glb.clocksOk = true) {x : MgmtXact}
    (hdev : x.dev = s.mgmtAddress) : s.mgmtBus x = s.mgmtXact x := by
  simp only [State.mgmtBus, hdev, ne_eq, not_true, if_false, hawake, hclk, Bool.and_self, if_true]

/-! ### Addresses -/

/-- What bytes hold is below 256 to their number. -/
theorem ofLe_lt (l : List Byte) : ofLe l < 256 ^ l.length := by
  induction l with
  | nil => exact Nat.zero_lt_one
  | cons b l ih =>
    have hb := b.isLt
    rw [ofLe, List.length_cons, Nat.pow_succ]
    omega

/-- What four bytes hold is a word. -/
theorem leAt_lt_word (l : List Byte) (off : Nat) : leAt l off 4 < 4294967296 := by
  have hlen : (slice l off 4).length ≤ 4 := by
    rw [slice, List.length_take]
    exact Nat.min_le_left ..
  exact Nat.lt_of_lt_of_le (ofLe_lt _) (Nat.pow_le_pow_right (n := 256) (by decide) hlen)

/-- The first word of a transaction lies at its address. -/
theorem wordAddr_leAt (l : List Byte) : wordAddr (leAt l 0 4) 0 = leAt l 0 4 :=
  Nat.mod_eq_of_lt (leAt_lt_word l 0)

/-- A register lies at an aligned address. -/
theorem regAt_aligned {addr : Nat} {r : Reg} (h : regAt addr = some r) : addr % 4 = 0 := by
  by_contra hno
  rw [regAt, if_pos hno] at h
  cases h

/-! ### Writes (R423, R481) -/

/-- A write runs on the bytes behind its address. -/
theorem State.mgmtXact_write (s : State) {addr : List Byte} (hlen : addr.length = 4) (dev : BitVec 7) (data : List Byte) :
    s.mgmtXact ⟨dev, addr, false, data, 0⟩ = s.mgmtOpened.mgmtWriteXact (leAt addr 0 4) addr data := by
  have hlong : ¬ addr.length < 4 := by omega
  have htake : addr.take 4 = addr := List.take_of_length_le (by omega)
  have hdrop : addr.drop 4 = [] := List.drop_eq_nil_of_le (by omega)
  simp only [State.mgmtXact, if_neg hlong, htake, hdrop, List.nil_append, Bool.not_false, if_true]
  rfl

/-- One whole word is written to a register that the address names. -/
theorem State.mgmtWrite_one (s : State) {addr : Nat} (hreg : (regAt addr).isSome = true) (data : List Byte) :
    State.mgmtWrite addr (wordsOf 1 data) false s = (State.regWrite State.mbxStart s .mgmt addr (toWord (leAt data 0 4))).2 := by
  obtain ⟨r, hr⟩ := Option.isSome_iff_exists.mp hreg
  have hwords : wordsOf 1 data = [toWord (leAt data 0 4)] := rfl
  simp only [hwords, State.mgmtWrite, hr]

/-- A write of one whole word at an aligned address, with no byte or with two bytes behind it. -/
theorem State.mgmtWriteXact_one (s : State) {addr : List Byte} (halign : leAt addr 0 4 % 4 = 0)
    (hreg : (regAt (leAt addr 0 4)).isSome = true) {data : List Byte} (hdata : data.length = 4 ∨ data.length = 6) :
    s.mgmtWriteXact (leAt addr 0 4) addr data =
      if data.length = 4 then (State.regWrite State.mbxStart s .mgmt (leAt addr 0 4) (toWord (leAt data 0 4))).2
      else ((State.regWrite State.mbxStart s .mgmt (leAt addr 0 4) (toWord (leAt data 0 4))).2.violation .mgmt 2
        (wordAddr (leAt addr 0 4) 1)) := by
  have halign' : ¬ leAt addr 0 4 % 4 ≠ 0 := fun h => h halign
  rcases hdata with h | h <;>
    simp only [State.mgmtWriteXact, h, Nat.reduceDiv, Nat.reduceMod, OfNat.ofNat_ne_one, Nat.reduceLeDiff,
      Nat.reduceEqDiff, zero_ne_one, false_and, if_false, if_true, if_neg halign', s.mgmtWrite_one hreg]

/-- A fifth byte that is not the PEC makes the write void (R481). [PRESUMED, log 128] -/
theorem State.mgmtWriteXact_badPec (s : State) (addr : List Byte) {data : List Byte} (hdata : data.length = 5)
    (hpec : s.pecOf (addr ++ data.take 4) ≠ leAt data 4 1) :
    s.mgmtWriteXact (leAt addr 0 4) addr data =
      (s.violation .mgmt 9 (leAt addr 0 4)).modGlb fun g => { g with mgmtAck := false } := by
  have hlast : data.dropLast = data.take 4 := by rw [List.dropLast_eq_take, hdata]
  simp only [State.mgmtWriteXact, hdata, Nat.reduceDiv, Nat.reduceMod, Nat.mul_one, hlast, true_and, ne_eq, hpec,
    not_false_eq_true, if_true]

/-! ### Reads (R423, R427) -/

/-- Opening the bus leaves what the registers hold. -/
theorem State.mgmtOpened_regValue (s : State) (p : Path) (now : Dword) (r : Reg) :
    s.mgmtOpened.regValue p now r = s.regValue p now r := by
  cases r
  case mntTstate t =>
    have horder : s.mgmtOpened.feedbackOrder t = s.feedbackOrder t := by
      simp only [State.feedbackOrder, State.mgmtOpened, State.modGlb_orders]
      rfl
    simp only [State.regValue, State.mntTstate, horder]
    rfl
  all_goals rfl

/-- A read of one whole word answers with the register's value. -/
theorem State.mgmtXact_read (s : State) {addr : List Byte} {r : Reg} (hlen : addr.length = 4)
    (hreg : regAt (leAt addr 0 4) = some r) (halign : leAt addr 0 4 % 4 = 0) (htime : readsTime (leAt addr 0 4) 1 = false)
    (hparity : s.glb.parityBad = []) (hvault : ∀ w : Fin 128, s.vault[w.val].copyBad = false) (dev : BitVec 7) :
    (s.mgmtXact ⟨dev, addr, true, [], 4⟩).glb.mgmtOut = leBytes 4 (s.regValue .mgmt 0 r).toNat := by
  have hlong : ¬ addr.length < 4 := by omega
  have halign' : ¬ leAt addr 0 4 % 4 ≠ 0 := fun h => h halign
  have hread := s.mgmtOpened.regRead_of_some .mgmt 0 true hreg hparity hvault
  have hcount : ceilDiv 4 4 = 1 := by decide
  have hall : (leBytes 4 (s.regValue .mgmt 0 r).toNat).take 4 = leBytes 4 (s.regValue .mgmt 0 r).toNat :=
    List.take_of_length_le (by rw [leBytes_length])
  have hopen : (s.modGlb fun g => { g with mgmtOut := [], mgmtAck := true }) = s.mgmtOpened := rfl
  simp only [State.mgmtXact, if_neg hlong, Bool.not_true, Bool.false_eq_true, if_false, if_neg halign', hopen, hcount,
    State.accessTime_of_not htime, List.range_one, State.mgmtRead, wordAddr_leAt, Nat.min_self, State.mgmtReadWord, hreg,
    decide_true, hread, s.mgmtOpened_regValue, hall, List.append_nil, State.modGlb_glb]

/-- Settles O13: each form by what the transaction makes of its bytes. That the PEC covers the address byte and is judged before the
alignment is the model's choice (log 128). -/
theorem mgmtTransactionsAccessWords : Obligations.MgmtTransactionsAccessWords := by
  unfold Obligations.MgmtTransactionsAccessWords
  intro s hawake hclk s' dev
  have hbus : ∀ x : MgmtXact, x.dev = dev → s.mgmtBus x = s.mgmtXact x := fun x => State.mgmtBus_own hawake hclk
  refine ⟨fun x hdev => ?other, fun addr data hlen halign hdata hreg => ?write, fun addr r hlen hreg htime hparity hvault => ?read,
    fun addr data hlen hdata hpec => ?pec, fun addr n hlen halign hn => ?unaligned, fun addr hpos hlt => ?short,
    fun addr data hlen halign hdata hreg => ?partialWord⟩
  case other =>
    have hignored : s.mgmtBus x = s := if_pos hdev
    rw [(exec_onBus x s).1, (exec_onBus x s).2, hignored]
    exact ⟨rfl, rfl⟩
  case write =>
    rw [(exec_onBus _ s).1, hbus _ rfl, s.mgmtXact_write hlen, State.mgmtWriteXact_one _ halign hreg (.inl hdata), if_pos hdata]
    rfl
  case read =>
    have halign : leAt addr 0 4 % 4 = 0 := regAt_aligned hreg
    exact ⟨_, rfl, by rw [hbus _ rfl]; exact s.mgmtXact_read hlen hreg halign htime hparity hvault dev⟩
  case pec =>
    refine ⟨_, rfl, ?_⟩
    rw [hbus _ rfl, s.mgmtXact_write hlen, s.mgmtOpened.mgmtWriteXact_badPec addr hdata hpec]
    exact ⟨rfl, rfl, rfl, rfl, rfl, rfl, rfl, rfl⟩
  case unaligned =>
    have hlong : ¬ addr.length < 4 := by omega
    have hn' : n ≠ 0 := by omega
    rw [(exec_onBus _ s).1, hbus _ rfl]
    simp only [State.mgmtXact, if_neg hlong, Bool.not_true, Bool.false_eq_true, if_false, if_pos halign, if_neg hn']
    rfl
  case short =>
    have hsome : addr.isEmpty = false := by
      rw [List.isEmpty_eq_false_iff_exists_mem]
      exact List.length_pos_iff_exists_mem.mp hpos
    rw [(exec_onBus _ s).1, hbus _ rfl]
    simp only [State.mgmtXact, if_pos hlt, hsome, Bool.false_eq_true, if_false]
    rfl
  case partialWord =>
    rw [(exec_onBus _ s).2, hbus _ rfl, s.mgmtXact_write hlen, State.mgmtWriteXact_one _ halign hreg (.inr hdata),
      if_neg (by omega)]
    rfl

end Sys2Proof.Machine
end

section
/-! SUPPORT. A register written by a path (R192, R418, R421, R428, R430, R432, R433): the write that passes the checks, the rows that
name one write, and the start of the mailbox's command. -/
namespace Sys2Proof.Machine

/-! ### A write by a path -/

/-- How a write of GO starts the mailbox's command by a path: a mailbox command finds GO at 1 (R192). -/
def goOf : Path → State → State
  | .mbx => id
  | _ => State.mbxStart

/-- Whether a path may write a register address (R183): a slot only where the address is its own. -/
def State.pathMayWrite (s : State) (p : Path) (addr : Nat) : Prop := ∀ h, p = .slot h → s.slotMayWrite h addr = true

/-- A write by a path that may make it is one access. -/
theorem State.writeBy_ready {s : State} {p : Path} (hready : s.pathReady p = true) {addr : Nat} (hmay : s.pathMayWrite p addr)
    (v : Word) : s.writeBy p addr v = (State.regWrite (goOf p) s p addr v).2 := by
  unfold State.writeBy
  rw [hready]
  cases p with
  | slot h => exact if_pos (hmay h rfl)
  | mbx => rfl
  | mgmt => rfl

/-- A write that passes the checks and asks for no key stores the word. -/
theorem State.writeBy_passed {s : State} {p : Path} (hready : s.pathReady p = true) {addr : Nat} (hmay : s.pathMayWrite p addr)
    {r : Reg} {v : Word} (hreg : regAt addr = some r) (hpass : s.writeRefused p r v = none) (hkey : v &&& r.wk = 0)
    (hlock : s.regLocked r v = false) : s.writeBy p addr v = State.storeReg (goOf p) (s.endParity addr) p addr r v := by
  rw [State.writeBy_ready hready hmay, State.regWrite_passed _ hreg hpass hkey hlock]

/-- The blocks of a slot, of a port and of a Stile alone are someone's own: below them every slot may write. -/
theorem State.pathMayWrite_global (s : State) (p : Path) {addr : Nat} (h : addr < 0x10000 ∨ (0x26000 ≤ addr ∧ addr < 0xB0000)) :
    s.pathMayWrite p addr := by
  intro g _
  rw [State.slotMayWrite, if_neg (by omega), if_neg (by omega), if_neg (by omega)]

/-- A register whose writes no test mode, no key and no range concerns takes every word clear of its reserved bits. -/
theorem State.writeRefused_plain (s : State) (p : Path) {r : Reg} {v : Word} (hres : v.toNat &&& r.reserved = 0)
    (hrange : r.outOfRange v = false) (htest : s.testOutside r v = false) (hkey : v &&& r.wk = 0) :
    s.writeRefused p r v = none := by
  simp only [State.writeRefused, hres, hrange, htest, hkey, ne_eq, not_true_eq_false, Bool.false_eq_true, or_self, if_false,
    Bool.false_and, false_and]

/-! ### GLB_UNLOCK (R430) -/

theorem regAt_unlock : regAt 0x30 = some .unlock := by decide
theorem regAt_lock : regAt 0x34 = some .lock := by decide
theorem regAt_presence : regAt 0x40 = some .presence := by decide
theorem regAt_ruleHit : regAt 0xA0014 = some .nsfRuleHit := by decide
theorem regAt_mbxGo : regAt 0x510 = some .mbxGo := by decide

/-- A path's own source takes the unlock state that is set for it. -/
theorem State.setUnlocked_unlockedBy (s : State) (p : Path) (b : Bool) : (s.setUnlocked p b).unlockedBy p = b := by
  cases p with
  | slot h => simp only [State.setUnlocked, State.unlockedBy, State.modSlot_slots, vmod_same]
  | mbx => rfl
  | mgmt => rfl

/-- Setting an unlock state records nothing. -/
theorem State.setUnlocked_vioCount (s : State) (p : Path) (b : Bool) : (s.setUnlocked p b).glb.vioCount = s.glb.vioCount := by
  cases p <;> rfl

/-- Recording a violation unlocks no one. -/
theorem State.violation_unlockedBy (s : State) (p q : Path) (code addr : Nat) :
    (s.violation p code addr).unlockedBy q = s.unlockedBy q := by
  cases q <;> rfl

/-- A write of GLB_UNLOCK reaches the key. -/
theorem State.writeBy_unlock {s : State} {p : Path} (hready : s.pathReady p = true) (v : Word) :
    s.writeBy p 0x30 v = (s.endParity 0x30).writeUnlock p v :=
  State.writeBy_passed hready (s.pathMayWrite_global p (.inl (by decide))) regAt_unlock
    (s.writeRefused_plain p (Nat.and_zero _) rfl rfl (BitVec.and_zero)) (BitVec.and_zero) rfl

/-! ### GLB_LOCK (R432) -/

/-- A number below a power of two has no bit in common with a multiple of it. -/
theorem and_multiple_eq_zero {n j : Nat} (h : n < 2 ^ j) (k : Nat) : n &&& 2 ^ j * k = 0 := by
  refine Nat.eq_of_testBit_eq fun i => ?_
  rw [Nat.testBit_and, Nat.testBit_two_pow_mul, Nat.zero_testBit]
  by_cases hi : j ≤ i
  · rw [Nat.testBit_lt_two_pow (Nat.lt_of_lt_of_le h (Nat.pow_le_pow_right (by decide) hi)), Bool.false_and]
  · rw [decide_eq_false hi, Bool.false_and, Bool.and_false]

/-- A word below 16 is clear of the reserved bits of GLB_LOCK. -/
theorem lock_reserved {v : Word} (h : v.toNat < 16) : v.toNat &&& Reg.lock.reserved = 0 := by
  exact and_multiple_eq_zero (j := 4) h 0xFFFFFFF

/-- A write of GLB_LOCK is judged by whether it has been written. -/
theorem State.writeBy_lock {s : State} {p : Path} (hready : s.pathReady p = true) {v : Word} (hv : v.toNat < 16) :
    s.writeBy p 0x34 v = if s.glb.lockWritten then s.violation p 6 0x34
      else (s.endParity 0x34).modGlb fun g => { g with lock := v.setWidth 4, lockWritten := true } := by
  have hpass := s.writeRefused_plain p (lock_reserved hv) rfl rfl (BitVec.and_zero)
  have hlocked : s.regLocked .lock v = s.glb.lockWritten := by
    simp only [State.regLocked, Reg.lockGroup, State.testOutside, Bool.or_false, Bool.false_and]
  have hkey : ¬ v &&& Reg.lock.wk ≠ 0 := fun h => h (BitVec.and_zero)
  rw [State.writeBy_ready hready (s.pathMayWrite_global p (.inl (by decide)))]
  simp only [State.regWrite, regOrRefusal_of_some regAt_lock, State.regPut, hpass, if_neg hkey, hlocked]
  split <;> rfl

/-! ### GLB_PRESENCE.CLOSE (R433) -/

/-- Closing an open window leaves the rest of Nightsafe. -/
theorem State.closePresence_nsf {s : State} (h : s.nsf.presence ≠ 0) : s.closePresence.nsf = { s.nsf with presence := 0 } := by
  rw [State.closePresence, if_neg h]
  exact ((s.modNsf _).everySlotEvent_evented 0x40 0x2 1).nsf

/-- A write of CLOSE closes the window. -/
theorem State.writeBy_presence {s : State} {p : Path} (hready : s.pathReady p = true) :
    s.writeBy p 0x40 0x10 = (s.endParity 0x40).closePresence :=
  State.writeBy_passed hready (s.pathMayWrite_global p (.inl (by decide))) regAt_presence
    (s.writeRefused_plain p (by decide) rfl rfl (by decide)) (by decide) rfl

/-! ### FORCE_OFF (R418) -/

/-- The word that clears FORCE_OFF beside some HIT bits. -/
def forceOffWord (hits : BitVec 16) : Word := 0x10000 ||| hits.setWidth 32

theorem forceOffWord_bits (hits : BitVec 16) :
    (forceOffWord hits).toNat &&& Reg.nsfRuleHit.reserved = 0 ∧ forceOffWord hits &&& Reg.nsfRuleHit.wk ≠ 0 ∧
    testBit (forceOffWord hits) 16 = true ∧ (forceOffWord hits).setWidth 16 = hits := by
  have hbit : (forceOffWord hits).getLsbD 16 = true := by
    rw [forceOffWord, BitVec.getLsbD_or]
    rfl
  have hlt : (forceOffWord hits).toNat < 2 ^ 17 := by
    rw [forceOffWord, BitVec.toNat_or]
    refine Nat.or_lt_two_pow (by decide) ?_
    rw [BitVec.toNat_setWidth]
    have := hits.isLt
    omega
  refine ⟨and_multiple_eq_zero (j := 17) hlt 0x7FFF, fun h => ?_, hbit, ?_⟩
  · have h16 := congrArg (fun w : Word => w.getLsbD 16) h
    simp only [BitVec.getLsbD_and, hbit, Bool.true_and] at h16
    revert h16
    decide
  · ext i hi
    rw [forceOffWord, BitVec.setWidth_or, BitVec.setWidth_setWidth_of_le hits (by decide)]
    simp

/-- Without the key a write of FORCE_OFF is refused (R418, R431). -/
theorem State.writeBy_forceOff_locked {s : State} {p : Path} (hready : s.pathReady p = true) (hits : BitVec 16)
    (hkey : s.unlockedBy p = false) : s.writeBy p 0xA0014 (forceOffWord hits) = s.violation p 5 0xA0014 := by
  obtain ⟨hres, hwk, -, -⟩ := forceOffWord_bits hits
  have href : s.writeRefused p .nsfRuleHit (forceOffWord hits) = some (.eKey, 5) := by
    simp only [State.writeRefused, hres, Reg.outOfRange, State.testOutside, ne_eq, not_true_eq_false, Bool.false_eq_true,
      or_self, if_false, Bool.false_and, hkey, and_true, hwk, not_false_eq_true, if_true]
  rw [State.writeBy_ready hready (s.pathMayWrite_global p (.inr (by decide)))]
  simp only [State.regWrite, regOrRefusal_of_some regAt_ruleHit, State.regPut, href]

/-- With the key a write of FORCE_OFF consumes it, clears the HIT bits and posts the write (R418, R431). -/
theorem State.writeBy_forceOff_unlocked {s : State} {p : Path} (hready : s.pathReady p = true) (hits : BitVec 16)
    (hkey : s.unlockedBy p = true) (hlock : testBit s.glb.lock 2 = false) : s.writeBy p 0xA0014 (forceOffWord hits) =
      (((s.setUnlocked p false).endParity 0xA0014).modNsf fun n => { n with hit := n.hit &&& ~~~hits }).post 0xA0014
        (forceOffWord hits) := by
  obtain ⟨hres, hwk, hbit, hlow⟩ := forceOffWord_bits hits
  have hpass : s.writeRefused p .nsfRuleHit (forceOffWord hits) = none := by
    simp only [State.writeRefused, hres, Reg.outOfRange, State.testOutside, ne_eq, not_true_eq_false, Bool.false_eq_true,
      or_self, if_false, Bool.false_and, hkey, and_false, reduceCtorEq]
  have hlock' : testBit (s.setUnlocked p false).glb.lock 2 = false := by cases p <;> exact hlock
  have hfree : (s.setUnlocked p false).regLocked .nsfRuleHit (forceOffWord hits) = false := by
    simp only [State.regLocked, Reg.lockGroup, hbit, if_true, hlock', State.testOutside, Bool.false_and, Bool.or_self]
  rw [State.writeBy_ready hready (s.pathMayWrite_global p (.inr (by decide)))]
  simp only [State.regWrite, regOrRefusal_of_some regAt_ruleHit, State.regPut, hpass, if_pos hwk, hfree, Bool.false_eq_true,
    if_false, State.storeReg, hbit, if_true, hlow]
  rfl

/-! ### The mailbox's command (R192, R193) -/

/-- The mailbox's command has run to its answer, or is in flight. -/
def State.mbxGone (s : State) : Prop := (s.teller.done = true ∧ s.teller.go = false) ∨ s.teller.mbxEntry.isSome = true

/-- An answered mailbox command has gone. -/
theorem State.finishMbx_gone (s : State) (e : TillEntry) (st : Status) (r0 : Word) (d : List Byte) :
    (s.finishMbx e st r0 d).mbxGone := .inl ⟨rfl, rfl⟩

/-- A mailbox command that is kept has gone. -/
theorem State.keepEntry_gone (s : State) (pos : Nat) (e : TillEntry) : (s.keepEntry .mbx pos e).mbxGone := .inr rfl

/-- A mailbox command that is dispatched ends with its answer or waits. -/
theorem runEntry_gone (o : OpSpec) (s : State) {e : TillEntry} (hc : e.args.caller = .mbx) (hearly : e.early = false) (pos : Nat) :
    (runEntry o s e pos).mbxGone := by
  simp only [runEntry, hearly, Bool.false_and, Bool.false_eq_true, if_false, runBody, hc, State.finish]
  split
  · exact State.finishMbx_gone ..
  · split
    · exact State.finishMbx_gone ..
    · split
      · exact State.finishMbx_gone ..
      · split
        · exact State.finishMbx_gone ..
        · exact State.finishMbx_gone ..
        · exact State.keepEntry_gone ..

/-- A mailbox command that starts is answered or in flight. -/
theorem State.startMbx_gone (s : State) (o : Option OpSpec) (op : Byte) {a : CmdArgs} (hc : a.caller = .mbx) :
    (s.startMbx o op a).mbxGone := by
  unfold State.startMbx
  extract_lets e busy s'
  split
  · exact State.finishMbx_gone ..
  · split
    · exact State.finishMbx_gone ..
    · next hnone => cases hnone
    · split
      · exact State.finishMbx_gone ..
      · split
        · exact runEntry_gone _ _ hc rfl _
        · exact State.keepEntry_gone ..

/-- A write of 1 to GO while it reads 0 starts the command. -/
theorem State.writeBy_go {s : State} {p : Path} (hready : s.pathReady p = true) (hp : p ≠ .mbx) (hgo : s.teller.go = false) :
    s.writeBy p 0x510 1 = (s.endParity 0x510).mbxStart := by
  have hstarts : goOf p = State.mbxStart := by
    cases p with
    | slot h => rfl
    | mbx => exact absurd rfl hp
    | mgmt => rfl
  have hgo' : (s.endParity 0x510).teller.go = false := hgo
  rw [State.writeBy_passed hready (s.pathMayWrite_global p (.inl (by decide))) regAt_mbxGo
    (s.writeRefused_plain p (by decide) rfl rfl (by decide)) (by decide) rfl, hstarts]
  simp only [State.storeReg, hgo']
  rfl

/-- Settles O11: each row by the write that its path makes. -/
theorem registerRowsWriteTheirRegister : Obligations.RegisterRowsWriteTheirRegister := by
  unfold Obligations.RegisterRowsWriteTheirRegister
  intro p s hready
  refine ⟨?unlock, fun v hv => ?relock, fun v hv hfirst => ?lock, fun v hv hagain => ?lockAgain, fun hopen => ?presence,
    fun hits hkey hlock => ?forceOff, fun hits hkey => ?forceOffLocked, fun hp hgo => ?go,
    fun addr v r hmay hreg hgo hpass hkey hlock => ?store, fun addr v hmay hnone => ?nowhere⟩
  case unlock =>
    refine ⟨_, congrArg Host.Outcome.next (State.writeBy_unlock hready _), ?_⟩
    rw [State.writeUnlock, if_pos rfl]
    exact ⟨State.setUnlocked_unlockedBy .., State.setUnlocked_vioCount ..⟩
  case relock =>
    refine ⟨_, congrArg Host.Outcome.next (State.writeBy_unlock hready _), ?_⟩
    rw [State.writeUnlock, if_neg hv, State.violation_unlockedBy]
    exact ⟨State.setUnlocked_unlockedBy .., rfl, rfl⟩
  case lock =>
    refine ⟨_, congrArg Host.Outcome.next (State.writeBy_lock hready hv), ?_⟩
    rw [hfirst]
    refine ⟨?_, rfl, rfl⟩
    show (v.setWidth 4).toNat = v.toNat
    rw [BitVec.toNat_setWidth]
    omega
  case lockAgain =>
    refine ⟨_, congrArg Host.Outcome.next (State.writeBy_lock hready hv), ?_⟩
    rw [hagain]
    exact ⟨rfl, rfl, rfl, rfl⟩
  case presence =>
    exact ⟨_, congrArg Host.Outcome.next (State.writeBy_presence hready), State.closePresence_nsf hopen⟩
  case forceOff =>
    refine ⟨_, congrArg Host.Outcome.next (State.writeBy_forceOff_unlocked hready hits hkey hlock), ?_, ?_⟩
    · exact Eq.trans (by cases p <;> rfl) (s.setUnlocked_unlockedBy p false)
    · cases p <;> rfl
  case forceOffLocked =>
    exact ⟨_, congrArg Host.Outcome.next (State.writeBy_forceOff_locked hready hits hkey), rfl, rfl, rfl⟩
  case go =>
    exact ⟨_, congrArg Host.Outcome.next (State.writeBy_go hready hp hgo), State.startMbx_gone _ _ _ rfl⟩
  case store =>
    refine congrArg Host.Outcome.next ((State.writeBy_passed hready hmay hreg hpass hkey hlock).trans ?_)
    exact State.storeReg_go _ _ p _ v hgo
  case nowhere =>
    refine congrArg Host.Outcome.next ((State.writeBy_ready hready hmay v).trans ?_)
    rw [State.regWrite_of_none _ s p v hnone]

end Sys2Proof.Machine
end

section
/-! SUPPORT. The power commands (R355, R356, R369, R374, R378, R382): commands that change one record of a port, the bytes of
ESC_QUERY, and the requests that ESC_BUDGET removes. -/
namespace Sys2Proof.Machine

/-! ### A command whose change goes past its charge -/

/-- A taken command completes as its body says, with the body's change made to the state it found, where that change goes past
the charge of the command and leaves the slots. -/
theorem issue_changes {o : OpSpec} {a : CmdArgs} {s : State} {st : Status} {r0 : Word} {d : List Byte} {f : State → State}
    (htakes : s.takes o a = true) (hslot : ∀ u h x, f (u.modSlot h x) = (f u).modSlot h x)
    (hteller : ∀ u x, f (u.modTeller x) = (f u).modTeller x) (hslots : ∀ u, (f u).slots = u.slots)
    (hbody : o.body (s.atDispatch o a) a = .done st r0 d (f (s.atDispatch o a))) :
    (issue o a s).answered o a st r0 d ∧ (f (s.leaveS1 o.code)).SameButAnswer (issue o a s) a.caller [] := by
  obtain ⟨m, hm⟩ := s.atDispatch_charged o a (takes_running htakes)
  refine issue_completes htakes (m := m) ?_ (State.fits_of_till (takes_fits htakes) fun g => by rw [hslots]; exact ⟨rfl, rfl, rfl⟩)
  rw [hbody, hm, State.charged_comm _ a m f (fun _ _ => hslot ..) fun _ => hteller ..]

/-- A taken command that completes with a change of its port's power record. -/
theorem issue_changesPwr {o : OpSpec} {a : CmdArgs} {s : State} {st : Status} {r0 : Word} {d : List Byte} {k : PortId}
    {f : Pwr → Pwr} (htakes : s.takes o a = true)
    (hbody : o.body (s.atDispatch o a) a = .done st r0 d ((s.atDispatch o a).modPwr k f)) :
    (issue o a s).answered o a st r0 d ∧ ((s.leaveS1 o.code).modPwr k f).SameButAnswer (issue o a s) a.caller [] :=
  issue_changes (f := (·.modPwr k f)) htakes (fun _ _ _ => rfl) (fun _ _ => rfl) (fun _ => rfl) hbody

@[simp] theorem State.atDispatch_fusedMa (s : State) (o : OpSpec) (a : CmdArgs) (k : PortId) :
    (s.atDispatch o a).fusedMa k = s.fusedMa k := by
  have hrow (r : Nat) : (s.atDispatch o a).vaultRow r = s.vaultRow r := by
    simp only [State.vaultRow, State.atDispatch_vault]
  rw [State.fusedMa, State.limitEntry, hrow, State.fusedMa, State.limitEntry]

/-! ### The bodies of the record commands -/

/-- GATE_CFG on a port that is up and at rest replaces its gate record (R355, R356). -/
theorem gateCfgBody_sets {s : State} {a : CmdArgs} (hlim : leAt a.params 0 2 ≤ s.fusedMa (portArg a))
    (hup : s.portDown (portArg a) = false) (hlink : s.linkUp (portArg a) = true)
    (hbusy : s.pwr[(portArg a).val].cfgBusy = false) :
    gateCfgBody s a = .ok (s.modPwr (portArg a) fun w => { w with gateRec := gateRecOf a.params }) := by
  unfold gateCfgBody
  rw [if_neg (Nat.not_lt.mpr hlim), if_neg (Bool.eq_false_iff.mp hup), if_neg (by rw [hlink]; exact nofun),
    if_neg (Bool.eq_false_iff.mp hbusy)]

/-- MODEL_CFG on a port that is up and at rest replaces its model record (R369). -/
theorem modelCfgBody_sets {s : State} {a : CmdArgs} (hup : s.portDown (portArg a) = false)
    (hlink : s.linkUp (portArg a) = true) (hbusy : s.pwr[(portArg a).val].cfgBusy = false) :
    modelCfgBody s a = .ok (s.modPwr (portArg a) fun w => { w with modelRec := modelRecOf a.params }) := by
  unfold modelCfgBody
  rw [if_neg (Bool.eq_false_iff.mp hup), if_neg (by rw [hlink]; exact nofun), if_neg (Bool.eq_false_iff.mp hbusy)]

/-! ### ESC_QUERY (R382) -/

/-- ESC_QUERY returns eight words and two more for each of the 24 ports. -/
theorem State.escQuery_length (s : State) : s.escQuery.length = 224 := by
  simp [State.escQuery, bytesOfWords, allPorts, allFin]

theorem toWord_lt (n : Nat) : (toWord n).toNat < 4294967296 := (toWord n).isLt

theorem toWord_toNat (n : Nat) : (toWord n).toNat = n % 4294967296 := BitVec.toNat_ofNat n 32

/-- The bytes of ESC_QUERY begin with the three budgets and the three rail charges. -/
theorem State.escQuery_fields (s : State) :
    leAt s.escQuery 0 4 = s.escrow.budgetL.toNat ∧ leAt s.escQuery 4 4 = s.escrow.budgetH.toNat ∧
    leAt s.escQuery 8 4 = s.escrow.budgetV.toNat ∧ leAt s.escQuery 12 4 = s.chargeL % 4294967296 ∧
    leAt s.escQuery 16 4 = s.chargeH % 4294967296 ∧ leAt s.escQuery 20 4 = s.chargeV % 4294967296 := by
  have hl := s.escrow.budgetL.isLt
  have hh := s.escrow.budgetH.isLt
  have hv := s.escrow.budgetV.isLt
  simp only [State.escQuery, bytesOfWords, List.flatMap_cons, List.append_assoc, leAt_skip, leAt_field, toWord_toNat,
    Nat.reduceLeDiff, Nat.reduceSub, Nat.reducePow, Nat.sub_self, le_refl, Nat.mod_mod, and_true]
  omega

/-! ### The queue -/

/-- A queued port has a position from 1 to 24. -/
theorem State.qpos_queued {s : State} {k : PortId} (h : s.pwr[k.val].queued.isSome = true) :
    ∃ i < 24, s.qpos k = i + 1 := by
  refine ⟨_, ?_, (if_pos h).trans (Nat.add_comm ..)⟩
  exact List.length_filter_lt_length_iff_exists.mpr ⟨k, List.mem_finRange k, by simp⟩

/-- Every queued port is in the queue. -/
theorem State.mem_queue {s : State} {k : PortId} (h : s.pwr[k.val].queued.isSome = true) : k ∈ s.queue := by
  obtain ⟨i, hi, hpos⟩ := State.qpos_queued h
  simp only [State.queue, List.mem_flatMap, List.mem_range, List.mem_filter, beq_iff_eq]
  exact ⟨i, hi, ⟨List.mem_finRange k, h⟩, hpos⟩

/-! ### The removal of requests that can never fit (R378) -/

/-- A removed request is not queued, and nothing else of the power path changes but for what the port wants. -/
theorem State.removeRequest_pwr (s : State) (k : PortId) : (s.removeRequest k).pwr =
    vmod s.pwr k fun w => { w with queued := none, budgetWait := false, want := false } :=
  (State.powerEvent_evented ..).pwr.trans (State.endWaits_answering ..).pwr

/-- A state whose queue has lost requests: the rest that the queue is judged by is as before. -/
structure State.Purged (s t : State) : Prop where
  escrow : t.escrow = s.escrow
  pd : t.pd = s.pd
  gateRec : ∀ k : PortId, t.pwr[k.val].gateRec = s.pwr[k.val].gateRec
  modelRec : ∀ k : PortId, t.pwr[k.val].modelRec = s.pwr[k.val].modelRec
  queued : ∀ k : PortId, t.pwr[k.val].queued = none ∨ t.pwr[k.val].queued = s.pwr[k.val].queued

theorem State.Purged.refl (s : State) : s.Purged s := ⟨rfl, rfl, fun _ => rfl, fun _ => rfl, fun _ => .inr rfl⟩

theorem State.Purged.trans {s t u : State} (h : s.Purged t) (k : t.Purged u) : s.Purged u where
  escrow := k.escrow.trans h.escrow
  pd := k.pd.trans h.pd
  gateRec p := (k.gateRec p).trans (h.gateRec p)
  modelRec p := (k.modelRec p).trans (h.modelRec p)
  queued p := (k.queued p).elim .inl fun e => by rw [e]; exact h.queued p

/-- A purge leaves what a ramp asks of the rail. -/
theorem State.Purged.rampCharge {s t : State} (h : s.Purged t) (k : PortId) : t.rampCharge k = s.rampCharge k := by
  rw [State.rampCharge, h.pd, h.gateRec, State.rampCharge]

theorem State.removeRequest_purged (s : State) (k : PortId) : s.Purged (s.removeRequest k) where
  escrow := (State.powerEvent_evented ..).escrow.trans (State.endWaits_answering ..).escrow
  pd := (State.powerEvent_evented ..).pd.trans (State.endWaits_answering ..).pd
  gateRec p := by rw [State.removeRequest_pwr, vmod_get]; split <;> rfl
  modelRec p := by rw [State.removeRequest_pwr, vmod_get]; split <;> rfl
  queued p := by rw [State.removeRequest_pwr, vmod_get]; split <;> simp

/-- One step of the purge removes the request that can never fit. -/
def State.purgeStep (s : State) (k : PortId) : State :=
  if s.rampCharge k > s.escrow.budgetL.toNat then s.removeRequest k else s

theorem State.purgeQueue_eq (s : State) : s.purgeQueue = s.queue.foldl State.purgeStep s := rfl

theorem State.purgeStep_purged (s : State) (k : PortId) : s.Purged (s.purgeStep k) := by
  unfold State.purgeStep
  split
  · exact s.removeRequest_purged k
  · exact .refl s

/-- After its step a port is queued only where its request can fit. -/
theorem State.purgeStep_fits (s : State) (k : PortId) :
    (s.purgeStep k).pwr[k.val].queued = none ∨ s.rampCharge k ≤ s.escrow.budgetL.toNat := by
  by_cases h : s.rampCharge k > s.escrow.budgetL.toNat
  · rw [State.purgeStep, if_pos h, State.removeRequest_pwr, vmod_same]
    exact .inl rfl
  · exact .inr (Nat.not_lt.mp h)

/-- A purge goes over its ports, and each of them is queued after it only where its request can fit. -/
theorem State.purge_fold (l : List PortId) (s : State) : s.Purged (l.foldl State.purgeStep s) ∧
    ∀ k ∈ l, (l.foldl State.purgeStep s).pwr[k.val].queued = none ∨ s.rampCharge k ≤ s.escrow.budgetL.toNat := by
  induction l generalizing s with
  | nil => exact ⟨.refl s, nofun⟩
  | cons j l ih =>
    obtain ⟨hrest, hfit⟩ := ih (s.purgeStep j)
    have hstep := s.purgeStep_purged j
    refine ⟨hstep.trans hrest, fun k hk => ?_⟩
    rcases List.mem_cons.mp hk with rfl | hk
    · exact (s.purgeStep_fits k).imp_left fun h => (hrest.queued k).elim id fun e => e.trans h
    · rw [← hstep.rampCharge, ← hstep.escrow]
      exact hfit k hk

/-- After the purge every queued port has the request it had, and it can fit. -/
theorem State.purgeQueue_queued {s : State} {k : PortId} (h : s.purgeQueue.pwr[k.val].queued.isSome = true) :
    s.purgeQueue.pwr[k.val].queued = s.pwr[k.val].queued ∧ s.rampCharge k ≤ s.escrow.budgetL.toNat := by
  rw [State.purgeQueue_eq] at h ⊢
  obtain ⟨hpurged, hfit⟩ := State.purge_fold s.queue s
  have hsome : (s.queue.foldl State.purgeStep s).pwr[k.val].queued ≠ none := Option.isSome_iff_ne_none.mp h
  have hkept := (hpurged.queued k).resolve_left hsome
  exact ⟨hkept, (hfit k (State.mem_queue (hkept ▸ h))).resolve_left hsome⟩

/-! ### The commands -/

/-- ESC_BUDGET replaces the budgets, keeps every port's records, and leaves queued only what can fit (R374, R378). -/
theorem issue_escBudget {a : CmdArgs} {s : State} (htakes : s.takes opEscBudget a = true) :
    (issue opEscBudget a s).answered opEscBudget a .ok 0 [] ∧
    (issue opEscBudget a s).escrow = { s.escrow with budgetL := toWord (leAt a.params 0 4), budgetH := toWord (leAt a.params 4 4)
                                                     budgetV := toWord (leAt a.params 8 4) } ∧
    ∀ k : PortId, (issue opEscBudget a s).pwr[k.val].gateRec = s.pwr[k.val].gateRec ∧
      (issue opEscBudget a s).pwr[k.val].modelRec = s.pwr[k.val].modelRec ∧
      ((issue opEscBudget a s).pwr[k.val].queued.isSome = true →
        (issue opEscBudget a s).pwr[k.val].queued = s.pwr[k.val].queued ∧
        (issue opEscBudget a s).rampCharge k ≤ (toWord (leAt a.params 0 4)).toNat) := by
  rw [issue_takes opEscBudget a s htakes]
  generalize hu : ((s.atDispatch opEscBudget a).modEscrow fun e => { e with
    budgetL := toWord (leAt a.params 0 4), budgetH := toWord (leAt a.params 4 4), budgetV := toWord (leAt a.params 8 4) }) = u
  have hbody : opEscBudget.body (s.atDispatch opEscBudget a) a = .done .ok 0 [] u.purgeQueue := congrArg _ (congrArg _ hu)
  have hpwr : u.pwr = s.pwr := by rw [← hu, State.modEscrow_pwr, State.atDispatch_pwr]
  have hescrow : u.escrow = { s.escrow with budgetL := toWord (leAt a.params 0 4), budgetH := toWord (leAt a.params 4 4)
                                            budgetV := toWord (leAt a.params 8 4) } := by
    rw [← hu, State.modEscrow_escrow, State.atDispatch_escrow]
  obtain ⟨hpurged, -⟩ := State.purge_fold u.queue u
  rw [← State.purgeQueue_eq] at hpurged
  rw [hbody]
  refine ⟨finish_answered .., (State.finish_escrow ..).trans (hpurged.escrow.trans hescrow), fun k => ?_⟩
  simp only [Res.answer, State.rampCharge, State.finish_pwr, State.finish_pd]
  refine ⟨(hpurged.gateRec k).trans (by rw [hpwr]), (hpurged.modelRec k).trans (by rw [hpwr]), fun hq => ?_⟩
  obtain ⟨hkept, hfits⟩ := State.purgeQueue_queued hq
  rw [← State.rampCharge, hpurged.rampCharge]
  exact ⟨hkept.trans (by rw [hpwr]), hfits.trans_eq (by rw [hescrow])⟩

/-- Settles O28: each record command by what its body does, and ESC_BUDGET by its purge of the queue. That ILIM_CAP = 0 is
accepted although its default may exceed the fused limit is the model's choice (log 112). -/
theorem powerCommandsSetTheirRecords : Obligations.PowerCommandsSetTheirRecords := by
  unfold Obligations.PowerCommandsSetTheirRecords
  refine ⟨⟨fun a s htakes hlim hup hlink hbusy => ⟨issue opGateCfg a s, rfl, ?gate⟩,
    fun a s htakes hup hlink hbusy => ⟨issue opModelCfg a s, rfl, ?model⟩,
    fun a s htakes hup => ⟨issue opEscPriority a s, rfl, ?priority⟩,
    fun a s htakes => ⟨issue opEscQuery a s, (s.atDispatch opEscQuery a).escQuery, rfl, ?query⟩⟩,
    fun a s htakes => ⟨issue opEscBudget a s, rfl, issue_escBudget htakes⟩⟩
  case gate =>
    refine issue_changesPwr (o := opGateCfg) htakes (gateCfgBody_sets ?_ ((State.atDispatch_portDown ..).trans hup)
      ((State.atDispatch_linkUp ..).trans hlink) (by rw [State.atDispatch_pwr]; exact hbusy))
    rw [State.atDispatch_fusedMa]
    exact hlim
  case model =>
    exact issue_changesPwr (o := opModelCfg) htakes (modelCfgBody_sets ((State.atDispatch_portDown ..).trans hup)
      ((State.atDispatch_linkUp ..).trans hlink) (by rw [State.atDispatch_pwr]; exact hbusy))
  case priority =>
    exact issue_changesPwr (o := opEscPriority) htakes
      (if_neg (Bool.eq_false_iff.mp ((State.atDispatch_portDown ..).trans hup)))
  case query =>
    obtain ⟨hans, hsame⟩ := issue_unchanged (o := opEscQuery) (st := .ok) (r0 := 0) htakes rfl
    have hfields := (s.atDispatch opEscQuery a).escQuery_fields
    simp only [State.chargeL, State.chargeH, State.chargeV, State.atDispatch_escrow, State.atDispatch_pwr] at hfields
    obtain ⟨hbL, hbH, hbV, hcL, hcH, hcV⟩ := hfields
    exact ⟨hans, State.escQuery_length _, hbL, hbH, hbV, hcL, hcH, hcV, hsame⟩

end Sys2Proof.Machine
end

section
/-! SUPPORT. PORT_POWER (R184): the request it places (R377, R378), and the switch-off it makes (R361, R373). -/
namespace Sys2Proof.Machine

@[simp] theorem State.atDispatch_rampCharge (s : State) (o : OpSpec) (a : CmdArgs) (k : PortId) :
    (s.atDispatch o a).rampCharge k = s.rampCharge k := by
  simp only [State.rampCharge, State.atDispatch_pd, State.atDispatch_pwr]

/-! ### What a switch-off leaves -/

/-- A withdrawn request leaves the paths as they are. -/
theorem State.withdrawn_powered (s : State) (k : PortId) : (s.modPwr k Pwr.withdrawn).powered k = s.powered k := by
  rw [State.powered, State.modPwr_pwr, vmod_same]
  rfl

/-- The switch-off of a port that is off withdraws its request, and a PORT_POWER that waits for it ends (R361). -/
theorem State.switchOff_unpowered {s : State} {k : PortId} (hpow : s.powered k = false) :
    s.switchOff k = (s.modPwr k Pwr.withdrawn).endWaits (Wait.isPortOn k) .ok :=
  if_neg (Bool.eq_false_iff.mp ((s.withdrawn_powered k).trans hpow))

/-- The switch-off of a powered port whose link is up ends its contract. -/
theorem State.switchOff_contract {s : State} {k : PortId} (hpow : s.powered k = true) (hlink : s.linkUp k = true) :
    (s.switchOff k).pd[k.val].contract = none := by
  have hoff : s.switchOff k = (((s.modPwr k Pwr.withdrawn).pathsOff k true).endWaits (Wait.isPortOn k) .ok).loseDevice k
      ((s.modPwr k Pwr.withdrawn).unpoweredState k) .eDetached true (Wait.endsOnUsbLoss k) :=
    (if_pos ((s.withdrawn_powered k).trans hpow)).trans (if_pos hlink)
  rw [hoff, (State.loseDevice_samePower ..).pd, (State.endWaits_answering ..).pd, State.pathsOff, State.modPd_pd, vmod_same]
  rfl

/-- A powered port whose request is withdrawn goes off: both gates open, DISCH is applied, and its charges and its slot
return. -/
theorem Pwr.withdrawn_opened {w : Pwr} (hon : (w.gateL || w.gateH || w.ramp != .none) = true) :
    w.withdrawn.opened true true = { w with
      want := false, queued := none, budgetWait := false, gateL := false, gateH := false, ramp := .none, trans := .none
      vbusOn := false, limiting := false, vbusLow := false, disch := true, offPending := true, slot := false
      chgL := 0, oldL := 0, chgH := 0, oldH := 0, inrushL := 0, inrushH := 0 } := by
  simp [Pwr.opened, Pwr.pathsOff, Pwr.withdrawn, hon]

/-- After the switch-off of a powered port whose link is up its VBUS has yet to fall (R361). -/
theorem State.switchOff_falls {s : State} {k : PortId} (hpow : s.powered k = true) (hlink : s.linkUp k = true) :
    (s.switchOff k).powered k = false ∧ (s.switchOff k).pwr[k.val].offPending = true := by
  rw [State.powered, State.switchOff_pwr hpow hlink, vmod_same, Pwr.withdrawn_opened hpow]
  exact ⟨rfl, rfl⟩

/-- PRT_STATE reads of a port what notes of ended tags and a withdrawn request leave. -/
theorem State.switchOff_prtState {s : State} {k : PortId} (hpow : s.powered k = false) :
    (s.switchOff k).prtState k = s.prtState k := by
  have hend := State.endWaits_answering (s.modPwr k Pwr.withdrawn) (Wait.isPortOn k) .ok
  rw [State.switchOff_unpowered hpow]
  simp only [State.prtState, State.shownState, State.mode, State.attached, hend.pwr, hend.pd, State.modPwr_pwr,
    vmod_same, State.modPwr_pd]
  rw [hend.ports k]
  rfl

/-! ### The body of PORT_POWER -/

/-- PORT_POWER on a port that is up and not OFF places a request or makes the switch-off. -/
theorem portPowerBody_up {s : State} {a : CmdArgs} (hup : s.portDown (portArg a) = false) (hmode : s.mode (portArg a) ≠ .off) :
    (testBit a.arg1 0 = true → portPowerBody s a = portPowerOn s (portArg a) (testBit a.arg1 8)) ∧
    (testBit a.arg1 0 = false → portPowerBody s a = portPowerOff s (portArg a)) := by
  unfold portPowerBody
  extract_lets k
  rw [if_neg (Bool.eq_false_iff.mp hup), if_neg hmode]
  exact ⟨fun h => if_pos h, fun h => if_neg (Bool.eq_false_iff.mp h)⟩

/-- Power wanted on a port that has it is answered at once. -/
theorem portPowerOn_on {s : State} {k : PortId} (hon : s.pwr[k.val].vbusOn = true) (n : Bool) : portPowerOn s k n =
    .done .ok (s.prtState k) [] (s.modPwr k fun w => { w with want := true }) := if_pos hon

/-- A request that can never fit is refused (R378). -/
theorem portPowerOn_refused {s : State} {k : PortId} (hoff : s.pwr[k.val].vbusOn = false) (hidle : s.pwr[k.val].busy = false)
    (hbig : s.escrow.budgetL.toNat < s.rampCharge k) (n : Bool) :
    portPowerOn s k n = .done .eBudget (s.prtState k) [] s :=
  (if_neg (Bool.eq_false_iff.mp hoff)).trans (if_pos (by simp [hidle, hbig]))

/-- A request that can fit is wanted on a port without attach, and waits for it (R377). -/
theorem portPowerOn_waits {s : State} {k : PortId} (hoff : s.pwr[k.val].vbusOn = false) (hatt : s.attached k = false)
    (hidle : s.pwr[k.val].busy = false) (hfits : s.rampCharge k ≤ s.escrow.budgetL.toNat) (n : Bool) :
    portPowerOn s k n = .wait .dispatched (.portOn k) (s.modPwr k fun w => { w with want := true }) := by
  unfold portPowerOn
  rw [if_neg (Bool.eq_false_iff.mp hoff), if_neg (by simpa using fun _ => hfits), State.wantPower_unattached hatt]
  refine if_neg ?_
  rw [State.modPwr_pwr, vmod_same]
  exact Bool.eq_false_iff.mp hidle

/-- The switch-off of a powered port has taken effect and waits for VBUS to fall (R184). -/
theorem portPowerOff_powered {s : State} {k : PortId} (hpow : s.powered k = true) (hlink : s.linkUp k = true) :
    portPowerOff s k = .wait .effected (.portOff k) (s.switchOff k) := by
  obtain ⟨hoff, hfall⟩ := State.switchOff_falls hpow hlink
  exact (if_neg (Bool.eq_false_iff.mp hoff)).trans (if_pos hfall)

/-- The switch-off of a port that is off and discharged is answered at once. -/
theorem portPowerOff_off {s : State} {k : PortId} (hpow : s.powered k = false) (hoff : s.pwr[k.val].offPending = false) :
    portPowerOff s k = .done .ok ((s.switchOff k).prtState k) [] (s.switchOff k) ∧
    (s.switchOff k).pwr = vmod s.pwr k Pwr.withdrawn := by
  have hpwr : (s.switchOff k).pwr = vmod s.pwr k Pwr.withdrawn := by
    rw [State.switchOff_unpowered hpow, (State.endWaits_answering ..).pwr, State.modPwr_pwr]
  refine ⟨(if_neg ?_).trans (if_neg ?_), hpwr⟩
  · rw [State.powered, hpwr, vmod_same]
    exact Bool.eq_false_iff.mp hpow
  · rw [hpwr, vmod_same]
    exact Bool.eq_false_iff.mp hoff

/-! ### The command -/

/-- Settles O29: the body of PORT_POWER by what its port shows. That the EBUDGET answer leaves what the port wants is the model's
choice (log 59), and so is PRT_STATE as its RESULT0 (log 117). -/
theorem portPowerPlacesAndWithdraws : Obligations.PortPowerPlacesAndWithdraws := by
  unfold Obligations.PortPowerPlacesAndWithdraws
  intro a s htakes hup hmode k
  have hpwr := s.atDispatch_pwr opPortPower a
  have hpower := s.atDispatch_powered opPortPower a k
  have hlinked := s.atDispatch_linkUp opPortPower a k
  have hstate := s.atDispatch_prtState opPortPower a k
  obtain ⟨hplace, hwithdraw⟩ := portPowerBody_up (s := s.atDispatch opPortPower a) (a := a)
    ((State.atDispatch_portDown ..).trans hup) (by rw [State.atDispatch_mode]; exact hmode)
  refine ⟨fun hbit hon => ⟨issue opPortPower a s, rfl, ?has⟩,
    fun hbit hoff hatt hidle hfits => ⟨issue opPortPower a s, rfl, ?waits⟩,
    fun hbit hoff hidle hbig => ⟨issue opPortPower a s, rfl, ?refused⟩,
    fun hbit hpow hlink => ⟨issue opPortPower a s, rfl, ?opens⟩, fun hbit hpow hoff => ⟨issue opPortPower a s, rfl, ?idle⟩⟩
  case has =>
    refine issue_changesPwr (o := opPortPower) htakes ((hplace hbit).trans ?_)
    rw [← hstate]
    exact portPowerOn_on (by rw [hpwr]; exact hon) _
  case waits =>
    have hbody := (hplace hbit).trans (portPowerOn_waits (by rw [hpwr]; exact hoff) ((State.atDispatch_attached ..).trans hatt)
      (by rw [hpwr]; exact hidle) (by rw [State.atDispatch_rampCharge, State.atDispatch_escrow]; exact hfits) _)
    obtain ⟨hflight, hports, hpw, hpd⟩ := issue_waits (o := opPortPower) htakes hbody
    rw [hports, hpw, hpd, State.modPwr_pwr, State.modPwr_ports, State.modPwr_pd, hpwr, State.atDispatch_ports,
      State.atDispatch_pd]
    refine ⟨hflight, rfl, rfl, rfl, ?_⟩
    rw [issue_takes _ a s htakes, show opPortPower.body (s.atDispatch opPortPower a) a = _ from hbody, Res.answer,
      State.keepEntry_escrow, State.modPwr_escrow, State.atDispatch_escrow]
  case refused =>
    have hbody := (hplace hbit).trans (portPowerOn_refused (by rw [hpwr]; exact hoff) (by rw [hpwr]; exact hidle)
      (by rw [State.atDispatch_rampCharge, State.atDispatch_escrow]; exact hbig) _)
    rw [hstate] at hbody
    obtain ⟨hans, hsame⟩ := issue_unchanged (o := opPortPower) htakes hbody
    exact ⟨hans, hsame.pwr.trans (State.leaveS1_pwr ..)⟩
  case opens =>
    have hpow' := hpower.trans hpow
    have hlink' := hlinked.trans hlink
    obtain ⟨hflight, -, hpw, hpd⟩ := issue_waits (o := opPortPower) htakes
      ((hwithdraw hbit).trans (portPowerOff_powered hpow' hlink'))
    rw [hpw, hpd, State.switchOff_pwr hpow' hlink', State.switchOff_contract hpow' hlink', hpwr]
    exact ⟨hflight, vmod_congr (Pwr.withdrawn_opened hpow), rfl⟩
  case idle =>
    have hpow' := hpower.trans hpow
    obtain ⟨hoff', hpw⟩ := portPowerOff_off hpow' (by rw [hpwr]; exact hoff)
    have hbody : opPortPower.body (s.atDispatch opPortPower a) a = _ := (hwithdraw hbit).trans hoff'
    rw [issue_takes _ a s htakes, hbody, Res.answer, State.finish_pwr, hpw, hpwr, State.switchOff_prtState hpow', hstate]
    exact ⟨finish_answered .., rfl⟩

end Sys2Proof.Machine
end

section
/-! SUPPORT. PD_TX (R333, R335, R336, R340, R346, R375): the messages that meet none of R340's refusals, what Escrow takes for them,
and how they are sent or held. -/
namespace Sys2Proof.Machine

/-! ### What PD_TX reads as it is dispatched -/

@[simp] theorem State.atDispatch_needsVconn (s : State) (o : OpSpec) (a : CmdArgs) (k : PortId) (sop : Nat) (m : List Byte) :
    (s.atDispatch o a).needsVconn k sop m = s.needsVconn k sop m := by
  simp only [State.needsVconn, State.atDispatch_pd, State.atDispatch_pwr]

@[simp] theorem State.atDispatch_changesVoltage (s : State) (o : OpSpec) (a : CmdArgs) (k : PortId) (c : Contract) :
    (s.atDispatch o a).changesVoltage k c = s.changesVoltage k c := by
  simp only [State.changesVoltage, State.atDispatch_pd]

@[simp] theorem State.atDispatch_inrushOf (s : State) (o : OpSpec) (a : CmdArgs) (k : PortId) (c : Contract) :
    (s.atDispatch o a).inrushOf k c = s.inrushOf k c := by
  simp only [State.inrushOf, State.atDispatch_pwr]

@[simp] theorem State.atDispatch_couldFit (s : State) (o : OpSpec) (a : CmdArgs) (k : PortId) (c : Contract) :
    (s.atDispatch o a).couldFit k c = s.couldFit k c := by
  unfold State.couldFit
  rw [State.atDispatch_changesVoltage, State.atDispatch_inrushOf, State.atDispatch_escrow]

@[simp] theorem State.atDispatch_waitsForSlot (s : State) (o : OpSpec) (a : CmdArgs) :
    (s.atDispatch o a).waitsForSlot = s.waitsForSlot := by
  have hbefore : (s.atDispatch o a).before = s.before := by
    unfold State.before
    rw [State.atDispatch_pwr]
  have hready : (s.atDispatch o a).ready = s.ready := by
    unfold State.ready
    rw [State.atDispatch_pwr, State.atDispatch_stiles, State.atDispatch_nsf]
  unfold State.waitsForSlot
  rw [hbefore, hready, State.atDispatch_pwr]

/-- Charges and ramp slots are those of the power records. -/
theorem State.atDispatch_charges (s : State) (o : OpSpec) (a : CmdArgs) :
    (s.atDispatch o a).chargeL = s.chargeL ∧ (s.atDispatch o a).chargeH = s.chargeH ∧
    (s.atDispatch o a).chargeV = s.chargeV ∧ (s.atDispatch o a).slotsDev = s.slotsDev ∧
    (s.atDispatch o a).slotsOn = s.slotsOn := by
  unfold State.chargeL State.chargeH State.chargeV State.slotsDev State.slotsOn
  rw [State.atDispatch_pwr]
  exact ⟨rfl, rfl, rfl, rfl, rfl⟩

@[simp] theorem State.atDispatch_fitsNow (s : State) (o : OpSpec) (a : CmdArgs) (k : PortId) (c : Contract) :
    (s.atDispatch o a).fitsNow k c = s.fitsNow k c := by
  obtain ⟨hL, hH, -, hdev, hon⟩ := s.atDispatch_charges o a
  unfold State.fitsNow
  rw [hL, hH, hdev, hon, State.atDispatch_changesVoltage, State.atDispatch_inrushOf, State.atDispatch_waitsForSlot,
    State.atDispatch_pwr, State.atDispatch_escrow]

theorem State.atDispatch_takeContract_pwr (s : State) (o : OpSpec) (a : CmdArgs) (k : PortId) (c : Contract) :
    ((s.atDispatch o a).takeContract k c).pwr = (s.takeContract k c).pwr := by
  simp only [State.takeContract, State.atDispatch_inrushOf, State.modPwr_pwr, State.atDispatch_changesVoltage,
    State.atDispatch_pwr]

/-! ### Messages that meet none of the refusals -/

/-- The reply window that a message on an SOP type answers: windows are for SOP alone (R336). -/
def txWindow (p : Pd) (sop : Nat) : Option ReplyWindow := if sop = 0 then p.reply else none

/-- The owner's message as PD_TX hands it to the Stile, with three tries (R333, R340). -/
def ownerTx (p : Pd) (sop : Nat) (m : List Byte) : PdTx :=
  { bytes := m, sop := BitVec.ofNat 2 sop, retries := 2, origin := .owner
    replyTo := (txWindow p sop).map fun w => (w.cls, w.ty), orphan := false }

/-- A message that meets none of R340's refusals but for those of Escrow. -/
structure State.TxReady (s : State) (k : PortId) (sop : Nat) (m : List Byte) : Prop where
  inRange : txRangeCheck s.pd[k.val] sop m = none
  up : s.portDown k = false
  link : s.linkUp k = true
  attached : s.attached k = true
  noReset : s.pd[k.val].hr = .none
  noTransition : s.pd[k.val].accepted = none
  noSwap : s.pd[k.val].vconnSwap ≠ .waitPsRdy ∧ s.pd[k.val].vconnSwap ≠ .sendPsRdy
  caps : isCaps m = true → s.pd[k.val].pdRec.isSome = true
  window : (txWindow s.pd[k.val] sop).isSome = true ∨ sop ≠ 0 ∨
    (isMsg m 0 3 = false ∧ isMsg m 0 4 = false ∧ isMsg m 0 12 = false ∧ isMsg m 0 16 = false)
  rail : ∀ c : Contract, isMsg m 0 3 = true → windowRequest (txWindow s.pd[k.val] sop) = some (some c) →
    (c.volt = 100 ∨ (95 * c.mv ≤ 100 * s.stiles[(stileOf k).val].railHMv ∧
      100 * s.stiles[(stileOf k).val].railHMv ≤ 105 * c.mv))
  idle : s.pd[k.val].txBusy = false
  mayAsk : isMsg m 0 11 = true → ∀ y, s.pd[k.val].waitTimer ≠ some (y, false)

theorem State.TxReady.atDispatch {s : State} {k : PortId} {sop : Nat} {m : List Byte} (h : s.TxReady k sop m) (o : OpSpec)
    (a : CmdArgs) : (s.atDispatch o a).TxReady k sop m := by
  obtain ⟨h₁, h₂, h₃, h₄, h₅, h₆, h₇, h₈, h₉, h₁₀, h₁₁, h₁₂⟩ := h
  constructor <;> simp only [State.atDispatch_pd, State.atDispatch_stiles, State.atDispatch_portDown, State.atDispatch_linkUp,
    State.atDispatch_attached] <;> assumption

/-- A message is sent at once, as a reply or where no collision avoidance applies, or else held (R335, R336). -/
def State.sendOrHold (s : State) (k : PortId) (p : Pd) (sop : Nat) (m : List Byte) : Res :=
  if (txWindow p sop).isSome || !p.avoids then .wait .effected (.pdTx k) (s.modPd k fun p' => p'.startTx (ownerTx p sop m))
  else .wait .dispatched (.pdTx k) (s.modPd k fun p' => p'.queueTx (ownerTx p sop m))

/-- The rail of a request that an Accept answers is near enough (R340). -/
theorem State.TxReady.rail_ok {s : State} {k : PortId} {sop : Nat} {m : List Byte} (h : s.TxReady k sop m) :
    ¬ (isMsg m 0 3 && (match windowRequest (txWindow s.pd[k.val] sop) with
        | some (some c) => c.volt != 100 && !(95 * c.mv ≤ 100 * s.stiles[(stileOf k).val].railHMv
            && 100 * s.stiles[(stileOf k).val].railHMv ≤ 105 * c.mv)
        | _ => false)) = true := by
  intro hno
  rw [Bool.and_eq_true] at hno
  obtain ⟨hacc, hno⟩ := hno
  split at hno
  next c hreq =>
    rcases h.rail c hacc hreq with hv | ⟨hlo, hhi⟩
    · simp [hv] at hno
    · simp [hlo, hhi] at hno
  next => cases hno

/-- A message that meets none of R340's refusals is sent or held once Escrow has taken what it needs. -/
theorem pdTxBody_ready {s : State} {a : CmdArgs} (hsop : a.arg1.toNat < 3)
    (h : s.TxReady (portArg a) a.arg1.toNat a.params) (hesc : s.txEscrow (portArg a) a.arg1.toNat a.params = none) :
    pdTxBody s a = (s.txTake (portArg a) a.arg1.toNat a.params).sendOrHold (portArg a) s.pd[(portArg a).val] a.arg1.toNat
      a.params := by
  have hmod : a.arg1.toNat % 4 = a.arg1.toNat := Nat.mod_eq_of_lt (by omega)
  have hstate : ¬ (!s.linkUp (portArg a) || !s.attached (portArg a) || s.pd[(portArg a).val].hr != .none
      || s.pd[(portArg a).val].accepted.isSome || s.pd[(portArg a).val].vconnSwap == .waitPsRdy
      || s.pd[(portArg a).val].vconnSwap == .sendPsRdy || (isCaps a.params && s.pd[(portArg a).val].pdRec.isNone)) = true := by
    obtain ⟨hwait, hsend⟩ := h.noSwap
    have hcaps : (isCaps a.params && s.pd[(portArg a).val].pdRec.isNone) = false := by
      by_cases hc : isCaps a.params = true
      · rw [← Option.not_isSome, h.caps hc, Bool.not_true, Bool.and_false]
      · simp [hc]
    simp [h.link, h.attached, h.noReset, h.noTransition, hwait, hsend, hcaps]
  have hwin : ¬ ((a.arg1.toNat = 0 ∧ (isMsg a.params 0 3 = true ∨ isMsg a.params 0 4 = true ∨ isMsg a.params 0 12 = true ∨
      isMsg a.params 0 16 = true)) ∧ (txWindow s.pd[(portArg a).val] a.arg1.toNat).isNone = true) := by
    rintro ⟨⟨h0, hty⟩, hnone⟩
    rcases h.window with hw | hw | ⟨h3, h4, h12, h16⟩
    · rw [Option.isNone_iff_eq_none.mp hnone] at hw
      cases hw
    · exact hw h0
    · simp [h3, h4, h12, h16] at hty
  have hmay : ¬ (isMsg a.params 0 11 && decide (a.arg1.toNat = 0) && (match s.pd[(portArg a).val].waitTimer with
      | some (_, false) => true | _ => false)) = true := by
    intro hno
    rw [Bool.and_eq_true, Bool.and_eq_true] at hno
    obtain ⟨⟨hask, -⟩, hwait⟩ := hno
    split at hwait
    next y hy => exact h.mayAsk hask y hy
    next => cases hwait
  unfold pdTxBody
  rw [hmod]
  dsimp only
  rw [h.inRange]
  dsimp only
  rw [if_neg (Bool.eq_false_iff.mp h.up), if_neg hstate]
  refine (if_neg hwin).trans ((if_neg h.rail_ok).trans ((if_neg (Bool.eq_false_iff.mp h.idle)).trans ((if_neg hmay).trans ?_)))
  rw [hesc]
  rfl

/-! ### What Escrow takes -/

/-- A message that is no Accept of a request takes the VCONN charge alone, where it needs one (R340, R346). -/
theorem State.tx_plain {s : State} {k : PortId} {sop : Nat} {m : List Byte} (hacc : sop = 0 → isMsg m 0 3 = false)
    (hvconn : s.needsVconn k sop m = true → s.chargeV + 1000 ≤ s.escrow.budgetV.toNat) :
    s.txEscrow k sop m = none ∧
    s.txTake k sop m = (if s.needsVconn k sop m then s.modPwr k fun w => { w with chgV := 1000 } else s) := by
  have hfits : (if (!s.needsVconn k sop m) = true then none else if s.escrow.budgetV.toNat < 1000 then some Status.eBudget
      else if s.chargeV + 1000 > s.escrow.budgetV.toNat then some .eBusy else none) = none := by
    by_cases hv : s.needsVconn k sop m = true
    · have := hvconn hv
      rw [if_neg (by simp [hv]), if_neg (by omega), if_neg (by omega)]
    · exact if_pos (by simp [hv])
  have hno : isMsg m 0 3 = false ∨ windowRequest (if sop = 0 then s.pd[k.val].reply else none) = none := by
    by_cases h0 : sop = 0
    · exact .inl (hacc h0)
    · rw [if_neg h0]
      exact .inr rfl
  unfold State.txEscrow State.txTake
  dsimp only
  rcases hno with hno | hno <;> rw [hno]
  · exact ⟨hfits, rfl⟩
  · cases isMsg m 0 3 <;> exact ⟨hfits, rfl⟩

/-- The Accept of a request that fits now takes the charges of its contract (R340, R375). -/
theorem State.tx_accept {s : State} {k : PortId} {m : List Byte} {c : Contract} (hacc : isMsg m 0 3 = true)
    (hreq : windowRequest s.pd[k.val].reply = some (some c)) (hcould : s.couldFit k c = true) (hfits : s.fitsNow k c = true) :
    s.txEscrow k 0 m = none ∧ s.txTake k 0 m = (s.takeContract k c).modPd k fun p => { p with accepting := some c } := by
  unfold State.txEscrow State.txTake
  dsimp only
  rw [if_pos rfl, hacc, hreq]
  dsimp only
  rw [hcould, hfits]
  exact ⟨rfl, rfl⟩

/-! ### Sent or held -/

/-- A control message is no extended one, and is its own one chunk (R333). -/
theorem chunkMsg_control {m : List Byte} {ty : Nat} (h : isMsg m 0 ty = true) (n : Nat) : chunkMsg m n = m := by
  refine if_neg fun hext => ?_
  simp [isMsg, msgClass, hext] at h

/-- A message on the wire: its first bit closes a window on SOP (R336). -/
theorem Pd.startTx_owner {sop : Nat} (hsop : sop < 3) (p q : Pd) (m : List Byte) : q.startTx (ownerTx p sop m) = { q with
    tx := some (ownerTx p sop m), wire := some (BitVec.ofNat 2 sop, q.wireBytes (BitVec.ofNat 2 sop) (chunkMsg m 0))
    reply := if sop = 0 then none else q.reply } := by
  have hzero : (BitVec.ofNat 2 sop = 0) ↔ sop = 0 := by
    rw [← BitVec.toNat_inj, BitVec.toNat_ofNat, Nat.mod_eq_of_lt (by omega)]
    rfl
  simp only [Pd.startTx, ownerTx, hzero]

/-- A message that is held under collision avoidance: Rp shows SinkTxNG (R335). -/
theorem Pd.queueTx_avoids {p : Pd} (h : p.avoids = true) (x : PdTx) :
    p.queueTx x = { p with held := some x, sinkTxNg := true, rpNow := 2 } := by
  have h' : ({ p with held := some x, sinkTxNg := true } : Pd).avoids = true := h
  simp only [Pd.queueTx, Pd.showRp, h', if_true]

/-! ### The command -/

/-- A taken PD_TX that meets no refusal waits for the outcome of its message: what it takes of Escrow stands, and its message is
on the wire, or held. -/
theorem issue_pdTx {a : CmdArgs} {s u : State} (htakes : s.takes opPdTx a = true) (hsop : a.arg1.toNat < 3)
    (h : s.TxReady (portArg a) a.arg1.toNat a.params)
    (hesc : (s.atDispatch opPdTx a).txEscrow (portArg a) a.arg1.toNat a.params = none)
    (htake : (s.atDispatch opPdTx a).txTake (portArg a) a.arg1.toNat a.params = u) :
    ((txWindow s.pd[(portArg a).val] a.arg1.toNat).isSome = true ∨ s.pd[(portArg a).val].avoids = false →
      (issue opPdTx a s).inFlight opPdTx a .effected (.pdTx (portArg a)) ∧ (issue opPdTx a s).ports = u.ports ∧
      (issue opPdTx a s).pwr = u.pwr ∧ (issue opPdTx a s).pd = vmod u.pd (portArg a) fun q =>
        q.startTx (ownerTx s.pd[(portArg a).val] a.arg1.toNat a.params)) ∧
    (txWindow s.pd[(portArg a).val] a.arg1.toNat = none → s.pd[(portArg a).val].avoids = true →
      (issue opPdTx a s).inFlight opPdTx a .dispatched (.pdTx (portArg a)) ∧ (issue opPdTx a s).ports = u.ports ∧
      (issue opPdTx a s).pwr = u.pwr ∧ (issue opPdTx a s).pd = vmod u.pd (portArg a) fun q =>
        q.queueTx (ownerTx s.pd[(portArg a).val] a.arg1.toNat a.params)) := by
  have hbody := pdTxBody_ready hsop (h.atDispatch opPdTx a) hesc
  rw [htake, State.atDispatch_pd] at hbody
  refine ⟨fun hnow => ?_, fun hwin havoid => ?_⟩
  · have hsend : ((txWindow s.pd[(portArg a).val] a.arg1.toNat).isSome || !s.pd[(portArg a).val].avoids) = true := by
      rcases hnow with hw | hv
      · rw [hw, Bool.true_or]
      · rw [hv, Bool.not_false, Bool.or_true]
    exact issue_waits (o := opPdTx) htakes (hbody.trans (if_pos hsend))
  · have hhold : ¬ ((txWindow s.pd[(portArg a).val] a.arg1.toNat).isSome || !s.pd[(portArg a).val].avoids) = true := by
      rw [hwin, havoid]
      exact Bool.false_ne_true
    exact issue_waits (o := opPdTx) htakes (hbody.trans (if_neg hhold))

/-- Settles O37: a message that meets no refusal is sent at once or held, with VCONN's charge or its contract's. -/
theorem pdTxSendsOrWaits : Obligations.PdTxSendsOrWaits := by
  unfold Obligations.PdTxSendsOrWaits
  intro a s htakes k p sop win x hsop hrange hup hlink hatt hhr hacc hswap hswap' hcaps hidle hmay
  have hready (hwin : (txWindow s.pd[k.val] sop).isSome = true ∨ sop ≠ 0 ∨ (isMsg a.params 0 3 = false ∧
      isMsg a.params 0 4 = false ∧ isMsg a.params 0 12 = false ∧ isMsg a.params 0 16 = false))
      (hrail : ∀ c : Contract, isMsg a.params 0 3 = true → windowRequest (txWindow s.pd[k.val] sop) = some (some c) →
        (c.volt = 100 ∨ (95 * c.mv ≤ 100 * s.stiles[(stileOf k).val].railHMv ∧
          100 * s.stiles[(stileOf k).val].railHMv ≤ 105 * c.mv))) : s.TxReady k sop a.params :=
    ⟨hrange, hup, hlink, hatt, hhr, hacc, ⟨hswap, hswap'⟩, hcaps, hwin, hrail, hidle, hmay⟩
  refine ⟨fun hwin hplain hvconn => ⟨issue opPdTx a s, rfl, ?plain⟩,
    fun c h0 hacpt hreq hrail hcould hfits => ⟨issue opPdTx a s, rfl, ?accept⟩⟩
  case plain =>
    have hone := hready (hwin.imp_right fun h => or_iff_not_imp_left.mpr fun h0 =>
        ⟨hplain (not_not.mp h0), h.resolve_left h0⟩) fun c hacpt hreq => by
      have h0 : sop = 0 := by
        by_contra h0
        rw [txWindow, if_neg h0] at hreq
        cases hreq
      rw [hplain h0] at hacpt
      cases hacpt
    obtain ⟨hesc, htake⟩ := State.tx_plain (s := s.atDispatch opPdTx a) (k := k) (sop := sop) (m := a.params) hplain (by
      simp only [State.atDispatch_needsVconn, State.chargeV, State.atDispatch_pwr, State.atDispatch_escrow]
      exact hvconn)
    rw [State.atDispatch_needsVconn] at htake
    generalize hu : (if s.needsVconn k sop a.params = true then
      (s.atDispatch opPdTx a).modPwr k (fun w => { w with chgV := 1000 }) else s.atDispatch opPdTx a) = u at htake
    have hports : u.ports = s.ports := by rw [← hu]; split <;> simp
    have hpd : u.pd = s.pd := by rw [← hu]; split <;> simp
    have hpwr : u.pwr = if s.needsVconn k sop a.params then vmod s.pwr k (fun w => { w with chgV := 1000 }) else s.pwr := by
      rw [← hu]; split <;> simp
    obtain ⟨hsent, hheld⟩ := issue_pdTx htakes hsop hone hesc htake
    refine ⟨fun hnow => ?_, fun hnone havoid => ?_, ?_⟩
    · obtain ⟨hflight, -, -, htpd⟩ := hsent hnow
      rw [htpd, hpd]
      exact ⟨vmod_congr (Pd.startTx_owner hsop ..), hflight⟩
    · obtain ⟨hflight, -, -, htpd⟩ := hheld hnone havoid
      rw [htpd, hpd]
      exact ⟨vmod_congr (Pd.queueTx_avoids havoid _), hflight⟩
    · rw [← hports, ← hpwr]
      by_cases hnow : (txWindow s.pd[k.val] sop).isSome = true ∨ s.pd[k.val].avoids = false
      · obtain ⟨-, htports, htpwr, -⟩ := hsent hnow
        exact ⟨htpwr, htports⟩
      · rw [not_or, Option.not_isSome_iff_eq_none, Bool.not_eq_false] at hnow
        obtain ⟨hnone, havoid⟩ := hnow
        obtain ⟨-, htports, htpwr, -⟩ := hheld hnone havoid
        exact ⟨htpwr, htports⟩
  case accept =>
    have hwindow : txWindow s.pd[k.val] sop = s.pd[k.val].reply := if_pos h0
    have hopen : (txWindow s.pd[k.val] sop).isSome = true := by
      rw [hwindow, Option.isSome_iff_ne_none]
      intro hnone
      rw [show s.pd[k.val].reply = none from hnone] at hreq
      cases hreq
    have hone := hready (.inl hopen) fun c' _ hreq' => by
      rw [hwindow, hreq] at hreq'
      cases hreq'
      exact hrail
    obtain ⟨hesc, htake⟩ := State.tx_accept (s := s.atDispatch opPdTx a) (k := k) hacpt
      (by rw [State.atDispatch_pd]; exact hreq) ((State.atDispatch_couldFit ..).trans hcould)
      ((State.atDispatch_fitsNow ..).trans hfits)
    rw [← h0] at hesc htake
    obtain ⟨hsent, -⟩ := issue_pdTx htakes hsop hone hesc htake
    obtain ⟨hflight, htports, htpwr, htpd⟩ := hsent (.inl hopen)
    refine ⟨htpwr.trans ?_, htports.trans ?_, htpd.trans ?_, hflight⟩
    · rw [State.modPd_pwr, State.atDispatch_takeContract_pwr]
    · rw [State.modPd_ports, State.takeContract, State.modPwr_ports, State.atDispatch_ports]
    · rw [State.modPd_pd, State.takeContract, State.modPwr_pd, State.atDispatch_pd, vmod_vmod]
      refine vmod_congr ?_
      rw [Function.comp_apply, Pd.startTx_owner hsop, if_pos h0, chunkMsg_control hacpt]
      have hzero : BitVec.ofNat 2 sop = 0 := by rw [h0]; rfl
      rw [hzero]
      rfl

end Sys2Proof.Machine
end

section
/-! SUPPORT. The end of a PD message's sending (R187, R333, R335, R337, R342, R344): the commands that end with it, what a message
that comes to nothing gives back, and the start of a Hard Reset. -/
namespace Sys2Proof.Machine

/-! ### Commands that end with one answer -/

/-- The orphans that meet a condition are gone. -/
def State.lessOrphans (s : State) (p : TillEntry → Bool) : State := { s with orphans := s.orphans.filter fun e => !p e }

theorem State.lessOrphans_slots (s : State) (p : TillEntry → Bool) : (s.lessOrphans p).slots = s.slots := rfl

theorem State.lessOrphans_ports (s : State) (p : TillEntry → Bool) : (s.lessOrphans p).ports = s.ports := rfl

/-- Where every command that meets a condition ends with the same RESULT0 and no data, and the status is none that another
outranks, all of them end as `endWith` ends them (R156). -/
theorem State.endTags_eq_endWith (s : State) {p : TillEntry → Bool} {st : Status} {r0 : Word} (hst : st.rank = 4)
    (hres : ∀ (u : State) (e : TillEntry), p e = true → u.endResult e st = (r0, [])) :
    s.endTags p st = (s.lessOrphans p).endWith p st r0 := by
  have hslot (u : State) (h : SlotId) : u.endSlotTags h p st =
      (u.slots[h.val].till.filter p).foldl (fun s e => s.finishSlot h e st r0 []) u := by
    refine List.foldl_ext _ _ _ fun v e he => ?_
    obtain ⟨-, hp⟩ := List.mem_filter.mp he
    have hnote : (v.finishSlot h e st r0 []).noteEnded h e st = v.finishSlot h e st r0 [] := by
      unfold State.noteEnded
      split
      · exact if_pos hst
      · rfl
    rw [hres v e hp]
    exact hnote
  have hmbx (u : State) : u.endMbxTag p st = match u.teller.mbxEntry with
      | some e => if p e then u.finishMbx e st r0 [] else u
      | none => u := by
    unfold State.endMbxTag
    cases u.teller.mbxEntry with
    | none => rfl
    | some e =>
      by_cases hp : p e = true
      · dsimp only
        rw [if_pos hp, if_pos hp, hres u e hp]
      · dsimp only
        rw [if_neg hp, if_neg hp]
  have hall : (fun (u : State) (h : SlotId) => u.endSlotTags h p st) = fun u h =>
      (u.slots[h.val].till.filter p).foldl (fun s e => s.finishSlot h e st r0 []) u := funext fun u => funext fun h => hslot u h
  have htags : s.endTags p st = (allSlots.foldl (fun u h => u.endSlotTags h p st) (s.lessOrphans p)).endMbxTag p st := rfl
  rw [htags, hall, hmbx]
  generalize s.lessOrphans p = u
  unfold State.endWith
  generalize allSlots.foldl _ u = v
  rfl

/-- Commands that end alike: the ports stay, each command that meets the condition is completed, and none is left. -/
theorem State.endTags_alike (s : State) {p : TillEntry → Bool} {st : Status} {r0 : Word} (hst : st.rank = 4)
    (hres : ∀ (u : State) (e : TillEntry), p e = true → u.endResult e st = (r0, [])) :
    (s.endTags p st).ports = s.ports ∧ ∀ g : SlotId, (∀ e ∈ (s.endTags p st).slots[g.val].till, p e = false) ∧
      ∀ e ∈ s.slots[g.val].till, p e = true →
        Record.completion (e.completion st r0 []) ∈ (s.endTags p st).slots[g.val].records := by
  rw [s.endTags_eq_endWith hst hres]
  refine ⟨(State.endWith_ports _ p st r0).trans (s.lessOrphans_ports p), fun g => ?_⟩
  rw [State.endWith_slots, s.lessOrphans_slots p]
  exact ⟨fun e he => (Slot.mem_endWith_till he).2, fun e he hp => Slot.completion_mem_endWith he hp st r0⟩

/-- The RESULT0 with which a PD_TX ends (R340). -/
theorem endResult_pdTx {k : PortId} {e : TillEntry} (h : Wait.isPdTx k e.wait = true) (u : State) (st : Status) :
    u.endResult e st = (toWord (txCode st), []) := by
  unfold State.endResult
  cases hw : e.wait with
  | pdTx j => cases st <;> rfl
  | _ => rw [hw] at h; cases h

/-- A command waits for the outcome of a port's message where its wait is that PD_TX's. -/
theorem Wait.isPdTx_iff {k : PortId} {w : Wait} : Wait.isPdTx k w = true ↔ w = .pdTx k := by
  cases w <;> simp [Wait.isPdTx]

/-- The outcome of the owner's message: the ports stay, each command that waits for it is completed, and none is left. -/
theorem State.reportTx_owner {s : State} {k : PortId} {x : PdTx} {st : Status} (hown : x.origin = .owner)
    (horphan : x.orphan = false) (hst : st.rank = 4) : (s.reportTx k x st).ports = s.ports ∧
    ∀ g : SlotId, (∀ e ∈ (s.reportTx k x st).slots[g.val].till, e.wait ≠ .pdTx k) ∧
      ∀ e ∈ s.slots[g.val].till, e.wait = .pdTx k →
        Record.completion (e.completion st (toWord (txCode st)) []) ∈ (s.reportTx k x st).slots[g.val].records := by
  have hreport : s.reportTx k x st = s.endTags (fun e => Wait.isPdTx k e.wait) st := by
    rw [State.reportTx, if_neg (by rw [hown]; decide), if_neg (by rw [horphan]; exact Bool.false_ne_true), State.endWaits]
  obtain ⟨hports, hslots⟩ := s.endTags_alike (p := fun e => Wait.isPdTx k e.wait) hst fun u e he => endResult_pdTx he u st
  rw [hreport]
  refine ⟨hports, fun g => ⟨fun e he hw => ?_, fun e he hw => (hslots g).2 e he (Wait.isPdTx_iff.mpr hw)⟩⟩
  have hno := (hslots g).1 e he
  rw [Wait.isPdTx_iff.mpr hw] at hno
  cases hno

/-- The outcome of a message leaves PD and power. -/
theorem State.reportTx_keeps (s : State) (k : PortId) (x : PdTx) (st : Status) :
    (s.reportTx k x st).pd = s.pd ∧ (s.reportTx k x st).pwr = s.pwr ∧ (s.reportTx k x st).linkUp = s.linkUp := by
  unfold State.reportTx
  split
  · exact ⟨rfl, rfl, rfl⟩
  · split
    · have hev := s.pdEvent_evented k 0xE (txCode st)
      refine ⟨hev.pd, hev.pwr, funext fun j => ?_⟩
      rw [State.linkUp, hev.stiles, State.linkUp]
    · have hend := s.endWaits_answering (Wait.isPdTx k) st
      refine ⟨hend.pd, hend.pwr, funext fun j => ?_⟩
      rw [State.linkUp, hend.stiles, State.linkUp]

/-! ### What a message that comes to nothing gives back -/

/-- What taking a message of a port back changes of its PD and its power: the request accepted, a VCONN swap, and charges. -/
structure State.TakenBack (s t : State) (k : PortId) : Prop where
  pd : t.pd[k.val] = { s.pd[k.val] with accepting := t.pd[k.val].accepting, vconnSwap := t.pd[k.val].vconnSwap }
  trans : t.pwr[k.val].trans = s.pwr[k.val].trans
  disch : t.pwr[k.val].disch = s.pwr[k.val].disch
  link : t.linkUp k = s.linkUp k

theorem State.TakenBack.refl (s : State) (k : PortId) : s.TakenBack s k := ⟨rfl, rfl, rfl, rfl⟩

theorem State.TakenBack.then {s t u : State} {k : PortId} (h : s.TakenBack t k) (h' : t.TakenBack u k) : s.TakenBack u k where
  pd := by rw [h'.pd, h.pd]
  trans := h'.trans.trans h.trans
  disch := h'.disch.trans h.disch
  link := h'.link.trans h.link

/-- A VCONN swap that comes to nothing. -/
theorem State.releaseVconn_takenBack (s : State) (k : PortId) : s.TakenBack (s.releaseVconn k) k := by
  have hswap : s.TakenBack (s.modPd k fun p => { p with vconnSwap := .none }) k :=
    ⟨by rw [State.modPd_pd, vmod_same], rfl, rfl, rfl⟩
  unfold State.releaseVconn
  dsimp only
  split
  · exact hswap
  · refine hswap.then ?_
    unfold State.returnVconn
    split
    · exact ⟨rfl, by rw [State.modPwr_pwr, vmod_same], by rw [State.modPwr_pwr, vmod_same], rfl⟩
    · exact .refl _ k

/-- An accepted request that comes to nothing, and what else a message took. -/
theorem State.unsend_takenBack (s : State) (k : PortId) (x : PdTx) : s.TakenBack (s.unsend k x) k := by
  unfold State.unsend
  split
  · refine ⟨?_, ?_, ?_, rfl⟩
    · rw [State.modPd_pd, vmod_same]
      rfl
    · rw [State.modPd_pwr, State.dropContract, State.modPwr_pwr, vmod_same]
    · rw [State.modPd_pwr, State.dropContract, State.modPwr_pwr, vmod_same]
  · split
    · exact s.releaseVconn_takenBack k
    · exact .refl s k

/-- The outcome of a message is told, and nothing of its port changes. -/
theorem State.reportTx_takenBack (s : State) (k : PortId) (x : PdTx) (st : Status) : s.TakenBack (s.reportTx k x st) k := by
  obtain ⟨hpd, hpwr, hlink⟩ := s.reportTx_keeps k x st
  exact ⟨by rw [hpd], by rw [hpwr], by rw [hpwr], by rw [hlink]⟩

/-! ### The start of a Hard Reset (R344) -/

/-- A port none of whose messages is on the wire, due or waits for a Chunk Request. -/
def Pd.cutWire (p : Pd) : Pd := { p with tx := none, chunkOut := none, psDue := none }

/-- A Hard Reset takes back the messages on the wire, and the message that is held. -/
def State.wireCut (s : State) (k : PortId) : State :=
  (s.pd[k.val].tx.toList ++ s.pd[k.val].chunkOut.toList).foldl (fun s x => (s.unsend k x).reportTx k x .eXact)
    (s.modPd k Pd.cutWire)

theorem State.cutTx_eq (s : State) (k : PortId) : s.cutTx k = match s.pd[k.val].held with
    | some x => ((s.wireCut k).dropHeld k).reportTx k x .eNotReady
    | none => s.wireCut k := rfl

theorem State.wireCut_takenBack (s : State) (k : PortId) : (s.modPd k Pd.cutWire).TakenBack (s.wireCut k) k :=
  foldl_inv (fun t => (s.modPd k Pd.cutWire).TakenBack t k) _
    (fun t x h => h.then ((t.unsend_takenBack k x).then (State.reportTx_takenBack _ k x _))) _ _ (.refl _ k)

/-- After a Hard Reset has cut its messages off, a port has none. -/
theorem State.cutTx_spec (s : State) (k : PortId) :
    (s.modPd k fun p => { p.cutWire with held := none }).TakenBack (s.cutTx k) k := by
  have hwire := s.wireCut_takenBack k
  rw [State.cutTx_eq]
  have hpd : (s.wireCut k).pd[k.val] = { s.pd[k.val].cutWire with
      accepting := (s.wireCut k).pd[k.val].accepting, vconnSwap := (s.wireCut k).pd[k.val].vconnSwap } := by
    have h := hwire.pd
    rw [State.modPd_pd, vmod_same] at h
    exact h
  cases hheld : s.pd[k.val].held with
  | none =>
    dsimp only
    refine ⟨?_, hwire.trans, hwire.disch, hwire.link⟩
    rw [State.modPd_pd, vmod_same, hpd]
    simp only [Pd.cutWire, hheld]
  | some x =>
    dsimp only
    refine State.TakenBack.then ?_ (State.reportTx_takenBack _ k x _)
    have hdrop : (s.wireCut k).dropHeld k = ((s.wireCut k).modPd k fun p => { p with held := none }).unsend k x := by
      have hstill : (s.wireCut k).pd[k.val].held = some x := by
        rw [hpd]
        exact hheld
      unfold State.dropHeld
      rw [hstill]
    rw [hdrop]
    refine State.TakenBack.then (t := (s.wireCut k).modPd k fun p => { p with held := none })
      ⟨?_, hwire.trans, hwire.disch, hwire.link⟩ (State.unsend_takenBack _ k x)
    rw [State.modPd_pd, vmod_same, State.modPd_pd, vmod_same, hpd]

/-- A port without a message has none cut off. -/
theorem State.cutTx_idle {s : State} {k : PortId} (h : s.pd[k.val].txBusy = false) : (s.cutTx k).pwr = s.pwr := by
  simp only [Pd.txBusy, Bool.or_eq_false_iff, Option.isSome_eq_false_iff, Option.isNone_iff_eq_none] at h
  obtain ⟨⟨htx, hheld⟩, hout⟩ := h
  rw [State.cutTx_eq, hheld, State.wireCut, htx, hout]
  rfl

/-- The PD half of a port as the recovery of a Hard Reset begins. -/
def Pd.resetBegun (p : Pd) : Pd :=
  { p.endContract with
    eprMode := false, reply := none, waitTimer := none, txId := Vector.replicate 3 0, rxId := Vector.replicate 3 none,
    chunks := [], vconnSwap := .none, bist := .none, hr := .waitPathsOff, vconnWasOn := p.vconnOn,
    hardResets := satAdd p.hardResets 1 }

/-- The power half of a port as the recovery of a Hard Reset begins, with its charges returned but for that of the Rp current. -/
def Pwr.resetBegun (w : Pwr) (bare : Bool) : Pwr :=
  { w with
    trans := .none, disch := if w.trans = .none then w.disch else false
    slot := if w.ramp = .none then false else w.slot, oldL := 0, oldH := 0
    chgL := if bare then w.chgL else 0, chgH := 0
    inrushL := if w.ramp = .none then 0 else w.inrushL, inrushH := 0 }

theorem State.hardReset_eq (s : State) (k : PortId) (aux data : Nat) : s.hardReset k aux data =
    (((s.cutTx k).modPd k Pd.resetBegun).modPwr k fun w =>
      if ((s.cutTx k).modPd k Pd.resetBegun).linkUp k
        then w.resetBegun ((s.cutTx k).pd[k.val].contract.isNone && (s.cutTx k).pd[k.val].accepted.isNone)
        else (w.resetBegun ((s.cutTx k).pd[k.val].contract.isNone && (s.cutTx k).pd[k.val].accepted.isNone)).keepCharges w).pdEvent
      k aux data := rfl

/-- Hard Reset signalling starts the recovery (R344). -/
theorem State.hardReset_begun (s : State) (k : PortId) (aux data : Nat) : s.HardResetBegun (s.hardReset k aux data) k := by
  have hcut := s.cutTx_spec k
  have hidle := State.cutTx_idle (s := s) (k := k)
  rw [State.hardReset_eq]
  generalize s.cutTx k = u at hcut hidle ⊢
  obtain ⟨hpd, htrans, hdisch, hlink⟩ := hcut
  rw [State.modPd_pd, vmod_same] at hpd
  have hev := State.pdEvent_evented ((u.modPd k Pd.resetBegun).modPwr k fun w =>
    if (u.modPd k Pd.resetBegun).linkUp k then w.resetBegun (u.pd[k.val].contract.isNone && u.pd[k.val].accepted.isNone)
    else (w.resetBegun (u.pd[k.val].contract.isNone && u.pd[k.val].accepted.isNone)).keepCharges w) k aux data
  have htpd := hev.pd
  have htpwr := hev.pwr
  generalize State.pdEvent _ k aux data = t at htpd htpwr ⊢
  have hp : t.pd[k.val] = u.pd[k.val].resetBegun := by
    rw [htpd, State.modPwr_pd, State.modPd_pd, vmod_same]
  have hw : t.pwr[k.val] = if s.linkUp k
      then u.pwr[k.val].resetBegun (u.pd[k.val].contract.isNone && u.pd[k.val].accepted.isNone)
      else (u.pwr[k.val].resetBegun (u.pd[k.val].contract.isNone && u.pd[k.val].accepted.isNone)).keepCharges u.pwr[k.val] := by
    have hup : (u.modPd k Pd.resetBegun).linkUp k = s.linkUp k := hlink
    rw [htpwr, State.modPwr_pwr, vmod_same, hup, State.modPd_pwr]
  have hcontract : u.pd[k.val].contract = s.pd[k.val].contract := by rw [hpd]; rfl
  have haccepted : u.pd[k.val].accepted = s.pd[k.val].accepted := by rw [hpd]; rfl
  constructor
  case contract => rw [hp]; exact ⟨rfl, rfl, rfl, rfl⟩
  case windows => rw [hp, hpd]; exact ⟨rfl, rfl, rfl, rfl, rfl, rfl⟩
  case ids => rw [hp]; exact ⟨rfl, rfl⟩
  case recovery => rw [hp]; exact ⟨rfl, rfl⟩
  case count => rw [hp, hpd]; rfl
  case transition =>
    rw [← show u.pwr[k.val].trans = s.pwr[k.val].trans from htrans, hw]
    split <;> exact ⟨rfl, fun h => if_neg h⟩
  case charges =>
    intro hup
    rw [hw, if_pos hup, hcontract]
    refine ⟨rfl, rfl, rfl, fun hsome => if_neg ?_⟩
    rw [Option.isNone_eq_false_iff.mpr (Option.isSome_iff_ne_none.mpr hsome)]
    exact Bool.false_ne_true
  case rpCharge =>
    intro hnone hnone' hbusy
    rw [hw, hcontract, haccepted, hnone, hnone', hidle hbusy]
    split <;> rfl

/-- What a Hard Reset starts, seen from before the message that failed was taken back. -/
theorem State.HardResetBegun.of_earlier {s u t : State} {k : PortId} (h : u.HardResetBegun t k)
    (hcontract : u.pd[k.val].contract = s.pd[k.val].contract) (hresets : u.pd[k.val].hardResets = s.pd[k.val].hardResets)
    (htrans : u.pwr[k.val].trans = s.pwr[k.val].trans) (hlink : u.linkUp k = s.linkUp k)
    (hbusy : s.pd[k.val].txBusy = true) : s.HardResetBegun t k where
  contract := h.contract
  windows := h.windows
  ids := h.ids
  recovery := h.recovery
  count := by rw [← hresets]; exact h.count
  transition := by rw [← htrans]; exact h.transition
  charges := by rw [← hlink, ← hcontract]; exact h.charges
  rpCharge _ _ hidle := by rw [hbusy] at hidle; cases hidle

end Sys2Proof.Machine
end

section
/-! SUPPORT. GoodCRC and its absence, tSinkTx, the auto-responder and the end of an exchange (R187, R333, R335, R337, R338, R342). -/
namespace Sys2Proof.Machine

/-! ### GoodCRC (R333) -/

/-- Two changes of one port's PD are one. -/
theorem State.modPd_modPd (s : State) (k : PortId) (f g : Pd → Pd) : (s.modPd k f).modPd k g = s.modPd k (g ∘ f) :=
  congrArg (fun v => { s with pd := v }) (vmod_vmod s.pd k f g)

/-- The GoodCRC of a port's message has come: its MessageID is counted up, and the wire is free. -/
def State.acked (s : State) (k : PortId) (x : PdTx) : State := s.modPd k fun p => { p.bumpId x.sop with tx := none }

theorem State.acked_pd (s : State) (k : PortId) (x : PdTx) :
    (s.acked k x).pd[k.val] = { s.pd[k.val].bumpId x.sop with tx := none } := by
  rw [State.acked, State.modPd_pd, vmod_same]

/-- What a whole message brings about once its GoodCRC has come and its outcome is told (R333). -/
def State.wholeSent (s : State) (k : PortId) (x : PdTx) : State :=
  if x.origin = .softAccept then (s.modPd k fun p => p.resetIds x.sop).pdEvent k 0x7 0
  else if x.sop ≠ 0 then s
  else s.sentEffect k x

/-- A message of which chunks are left waits for its Chunk Request; a whole one is told and has its effect; then a PS_RDY that is
due goes out (R333). -/
theorem State.sent_eq (s : State) (k : PortId) (x : PdTx) : s.sent k x =
    (if x.chunk + 1 < chunkCount x.bytes then (s.acked k x).modPd k fun p => { p with chunkOut := some { x with chunk := x.chunk + 1 } }
      else ((s.acked k x).reportTx k x .ok).wholeSent k x).sendDue k := rfl

/-- Where no PS_RDY is due none goes out. -/
theorem State.sendDue_none {s : State} {k : PortId} (h : s.pd[k.val].psDue = none) : s.sendDue k = s := by
  unfold State.sendDue
  rw [h]

/-- A whole message after which no PS_RDY is due. -/
theorem State.sent_whole {s : State} {k : PortId} {x : PdTx} (hwhole : chunkCount x.bytes ≤ x.chunk + 1)
    (hdue : (((s.acked k x).reportTx k x .ok).wholeSent k x).pd[k.val].psDue = none) :
    s.sent k x = ((s.acked k x).reportTx k x .ok).wholeSent k x := by
  rw [State.sent_eq, if_neg (Nat.not_lt.mpr hwhole), State.sendDue_none hdue]

/-- GoodCRC for the message on a live port's wire (R333). -/
theorem exec_goodcrcReceived {k : PortId} {x : PdTx} {s : State} (hlive : s.stileLive k = true) (htx : s.pd[k.val].tx = some x) :
    exec (.goodcrcReceived k) s = .next (s.sent k x) := by
  refine congrArg Host.Outcome.next ?_
  rw [htx]
  exact if_pos hlive

/-- The Accept of a request takes effect as the transition to its contract (R342). -/
theorem State.sentEffect_accept {s : State} {k : PortId} {x : PdTx} {c : Contract} (hown : x.origin = .owner)
    (hacc : isMsg x.bytes 0 3 = true) (hreq : s.pd[k.val].accepting = some c) : s.sentEffect k x = s.beginTransition k c := by
  have hwait : isMsg x.bytes 0 12 = false := by
    simp only [isMsg, Bool.and_eq_true, beq_iff_eq] at hacc
    obtain ⟨-, hty⟩ := hacc
    rw [isMsg, hty]
    exact Bool.and_false _
  unfold State.sentEffect
  rw [hown, hwait]
  dsimp only
  rw [if_pos hacc, hreq]

/-- The transition to a contract that a request made the accepted one (R342, R359). -/
theorem State.beginTransition_spec (s : State) (k : PortId) (c : Contract) :
    (s.beginTransition k c).pd[k.val] = { s.pd[k.val] with accepted := some c, accepting := none } ∧
    (s.beginTransition k c).pwr = vmod s.pwr k fun w => if s.changesVoltage k c then { w with
      trans := if c.mv > ((s.pd[k.val].contract.map (·.mv)).getD 5000) then .up else .down, vbusLow := false } else w := by
  unfold State.beginTransition
  dsimp only
  by_cases hchg : s.changesVoltage k c = true
  · rw [if_pos hchg]
    refine ⟨by rw [State.modPwr_pd, State.modPd_pd, vmod_same], ?_⟩
    rw [State.modPwr_pwr, State.modPd_pwr]
    exact vmod_congr (if_pos hchg).symm
  · rw [if_neg hchg]
    refine ⟨by rw [State.modPd_pd, vmod_same], ?_⟩
    rw [State.modPd_pwr]
    exact (vmod_id _ _ _ (if_neg hchg)).symm

/-- A whole message of the owner on SOP' or SOP'' has no effect but that its command ends. -/
theorem State.wholeSent_cable {s : State} {k : PortId} {x : PdTx} (hown : x.origin = .owner) (hsop : x.sop ≠ 0) :
    s.wholeSent k x = s := by
  rw [State.wholeSent, if_neg (by rw [hown]; exact nofun), if_pos hsop]

/-- A whole message on SOP that is no Accept to a Soft_Reset has its effect. -/
theorem State.wholeSent_sop {s : State} {k : PortId} {x : PdTx} (hsoft : x.origin ≠ .softAccept) (hsop : x.sop = 0) :
    s.wholeSent k x = s.sentEffect k x := by
  rw [State.wholeSent, if_neg hsoft, if_neg (not_not.mpr hsop)]

/-- The PS_RDY of a contract puts the accepted contract in force (R342). -/
theorem State.contractInForce_spec {s : State} {k : PortId} {c : Contract} (h : s.pd[k.val].accepted = some c) :
    (s.contractInForce k).pd[k.val] = { s.pd[k.val] with contract := some c, accepted := none }.endExchange ∧
    (s.contractInForce k).pwr = s.pwr := by
  unfold State.contractInForce
  rw [h]
  dsimp only
  refine ⟨?_, (State.pdEvent_evented ..).pwr.trans (State.modPd_pwr ..)⟩
  rw [(State.pdEvent_evented ..).pd, State.modPd_pd, vmod_same]

/-- The GoodCRC of the owner's message on SOP' or SOP'' ends its sending and its PD_TX (R187, R333). -/
theorem goodcrc_cable {k : PortId} {x : PdTx} {s : State} (hlive : s.stileLive k = true) (htx : s.pd[k.val].tx = some x)
    (hdue : s.pd[k.val].psDue = none) (hown : x.origin = .owner) (horphan : x.orphan = false) (hsop : x.sop = 1 ∨ x.sop = 2)
    (hwhole : chunkCount x.bytes ≤ x.chunk + 1) :
    ∃ t, exec (.goodcrcReceived k) s = .next t ∧ t.pd[k.val].tx = none ∧
      t.pd[k.val].txId = s.pd[k.val].txId.mapIdx (fun i v => if i = x.sop.toNat then v + 1 else v) ∧
      t.pwr = s.pwr ∧ t.ports = s.ports ∧
      ∀ g : SlotId, (∀ e ∈ t.slots[g.val].till, e.wait ≠ .pdTx k) ∧ ∀ e ∈ s.slots[g.val].till, e.wait = .pdTx k →
        Record.completion (e.completion .ok 0 []) ∈ t.slots[g.val].records := by
  obtain ⟨hpd, hpwr, -⟩ := (s.acked k x).reportTx_keeps k x .ok
  obtain ⟨hports, hslots⟩ := State.reportTx_owner (s := s.acked k x) (k := k) (st := .ok) hown horphan rfl
  have hcable : x.sop ≠ 0 := by rcases hsop with h | h <;> rw [h] <;> decide
  have hsent := State.sent_whole (s := s) (k := k) hwhole (by
    rw [State.wholeSent_cable hown hcable, hpd, State.acked_pd]
    exact hdue)
  rw [State.wholeSent_cable hown hcable] at hsent
  refine ⟨_, exec_goodcrcReceived hlive htx, ?_⟩
  rw [hsent, hpd, State.acked_pd]
  exact ⟨rfl, rfl, hpwr, hports, hslots⟩

/-- The GoodCRC of the Accept of a request makes it the accepted contract, and the transition begins (R342). -/
theorem goodcrc_accept {k : PortId} {x : PdTx} {s : State} {c : Contract} (hlive : s.stileLive k = true)
    (htx : s.pd[k.val].tx = some x) (hdue : s.pd[k.val].psDue = none) (hown : x.origin = .owner) (hsop : x.sop = 0)
    (hacc : isMsg x.bytes 0 3 = true) (hwhole : chunkCount x.bytes ≤ x.chunk + 1) (hreq : s.pd[k.val].accepting = some c) :
    ∃ t, exec (.goodcrcReceived k) s = .next t ∧ t.pd[k.val].tx = none ∧ t.pd[k.val].accepting = none ∧
      t.pd[k.val].accepted = some c ∧ t.pwr = vmod s.pwr k (fun w => if s.changesVoltage k c then { w with
        trans := if c.mv > ((s.pd[k.val].contract.map (·.mv)).getD 5000) then .up else .down, vbusLow := false } else w) := by
  obtain ⟨hpd, hpwr, -⟩ := (s.acked k x).reportTx_keeps k x .ok
  have heffect : ((s.acked k x).reportTx k x .ok).wholeSent k x = ((s.acked k x).reportTx k x .ok).beginTransition k c := by
    rw [State.wholeSent_sop (by rw [hown]; exact nofun) hsop, State.sentEffect_accept hown hacc]
    rw [hpd, State.acked_pd]
    exact hreq
  obtain ⟨htpd, htpwr⟩ := ((s.acked k x).reportTx k x .ok).beginTransition_spec k c
  have hchg : ((s.acked k x).reportTx k x .ok).changesVoltage k c = s.changesVoltage k c := by
    rw [State.changesVoltage, hpd, State.acked_pd]
    rfl
  rw [← heffect, hpd, State.acked_pd] at htpd
  rw [← heffect, hpwr, hchg, hpd, State.acked_pd] at htpwr
  refine ⟨_, exec_goodcrcReceived hlive htx, ?_⟩
  rw [State.sent_whole (s := s) (k := k) hwhole (by rw [htpd]; exact hdue), htpd, htpwr]
  exact ⟨rfl, rfl, rfl, rfl⟩

/-- The GoodCRC of the PS_RDY of a contract puts it in force (R342). -/
theorem goodcrc_psRdy {k : PortId} {x : PdTx} {s : State} {c : Contract} (hlive : s.stileLive k = true)
    (htx : s.pd[k.val].tx = some x) (hdue : s.pd[k.val].psDue = none) (hown : x.origin = .psRdyContract) (hsop : x.sop = 0)
    (hwhole : chunkCount x.bytes ≤ x.chunk + 1) (hacc : s.pd[k.val].accepted = some c) :
    ∃ t, exec (.goodcrcReceived k) s = .next t ∧ t.pd[k.val].tx = none ∧ t.pd[k.val].contract = some c ∧
      t.pd[k.val].accepted = none ∧ t.pd[k.val].sinkTxNg = false ∧ t.pwr = s.pwr := by
  have hreport : (s.acked k x).reportTx k x .ok = s.acked k x := if_pos (by rw [hown]; rfl)
  have heffect : ((s.acked k x).reportTx k x .ok).wholeSent k x = (s.acked k x).contractInForce k := by
    rw [hreport, State.wholeSent_sop (by rw [hown]; exact nofun) hsop, State.sentEffect, hown]
  obtain ⟨hpd, hpwr⟩ := State.contractInForce_spec (s := s.acked k x) (k := k) (c := c) (by rw [State.acked_pd]; exact hacc)
  rw [State.acked_pd] at hpd
  refine ⟨_, exec_goodcrcReceived hlive htx, ?_⟩
  rw [State.sent_whole (s := s) (k := k) hwhole (by rw [heffect, hpd]; exact hdue), heffect, hpd, hpwr]
  exact ⟨rfl, rfl, rfl, rfl, rfl⟩

/-- The GoodCRC of the Accept to a Soft_Reset on SOP resets every MessageID (R333). -/
theorem goodcrc_softAccept {k : PortId} {x : PdTx} {s : State} (hlive : s.stileLive k = true) (htx : s.pd[k.val].tx = some x)
    (hdue : s.pd[k.val].psDue = none) (hown : x.origin = .softAccept) (hsop : x.sop = 0)
    (hwhole : chunkCount x.bytes ≤ x.chunk + 1) :
    ∃ t, exec (.goodcrcReceived k) s = .next t ∧ t.pd[k.val].tx = none ∧ t.pd[k.val].txId = Vector.replicate 3 0 ∧
      t.pd[k.val].rxId = Vector.replicate 3 none ∧ t.pwr = s.pwr := by
  have hreport : (s.acked k x).reportTx k x .ok = s.acked k x := if_pos (by rw [hown]; rfl)
  have heffect : ((s.acked k x).reportTx k x .ok).wholeSent k x =
      ((s.acked k x).modPd k fun p => p.resetIds x.sop).pdEvent k 0x7 0 := by
    rw [hreport, State.wholeSent, if_pos hown]
  have hpd : (((s.acked k x).modPd k fun p => p.resetIds x.sop).pdEvent k 0x7 0).pd[k.val] =
      { { s.pd[k.val].bumpId x.sop with tx := none } with txId := Vector.replicate 3 0, rxId := Vector.replicate 3 none } := by
    rw [(State.pdEvent_evented ..).pd, State.modPd_pd, vmod_same, State.acked_pd]
    exact if_pos hsop
  refine ⟨_, exec_goodcrcReceived hlive htx, ?_⟩
  rw [State.sent_whole (s := s) (k := k) hwhole (by rw [heffect, hpd]; exact hdue), heffect, hpd]
  exact ⟨rfl, rfl, rfl, (State.pdEvent_evented ..).pwr⟩

/-- The GoodCRC of a chunk that is not the last: the message waits for the Chunk Request of the next (R333). -/
theorem goodcrc_chunk {k : PortId} {x : PdTx} {s : State} (hlive : s.stileLive k = true) (htx : s.pd[k.val].tx = some x)
    (hdue : s.pd[k.val].psDue = none) (hmore : x.chunk + 1 < chunkCount x.bytes) :
    exec (.goodcrcReceived k) s = .next (s.modPd k fun p => { p with
      tx := none, txId := p.txId.mapIdx fun i v => if i = x.sop.toNat then v + 1 else v
      chunkOut := some { x with chunk := x.chunk + 1 } }) := by
  rw [exec_goodcrcReceived hlive htx, State.sent_eq, if_pos hmore, State.sendDue_none]
  · exact congrArg Host.Outcome.next (State.modPd_modPd ..)
  · rw [State.modPd_pd, vmod_same, State.acked_pd]
    exact hdue

/-! ### No GoodCRC (R187, R333, R342) -/

/-- CRCReceiveTimer's end for the message on a live port's wire: another try, or failure where none is left (R333). -/
theorem exec_crcReceiveTimeout {k : PortId} {x : PdTx} {s : State} (hlive : s.stileLive k = true)
    (htx : s.pd[k.val].tx = some x) : exec (.crcReceiveTimeout k) s = .next (if x.retries = 0 then s.sendFailed k x
      else s.modPd k fun p => { p with tx := some { x with retries := x.retries - 1 } }) := by
  refine congrArg Host.Outcome.next ?_
  rw [htx]
  exact if_pos hlive

/-- A message that no GoodCRC answers: it leaves the wire, and what it took is given back. -/
def State.giveUp (s : State) (k : PortId) (x : PdTx) : State :=
  (((s.modPd k fun p => { p with tx := none }).unsend k x).modPd k fun p =>
    { p.bumpId x.sop with noGoodCrc := satAdd p.noGoodCrc 1 })

theorem State.sendFailed_eq (s : State) (k : PortId) (x : PdTx) : s.sendFailed k x = match x.origin with
    | .psRdyContract | .psRdyVconn => ((s.giveUp k x).reportTx k x .eXact).hardReset k 0x4 3
    | _ => ((s.giveUp k x).reportTx k x .eXact).sendDue k := rfl

/-- A message that took nothing gives nothing back. -/
theorem State.giveUp_plain {s : State} {k : PortId} {x : PdTx} (hacc : isMsg x.bytes 0 3 = false)
    (hswap : isMsg x.bytes 0 11 = false) : s.giveUp k x =
      (s.modPd k fun p => { p with tx := none }).modPd k fun p => { p.bumpId x.sop with noGoodCrc := satAdd p.noGoodCrc 1 } := by
  have hplain : (s.modPd k fun p => { p with tx := none }).unsend k x = s.modPd k fun p => { p with tx := none } := by
    unfold State.unsend
    rw [hacc, hswap]
    rfl
  rw [State.giveUp, hplain]

/-- The owner's message that no GoodCRC answers completes its PD_TX EXACT, and is counted (R187, R333). -/
theorem crcTimeout_owner {k : PortId} {x : PdTx} {s : State} (hlive : s.stileLive k = true) (htx : s.pd[k.val].tx = some x)
    (hdue : s.pd[k.val].psDue = none) (hlast : x.retries = 0) (hown : x.origin = .owner) (horphan : x.orphan = false)
    (hacc : isMsg x.bytes 0 3 = false) (hswap : isMsg x.bytes 0 11 = false) :
    ∃ t, exec (.crcReceiveTimeout k) s = .next t ∧ t.pd[k.val].tx = none ∧
      t.pd[k.val].noGoodCrc = satAdd s.pd[k.val].noGoodCrc 1 ∧
      t.pd[k.val].txId = s.pd[k.val].txId.mapIdx (fun i v => if i = x.sop.toNat then v + 1 else v) ∧
      t.pwr = s.pwr ∧ t.ports = s.ports ∧
      ∀ g : SlotId, (∀ e ∈ t.slots[g.val].till, e.wait ≠ .pdTx k) ∧ ∀ e ∈ s.slots[g.val].till, e.wait = .pdTx k →
        Record.completion (e.completion .eXact 1 []) ∈ t.slots[g.val].records := by
  have hgive := State.giveUp_plain (s := s) (k := k) hacc hswap
  obtain ⟨hpd, hpwr, -⟩ := (s.giveUp k x).reportTx_keeps k x .eXact
  obtain ⟨hports, hslots⟩ := State.reportTx_owner (s := s.giveUp k x) (k := k) (st := .eXact) hown horphan rfl
  have hgpd : (s.giveUp k x).pd[k.val] = { { s.pd[k.val] with tx := none }.bumpId x.sop with
      noGoodCrc := satAdd s.pd[k.val].noGoodCrc 1 } := by
    rw [hgive, State.modPd_pd, vmod_same, State.modPd_pd, vmod_same]
  have hfailed : s.sendFailed k x = (s.giveUp k x).reportTx k x .eXact := by
    rw [State.sendFailed_eq, hown]
    refine State.sendDue_none ?_
    rw [hpd, hgpd]
    exact hdue
  refine ⟨_, exec_crcReceiveTimeout hlive htx, ?_⟩
  rw [if_pos hlast, hfailed, hpd, hgpd]
  rw [hgive] at hpwr hports hslots ⊢
  exact ⟨rfl, rfl, rfl, hpwr, hports, hslots⟩

/-- A PS_RDY that no GoodCRC answers starts a Hard Reset (R342). -/
theorem crcTimeout_psRdy {k : PortId} {x : PdTx} {s : State} (hlive : s.stileLive k = true) (htx : s.pd[k.val].tx = some x)
    (hlast : x.retries = 0) (hown : x.origin = .psRdyContract ∨ x.origin = .psRdyVconn) :
    ∃ t, exec (.crcReceiveTimeout k) s = .next t ∧ s.HardResetBegun t k := by
  have hfailed : s.sendFailed k x = ((s.giveUp k x).reportTx k x .eXact).hardReset k 0x4 3 := by
    rw [State.sendFailed_eq]
    rcases hown with h | h <;> rw [h]
  have hback := (s.modPd k fun p => { p with tx := none }).unsend_takenBack k x
  obtain ⟨hpd, hpwr, hlink⟩ := (s.giveUp k x).reportTx_keeps k x .eXact
  have hgive : (s.giveUp k x).pd[k.val].contract = s.pd[k.val].contract ∧
      (s.giveUp k x).pd[k.val].hardResets = s.pd[k.val].hardResets := by
    rw [State.giveUp, State.modPd_pd, vmod_same, hback.pd, State.modPd_pd, vmod_same]
    exact ⟨rfl, rfl⟩
  obtain ⟨hcontract, hresets⟩ := hgive
  refine ⟨_, exec_crcReceiveTimeout hlive htx, ?_⟩
  rw [if_pos hlast, hfailed]
  refine (State.hardReset_begun _ k 0x4 3).of_earlier ((congrArg (fun v => v[k.val].contract) hpd).trans hcontract)
    ((congrArg (fun v => v[k.val].hardResets) hpd).trans hresets) ((congrArg (fun v => v[k.val].trans) hpwr).trans hback.trans)
    ((congrFun hlink k).trans hback.link) ?_
  rw [Pd.txBusy, htx]
  rfl

/-! ### tSinkTx, the auto-responder and the exchange (R335, R337) -/

/-- tSinkTx's end puts the held message on the wire, and its PD_TX has taken effect (R187, R335). -/
theorem sinkTxWaitEnd_sends {k : PortId} {x : PdTx} {s : State} (hlive : s.stileLive k = true)
    (hheld : s.pd[k.val].held = some x) (htx : s.pd[k.val].tx = none) :
    ∃ t, exec (.sinkTxWaitEnd k) s = .next t ∧
      t.pd = vmod s.pd k (fun p => { p with
        held := none, tx := some x, wire := some (x.sop, p.wireBytes x.sop (chunkMsg x.bytes x.chunk))
        reply := if x.sop = 0 then none else p.reply }) ∧
      (∀ (g : SlotId), ∀ e ∈ t.slots[g.val].till, e.wait = .pdTx k → e.point = .effected) ∧ t.pwr = s.pwr ∧ t.ports = s.ports := by
  have hsend : exec (.sinkTxWaitEnd k) s = .next ((s.modPd k fun p => { p with held := none }.startTx x).modEntries
      (fun e => Wait.isPdTx k e.wait) fun e => { e with point := .effected }) := by
    refine congrArg Host.Outcome.next ?_
    rw [hheld]
    exact if_pos ⟨by rw [htx]; rfl, hlive⟩
  refine ⟨_, hsend, rfl, fun g e he hw => ?_, rfl, rfl⟩
  simp only [State.modEntries, State.modTeller_slots, Vector.getElem_map, List.mem_map] at he
  obtain ⟨e', -, rfl⟩ := he
  by_cases hp : Wait.isPdTx k e'.wait = true
  · rw [if_pos hp]
  · rw [if_neg hp] at hw
    exact absurd (Wait.isPdTx_iff.mpr hw) hp

/-- The auto-responder answers the open window on SOP, counts its answer, and leaves a held message held (R335, R337). -/
theorem autoResponse_answers {k : PortId} {w : ReplyWindow} {s : State} (hlive : s.stileLive k = true)
    (hreply : s.pd[k.val].reply = some w) (hfree : s.pd[k.val].sending = false) :
    ∃ t x, exec (.autoResponse k) s = .next t ∧ t.pd[k.val].tx = some x ∧ x.origin = .auto ∧ x.sop = 0 ∧
      x.bytes = (s.autoReply k w).1 ∧ x.replyTo = some (w.cls, w.ty) ∧ t.pd[k.val].held = s.pd[k.val].held ∧
      t.pd[k.val].auto = satAdd s.pd[k.val].auto 1 ∧ t.pd[k.val].reply = none ∧ t.pwr = s.pwr ∧ t.ports = s.ports ∧
      (w.cls = 1 → w.ty = 2 → x.bytes = [12, 0]) := by
  have hanswers : exec (.autoResponse k) s = .next (((s.stileSend k (s.autoReply k w).1 .auto (some (w.cls, w.ty))).modPd k fun p =>
      { p with auto := satAdd p.auto 1 }).pdEvent k 0x8 (w.ty % 32 + fieldAt w.cls 5 + fieldAt ((s.autoReply k w).2.2 % 32) 8
        + fieldAt (s.autoReply k w).2.1 13)) := by
    refine congrArg Host.Outcome.next ((if_pos ⟨hlive, by rw [hreply]; rfl, by rw [hfree]; rfl⟩).trans ?_)
    unfold State.autoRespond
    rw [hreply]
  refine ⟨_, stileTx 0 (s.autoReply k w).1 .auto (some (w.cls, w.ty)), hanswers, ?_⟩
  have hev := State.pdEvent_evented ((s.stileSend k (s.autoReply k w).1 .auto (some (w.cls, w.ty))).modPd k fun p =>
    { p with auto := satAdd p.auto 1 }) k 0x8 (w.ty % 32 + fieldAt w.cls 5 + fieldAt ((s.autoReply k w).2.2 % 32) 8
      + fieldAt (s.autoReply k w).2.1 13)
  rw [hev.pd, hev.pwr, hev.ports, State.modPd_pd, vmod_same, State.stileSend, State.modPd_pd, vmod_same]
  refine ⟨rfl, rfl, rfl, rfl, rfl, rfl, rfl, rfl, rfl, rfl, fun hcls hty => ?_⟩
  show (s.autoReply k w).1 = [12, 0]
  unfold State.autoReply
  rw [if_pos (.inl ⟨hcls, .inl hty⟩)]
  rfl

/-- The end of an exchange returns Rp to SinkTxOK (R335). -/
theorem exchangeEnd_returns {k : PortId} {s : State} (hng : s.pd[k.val].sinkTxNg = true) (hreply : s.pd[k.val].reply = none)
    (hbusy : s.pd[k.val].txBusy = false) : exec (.exchangeEnd k) s = .next (s.modPd k fun p => { p with
      sinkTxNg := false
      rpNow := if p.avoids then 3 else if p.cc = .attachedSrc then rpCode p.ccRec.rp else p.rpNow }) := by
  have hend : Pd.endExchange = fun p : Pd => { p with
      sinkTxNg := false
      rpNow := if p.avoids then 3 else if p.cc = .attachedSrc then rpCode p.ccRec.rp else p.rpNow } := by
    funext p
    rfl
  refine congrArg Host.Outcome.next ((if_pos ⟨hng, by rw [hreply]; rfl, by rw [hbusy]; rfl⟩).trans ?_)
  rw [hend]

/-- Settles O42: each event by what it makes of the message on the wire. That a Soft_Reset on SOP resets the counters of every type
(log 163), that a chunk waits for its Chunk Request (log 162) and that the MessageID is counted up after a failed send (log 143)
are the model's choices. -/
theorem pdSendingEnds : Obligations.PdSendingEnds := by
  unfold Obligations.PdSendingEnds
  refine ⟨fun k x s hlive htx hdue => ⟨?cable, ?accept, ?psRdy, ?soft, ?chunk, ?again, ?fails, ?reset⟩,
    fun k x s hlive hheld htx => sinkTxWaitEnd_sends hlive hheld htx,
    fun k w s hlive hreply hfree => autoResponse_answers hlive hreply hfree,
    fun k s hng hreply hbusy => exchangeEnd_returns hng hreply hbusy, fun k s => rfl⟩
  case cable => exact fun hown horphan hsop hwhole => goodcrc_cable hlive htx hdue hown horphan hsop hwhole
  case accept => exact fun c hown hsop hacc hwhole hreq => goodcrc_accept hlive htx hdue hown hsop hacc hwhole hreq
  case psRdy => exact fun c hown hsop hwhole hacc => goodcrc_psRdy hlive htx hdue hown hsop hwhole hacc
  case soft => exact fun hown hsop hwhole => goodcrc_softAccept hlive htx hdue hown hsop hwhole
  case chunk => exact fun hmore => goodcrc_chunk hlive htx hdue hmore
  case again => exact fun hleft => (exec_crcReceiveTimeout hlive htx).trans (congrArg _ (if_neg hleft))
  case fails =>
    exact fun hlast hown horphan hacc hswap => crcTimeout_owner hlive htx hdue hlast hown horphan hacc hswap
  case reset => exact fun hlast hown => crcTimeout_psRdy hlive htx hlast hown

end Sys2Proof.Machine
end

section
/-! SUPPORT. Purses (R189, R223, R224, R228 to R230, R397): a Purse of a new size, the words that a read takes, and the Draft that
copies them. -/
namespace Sys2Proof.Machine

/-! ### PRS_CFG (R223, R224) -/

theorem State.refreshOrders_purses (s : State) : s.refreshOrders.purses = s.purses := rfl

@[simp] theorem State.atDispatch_freeBlocks (s : State) (o : OpSpec) (a : CmdArgs) :
    (s.atDispatch o a).freeBlocks = s.freeBlocks := by
  rw [State.freeBlocks, State.atDispatch_purses, State.freeBlocks]

/-- A Purse that is freed. -/
def Purse.freed (p : Purse) : Purse :=
  { (p.resize 0) with owner := 0, watermark := 0, wmEvent := false, lossEvent := false }

/-- A Purse as PRS_CFG configures it for a caller. -/
def Purse.configured (p : Purse) (h : SlotId) (params : List Byte) : Purse :=
  let b := leAt params 0 2
  let f : Byte := BitVec.ofNat 8 (leAt params 4 1)
  { (if p.blocks = b then p else p.resize b) with
    owner := h, watermark := leAt params 2 2, wmEvent := testBit f 0, lossEvent := testBit f 1
    armed := p.armed || (decide (p.blocks ≠ b) || p.wmEvent != testBit f 0 || p.lossEvent != testBit f 1) }

/-- PRS_CFG gives the Purse the blocks asked for where they are free. -/
theorem prsCfgBody_configures {s : State} {a : CmdArgs} {h : SlotId} (hc : a.caller = .slot h) (hsome : 0 < leAt a.params 0 2)
    (hnew : s.purses[(purseArg a).val].blocks = 0) (hfit : leAt a.params 0 2 ≤ s.freeBlocks) :
    prsCfgBody s a = .ok (s.modPurse (purseArg a) fun p => p.configured h a.params).refreshOrders := by
  have hroom : ¬ s.freeBlocks + (s.purses[(purseArg a).val].blocks - (if s.purses[(purseArg a).val].retired
      then s.purses[(purseArg a).val].badBlocks.length else 0)) < leAt a.params 0 2 := by
    rw [hnew]
    omega
  unfold prsCfgBody
  rw [hc]
  dsimp only
  rw [if_neg (by omega), if_neg (by omega), if_neg hroom]
  refine congrArg (fun u : State => Res.ok u.refreshOrders) (congrArg (fun v => { s with purses := v }) (vmod_congr ?_))
  rfl

/-- PRS_CFG with no blocks frees a configured Purse. -/
theorem prsCfgBody_frees {s : State} {a : CmdArgs} (hnone : leAt a.params 0 2 = 0)
    (hcfg : s.purses[(purseArg a).val].blocks ≠ 0) :
    prsCfgBody s a = .ok (s.modPurse (purseArg a) Purse.freed).refreshOrders :=
  (if_neg fun h => hcfg h.2).trans (if_pos hnone)

/-- PRS_CFG beyond what is free changes nothing. -/
theorem prsCfgBody_busy {s : State} {a : CmdArgs} (hlive : s.purses[(purseArg a).val].retired = false)
    (hbig : s.freeBlocks + s.purses[(purseArg a).val].blocks < leAt a.params 0 2) :
    prsCfgBody s a = .done .eBusy 0 [] s := by
  have hroom : s.freeBlocks + (s.purses[(purseArg a).val].blocks - (if s.purses[(purseArg a).val].retired
      then s.purses[(purseArg a).val].badBlocks.length else 0)) < leAt a.params 0 2 := by
    rw [hlive, if_neg Bool.false_ne_true]
    exact hbig
  exact (if_neg (by omega)).trans ((if_neg (by omega)).trans (if_pos hroom))

/-- A taken PRS_CFG that changes its Purse completes OK, and every other Purse stays. -/
theorem issue_prsCfg {a : CmdArgs} {s : State} {f : Purse → Purse} (htakes : s.takes opPrsCfg a = true)
    (hbody : prsCfgBody (s.atDispatch opPrsCfg a) a = .ok ((s.atDispatch opPrsCfg a).modPurse (purseArg a) f).refreshOrders) :
    (issue opPrsCfg a s).answered opPrsCfg a .ok 0 [] ∧
    (issue opPrsCfg a s).purses[(purseArg a).val] = f s.purses[(purseArg a).val] ∧
    ∀ m : PurseId, m ≠ purseArg a → (issue opPrsCfg a s).purses[m.val] = s.purses[m.val] := by
  rw [issue_takes _ a s htakes, show opPrsCfg.body (s.atDispatch opPrsCfg a) a = _ from hbody]
  refine ⟨finish_answered .., ?_⟩
  rw [Res.ok, Res.answer, State.finish_purses, State.refreshOrders_purses, State.modPurse_purses, State.atDispatch_purses]
  exact ⟨vmod_same .., fun m hm => vmod_other _ _ _ _ _ fun h => hm (Fin.ext h.symm)⟩

/-! ### PRS_READ (R228 to R230) -/

/-- The whole packets that a read takes are within its bound. -/
theorem wholeWords_le (fuel m : Nat) (l : List PurseWord) : wholeWords fuel m l ≤ m := by
  induction fuel generalizing m l with
  | zero => exact Nat.zero_le m
  | succ fuel ih =>
    rw [wholeWords]
    split
    · exact Nat.zero_le m
    · have hrest := ih (m - (headPacket l).length) (l.drop (headPacket l).length)
      omega

/-- A read takes no more words than it asks for. -/
theorem Purse.readCount_le (p : Purse) (m : Nat) : p.readCount m ≤ m := by
  unfold Purse.readCount
  dsimp only
  split
  · exact Nat.min_le_left ..
  · exact wholeWords_le ..

/-- A state in which a Draft has a job of a client. -/
def State.draftGiven (s : State) (client : BitVec 4) (d : Fin 32) : State :=
  (State.freeBelow ((allFin 32).filter fun d => !s.ldg.drafts[d.val].busy).length s).2.modLdg fun g =>
    { g with drafts := vmod g.drafts d fun x => { x with client := client, zeroFill := false, busy := true } }

/-- A job that outlasts its command is taken by an idle Draft, or by none (R397). -/
theorem State.takeDraft_cases (s : State) (client : BitVec 4) :
    ((s.takeDraft client).1 = none ∧ (s.takeDraft client).2.purses = s.purses) ∨
    ∃ d : Fin 32, s.ldg.drafts[d.val].busy = false ∧ s.takeDraft client = (some d, s.draftGiven client d) := by
  unfold State.takeDraft
  dsimp only
  split
  · exact .inl ⟨rfl, rfl⟩
  · split
    · exact .inl ⟨rfl, rfl⟩
    next d hd =>
      have hidle := (List.mem_filter.mp (List.mem_of_getElem? hd)).2
      exact .inr ⟨d, by simpa using hidle, rfl⟩

/-- A Draft that takes a job was idle; it is busy with its client after it, and the Purses stay. -/
theorem State.takeDraft_spec (s : State) (client : BitVec 4) :
    (s.takeDraft client).2.purses = s.purses ∧
    ∀ d, (s.takeDraft client).1 = some d → s.ldg.drafts[d.val].busy = false ∧
      (s.takeDraft client).2.ldg.drafts[d.val].busy = true ∧ (s.takeDraft client).2.ldg.drafts[d.val].client = client := by
  rcases s.takeDraft_cases client with ⟨hnone, hpurses⟩ | ⟨d, hidle, htaken⟩
  · exact ⟨hpurses, fun d hd => by rw [hnone] at hd; cases hd⟩
  · rw [htaken]
    refine ⟨rfl, fun e he => ?_⟩
    obtain rfl : d = e := Option.some.inj he
    rw [State.draftGiven, State.modLdg_ldg, vmod_same]
    exact ⟨hidle, rfl, rfl⟩

/-- The copy of detached words begins: a Purse without a Draft takes an idle one (R397). -/
theorem State.startCopy_spec (s : State) (n : PurseId) :
    (s.startCopy n).purses[n.val].words = s.purses[n.val].words ∧
    (s.startCopy n).purses[n.val].detached = s.purses[n.val].detached ∧
    (∀ d, s.purses[n.val].draft = none → (s.startCopy n).purses[n.val].draft = some d → s.ldg.drafts[d.val].busy = false ∧
      (s.startCopy n).ldg.drafts[d.val].busy = true ∧ (s.startCopy n).ldg.drafts[d.val].client = 3) ∧
    ∀ m : PurseId, m ≠ n → (s.startCopy n).purses[m.val] = s.purses[m.val] := by
  obtain ⟨hpurses, hdraft⟩ := s.takeDraft_spec 3
  by_cases hsome : s.purses[n.val].draft.isSome = true
  · rw [show s.startCopy n = s from if_pos hsome]
    refine ⟨rfl, rfl, fun d hnone => ?_, fun _ _ => rfl⟩
    rw [hnone] at hsome
    cases hsome
  · rw [show s.startCopy n = (s.takeDraft 3).2.modPurse n fun p => { p with draft := (s.takeDraft 3).1 } from if_neg hsome,
      State.modPurse_purses, vmod_same, hpurses, State.modPurse_ldg]
    exact ⟨rfl, rfl, fun d _ hd => hdraft d hd, fun m hm => vmod_other _ _ _ _ _ fun h => hm (Fin.ext h.symm)⟩

/-- Two changes of one Purse are one. -/
theorem State.modPurse_modPurse (s : State) (n : PurseId) (f g : Purse → Purse) :
    (s.modPurse n f).modPurse n g = s.modPurse n (g ∘ f) :=
  congrArg (fun v => { s with purses := v }) (vmod_vmod s.purses n f g)

/-- What PRS_READ takes off the head of its Purse. -/
def Purse.taken (p : Purse) (k : Nat) : Purse :=
  ({ p with words := p.words.drop k, detached := p.detached + k, armed := true } : Purse).advanceRd k

/-- PRS_READ of a sound Purse takes words off its head, or gives the idle item where none is there (R228, R229). -/
theorem prsReadBody_sound {s : State} {a : CmdArgs} {k : Nat} (hlive : s.purses[(purseArg a).val].retired = false)
    (hptr : s.purses[(purseArg a).val].pointersOk = true)
    (hk : s.purses[(purseArg a).val].readCount (min a.arg1.toNat 8064) = k)
    (hpar : s.purses[(purseArg a).val].badWord k = none) :
    (0 < k → prsReadBody s a = .done .ok (toWord k)
      ((s.purses[(purseArg a).val].words.take k).flatMap (fun w => leBytes 8 w.data.toNat) ++
        endBitmap (s.purses[(purseArg a).val].words.take k) ++ s.purses[(purseArg a).val].statusWord false)
      ((s.modPurse (purseArg a) fun p => p.taken k).startCopy (purseArg a))) ∧
    (k = 0 → prsReadBody s a = .done .ok 0 (List.replicate 16 0 ++ s.purses[(purseArg a).val].statusWord true)
      (s.modPurse (purseArg a) fun p => { p with armed := true })) := by
  have hpurse : (s.modPurse (purseArg a) fun p => { p with armed := true }).purses[(purseArg a).val] =
      { s.purses[(purseArg a).val] with armed := true } := by
    rw [State.modPurse_purses, vmod_same]
  have htwice : ((s.modPurse (purseArg a) fun p => { p with armed := true }).modPurse (purseArg a) fun p =>
      ({ p with words := p.words.drop k, detached := p.detached + k } : Purse).advanceRd k) =
      s.modPurse (purseArg a) fun p => p.taken k :=
    State.modPurse_modPurse ..
  have hptr' : ¬ (!({ s.purses[(purseArg a).val] with armed := true } : Purse).pointersOk) = true := by
    rw [show ({ s.purses[(purseArg a).val] with armed := true } : Purse).pointersOk = true from hptr]
    exact Bool.false_ne_true
  unfold prsReadBody idleItem
  dsimp only
  rw [hpurse, show ({ s.purses[(purseArg a).val] with armed := true } : Purse).readCount (min a.arg1.toNat 8064) = k from hk,
    if_neg (Bool.eq_false_iff.mp hlive), if_neg hptr',
    show ({ s.purses[(purseArg a).val] with armed := true } : Purse).badWord k = none from hpar]
  dsimp only
  refine ⟨fun hpos => ?_, fun hzero => if_pos hzero⟩
  rw [if_neg (Nat.pos_iff_ne_zero.mp hpos), htwice]
  rfl

/-- A taken PRS_READ of a sound Purse with words to give. -/
theorem issue_prsRead_takes {a : CmdArgs} {s : State} {k : Nat} (htakes : s.takes opPrsRead a = true)
    (hlive : s.purses[(purseArg a).val].retired = false) (hptr : s.purses[(purseArg a).val].pointersOk = true)
    (hk : s.purses[(purseArg a).val].readCount (min a.arg1.toNat 8064) = k)
    (hpar : s.purses[(purseArg a).val].badWord k = none) (hpos : 0 < k) :
    (issue opPrsRead a s).answered opPrsRead a .ok (toWord k)
      ((s.purses[(purseArg a).val].words.take k).flatMap (fun w => leBytes 8 w.data.toNat) ++
        endBitmap (s.purses[(purseArg a).val].words.take k) ++ s.purses[(purseArg a).val].statusWord false) ∧
    (issue opPrsRead a s).purses[(purseArg a).val].words = s.purses[(purseArg a).val].words.drop k ∧
    (issue opPrsRead a s).purses[(purseArg a).val].detached = s.purses[(purseArg a).val].detached + k ∧ k ≤ a.arg1.toNat ∧
    (∀ d, s.purses[(purseArg a).val].draft = none → (issue opPrsRead a s).purses[(purseArg a).val].draft = some d →
      s.ldg.drafts[d.val].busy = false ∧ (issue opPrsRead a s).ldg.drafts[d.val].busy = true ∧
      (issue opPrsRead a s).ldg.drafts[d.val].client = 3) ∧
    ∀ m : PurseId, m ≠ purseArg a → (issue opPrsRead a s).purses[m.val] = s.purses[m.val] := by
  have hpurses := s.atDispatch_purses opPrsRead a
  obtain ⟨htake, -⟩ := prsReadBody_sound (s := s.atDispatch opPrsRead a) (a := a) (k := k) (by rw [hpurses]; exact hlive)
    (by rw [hpurses]; exact hptr) (by rw [hpurses]; exact hk) (by rw [hpurses]; exact hpar)
  obtain ⟨hwords, hdetached, hdraft, hother⟩ :=
    ((s.atDispatch opPrsRead a).modPurse (purseArg a) fun p => p.taken k).startCopy_spec (purseArg a)
  rw [State.modPurse_purses, vmod_same, hpurses] at hwords hdetached hdraft
  rw [State.modPurse_ldg, State.atDispatch_ldg] at hdraft
  have hbound : k ≤ a.arg1.toNat := hk ▸ (Purse.readCount_le _ _).trans (Nat.min_le_left ..)
  have hbody := htake hpos
  rw [hpurses] at hbody
  rw [issue_takes _ a s htakes, show opPrsRead.body (s.atDispatch opPrsRead a) a = _ from hbody, Res.answer, State.finish_purses,
    State.finish_ldg]
  refine ⟨finish_answered .., hwords, hdetached, hbound, hdraft, fun m hm => ?_⟩
  rw [hother m hm, State.modPurse_purses, State.atDispatch_purses]
  exact vmod_other _ _ _ _ _ fun h => hm (Fin.ext h.symm)

/-- A taken PRS_READ of a sound Purse without words gives the idle item (R229). -/
theorem issue_prsRead_idle {a : CmdArgs} {s : State} (htakes : s.takes opPrsRead a = true)
    (hlive : s.purses[(purseArg a).val].retired = false) (hptr : s.purses[(purseArg a).val].pointersOk = true)
    (hk : s.purses[(purseArg a).val].readCount (min a.arg1.toNat 8064) = 0)
    (hpar : s.purses[(purseArg a).val].badWord 0 = none) :
    (issue opPrsRead a s).answered opPrsRead a .ok 0 (List.replicate 16 0 ++ s.purses[(purseArg a).val].statusWord true) ∧
    ((s.leaveS1 0xB1).modPurse (purseArg a) fun p => { p with armed := true }).SameButAnswer (issue opPrsRead a s) a.caller [] := by
  have hpurses := s.atDispatch_purses opPrsRead a
  obtain ⟨-, hidle⟩ := prsReadBody_sound (s := s.atDispatch opPrsRead a) (a := a) (k := 0) (by rw [hpurses]; exact hlive)
    (by rw [hpurses]; exact hptr) (by rw [hpurses]; exact hk) (by rw [hpurses]; exact hpar)
  have hbody := hidle rfl
  rw [hpurses] at hbody
  exact issue_changes (o := opPrsRead) (f := fun u => u.modPurse (purseArg a) fun p => { p with armed := true }) htakes
    (fun _ _ _ => rfl) (fun _ _ => rfl) (fun _ => rfl) hbody

/-- The end of a copy frees the space and the Draft (R230, R397). -/
theorem prsReadCopyDone_frees (n : PurseId) (s : State) : ∃ t, exec (.prsReadCopyDone n) s = .next t ∧
    t.purses = vmod s.purses n (fun p => { p with detached := 0, draft := none }) ∧
    ∀ d, s.purses[n.val].draft = some d → t.ldg.drafts[d.val].busy = false := by
  have hpurses (d : Option (Fin 32)) : (s.freeDraft d).purses = s.purses := by cases d <;> rfl
  refine ⟨(s.freeDraft s.purses[n.val].draft).modPurse n fun p => { p with detached := 0, draft := none }, rfl, ?_,
    fun d hd => ?_⟩
  · rw [State.modPurse_purses, hpurses]
  · rw [State.modPurse_ldg, hd, State.freeDraft, State.modLdg_ldg, vmod_same]

end Sys2Proof.Machine
end

section
/-! SUPPORT. Statements (R213 to R219, R221, R391): layouts and subscriptions from the next snapshot, one slot's Statement among
those of all, and a delivery. -/
namespace Sys2Proof.Machine

/-! ### A command that takes effect at the next snapshot -/

/-- An answer and a key held are no more than an answer with that key. -/
theorem State.SameButAnswer.holdKey {s t : State} {c : Caller} (h : s.SameButAnswer t c []) (k : Key) :
    s.SameButAnswer (t.holdKey c k) c [k] := by
  cases c with
  | slot g =>
    refine {
      glb := h.glb, fw := h.fw, ports := h.ports, pd := h.pd, pwr := h.pwr, stiles := h.stiles, escrow := h.escrow
      orders := h.orders, purses := h.purses, tally := h.tally, dvt := h.dvt, mint := h.mint, clr := h.clr, ldg := h.ldg
      vault := h.vault, nsf := h.nsf, orphans := h.orphans, pending := h.pending
      others := fun g' hg => ?_, own := fun g' hg => ?_, teller := h.teller, mailbox := nofun }
    · rw [← h.others g' hg]
      exact vmod_other _ _ _ _ _ fun q => hg (congrArg Caller.slot (Fin.ext q))
    · cases hg
      obtain ⟨l, w, heq, hl⟩ := h.own g rfl
      refine ⟨l, w, ?_, hl⟩
      rw [State.holdKey, State.modSlot_slots, vmod_same, heq]
      simp only [List.append_nil]
  | mbx =>
    refine {
      glb := h.glb, fw := h.fw, ports := h.ports, pd := h.pd, pwr := h.pwr, stiles := h.stiles, escrow := h.escrow
      orders := h.orders, purses := h.purses, tally := h.tally, dvt := h.dvt, mint := h.mint, clr := h.clr, ldg := h.ldg
      vault := h.vault, nsf := h.nsf, orphans := h.orphans, pending := h.pending
      others := h.others, own := nofun, teller := fun hne => absurd rfl hne, mailbox := fun _ => ?_ }
    obtain ⟨cmd, rsp, notify, heq⟩ := h.mailbox rfl
    refine ⟨cmd, rsp, notify, ?_⟩
    rw [State.holdKey, State.modTeller_teller, heq]
    simp only [List.append_nil]

/-- A taken command whose effect comes with the next snapshot completes OK, and holds its key until then. -/
theorem issue_snaps {o : OpSpec} {a : CmdArgs} {s u : State} {m : Vector Word 68} {r0 : Word} (h : s.takes o a = true)
    (hb : o.body (s.atDispatch o a) a = .snap r0 (u.charged a m)) (hf : u.fits a) :
    (issue o a s).answered o a .ok r0 [] ∧ u.SameButAnswer (issue o a s) a.caller [(o.entryOf a s).key] := by
  rw [issue_takes o a s h, hb, Res.answer]
  refine ⟨finish_answered .., ?_⟩
  rw [State.finish_holdKey]
  exact (State.finish_charged hf o s m .ok r0 []).holdKey _

/-- What a slot will be from the next snapshot on goes past the charge. -/
theorem issue_snapsSlot {o : OpSpec} {a : CmdArgs} {s : State} {h : SlotId} {f : Slot → Slot} {r0 : Word}
    (htakes : s.takes o a = true) (hc : a.caller = .slot h)
    (hf : ∀ (x : Slot) (e l : Nat), f { x with entryCredits := e, lineCredits := l } =
      { f x with entryCredits := e, lineCredits := l })
    (hkeeps : ∀ x : Slot, (f x).till = x.till ∧ (f x).entryCredits = x.entryCredits ∧ (f x).lineCredits = x.lineCredits)
    (hbody : o.body (s.atDispatch o a) a = .snap r0 ((s.atDispatch o a).modSlot h f)) :
    (issue o a s).answered o a .ok r0 [] ∧
    ((s.leaveS1 o.code).modSlot h f).SameButAnswer (issue o a s) a.caller [(o.entryOf a s).key] := by
  obtain ⟨m, hm⟩ := s.atDispatch_charged o a (takes_running htakes)
  have hcomm (u : State) : (u.charged a m).modSlot h f = (u.modSlot h f).charged a m := by
    rw [State.charged_of_slot _ _ hc, State.charged_of_slot _ _ hc]
    refine congrArg (fun v => { u with slots := v }) ((vmod_vmod ..).trans (Eq.trans (vmod_congr ?_) (vmod_vmod ..).symm))
    obtain ⟨-, he, hl⟩ := hkeeps u.slots[h.val]
    refine (hf _ _ _).trans ?_
    rw [Function.comp_apply, he, hl]
  refine issue_snaps htakes (hbody.trans (congrArg (Res.snap r0) ((congrArg (fun u : State => u.modSlot h f) hm).trans (hcomm _))))
    (State.fits_of_till (takes_fits htakes) fun g => ?_)
  rw [State.modSlot_slots, vmod_get]
  split
  · exact hkeeps _
  · exact ⟨rfl, rfl, rfl⟩

/-! ### STMT_LAYOUT and STMT_SUBSCRIBE (R214, R221) -/

theorem State.atDispatch_elemOf (s : State) (o : OpSpec) (a : CmdArgs) : (s.atDispatch o a).elemOf = s.elemOf := by
  unfold State.elemOf
  rw [State.atDispatch_orders]

/-- Dispatch leaves a slot's layouts. -/
theorem State.atDispatch_layouts {s : State} (hrun : s.teller.run = .running) (o : OpSpec) (a : CmdArgs) (g : SlotId) :
    (s.atDispatch o a).slots[g.val].layout = s.slots[g.val].layout ∧
    (s.atDispatch o a).slots[g.val].nextLayout = s.slots[g.val].nextLayout := by
  obtain ⟨m, hm⟩ := s.atDispatch_charged o a hrun
  have hheard : (s.leaveS1 o.code).slots[g.val].layout = s.slots[g.val].layout ∧
      (s.leaveS1 o.code).slots[g.val].nextLayout = s.slots[g.val].nextLayout := by
    rw [s.leaveS1_heard o.code g]
    exact ⟨rfl, rfl⟩
  rw [hm, State.charged_slots]
  split <;> exact hheard

/-- STMT_LAYOUT within the size limit sets the next layout (R214). -/
theorem issue_stmtLayout {a : CmdArgs} {h : SlotId} {s : State} (hc : a.caller = .slot h) (htakes : s.takes opStmtLayout a = true)
    (hsize : layoutSize ((layoutDescs a.params).map s.elemOf) ≤ (if s.slots[h.val].tellerPath = 2 then 4096 else 16384)) :
    (issue opStmtLayout a s).answered opStmtLayout a .ok 0 [] ∧
    ((s.leaveS1 0x48).modSlot h fun x => { x with
      nextLayout := some ((layoutDescs a.params).map s.elemOf) }).SameButAnswer (issue opStmtLayout a s) a.caller [.orders] := by
  obtain ⟨-, hpath, -⟩ := State.atDispatch_slotKept (o := opStmtLayout) (a := a) (takes_running htakes) h
  have hfits : ¬ (layoutSize ((layoutDescs a.params).map s.elemOf) > 16384 ∨
      (s.slots[h.val].tellerPath = 2 ∧ layoutSize ((layoutDescs a.params).map s.elemOf) > 4096)) := by
    rintro (hbig | ⟨hpath2, hbig⟩)
    · split at hsize <;> omega
    · rw [if_pos hpath2] at hsize
      omega
  refine issue_snapsSlot (o := opStmtLayout) htakes hc (fun _ _ _ => rfl) (fun _ => ⟨rfl, rfl, rfl⟩) ?_
  show stmtLayoutBody (s.atDispatch opStmtLayout a) a = _
  unfold stmtLayoutBody
  rw [hc]
  dsimp only
  rw [State.atDispatch_elemOf, hpath, if_neg hfits]

/-- STMT_SUBSCRIBE on a slot with a layout sets its next subscription (R221). -/
theorem issue_stmtSubscribe {a : CmdArgs} {h : SlotId} {s : State} (hc : a.caller = .slot h)
    (htakes : s.takes opStmtSubscribe a = true)
    (hlayout : testBit a.arg0 0 = true → s.slots[h.val].layout.isSome = true ∨ s.slots[h.val].nextLayout.isSome = true) :
    (issue opStmtSubscribe a s).answered opStmtSubscribe a .ok 0 [] ∧
    ((s.leaveS1 0x49).modSlot h fun x => { x with nextSubscribed := testBit a.arg0 0 }).SameButAnswer (issue opStmtSubscribe a s)
      a.caller [.orders] := by
  obtain ⟨hnow, hnext⟩ := State.atDispatch_layouts (takes_running htakes) opStmtSubscribe a h
  have hready : ¬ (testBit a.arg0 0 && s.slots[h.val].layout.isNone && s.slots[h.val].nextLayout.isNone) = true := by
    intro hno
    rw [Bool.and_eq_true, Bool.and_eq_true] at hno
    obtain ⟨⟨hon, hno⟩, hno'⟩ := hno
    rcases hlayout hon with hsome | hsome
    · rw [Option.isNone_iff_eq_none.mp hno] at hsome
      cases hsome
    · rw [Option.isNone_iff_eq_none.mp hno'] at hsome
      cases hsome
  refine issue_snapsSlot (o := opStmtSubscribe) htakes hc (fun _ _ _ => rfl) (fun _ => ⟨rfl, rfl, rfl⟩) ?_
  show stmtSubscribeBody (s.atDispatch opStmtSubscribe a) a = _
  unfold stmtSubscribeBody
  rw [hc]
  dsimp only
  rw [hnow, hnext, if_neg hready]

/-! ### The length of a Statement (R214, R216) -/

/-- An element takes its preface and its data in whole words. -/
theorem elemOut_length (e : LayoutElem) (st : Nat) (n : Word) (data : List Byte) :
    (elemOut e st n data).length = 8 + 8 * ceilDiv e.d 8 := by
  simp only [elemOut, List.length_append, List.length_cons, List.length_nil, leBytes_length, fitTo_length]

/-- So does each element of a slot's Statement. -/
theorem State.elem_length (s : State) (h : SlotId) (i : Nat) (e : LayoutElem) :
    (s.elem h i e).length = 8 + 8 * ceilDiv e.d 8 := by
  unfold State.elem
  dsimp only
  split <;> exact elemOut_length ..

/-- The body of a Statement is as long as its layout says. -/
theorem State.body_length (s : State) (h : SlotId) (l : List LayoutElem) :
    32 + ((l.zipIdx).flatMap fun p => s.elem h p.2 p.1).length = layoutSize l := by
  have hsum : (l.zipIdx.map fun p => (s.elem h p.2 p.1).length) = l.map fun e => 8 + 8 * ceilDiv e.d 8 := by
    calc (l.zipIdx.map fun p => (s.elem h p.2 p.1).length)
        = l.zipIdx.map ((fun e : LayoutElem => 8 + 8 * ceilDiv e.d 8) ∘ Prod.fst) :=
          List.map_congr_left fun p _ => s.elem_length h p.2 p.1
      _ = l.map fun e => 8 + 8 * ceilDiv e.d 8 := by rw [← List.map_map, List.zipIdx_map_fst]
  rw [List.length_flatMap, hsum, layoutSize]

/-! ### One slot's Statement among those of all (R217, R219) -/

/-- What the Statements of other slots leave of one slot: all but what events bring it, with Tally and the Global block. -/
structure State.LeavesSlot (s t : State) (h : SlotId) : Prop where
  slot : s.slots[h.val].Heard t.slots[h.val]
  tally : t.tally = s.tally
  glb : t.glb = s.glb

theorem State.LeavesSlot.refl (s : State) (h : SlotId) : s.LeavesSlot s h := ⟨.refl _, rfl, rfl⟩

theorem State.LeavesSlot.trans {s t u : State} {h : SlotId} (k : s.LeavesSlot t h) (k' : t.LeavesSlot u h) : s.LeavesSlot u h :=
  ⟨k.slot.trans k'.slot, k'.tally.trans k.tally, k'.glb.trans k.glb⟩

theorem State.Evented.leavesSlot {s t : State} (k : s.Evented t) (h : SlotId) : s.LeavesSlot t h := ⟨k.heard h, k.tally, k.glb⟩

/-- A change of another slot. -/
theorem State.modSlot_leavesSlot (s : State) {g h : SlotId} (hg : g ≠ h) (f : Slot → Slot) : s.LeavesSlot (s.modSlot g f) h := by
  refine ⟨?_, rfl, rfl⟩
  rw [State.modSlot_slots, vmod_other _ _ _ _ _ fun q => hg (Fin.ext q)]
  exact .refl _

/-- A Statement that another slot queues. -/
theorem State.queueStatement_leavesSlot (s : State) {g h : SlotId} (hg : g ≠ h) (st : Statement) :
    s.LeavesSlot (s.queueStatement g st) h := by
  unfold State.queueStatement
  dsimp only
  split
  · exact s.modSlot_leavesSlot hg _
  · split
    all_goals
      split
      · exact (s.modSlot_leavesSlot hg _).trans ((State.stmtEvent_evented ..).leavesSlot h)
      · exact s.modSlot_leavesSlot hg _

/-- Assembling another slot's Statement. -/
theorem State.assemble_leavesSlot (s : State) {g h : SlotId} (hg : g ≠ h) : s.LeavesSlot (s.assemble g) h := by
  unfold State.assemble
  dsimp only
  split
  · exact .refl s h
  · split
    · exact .refl s h
    · split
      · exact (((State.stmtEvent_evented ..).leavesSlot h).trans (State.modSlot_leavesSlot _ hg _)).trans
          (State.queueStatement_leavesSlot _ hg _)
      · exact (State.modSlot_leavesSlot _ hg _).trans (State.queueStatement_leavesSlot _ hg _)

/-- Assembling the Statements of other slots. -/
theorem State.assembleAll_leavesSlot {l : List SlotId} {h : SlotId} (hl : h ∉ l) (s : State) :
    s.LeavesSlot (l.foldl State.assemble s) h := by
  induction l generalizing s with
  | nil => exact .refl s h
  | cons g l ih =>
    obtain ⟨hg, hrest⟩ := not_or.mp (List.mem_cons.not.mp hl)
    exact (s.assemble_leavesSlot (Ne.symm hg)).trans (ih hrest _)

/-- The Statements of all slots: one slot's own stands between those of others. -/
theorem State.assembleAll_split (s : State) (h : SlotId) : ∃ u : State, s.LeavesSlot u h ∧
    (u.assemble h).LeavesSlot (allSlots.foldl State.assemble s) h := by
  have hnodup : allSlots.Nodup := List.nodup_finRange 4
  obtain ⟨pre, post, hsplit⟩ := List.append_of_mem (show h ∈ allSlots from List.mem_finRange h)
  rw [hsplit, List.nodup_append] at hnodup
  obtain ⟨-, hpost, hapart⟩ := hnodup
  have hpre : h ∉ pre := fun hm => hapart h hm h List.mem_cons_self rfl
  rw [hsplit, List.foldl_append, List.foldl_cons]
  exact ⟨_, State.assembleAll_leavesSlot hpre s, State.assembleAll_leavesSlot (List.nodup_cons.mp hpost).1 _⟩

/-- Whether a second has passed since a slot's last event of a dropped Statement (R219). -/
def State.dropDue (s : State) (h : SlotId) : Bool :=
  match s.slots[h.val].lastDropEvent with | some c => decide (s.glb.clock ≥ c + 8000) | none => true

/-- A slot whose older Statement has given way to a new one. -/
def Slot.dropOlder (x : Slot) (st : Statement) (due : Bool) (now : Nat) : Slot :=
  { x with
    statements := x.statements.drop 1 ++ [st], dropped := satAdd x.dropped 1, dropBefore := true
    lastDropEvent := if due then some now else x.lastDropEvent }

/-- Where two Statements wait the older gives way, and its drop may be told. -/
theorem State.queueStatement_full {s : State} {h : SlotId} (hfull : 2 ≤ s.slots[h.val].statements.length) (st : Statement) :
    (s.modSlot h fun x => x.dropOlder st (s.dropDue h) s.glb.clock).LeavesSlot (s.queueStatement h st) h := by
  have hdrop : s.queueStatement h st = if s.dropDue h
      then (s.modSlot h fun x => x.dropOlder st (s.dropDue h) s.glb.clock).stmtEvent h 0x2
        (s.modSlot h fun x => x.dropOlder st (s.dropDue h) s.glb.clock).slots[h.val].dropped.toNat
      else s.modSlot h fun x => x.dropOlder st (s.dropDue h) s.glb.clock := if_neg (Nat.not_lt.mpr hfull)
  rw [hdrop]
  split
  · exact (State.stmtEvent_evented ..).leavesSlot h
  · exact .refl _ h

/-- A Statement that a slot queues: behind the one that waits, or in place of the older of two (R219). -/
theorem State.queueStatement_own (s : State) (h : SlotId) (st : Statement) :
    (s.queueStatement h st).glb = s.glb ∧
    (s.slots[h.val].statements.length < 2 →
      (s.queueStatement h st).slots[h.val].statements = s.slots[h.val].statements ++ [st] ∧
      (s.queueStatement h st).slots[h.val].dropped = s.slots[h.val].dropped) ∧
    (2 ≤ s.slots[h.val].statements.length →
      (s.queueStatement h st).slots[h.val].statements = s.slots[h.val].statements.drop 1 ++ [st] ∧
      (s.queueStatement h st).slots[h.val].dropped = satAdd s.slots[h.val].dropped 1 ∧
      (s.queueStatement h st).slots[h.val].dropBefore = true) := by
  by_cases hfree : s.slots[h.val].statements.length < 2
  · have hqueue : s.queueStatement h st = s.modSlot h fun x => { x with statements := x.statements ++ [st] } := if_pos hfree
    rw [hqueue, State.modSlot_slots, vmod_same]
    exact ⟨rfl, fun _ => ⟨rfl, rfl⟩, fun hfull => absurd hfree (Nat.not_lt.mpr hfull)⟩
  · obtain ⟨hslot, -, hglb⟩ := State.queueStatement_full (Nat.not_lt.mp hfree) st
    rw [State.modSlot_slots, vmod_same] at hslot
    refine ⟨hglb, fun hless => absurd hless hfree, fun _ => ?_⟩
    rw [hslot]
    exact ⟨rfl, rfl, rfl⟩

/-- The Statement that is assembled for a slot with a layout, whole (R215). -/
def State.statementOf (s : State) (h : SlotId) (l : List LayoutElem) : Statement :=
  { n := s.nLow, sofTime := s.tally.sofTime, gen := s.slots[h.val].layoutGen, count := l.length, truncated := false
    newLayout := s.slots[h.val].newLayout, body := (l.zipIdx).flatMap fun p => s.elem h p.2 p.1 }

/-- Assembling a slot's own Statement, within the limit of its path (R217, R220). -/
theorem State.assemble_own {s : State} {h : SlotId} {l : List LayoutElem} (hlayout : s.slots[h.val].layout = some l)
    (hon : s.slots[h.val].assembles = true) (hsize : ¬ (s.slots[h.val].tellerPath = 2 ∧ 4096 < layoutSize l)) :
    s.assemble h = (s.modSlot h fun x => { x with truncating := false, newLayout := false }).queueStatement h
      (s.statementOf h l) := by
  have hcut : decide (s.slots[h.val].tellerPath = 2 ∧ layoutSize l > 4096) = false := decide_eq_false hsize
  unfold State.assemble
  dsimp only
  rw [hlayout]
  dsimp only
  rw [hon, hcut]
  rfl

/-- At t = 90 µs the Statements of every slot that assembles are queued (R217). -/
theorem exec_statementAssembly {s : State} (hawake : s.awake = true) (hrun : s.tally.running = true) (hsent : s.mint.sent = true)
    (hnew : s.glb.assembled = false) : exec .statementAssembly s =
      .next (allSlots.foldl State.assemble (s.modGlb fun g => { g with assembled := true })) :=
  congrArg Host.Outcome.next (if_pos (by rw [hawake, hrun, hsent, hnew]; rfl))

/-- A slot that assembles gains one Statement of its layout (R217, R219). -/
theorem statementAssembly_queues {h : SlotId} {l : List LayoutElem} {s : State} (hawake : s.awake = true)
    (hrun : s.tally.running = true) (hsent : s.mint.sent = true) (hnew : s.glb.assembled = false)
    (hlayout : s.slots[h.val].layout = some l) (hon : s.slots[h.val].assembles = true)
    (hsize : ¬ (s.slots[h.val].tellerPath = 2 ∧ 4096 < layoutSize l)) :
    ∃ t st, exec .statementAssembly s = .next t ∧ t.glb.assembled = true ∧ st.n = s.nLow ∧ st.sofTime = s.tally.sofTime ∧
      st.gen = s.slots[h.val].layoutGen ∧ st.count = l.length ∧ st.truncated = false ∧
      st.newLayout = s.slots[h.val].newLayout ∧ 32 + st.body.length = layoutSize l ∧
      (s.slots[h.val].statements.length < 2 → t.slots[h.val].statements = s.slots[h.val].statements ++ [st] ∧
        t.slots[h.val].dropped = s.slots[h.val].dropped) ∧
      (2 ≤ s.slots[h.val].statements.length → t.slots[h.val].statements = s.slots[h.val].statements.drop 1 ++ [st] ∧
        t.slots[h.val].dropped = satAdd s.slots[h.val].dropped 1 ∧ t.slots[h.val].dropBefore = true) := by
  obtain ⟨u, hbefore, hafter⟩ := (s.modGlb fun g => { g with assembled := true }).assembleAll_split h
  obtain ⟨hslot, htally, hglb⟩ := hbefore
  obtain ⟨htslot, -, htglb⟩ := hafter
  rw [State.modGlb_slots] at hslot
  have hown : u.assemble h = (u.modSlot h fun x => { x with truncating := false, newLayout := false }).queueStatement h
      (u.statementOf h l) :=
    State.assemble_own (by rw [hslot]; exact hlayout) (by rw [hslot]; exact hon) (by rw [hslot]; exact hsize)
  obtain ⟨hqglb, hless, hfull⟩ :=
    (u.modSlot h fun x => { x with truncating := false, newLayout := false }).queueStatement_own h (u.statementOf h l)
  rw [← hown, State.modSlot_slots, vmod_same] at hless hfull
  rw [← hown] at hqglb
  have hnow : u.nLow = s.nLow := by rw [State.nLow, htally]; rfl
  refine ⟨_, u.statementOf h l, exec_statementAssembly hawake hrun hsent hnew, ?_, hnow, by rw [State.statementOf, htally]; rfl,
    by rw [State.statementOf, hslot], rfl, rfl, by rw [State.statementOf, hslot], u.body_length h l, fun hlen => ?_, fun hlen => ?_⟩
  · rw [htglb, hqglb, State.modSlot_glb, hglb]
    rfl
  · rw [htslot]
    rw [hslot] at hless
    exact hless hlen
  · rw [htslot]
    rw [hslot] at hfull
    exact hfull hlen

/-! ### Delivery (R215, R219, R391) -/

/-- A delivery that meets no failing line gives the Statement's bytes as they are (R391). -/
theorem State.readBuffer_clean {s : State} (hclean : s.ldg.faulty inStatements = []) (h : SlotId) (n : Word) (l : List Byte) :
    s.readBuffer h n l = (l, s) := by
  rw [State.readBuffer, State.meets, hclean]
  rfl

/-- A delivery on an open path gives the oldest Statement (R219). -/
theorem exec_statementDelivery {h : SlotId} {st : Statement} {rest : List Statement} {s : State} (hopen : s.pathOpen h = true)
    (hqueue : s.slots[h.val].statements = st :: rest) (hclean : s.ldg.faulty inStatements = []) :
    exec (.statementDelivery h) s = .next (s.modSlot h fun x => { x with
      statements := rest, dropBefore := false, lastIn82 := st.bytes h x.dropBefore x.dropped }) := by
  have hdeliver : exec (.statementDelivery h) s = .next (s.modSlot h fun x => { x with
      statements := rest, dropBefore := false
      lastIn82 := st.bytes h s.slots[h.val].dropBefore s.slots[h.val].dropped }) := by
    refine congrArg Host.Outcome.next ?_
    dsimp only
    rw [hopen, hqueue, if_neg (by decide)]
    dsimp only
    rw [State.readBuffer_clean hclean]
  exact hdeliver.trans (congrArg (fun v => Host.Outcome.next { s with slots := v }) (vmod_congr rfl))

/-- Settles O59: each Purse command by its body, the Statements of all slots by those of one slot among them. That the header and
DROPPED are made at delivery (log 89), and that PRS_READ takes a Draft with the port client (log 121), are the model's choices. -/
theorem pursesAndStatementsCarryResults : Obligations.PursesAndStatementsCarryResults := by
  unfold Obligations.PursesAndStatementsCarryResults
  refine ⟨fun a h s htakes hc => ?config, fun a s htakes => ?read, prsReadCopyDone_frees,
    fun a h s hc => ⟨fun htakes hsize => ⟨issue opStmtLayout a s, rfl, issue_stmtLayout hc htakes hsize⟩,
      fun htakes hlayout => ⟨issue opStmtSubscribe a s, rfl, issue_stmtSubscribe hc htakes hlayout⟩⟩,
    fun s hwait => ?idle, fun h l s hawake hrun hsent hnew hlayout hon hsize =>
      statementAssembly_queues hawake hrun hsent hnew hlayout hon hsize,
    fun h st rest s hopen hqueue hclean => exec_statementDelivery hopen hqueue hclean⟩
  case config =>
    have hpurses := s.atDispatch_purses opPrsCfg a
    refine ⟨fun hsome hnew hlive hfit => ⟨issue opPrsCfg a s, rfl, ?new⟩,
      fun hnone hcfg => ⟨issue opPrsCfg a s, rfl, ?freed⟩, fun hsome hlive hbig => ⟨issue opPrsCfg a s, rfl, ?busy⟩⟩
    case new =>
      obtain ⟨hans, hown, hother⟩ := issue_prsCfg htakes (prsCfgBody_configures hc hsome (by rw [hpurses]; exact hnew)
        (hfit.trans_eq (State.atDispatch_freeBlocks ..).symm))
      have hresize : s.purses[(purseArg a).val].blocks ≠ leAt a.params 0 2 := by omega
      rw [hown, Purse.configured, if_neg hresize]
      exact ⟨hans, rfl, rfl, rfl, rfl, rfl, rfl, rfl, hother⟩
    case freed =>
      obtain ⟨hans, hown, hother⟩ := issue_prsCfg htakes (prsCfgBody_frees hnone (by rw [hpurses]; exact hcfg))
      rw [hown]
      exact ⟨hans, rfl, rfl, hother⟩
    case busy =>
      exact issue_unchanged (o := opPrsCfg) htakes (prsCfgBody_busy (by rw [hpurses]; exact hlive)
        (by rw [hpurses, State.atDispatch_freeBlocks]; exact hbig))
  case read =>
    intro n p k hlive hptr hpar
    refine ⟨fun hpos => ⟨issue opPrsRead a s, rfl, issue_prsRead_takes htakes hlive hptr rfl hpar hpos⟩,
      fun hzero => ⟨issue opPrsRead a s, rfl, ?_⟩⟩
    exact issue_prsRead_idle htakes hlive hptr hzero (by rw [← hzero]; exact hpar)
  case idle =>
    refine congrArg Host.Outcome.next (if_neg ?_)
    rcases hwait with h | h <;> simp [h]

end Sys2Proof.Machine
end

section
/-! SUPPORT. What the Ledger's own work leaves of the rest of the state (R385, R388, R390, R393 to R396): everything but the Ledger,
the Global block, the slots and Teller; and what reading a line leaves of the Ledger. -/
namespace Sys2Proof.Machine

/-! ### The rest of the state -/

/-- What the Ledger's work leaves: all but the Ledger, its bits of the Global block, and what events bring. -/
structure State.Worked (s t : State) : Prop where
  ports : t.ports = s.ports
  pd : t.pd = s.pd
  pwr : t.pwr = s.pwr
  escrow : t.escrow = s.escrow
  orders : t.orders = s.orders
  purses : t.purses = s.purses
  tally : t.tally = s.tally
  mint : t.mint = s.mint
  clr : t.clr = s.clr
  pending : t.pending = s.pending

theorem State.Worked.refl (s : State) : s.Worked s := ⟨rfl, rfl, rfl, rfl, rfl, rfl, rfl, rfl, rfl, rfl⟩

theorem State.Worked.trans {s t u : State} (h : s.Worked t) (k : t.Worked u) : s.Worked u :=
  ⟨k.ports.trans h.ports, k.pd.trans h.pd, k.pwr.trans h.pwr, k.escrow.trans h.escrow, k.orders.trans h.orders,
    k.purses.trans h.purses, k.tally.trans h.tally, k.mint.trans h.mint, k.clr.trans h.clr, k.pending.trans h.pending⟩

theorem State.Evented.worked {s t : State} (h : s.Evented t) : s.Worked t :=
  ⟨h.ports, h.pd, h.pwr, h.escrow, h.orders, h.purses, h.tally, h.mint, h.clr, h.pending⟩

theorem State.modLdg_worked (s : State) (f : Ledger → Ledger) : s.Worked (s.modLdg f) :=
  ⟨rfl, rfl, rfl, rfl, rfl, rfl, rfl, rfl, rfl, rfl⟩

theorem State.modGlb_worked (s : State) (f : Glb → Glb) : s.Worked (s.modGlb f) :=
  ⟨rfl, rfl, rfl, rfl, rfl, rfl, rfl, rfl, rfl, rfl⟩

theorem State.ledgerEvent_worked (s : State) (x d : Nat) : s.Worked (s.ledgerEvent x d) := (s.ledgerEvent_evented x d).worked

/-! ### What a read leaves of the Ledger -/

/-- What a read leaves of the Ledger: its bytes with their check words and their written marks, and its cells. -/
structure Ledger.Kept (g k : Ledger) : Prop where
  mem : k.mem = g.mem
  written : k.written = g.written
  payloadLines : k.payloadLines = g.payloadLines
  payload : k.payload = g.payload
  overwritten : k.overwritten = g.overwritten
  chk : k.chk = g.chk
  flip : k.flip = g.flip
  badLines : k.badLines = g.badLines

theorem Ledger.Kept.refl (g : Ledger) : g.Kept g := ⟨rfl, rfl, rfl, rfl, rfl, rfl, rfl, rfl⟩

theorem Ledger.Kept.trans {g k m : Ledger} (h : g.Kept k) (h' : k.Kept m) : g.Kept m :=
  ⟨h'.mem.trans h.mem, h'.written.trans h.written, h'.payloadLines.trans h.payloadLines, h'.payload.trans h.payload,
    h'.overwritten.trans h.overwritten, h'.chk.trans h.chk, h'.flip.trans h.flip, h'.badLines.trans h.badLines⟩

/-- What the stored line reads from is kept. -/
theorem Ledger.Kept.stored {g k : Ledger} (h : g.Kept k) (line : Nat) : k.stored line = g.stored line := by
  unfold Ledger.stored Ledger.isPayload
  rw [h.mem, h.payloadLines, h.payload, h.overwritten]

/-- A read: the Ledger's bytes are kept, and so is the rest of the state. -/
structure State.Read (s t : State) : Prop where
  rest : s.Worked t
  ldg : s.ldg.Kept t.ldg

theorem State.Read.refl (s : State) : s.Read s := ⟨.refl s, .refl _⟩

theorem State.Read.trans {s t u : State} (h : s.Read t) (k : t.Read u) : s.Read u := ⟨h.rest.trans k.rest, h.ldg.trans k.ldg⟩

theorem State.ledgerEvent_read (s : State) (x d : Nat) : s.Read (s.ledgerEvent x d) :=
  ⟨s.ledgerEvent_worked x d, by rw [State.ledgerEvent_ldg]; exact .refl _⟩

theorem State.modGlb_read (s : State) (f : Glb → Glb) : s.Read (s.modGlb f) := ⟨s.modGlb_worked f, .refl _⟩

/-- A note in the Ledger that leaves its bytes. -/
theorem State.modLdg_read {s : State} {f : Ledger → Ledger} (h : s.ldg.Kept (f s.ldg)) : s.Read (s.modLdg f) :=
  ⟨s.modLdg_worked f, h⟩

theorem State.suspectLine_read (s : State) (line : Nat) : s.Read (s.suspectLine line) := by
  unfold State.suspectLine
  split
  · exact .refl s
  · have hmark : s.Read (s.modLdg fun g => { g with suspect := insertRising line g.suspect }) :=
      State.modLdg_read ⟨rfl, rfl, rfl, rfl, rfl, rfl, rfl, rfl⟩
    dsimp only
    split
    · exact hmark.trans (State.modLdg_read ⟨rfl, rfl, rfl, rfl, rfl, rfl, rfl, rfl⟩)
    · have hfull := hmark.trans (State.modLdg_read (f := fun g => { g with sqOvf := true, ovfEvent := true })
        ⟨rfl, rfl, rfl, rfl, rfl, rfl, rfl, rfl⟩)
      split
      · exact hfull.trans (State.ledgerEvent_read ..)
      · exact hfull

theorem State.noteCorrected_read (s : State) (line : Nat) (f : Finder) : s.Read (s.noteCorrected line f) := by
  unfold State.noteCorrected
  extract_lets info first now recent t
  have ht : s.Read t := (s.suspectLine_read line).trans (State.modLdg_read ⟨rfl, rfl, rfl, rfl, rfl, rfl, rfl, rfl⟩)
  split
  · exact (ht.trans (State.modLdg_read ⟨rfl, rfl, rfl, rfl, rfl, rfl, rfl, rfl⟩)).trans (State.ledgerEvent_read ..)
  · exact ht

theorem State.noteUncorrectable_read (s : State) (line : Nat) (f : Finder) : s.Read (s.noteUncorrectable line f) := by
  unfold State.noteUncorrectable
  extract_lets info first t u
  have hu : s.Read u := ((s.suspectLine_read line).trans
    (State.modLdg_read ⟨rfl, rfl, rfl, rfl, rfl, rfl, rfl, rfl⟩)).trans (State.modGlb_read ..)
  split
  · exact hu.trans (State.ledgerEvent_read ..)
  · exact hu

theorem State.freeBit_read (s : State) : s.Read s.freeBit.2 := ⟨⟨rfl, rfl, rfl, rfl, rfl, rfl, rfl, rfl, rfl, rfl⟩, .refl _⟩

theorem State.freeBytes_read (s : State) (n : Nat) : s.Read (State.freeBytes n s).2 :=
  ⟨⟨rfl, rfl, rfl, rfl, rfl, rfl, rfl, rfl, rfl, rfl⟩, .refl _⟩

theorem State.inlayCheck_read (s : State) (line : Nat) : s.Read (s.inlayCheck line).2 := by
  unfold State.inlayCheck
  split
  · split
    · exact .refl s
    · have hfault := s.modGlb_read fun g => { g with fInlay := true }
      dsimp only
      split <;> dsimp only
      · exact hfault.trans (State.modLdg_read ⟨rfl, rfl, rfl, rfl, rfl, rfl, rfl, rfl⟩)
      · exact hfault
  · exact .refl s

theorem State.cleanSource_read (s : State) (line : Nat) : s.Read (s.cleanSource line).2 := by
  unfold State.cleanSource
  split <;> dsimp only
  · exact s.freeBit_read
  · exact .refl s
  · exact s.freeBit_read
  · exact .refl s

theorem State.openLine_read (s : State) (line : Nat) : s.Read (s.openLine line).2.2 := by
  unfold State.openLine
  dsimp only
  split
  · exact s.freeBit_read
  · split
    · exact s.freeBit_read
    · exact s.freeBit_read.trans (State.freeBytes_read ..)

theorem State.readLine_read (s : State) (f : Finder) (line : Nat) : s.Read (s.readLine f line).2.2 := by
  unfold State.readLine
  dsimp only
  have hinlay := s.inlayCheck_read line
  split
  · split
    · exact s.openLine_read line
    · exact .refl s
  · split
    · exact hinlay.trans (State.noteUncorrectable_read ..)
    · split
      · exact hinlay
      · have hsource := hinlay.trans (State.cleanSource_read (s.inlayCheck line).2 line)
        split
        · exact hsource.trans (State.noteCorrected_read ..)
        · exact hsource.trans (State.noteUncorrectable_read ..)

end Sys2Proof.Machine
end

section
/-! SUPPORT. LDG_RD and LDG_WR (R188, R385, R387): the bytes that a read of sound lines gives, and those that a write leaves. -/
namespace Sys2Proof.Machine

/-! ### The bytes of a line -/

/-- The lines above bank 0 hold no image payload. -/
theorem Ledger.Ok.no_payload {g : Ledger} (h : g.Ok) {line : Nat} (hline : 0x4000 ≤ line) : g.isPayload line = false := by
  have hpay := h.payload
  rw [Ledger.isPayload, decide_eq_false (by omega), Bool.false_and]

/-- The bytes of a line above bank 0 are those of the memory. -/
theorem Ledger.Ok.stored_eq {g : Ledger} (h : g.Ok) {line : Nat} (hline : 0x4000 ≤ line) :
    g.stored line = (List.range 64).map fun i => memGet (64 * line + i) g.mem := by
  rw [Ledger.stored, h.no_payload hline]
  rfl

/-- A line above bank 0 is written where it is marked. -/
theorem Ledger.Ok.isWritten_iff {g : Ledger} (h : g.Ok) {line : Nat} (hline : 0x4000 ≤ line) :
    g.isWritten line = true ↔ line ∈ g.written := by
  rw [Ledger.isWritten, h.no_payload hline, Bool.false_or, List.contains_iff_mem]

/-- An unlisted address reads 0. -/
theorem memGet_absent {a : Nat} {m : List Host.Cell} (h : ∀ c ∈ m, c.1 ≠ a) : memGet a m = 0 := by
  induction m with
  | nil => rfl
  | cons c l ih =>
    rw [memGet, if_neg (h c List.mem_cons_self)]
    exact ih fun c' hc => h c' (List.mem_cons_of_mem _ hc)

/-- The bytes of a line that is not written read 0. -/
theorem Ledger.Ok.memGet_unwritten {g : Ledger} (h : g.Ok) {line x : Nat} (hno : line ∉ g.written) (hx : x / 64 = line) :
    memGet x g.mem = 0 := by
  refine memGet_absent fun c hc heq => hno ?_
  have hmark := List.contains_iff_mem.mp (h.written c hc)
  rwa [heq, hx] at hmark

/-- Lines one after the other are the bytes one after the other. -/
theorem range_flatMap_lines (f : Nat → Byte) (n : Nat) :
    ((List.range n).flatMap fun i => (List.range 64).map fun j => f (64 * i + j)) = (List.range (64 * n)).map f := by
  induction n with
  | zero => rfl
  | succ n ih =>
    have hsucc : List.range (n + 1) = List.range n ++ [n] := List.range_succ
    rw [hsucc, List.flatMap_append, ih, Nat.mul_succ, List.range_add, List.map_append, List.map_map]
    simp only [List.flatMap_cons, List.flatMap_nil, List.append_nil]
    rfl

/-- A part of bytes one after the other. -/
theorem slice_range_map (f : Nat → Byte) {n off len : Nat} (h : off + len ≤ n) :
    slice ((List.range n).map f) off len = (List.range len).map fun i => f (off + i) := by
  refine List.ext_getElem ?_ fun i hi hi' => ?_
  · simp only [slice, List.length_take, List.length_drop, List.length_map, List.length_range]
    omega
  · simp only [slice, List.getElem_take, List.getElem_drop, List.getElem_map, List.getElem_range]

/-! ### Reading (R188, R387) -/

/-- A read of a line that is written, passes its check and meets no disagreeing Inlay entry gives its bytes and changes
nothing. -/
theorem State.readLine_sound {s : State} {line : Nat} (hwritten : s.ldg.isWritten line = true) (hpass : s.ldg.diff line = 0)
    (hagree : ∀ e ∈ s.ldg.inlay, e.line = line → e.agree = true) (f : Finder) :
    s.readLine f line = (.ok, s.ldg.stored line, s) := by
  have hinlay : s.inlayCheck line = (false, s) := by
    unfold State.inlayCheck
    cases he : s.ldg.inlay.find? fun e => e.line == line with
    | none => rfl
    | some e =>
      have hline := List.find?_some he
      exact if_pos (hagree e (List.mem_of_find?_eq_some he) (by simpa using hline))
  unfold State.readLine
  dsimp only
  rw [hwritten, Bool.not_true, if_neg Bool.false_ne_true, hinlay]
  dsimp only
  rw [if_neg Bool.false_ne_true, if_pos hpass]

/-- A read of sound lines gives their bytes and changes nothing. -/
theorem State.readLines_sound {s : State} {lo : Nat} (f : Finder) (n : Nat)
    (hsound : ∀ i < n, s.ldg.isWritten (lo + i) = true ∧ s.ldg.diff (lo + i) = 0 ∧
      ∀ e ∈ s.ldg.inlay, e.line = lo + i → e.agree = true) :
    s.readLines f lo n = ({ data := (List.range n).flatMap fun i => s.ldg.stored (lo + i) }, s) := by
  induction n with
  | zero => rfl
  | succ n ih =>
    obtain ⟨hwritten, hpass, hagree⟩ := hsound n (Nat.lt_succ_self n)
    have hinit := ih fun i hi => hsound i (Nat.lt_succ_of_lt hi)
    unfold State.readLines at hinit ⊢
    rw [List.range_succ, List.foldl_append, hinit, List.flatMap_append]
    simp only [List.foldl_cons, List.foldl_nil, State.readLine_sound hwritten hpass hagree, List.flatMap_cons, List.flatMap_nil,
      List.append_nil]
    rfl

/-- A read of the bytes of sound lines above bank 0 gives them and changes nothing. -/
theorem State.readLedger_sound {s : State} (hok : s.ldg.Ok) {addr len : Nat} (hlow : 0x100000 ≤ addr) (f : Finder)
    (hsound : ∀ line, addr / 64 ≤ line → 64 * line < addr + len → s.ldg.isWritten line = true ∧ s.ldg.diff line = 0 ∧
      ∀ e ∈ s.ldg.inlay, e.line = line → e.agree = true) :
    s.readLedger f addr len = ({ data := (List.range len).map fun i => memGet (addr + i) s.ldg.mem }, s) := by
  have hbytes (i : Nat) : s.ldg.stored (addr / 64 + i) =
      (List.range 64).map fun j => memGet (64 * (addr / 64) + (64 * i + j)) s.ldg.mem := by
    rw [hok.stored_eq (by omega)]
    refine List.map_congr_left fun j _ => ?_
    rw [show 64 * (addr / 64 + i) + j = 64 * (addr / 64) + (64 * i + j) by omega]
  have hlines := State.readLines_sound (s := s) (lo := addr / 64) f ((addr + len + 63) / 64 - addr / 64) fun i hi =>
    hsound (addr / 64 + i) (by omega) (by omega)
  have hdata : ((List.range ((addr + len + 63) / 64 - addr / 64)).flatMap fun i => s.ldg.stored (addr / 64 + i)) =
      (List.range (64 * ((addr + len + 63) / 64 - addr / 64))).map fun i => memGet (64 * (addr / 64) + i) s.ldg.mem := by
    rw [← range_flatMap_lines]
    exact congrArg (fun g => List.flatMap g _) (funext hbytes)
  unfold State.readLedger
  dsimp only
  rw [hlines, hdata, slice_range_map _ (by omega)]
  refine congrArg (fun d => (({ data := d } : LedgerRead), s)) (List.map_congr_left fun i _ => ?_)
  rw [show 64 * (addr / 64) + (addr % 64 + i) = addr + i by omega]

/-- The lines of the host region (R383). -/
theorem hostLine_iff {line : Nat} : hostLine line = true ↔ 0xC000 ≤ line ∧ line < 0x10000 := by
  simp only [hostLine, Bool.and_eq_true, decide_eq_true_eq]

/-- The lines of the host region are PLAIN (R383). -/
theorem classOf_host {line : Nat} (hhost : hostLine line = true) : classOf line = .plain := by
  obtain ⟨hlo, hhi⟩ := hostLine_iff.mp hhost
  unfold classOf
  rw [if_neg (by omega), if_neg (by omega), if_neg (by omega), if_neg (by omega)]

/-- A host line that no store has written is unwritten (R387). -/
theorem State.hostLine_open (s : State) {line : Nat} (hhost : hostLine line = true) : s.maybeWritten line = false := by
  obtain ⟨hlo, hhi⟩ := hostLine_iff.mp hhost
  have hclass := classOf_host hhost
  have husers : lineUsers line = [] := by
    simp only [lineUsers]
    rw [if_neg (by omega), if_neg (by omega), if_neg (by omega), if_neg (by omega), if_neg (by omega)]
  rw [State.maybeWritten, hclass, husers]
  rfl

/-- A read of one host line that is not written gives zeros and changes nothing (R387). -/
theorem State.readLedger_unwritten {s : State} {addr : Nat} (halign : addr % 64 = 0) (hhost : hostLine (addr / 64) = true)
    (hno : s.ldg.isWritten (addr / 64) = false) (f : Finder) :
    s.readLedger f addr 64 = ({ data := List.replicate 64 0, unwritten := some 0 }, s) := by
  have hline : s.readLine f (addr / 64) = (.unwritten, List.replicate 64 0, s) := by
    unfold State.readLine
    dsimp only
    rw [hno, Bool.not_false, if_pos rfl, s.hostLine_open hhost]
    rfl
  have hone : (addr + 64 + 63) / 64 - addr / 64 = 1 := by omega
  unfold State.readLedger State.readLines
  dsimp only
  rw [hone, List.range_one, List.foldl_cons, List.foldl_nil, Nat.add_zero, hline, halign]
  rfl

/-! ### What a write leaves of the rest of the state (R385) -/

theorem State.storeLine_worked (s : State) (line : Nat) (l : List Byte) (d : Word) : s.Worked (s.storeLine line l d) :=
  ⟨rfl, rfl, rfl, rfl, rfl, rfl, rfl, rfl, rfl, rfl⟩

theorem State.remap_worked (s : State) (line : Nat) (l : List Byte) : s.Worked (s.remap line l) := by
  unfold State.remap
  split
  · exact .refl s
  · split
    · exact (s.modLdg_worked _).trans (State.ledgerEvent_worked ..)
    · split
      · exact (s.modLdg_worked _).trans (State.ledgerEvent_worked ..)
      · exact (s.modLdg_worked _).trans (State.ledgerEvent_worked ..)

theorem State.verifyLine_worked (s : State) (line : Nat) (l : List Byte) : s.Worked (s.verifyLine line l) := by
  unfold State.verifyLine
  split
  · exact s.modLdg_worked _
  · exact s.remap_worked line l

theorem State.writeLine_worked (s : State) (line off : Nat) (l : List Byte) : s.Worked (s.writeLine line off l) := by
  unfold State.writeLine
  have hinlay := (s.inlayCheck_read line).rest
  generalize (s.inlayCheck line).2 = u at hinlay
  dsimp only
  split
  · have hstore := hinlay.trans (u.storeLine_worked line l 0)
    split
    · exact hstore.trans (State.verifyLine_worked ..)
    · exact hstore
  · split
    · exact hinlay.trans (State.storeLine_worked ..)
    · have hread := hinlay.trans (u.readLine_read .merge line).rest
      generalize u.readLine .merge line = r at hread
      obtain ⟨st, d, v⟩ := r
      cases st <;> dsimp only
      case bad =>
        split
        · exact hread.trans (State.storeLine_worked ..)
        · exact (hread.trans (State.freeBytes_read ..).rest).trans (State.storeLine_worked ..)
      all_goals exact hread.trans (State.storeLine_worked ..)

theorem State.ledgerWrite_worked (f a : Nat) (l : List Byte) (s : State) : s.Worked (State.ledgerWrite f a l s) := by
  induction f generalizing a l s with
  | zero => exact .refl s
  | succ f ih =>
    unfold State.ledgerWrite
    split
    · exact .refl s
    · refine State.Worked.trans ?_ (ih ..)
      unfold State.writeClassed
      split
      · exact (s.writeLine_worked ..).trans (State.writeLine_worked ..)
      · exact s.writeLine_worked ..

theorem State.writeLedger_worked (s : State) (a : Nat) (l : List Byte) : s.Worked (s.writeLedger a l) :=
  State.ledgerWrite_worked ..

/-! ### The bytes that a write leaves (R385) -/

/-- Storing a line puts its bytes there, and leaves every other byte. -/
theorem State.storeLine_mem {s : State} (h : s.ldg.Ok) (line : Nat) (l : List Byte) (d : Word) (x : Nat) :
    memGet x (s.storeLine line l d).ldg.mem =
      if 64 * line ≤ x ∧ x < 64 * line + 64 then (fitTo 64 l).getD (x - 64 * line) 0 else memGet x s.ldg.mem :=
  s.ldg.put_mem h line l d x

/-- A line that holds what it is put back with keeps its bytes when it is remapped; marks of written lines stay. -/
theorem State.verifyLine_mem {s : State} (h : s.ldg.Ok) {line : Nat} {l : List Byte}
    (hheld : ∀ x, 64 * line ≤ x → x < 64 * line + 64 → memGet x s.ldg.mem = (fitTo 64 l).getD (x - 64 * line) 0) :
    (∀ x, memGet x (s.verifyLine line l).ldg.mem = memGet x s.ldg.mem) ∧
    ∀ j ∈ s.ldg.written, j ∈ (s.verifyLine line l).ldg.written := by
  have hkept {u : State} (hm : u.ldg.mem = s.ldg.mem) (hw : u.ldg.written = s.ldg.written) :
      (∀ x, memGet x u.ldg.mem = memGet x s.ldg.mem) ∧ ∀ j ∈ s.ldg.written, j ∈ u.ldg.written :=
    ⟨fun x => by rw [hm], fun j hj => by rw [hw]; exact hj⟩
  unfold State.verifyLine State.remap
  split
  · exact hkept rfl rfl
  · split
    · exact hkept rfl rfl
    · split
      · exact hkept (by rw [State.ledgerEvent_ldg]; rfl) (by rw [State.ledgerEvent_ldg]; rfl)
      · split
        · exact hkept (by rw [State.ledgerEvent_ldg]; rfl) (by rw [State.ledgerEvent_ldg]; rfl)
        · dsimp only
          rw [State.ledgerEvent_ldg]
          refine ⟨fun x => (s.ldg.put_mem h line l 0 x).trans ?_, fun j hj => mem_insertRising.mpr (.inr hj)⟩
          split
          next hin => exact (hheld x hin.1 hin.2).symm
          next => rfl

/-- Bytes written into one line: they read as written, every other byte as before; the line is marked, and marks stay. -/
structure State.LinePut (s t : State) (line off : Nat) (l : List Byte) : Prop where
  mem : ∀ x, memGet x t.ldg.mem =
    if 64 * line + off ≤ x ∧ x < 64 * line + off + l.length then l.getD (x - (64 * line + off)) 0 else memGet x s.ldg.mem
  marked : line ∈ t.ldg.written
  marks : ∀ j ∈ s.ldg.written, j ∈ t.ldg.written

/-- A read before a write changes nothing of what is written. -/
theorem State.Read.linePut {s u t : State} {line off : Nat} {l : List Byte} (h : s.Read u) (k : u.LinePut t line off l) :
    s.LinePut t line off l :=
  ⟨fun x => by rw [k.mem x, h.ldg.mem], k.marked, fun j hj => k.marks j (by rw [h.ldg.written]; exact hj)⟩

/-- Whole lines fit as they are. -/
theorem fitTo_whole {l : List Byte} (h : l.length = 64) : fitTo 64 l = l := by
  rw [fitTo_of_le h.le, h, Nat.sub_self, List.replicate_zero, List.append_nil]

/-- The bytes of a line of which some are replaced. -/
theorem spliceLine_getD {old l : List Byte} {off i : Nat} (hold : old.length = 64) (hfit : off + l.length ≤ 64) :
    (fitTo 64 (spliceLine old off l)).getD i 0 = if off ≤ i ∧ i < off + l.length then l.getD (i - off) 0 else old.getD i 0 := by
  have hhead : (old.take off).length = off := by
    rw [List.length_take]
    omega
  rw [fitTo_whole (by simp only [spliceLine, List.length_append, List.length_take, List.length_drop]; omega), spliceLine]
  simp only [List.getD_eq_getElem?_getD]
  by_cases hlow : i < off
  · rw [if_neg (by omega), List.append_assoc, List.getElem?_append_left (by omega), List.getElem?_take_of_lt hlow]
  · by_cases hin : i < off + l.length
    · rw [if_pos ⟨Nat.not_lt.mp hlow, hin⟩, List.append_assoc, List.getElem?_append_right (by omega),
        List.getElem?_append_left (by omega), hhead]
    · rw [if_neg (by omega), List.getElem?_append_right (by rw [List.length_append]; omega), List.getElem?_drop,
        List.length_append, hhead, show off + l.length + (i - (off + l.length)) = i by omega]

/-- A line stored with some of its bytes replaced. -/
theorem State.storeLine_splice {s : State} (h : s.ldg.Ok) {line off : Nat} {old l : List Byte} (hold : old.length = 64)
    (hbytes : ∀ i < 64, old.getD i 0 = memGet (64 * line + i) s.ldg.mem) (hfit : off + l.length ≤ 64) (d : Word) :
    s.LinePut (s.storeLine line (spliceLine old off l) d) line off l where
  mem x := by
    rw [State.storeLine_mem h]
    by_cases hin : 64 * line ≤ x ∧ x < 64 * line + 64
    · obtain ⟨hlo, hhi⟩ := hin
      rw [if_pos ⟨hlo, hhi⟩, spliceLine_getD hold hfit, hbytes _ (by omega), show 64 * line + (x - 64 * line) = x by omega,
        show x - 64 * line - off = x - (64 * line + off) by omega]
      exact if_congr (by omega) rfl rfl
    · rw [if_neg hin, if_neg (by omega)]
  marked := mem_insertRising.mpr (.inl rfl)
  marks _ hj := mem_insertRising.mpr (.inr hj)

/-- A whole line stored. -/
theorem State.storeLine_whole {s : State} (h : s.ldg.Ok) {line : Nat} {l : List Byte} (hwhole : l.length = 64) (d : Word) :
    s.LinePut (s.storeLine line l d) line 0 l where
  mem x := by
    rw [State.storeLine_mem h, fitTo_whole hwhole, hwhole]
    simp only [Nat.add_zero]
  marked := mem_insertRising.mpr (.inl rfl)
  marks _ hj := mem_insertRising.mpr (.inr hj)

/-- The read after a write leaves what was written. -/
theorem State.LinePut.verified {s t : State} {line : Nat} {l : List Byte} (h : t.ldg.Ok) (hwhole : l.length = 64)
    (k : s.LinePut t line 0 l) : s.LinePut (t.verifyLine line l) line 0 l := by
  obtain ⟨hmem, hmarks⟩ := State.verifyLine_mem h (line := line) (l := l) fun x hlo hhi => by
    rw [k.mem, if_pos (by omega), fitTo_whole hwhole, Nat.add_zero]
  exact ⟨fun x => (hmem x).trans (k.mem x), hmarks _ k.marked, fun j hj => hmarks j (k.marks j hj)⟩

/-- A read of a written PLAIN line gives its bytes, where it does not find it bad (R388). -/
theorem State.readLine_plain {s : State} {line : Nat} (hclass : classOf line = .plain) (hwritten : s.ldg.isWritten line = true)
    (f : Finder) : (s.readLine f line).1 = .bad ∨ (s.readLine f line).2.1 = s.ldg.stored line := by
  have hinlay := (s.inlayCheck_read line).ldg
  unfold State.readLine State.cleanSource
  dsimp only
  rw [hwritten, Bool.not_true, if_neg Bool.false_ne_true, hclass]
  split
  · exact .inl rfl
  · split
    · exact .inr (hinlay.stored line)
    · exact .inl rfl

/-- The bytes of a line above bank 0, one by one. -/
theorem Ledger.Ok.stored_getD {g : Ledger} (h : g.Ok) {line i : Nat} (hline : 0x4000 ≤ line) (hi : i < 64) :
    (g.stored line).getD i 0 = memGet (64 * line + i) g.mem := by
  rw [h.stored_eq hline, List.getD_eq_getElem?_getD, List.getElem?_map, List.getElem?_range hi]
  rfl

theorem Ledger.Ok.stored_length {g : Ledger} (h : g.Ok) {line : Nat} (hline : 0x4000 ≤ line) : (g.stored line).length = 64 := by
  rw [h.stored_eq hline, List.length_map, List.length_range]

/-- A write to one PLAIN line above bank 0 puts its bytes there (R385). -/
theorem State.writeLine_put {s : State} (h : s.ldg.Ok) {line off : Nat} {l : List Byte} (hclass : classOf line = .plain)
    (hline : 0x4000 ≤ line) (hfit : off + l.length ≤ 64) : s.LinePut (s.writeLine line off l) line off l := by
  have hinlay := s.inlayCheck_read line
  have hok := State.inlayCheck_ok h line
  refine hinlay.linePut ?_
  unfold State.writeLine
  generalize (s.inlayCheck line).2 = u at hok
  dsimp only
  by_cases hall : off = 0 ∧ l.length = 64
  · obtain ⟨rfl, hwhole⟩ := hall
    rw [if_pos ⟨rfl, hwhole⟩]
    have hstore := State.storeLine_whole hok (line := line) hwhole 0
    split
    · exact hstore.verified (State.storeLine_ok hok line l 0) hwhole
    · exact hstore
  · rw [if_neg hall]
    by_cases hwritten : u.ldg.isWritten line = true
    · have hbytes : ∀ i < 64, (u.ldg.stored line).getD i 0 = memGet (64 * line + i) u.ldg.mem :=
        fun i hi => hok.stored_getD hline hi
      have hread := u.readLine_read .merge line
      have hplain := State.readLine_plain hclass hwritten .merge
      have hrok := State.readLine_ok hok .merge line
      rw [if_neg (by rw [hwritten]; exact Bool.false_ne_true)]
      generalize u.readLine .merge line = r at hread hplain hrok
      obtain ⟨st, d, v⟩ := r
      refine hread.linePut ?_
      have hput (c : Word) : v.LinePut (v.storeLine line (spliceLine (u.ldg.stored line) off l) c) line off l :=
        State.storeLine_splice hrok (hok.stored_length hline) (fun i hi => by rw [hread.ldg.mem]; exact hbytes i hi) hfit c
      cases st <;> dsimp only
      case bad =>
        rw [if_pos hclass]
        exact hput _
      all_goals
        have hd : d = u.ldg.stored line := hplain.resolve_left nofun
        rw [hd]
        exact hput 0
    · rw [if_pos (by simp [hwritten])]
      have hno : line ∉ u.ldg.written := fun hm => hwritten ((hok.isWritten_iff hline).mpr hm)
      refine State.storeLine_splice hok List.length_replicate (fun i hi => ?_) hfit 0
      rw [hok.memGet_unwritten hno (by omega), List.getD_eq_getElem?_getD, List.getElem?_replicate_of_lt hi]
      rfl

/-- Bytes written to host lines read as written, every other byte as before, and their lines are marked (R385). -/
theorem State.ledgerWrite_put {f a : Nat} {l : List Byte} {s : State} (h : s.ldg.Ok) (hfuel : l.length < f)
    (hlo : 0x300000 ≤ a) (hhi : a + l.length ≤ 0x400000) :
    (∀ x, memGet x (State.ledgerWrite f a l s).ldg.mem =
      if a ≤ x ∧ x < a + l.length then l.getD (x - a) 0 else memGet x s.ldg.mem) ∧
    (0 < l.length → ∀ line, a / 64 ≤ line → 64 * line < a + l.length → line ∈ (State.ledgerWrite f a l s).ldg.written) ∧
    ∀ j ∈ s.ldg.written, j ∈ (State.ledgerWrite f a l s).ldg.written := by
  induction f generalizing a l s with
  | zero => exact absurd hfuel (Nat.not_lt_zero _)
  | succ f ih =>
    unfold State.ledgerWrite
    by_cases hnil : l.isEmpty = true
    · rw [if_pos hnil, List.isEmpty_iff.mp hnil]
      refine ⟨fun x => (if_neg ?_).symm, fun hpos => absurd hpos (Nat.lt_irrefl 0), fun j hj => hj⟩
      rw [List.length_nil]
      omega
    · rw [if_neg hnil]
      dsimp only
      have hpos : 0 < l.length := List.length_pos_iff.mpr fun hl => hnil (List.isEmpty_iff.mpr hl)
      generalize hn : min (64 - a % 64) l.length = n
      have htake : (l.take n).length = n := by
        rw [List.length_take]
        omega
      have hhost : hostLine (a / 64) = true := hostLine_iff.mpr ⟨by omega, by omega⟩
      have hclass := classOf_host hhost
      have hone : s.writeClassed (a / 64) (a % 64) (l.take n) = s.writeLine (a / 64) (a % 64) (l.take n) :=
        if_neg (by rw [hclass]; exact nofun)
      have hput := State.writeLine_put h (line := a / 64) (off := a % 64) (l := l.take n) hclass (by omega) (by omega)
      rw [hone]
      generalize hu : s.writeLine (a / 64) (a % 64) (l.take n) = u at hput
      have hok : u.ldg.Ok := hu ▸ State.writeLine_ok h _ _ _
      have hdrop : (l.drop n).length = l.length - n := List.length_drop
      obtain ⟨hmem, hmarked, hmarks⟩ := ih (a := a + n) (l := l.drop n) hok (by omega) (by omega) (by omega)
      refine ⟨fun x => ?_, fun _ line hlo' hhi' => ?_, fun j hj => hmarks j (hput.marks j hj)⟩
      · rw [hmem x, hput.mem x, hdrop, htake, show 64 * (a / 64) + a % 64 = a by omega]
        by_cases hin : a + n ≤ x ∧ x < a + n + (l.length - n)
        · rw [if_pos hin, if_pos (by omega), List.getD_eq_getElem?_getD, List.getElem?_drop, List.getD_eq_getElem?_getD,
            show n + (x - (a + n)) = x - a by omega]
        · rw [if_neg hin]
          by_cases hfirst : a ≤ x ∧ x < a + n
          · rw [if_pos hfirst, if_pos (by omega), List.getD_eq_getElem?_getD, List.getElem?_take_of_lt (by omega),
              List.getD_eq_getElem?_getD]
          · rw [if_neg hfirst, if_neg (by omega)]
      · by_cases hfirst : line = a / 64
        · exact hmarks line (hfirst ▸ hput.marked)
        · exact hmarked (by omega) line (by omega) (by omega)

/-! ### The commands -/

/-- Operands that pass the first checks are well formed (R179). -/
theorem syntaxCheck_none {o : OpSpec} {a : CmdArgs} (h : syntaxCheck (some o) a = none) : o.plenOk a = true ∧ o.argOk a = true := by
  unfold syntaxCheck at h
  dsimp only at h
  split at h
  · cases h
  · split at h
    · cases h
    next hlen =>
      split at h
      · cases h
      next harg =>
        simp only [Bool.or_eq_true, Bool.not_eq_true', not_or, Bool.not_eq_false] at hlen harg
        obtain ⟨⟨-, hplen⟩, -⟩ := hlen
        exact ⟨hplen, harg.2⟩

/-- The operands of a command that Teller takes are well formed. -/
theorem takes_operands {o : OpSpec} {a : CmdArgs} {s : State} (h : s.takes o a = true) :
    o.plenOk a = true ∧ o.argOk a = true := by
  simp only [State.takes, Bool.and_eq_true, Option.isNone_iff_eq_none] at h
  obtain ⟨⟨-, hpass⟩, -⟩ := h
  exact syntaxCheck_none hpass

/-- LDG_RD of aligned bytes that it finds sound returns them (R188). -/
theorem ldgRdBody_sound {s : State} {a : CmdArgs} {l : List Byte} (haddr : a.arg0.toNat % 8 = 0) (hlen : a.arg1.toNat % 8 = 0)
    (hread : s.readLedger .draft a.arg0.toNat a.arg1.toNat = ({ data := l }, s)) : ldgRdBody s a = .done .ok 0 l s := by
  unfold ldgRdBody
  dsimp only
  rw [if_neg (by omega), hread]

/-- LDG_RD of one unwritten line returns zeros, and says so (R188, R387). -/
theorem ldgRdBody_unwritten {s : State} {a : CmdArgs} {l : List Byte} (haddr : a.arg0.toNat % 8 = 0) (hlen : a.arg1.toNat % 8 = 0)
    (hread : s.readLedger .draft a.arg0.toNat a.arg1.toNat = ({ data := l, unwritten := some 0 }, s)) :
    ldgRdBody s a = .done .okUnwritten 0 l s := by
  unfold ldgRdBody
  dsimp only
  rw [if_neg (by omega), hread]
  rfl

/-- A taken LDG_RD of sound host lines returns the bytes stored (R188). -/
theorem issue_ldgRd_sound {a : CmdArgs} {s : State} (hok : s.ldg.Ok) (htakes : s.takes opLdgRd a = true)
    (haddr : a.arg0.toNat % 8 = 0) (hlen : a.arg1.toNat % 8 = 0) (hlo : 0x300000 ≤ a.arg0.toNat)
    (hsound : ∀ line, a.arg0.toNat / 64 ≤ line → 64 * line < a.arg0.toNat + a.arg1.toNat → s.ldg.isWritten line = true ∧
      s.ldg.diff line = 0 ∧ ∀ e ∈ s.ldg.inlay, e.line = line → e.agree = true) :
    (issue opLdgRd a s).answered opLdgRd a .ok 0 ((List.range a.arg1.toNat).map fun i => memGet (a.arg0.toNat + i) s.ldg.mem) ∧
    (s.leaveS1 0xA0).SameButAnswer (issue opLdgRd a s) a.caller [] := by
  have hldg := s.atDispatch_ldg opLdgRd a
  have hread := State.readLedger_sound (s := s.atDispatch opLdgRd a) (addr := a.arg0.toNat) (len := a.arg1.toNat)
    (by rw [hldg]; exact hok) (by omega) .draft
    (by rw [hldg]; exact hsound)
  rw [hldg] at hread
  exact issue_unchanged (o := opLdgRd) htakes (ldgRdBody_sound haddr hlen hread)

/-- A taken LDG_RD of one unwritten host line returns zeros (R387). -/
theorem issue_ldgRd_unwritten {a : CmdArgs} {s : State} (htakes : s.takes opLdgRd a = true) (haddr : a.arg0.toNat % 64 = 0)
    (hlen : a.arg1.toNat = 64) (hlo : 0x300000 ≤ a.arg0.toNat) (hhi : a.arg0.toNat + a.arg1.toNat ≤ 0x400000)
    (hno : s.ldg.isWritten (a.arg0.toNat / 64) = false) :
    (issue opLdgRd a s).answered opLdgRd a .okUnwritten 0 (List.replicate 64 0) ∧
    (s.leaveS1 0xA0).SameButAnswer (issue opLdgRd a s) a.caller [] := by
  have hread := State.readLedger_unwritten (s := s.atDispatch opLdgRd a) haddr (hostLine_iff.mpr ⟨by omega, by omega⟩)
    (by rw [State.atDispatch_ldg]; exact hno) .draft
  rw [← hlen] at hread
  rw [← hlen]
  exact issue_unchanged (o := opLdgRd) htakes (ldgRdBody_unwritten (by omega) (by omega) hread)

/-- A taken LDG_WR of aligned bytes writes them into the host lines it names (R385). -/
theorem issue_ldgWr {a : CmdArgs} {s : State} (hok : s.ldg.Ok) (htakes : s.takes opLdgWr a = true)
    (haddr : a.arg0.toNat % 8 = 0) (hlen : a.params.length % 8 = 0) :
    (issue opLdgWr a s).answered opLdgWr a .ok 0 [] ∧
    (∀ i, i < a.params.length → memGet (a.arg0.toNat + i) (issue opLdgWr a s).ldg.mem = a.params.getD i 0) ∧
    (∀ x, x < a.arg0.toNat ∨ a.arg0.toNat + a.params.length ≤ x →
      memGet x (issue opLdgWr a s).ldg.mem = memGet x s.ldg.mem) ∧
    (∀ line, a.arg0.toNat / 64 ≤ line → 64 * line < a.arg0.toNat + a.params.length →
      (issue opLdgWr a s).ldg.isWritten line = true) ∧
    (issue opLdgWr a s).ports = s.ports ∧ (issue opLdgWr a s).pwr = s.pwr ∧ (issue opLdgWr a s).mint = s.mint ∧
    (issue opLdgWr a s).orders = s.orders := by
  obtain ⟨hplen, harg⟩ := takes_operands htakes
  simp only [opLdgWr, Bool.and_eq_true, decide_eq_true_eq] at hplen harg
  obtain ⟨hfew, -⟩ := hplen
  obtain ⟨⟨-, hlo⟩, hhi⟩ := harg
  have hok' : (s.atDispatch opLdgWr a).ldg.Ok := by
    rw [State.atDispatch_ldg]
    exact hok
  have hbody : opLdgWr.body (s.atDispatch opLdgWr a) a = .ok ((s.atDispatch opLdgWr a).writeLedger a.arg0.toNat a.params) :=
    if_neg (by omega)
  have hworked := (s.atDispatch opLdgWr a).writeLedger_worked a.arg0.toNat a.params
  have hwok := State.writeLedger_ok hok' a.arg0.toNat a.params
  obtain ⟨hmem, hmarked, -⟩ := State.ledgerWrite_put (f := a.params.length + 1) hok' (Nat.lt_succ_self _) hlo hhi
  rw [← State.writeLedger] at hmarked
  rw [issue_takes _ a s htakes, hbody, Res.ok, Res.answer, State.finish_ldg, State.finish_ports, State.finish_pwr,
    State.finish_mint, State.finish_orders, hworked.ports, hworked.pwr, hworked.mint, hworked.orders, State.atDispatch_ports,
    State.atDispatch_pwr, State.atDispatch_mint, State.atDispatch_orders]
  refine ⟨finish_answered .., fun i hi => ?_, fun x hx => ?_, fun line hlo' hhi' => ?_, rfl, rfl, rfl, rfl⟩
  · rw [State.writeLedger, hmem, if_pos (by omega), Nat.add_sub_cancel_left]
  · rw [State.writeLedger, hmem, if_neg (by omega), State.atDispatch_ldg]
  · exact (hwok.isWritten_iff (by omega)).mpr (hmarked (by omega) line hlo' hhi')

/-! ### INLAY_QUERY (R396) -/

/-- The 8 bytes of one Inlay entry; a free entry reads 0. -/
def Ledger.inlayEntryBytes (g : Ledger) (i : Nat) : List Byte :=
  match g.inlay[i]? with
  | some e => leBytes 4 e.n.toNat ++ leBytes 4 e.hi.toNat
  | none => List.replicate 8 0

theorem Ledger.inlayEntryBytes_length (g : Ledger) (i : Nat) : (g.inlayEntryBytes i).length = 8 := by
  unfold Ledger.inlayEntryBytes
  split
  · simp
  · exact List.length_replicate

/-- Entries of 8 bytes one after the other: each lies at 8 times its number. -/
theorem slice_flatMap_range {f : Nat → List Byte} (hf : ∀ i, (f i).length = 8) {n i : Nat} (hi : i < n) (off len : Nat)
    (hfit : off + len ≤ 8) : slice ((List.range n).flatMap f) (8 * i + off) len = slice (f i) off len := by
  have hlen (m : Nat) : ((List.range m).flatMap f).length = 8 * m := by
    simp [List.length_flatMap, hf, Nat.mul_comm]
  have hsplit : (List.range n).flatMap f = (List.range i).flatMap f ++ (f i ++ ((List.range (n - i - 1)).map (i + 1 + ·)).flatMap f) := by
    rw [show n = i + (1 + (n - i - 1)) by omega, List.range_add, List.range_add, List.map_append, List.map_map]
    simp [List.flatMap_append, Function.comp_def, Nat.add_assoc]
  rw [hsplit, slice, List.drop_append, hlen, List.drop_eq_nil_of_le (by rw [hlen]; omega), List.nil_append,
    Nat.add_sub_cancel_left, List.drop_append_of_le_length (by rw [hf]; omega),
    List.take_append_of_le_length (by rw [List.length_drop, hf]; omega), slice]

theorem Ledger.inlayBytes_eq (g : Ledger) : g.inlayBytes = (List.range 8).flatMap g.inlayEntryBytes := rfl

/-- INLAY_QUERY's bytes hold each entry at its place. -/
theorem Ledger.inlayBytes_entry (g : Ledger) (i : Fin 8) :
    (∀ e, g.inlay[i.val]? = some e → leAt g.inlayBytes (8 * i.val) 4 = e.n.toNat ∧
      leAt g.inlayBytes (8 * i.val + 4) 4 = e.hi.toNat) ∧
    (g.inlay[i.val]? = none → leAt g.inlayBytes (8 * i.val) 8 = 0) := by
  have hat (off len : Nat) (hfit : off + len ≤ 8) : leAt g.inlayBytes (8 * i.val + off) len = leAt (g.inlayEntryBytes i.val) off len := by
    rw [leAt, g.inlayBytes_eq, slice_flatMap_range g.inlayEntryBytes_length i.isLt off len hfit, leAt]
  refine ⟨fun e he => ?_, fun hnone => ?_⟩
  · have hbytes : g.inlayEntryBytes i.val = leBytes 4 e.n.toNat ++ leBytes 4 e.hi.toNat := by
      rw [Ledger.inlayEntryBytes, he]
    have hn := e.n.isLt
    have hhi := e.hi.isLt
    rw [← Nat.add_zero (8 * i.val), hat 0 4 (by omega), Nat.add_zero, hat 4 4 (by omega), hbytes]
    simp only [leAt_field, leAt_skip, leAt_leBytes, le_refl, Nat.sub_self, Nat.reducePow]
    omega
  · have hbytes : g.inlayEntryBytes i.val = List.replicate 8 0 := by rw [Ledger.inlayEntryBytes, hnone]
    rw [← Nat.add_zero (8 * i.val), hat 0 8 (by omega), hbytes]
    rfl

/-- INLAY_QUERY returns 64 bytes. -/
theorem Ledger.inlayBytes_length (g : Ledger) : g.inlayBytes.length = 64 := by
  rw [g.inlayBytes_eq]
  simp [List.length_flatMap, g.inlayEntryBytes_length]

/-- LDG_RD of bytes that do not lie on 8-byte boundaries (R188). -/
theorem ldgRdBody_unaligned {s : State} {a : CmdArgs} (h : a.arg0.toNat % 8 ≠ 0 ∨ a.arg1.toNat % 8 ≠ 0) :
    ldgRdBody s a = .fail .eAlign s := if_pos h

/-- LDG_WR of bytes that do not lie on 8-byte boundaries (R188). -/
theorem ldgWrBody_unaligned {s : State} {a : CmdArgs} (h : a.arg0.toNat % 8 ≠ 0 ∨ a.params.length % 8 ≠ 0) :
    ldgWrBody s a = .fail .eAlign s := if_pos h

/-- A taken PLANE_CFG sets the visit rate (R392). -/
theorem issue_planeCfg {a : CmdArgs} {s : State} (htakes : s.takes opPlaneCfg a = true) :
    (issue opPlaneCfg a s).answered opPlaneCfg a .ok 0 [] ∧
    ((s.leaveS1 0xA2).modLdg fun g => { g with rate := BitVec.ofNat 13 a.arg0.toNat }).SameButAnswer (issue opPlaneCfg a s)
      a.caller [] :=
  issue_changes (o := opPlaneCfg) (f := (·.modLdg fun g => { g with rate := BitVec.ofNat 13 a.arg0.toNat })) htakes
    (fun _ _ _ => rfl) (fun _ _ => rfl) (fun _ => rfl) rfl

/-- A taken INLAY_QUERY returns the Inlay's bytes (R396). -/
theorem issue_inlayQuery {a : CmdArgs} {s : State} (htakes : s.takes opInlayQuery a = true) :
    (issue opInlayQuery a s).answered opInlayQuery a .ok 0 s.ldg.inlayBytes ∧
    (s.leaveS1 0xA3).SameButAnswer (issue opInlayQuery a s) a.caller [] :=
  issue_unchanged (o := opInlayQuery) htakes (by rw [← State.atDispatch_ldg s opInlayQuery a]; rfl)

end Sys2Proof.Machine
end

section
/-! SUPPORT. Plane's visits (R392, R393, R396): a sound line is passed over, and a failing MIRROR line is put right. -/
namespace Sys2Proof.Machine

/-- An Inlay lookup changes nothing where the copies of the line's entries agree. -/
theorem State.inlayCheck_agree {s : State} {line : Nat} (h : ∀ e ∈ s.ldg.inlay, e.line = line → e.agree = true) :
    s.inlayCheck line = (false, s) := by
  unfold State.inlayCheck
  split
  next e he =>
    have hline : e.line = line := by simpa using List.find?_some he
    rw [if_pos (h e (List.mem_of_find?_eq_some he) hline)]
  · rfl

/-- A line that passes and is not SUSPECT is left as it is (R392). -/
theorem State.planeLine_sound {s : State} {line : Nat} (hpass : s.ldg.diff line = 0) (hclear : s.ldg.suspect.contains line = false)
    (hagree : ∀ e ∈ s.ldg.inlay, e.agree = true) (served : Bool) : s.planeLine line served = s := by
  unfold State.planeLine
  rw [State.inlayCheck_agree fun e he _ => hagree e he]
  simp only [ite_self, hpass, hclear, bne_self_eq_false, Bool.or_self, Bool.not_false, Bool.or_true, if_true]

/-- The sweep moves on by one line, and counts its passes (R392). -/
theorem State.planeVisit_sweeps {s : State} (hempty : s.ldg.queue = [])
    (hpass : s.ldg.diff (0x4000 * (s.ldg.visit.toNat % 8) + s.ldg.visit.toNat / 8) = 0)
    (hclear : s.ldg.suspect.contains (0x4000 * (s.ldg.visit.toNat % 8) + s.ldg.visit.toNat / 8) = false)
    (hagree : ∀ e ∈ s.ldg.inlay, e.agree = true) :
    s.planeVisit = s.modLdg fun g =>
      if s.ldg.visit.toNat = 131071 then { g with visit := 0, passes := satAdd g.passes 1, ovfEvent := false }
      else { g with visit := g.visit + 1 } := by
  unfold State.planeVisit
  rw [hempty]
  dsimp only
  by_cases hlast : s.ldg.visit.toNat = 131071
  · simp only [if_pos hlast]
    refine State.planeLine_sound ?_ ?_ ?_ false
    exacts [hpass, hclear, hagree]
  · simp only [if_neg hlast]
    refine State.planeLine_sound ?_ ?_ ?_ false
    exacts [hpass, hclear, hagree]

/-- No check difference is kept of a line whose check word is right. -/
theorem Ledger.setDiff_zero_diff (g : Ledger) (line : Nat) : (g.setDiff line 0).diff line = 0 := by
  have hnone : (g.chk.filter fun c => c.1 != line).find? (fun c => c.1 == line) = none := by
    rw [List.find?_eq_none]
    intro c hc
    simpa using (List.mem_filter.mp hc).2
  unfold Ledger.setDiff Ledger.diff
  dsimp only
  rw [if_pos rfl, hnone]

/-- A line stored with no flip armed, in cells that hold what is written, passes its check (R399). -/
theorem State.storeLine_passes {s : State} {line : Nat} (hflip : s.ldg.flip = 0) (hcells : s.ldg.badLines.contains line = false)
    (l : List Byte) : (s.storeLine line l 0).ldg.diff line = 0 := by
  have hgood : s.ldg.cellBad line = false := by rw [Ledger.cellBad, hcells, Bool.false_and]
  unfold State.storeLine
  simp only [hflip, bne_self_eq_false, Bool.false_and, hgood, Bool.false_eq_true, false_and, if_false]
  exact Ledger.setDiff_zero_diff _ line

/-- A line that passes is no longer SUSPECT, nor queued, and its bytes and check words are kept. -/
theorem State.verifyLine_passing {s : State} {line : Nat} (hpass : s.ldg.diff line = 0) (l : List Byte) :
    s.ldg.Kept (s.verifyLine line l).ldg ∧ line ∉ (s.verifyLine line l).ldg.suspect ∧ line ∉ (s.verifyLine line l).ldg.queue := by
  have hgone (xs : List Nat) : line ∉ xs.filter (· != line) := by simp
  rw [State.verifyLine, if_pos hpass]
  exact ⟨⟨rfl, rfl, rfl, rfl, rfl, rfl, rfl, rfl⟩, hgone _, hgone _⟩

/-- What the check of a line compares is kept. -/
theorem Ledger.Kept.diff {g k : Ledger} (h : g.Kept k) (line : Nat) : k.diff line = g.diff line := by
  rw [Ledger.diff, h.chk, Ledger.diff]

/-- A line that Plane has put right: it passes with the bytes given, and every other line is as it was. -/
structure State.Repaired (s t : State) (line : Nat) (l : List Byte) : Prop where
  passes : t.ldg.diff line = 0
  stored : t.ldg.stored line = l
  clear : line ∉ t.ldg.suspect
  unqueued : line ∉ t.ldg.queue
  others : ∀ x, x / 64 ≠ line → memGet x t.ldg.mem = memGet x s.ldg.mem

/-- Bytes of a list, one by one. -/
theorem map_getD_range {l : List Byte} {n : Nat} (h : l.length = n) : ((List.range n).map fun i => l.getD i 0) = l := by
  apply List.ext_getElem
  · rw [List.length_map, List.length_range, h]
  · intro i hi hi'
    rw [List.getElem_map, List.getElem_range, List.getD_eq_getElem _ _ hi']

/-- Plane's rewrite of a line puts it right (R393). -/
theorem State.planeRewrite_repairs {s : State} (h : s.ldg.Ok) {line : Nat} {l : List Byte} (hline : 0x4000 ≤ line)
    (hwhole : l.length = 64) (hflip : s.ldg.flip = 0) (hcells : s.ldg.badLines.contains line = false) :
    s.Repaired (s.planeRewrite line l) line l := by
  have hput := State.storeLine_whole h (line := line) hwhole 0
  have hok := State.storeLine_ok h line l 0
  have hpass := State.storeLine_passes hflip hcells l
  obtain ⟨hkept, hclear, hunqueued⟩ := State.verifyLine_passing hpass l
  refine ⟨(hkept.diff line).trans hpass, ?_, hclear, hunqueued, fun x hx => ?_⟩
  · rw [State.planeRewrite, hkept.stored, hok.stored_eq hline]
    refine Eq.trans (List.map_congr_left fun i hi => ?_) (map_getD_range hwhole)
    have hi' := List.mem_range.mp hi
    rw [hput.mem, if_pos (by omega), Nat.add_zero, Nat.add_sub_cancel_left]
  · rw [State.planeRewrite, hkept.mem, hput.mem, if_neg (by omega)]

/-- A failing MIRROR line reads as its passing twin, corrected (R388). -/
theorem State.readLine_mirror {s : State} {line : Nat} (hclass : classOf line = .mirror) (hwritten : s.ldg.isWritten line = true)
    (hfails : s.ldg.diff line ≠ 0) (hagree : ∀ e ∈ s.ldg.inlay, e.line = line → e.agree = true)
    (htwin : s.ldg.isWritten (twinOf line) = true) (hpass : s.ldg.diff (twinOf line) = 0) (f : Finder) :
    s.readLine f line = (.corrected, s.ldg.stored (twinOf line), s.noteCorrected line f) := by
  have hsource : s.cleanSource line = (some (s.ldg.stored (twinOf line)), s) := by
    unfold State.cleanSource
    rw [hclass]
    dsimp only
    rw [if_pos ⟨htwin, hpass⟩]
  unfold State.readLine
  dsimp only
  rw [hwritten, Bool.not_true, if_neg Bool.false_ne_true, State.inlayCheck_agree hagree]
  dsimp only
  rw [if_neg Bool.false_ne_true, if_neg hfails, hsource]

/-- Plane rewrites a failing MIRROR line from its passing twin (R393). -/
theorem State.planeLine_mirror {s : State} {line : Nat} (hclass : classOf line = .mirror) (hwritten : s.ldg.isWritten line = true)
    (hfails : s.ldg.diff line ≠ 0) (hagree : ∀ e ∈ s.ldg.inlay, e.line = line → e.agree = true)
    (htwin : s.ldg.isWritten (twinOf line) = true) (hpass : s.ldg.diff (twinOf line) = 0) (served : Bool) :
    s.planeLine line served = (s.noteCorrected line .plane).planeRewrite line (s.ldg.stored (twinOf line)) := by
  have hfail : (s.ldg.diff line != 0) = true := bne_iff_ne.mpr hfails
  unfold State.planeLine
  rw [State.inlayCheck_agree hagree]
  dsimp only
  rw [if_pos hwritten, hwritten, hfail, Bool.not_true, Bool.true_or, Bool.not_true, Bool.or_false,
    if_neg Bool.false_ne_true, hclass]
  dsimp only
  rw [if_pos rfl, State.readLine_mirror hclass hwritten hfails hagree htwin hpass]

/-- The lines of the two copies of the MIRROR tables (R383, R386). -/
theorem mirror_lines {line : Nat} (h : classOf line = .mirror) : 0x4000 ≤ line ∧ 0x4000 ≤ twinOf line := by
  unfold classOf at h
  unfold twinOf
  split at h
  · cases h
  · split at h
    · split <;> omega
    · split at h
      · cases h
      · split at h
        · split <;> omega
        · cases h

/-- Plane's visit to a queued MIRROR line that fails, with a passing twin, puts it right (R393). -/
theorem State.planeVisit_repairs {s : State} (h : s.ldg.Ok) {line : Nat} {rest : List Nat} (hqueue : s.ldg.queue = line :: rest)
    (hclass : classOf line = .mirror) (hwritten : s.ldg.isWritten line = true) (hfails : s.ldg.diff line ≠ 0)
    (htwin : s.ldg.isWritten (twinOf line) = true) (hpass : s.ldg.diff (twinOf line) = 0)
    (hfree : ∀ e ∈ s.ldg.inlay, e.line ≠ line) (hflip : s.ldg.flip = 0) (hcells : s.ldg.badLines.contains line = false) :
    s.Repaired s.planeVisit line (s.ldg.stored (twinOf line)) := by
  obtain ⟨hline, htwinLine⟩ := mirror_lines hclass
  let u := s.modLdg fun g => { g with queue := rest }
  have hok : u.ldg.Ok := h.of_eq rfl rfl rfl
  have hnoted := (u.noteCorrected_read line .plane).ldg
  have hfixed := State.planeRewrite_repairs (State.noteCorrected_ok hok line .plane) hline (l := s.ldg.stored (twinOf line))
    (h.stored_length htwinLine) (hnoted.flip.trans hflip) (by rw [hnoted.badLines]; exact hcells)
  have hvisit : s.planeVisit = u.planeLine line true := by rw [State.planeVisit, hqueue]
  have hrepair : u.planeLine line true = (u.noteCorrected line .plane).planeRewrite line (s.ldg.stored (twinOf line)) :=
    State.planeLine_mirror (s := u) hclass hwritten hfails (fun e he hat => absurd hat (hfree e he)) htwin hpass true
  rw [hvisit, hrepair]
  exact ⟨hfixed.passes, hfixed.stored, hfixed.clear, hfixed.unqueued, fun x hx => (hfixed.others x hx).trans (by rw [hnoted.mem]; rfl)⟩

/-- PLANE_VISIT is Plane's visit, from the end of step 5 on (R77, R392). -/
theorem exec_planeVisit {s : State} (h : s.hubSide = true) : exec .planeVisit s = .next s.planeVisit := by
  rw [show exec .planeVisit s = execPlaneVisit s from rfl, execPlaneVisit, if_pos h]

end Sys2Proof.Machine
end

section
/-! The Ledger commands and Plane. -/
namespace Sys2Proof.Machine

/-- Settles O23: each command's body, and each visit of Plane, by the reads and writes of lines that it makes. -/
theorem ledgerCommandsReadWriteAndRepair : Obligations.LedgerCommandsReadWriteAndRepair := by
  unfold Obligations.LedgerCommandsReadWriteAndRepair
  refine ⟨fun a s hok htakes => ⟨fun haddr hlen hlo _ hsound => ?_, fun haddr hlen hlo hhi hno => ?_, fun hodd => ?_⟩,
    fun a s hok htakes => ⟨fun haddr hlen => ?_, fun hodd => ?_⟩, fun a s htakes => ⟨_, rfl, issue_planeCfg htakes⟩,
    fun a s htakes => ?_, fun s hside => ⟨fun hempty hpass hclear hagree => ?_,
      fun line rest hok hqueue hclass hwritten hfails htwin hpass hfree hflip hcells => ?_⟩⟩
  · exact ⟨_, rfl, issue_ldgRd_sound hok htakes haddr hlen hlo hsound⟩
  · exact ⟨_, rfl, issue_ldgRd_unwritten htakes haddr hlen hlo hhi hno⟩
  · exact ⟨_, rfl, issue_unchanged (o := opLdgRd) htakes (ldgRdBody_unaligned hodd)⟩
  · exact ⟨_, rfl, issue_ldgWr hok htakes haddr hlen⟩
  · exact ⟨_, rfl, issue_unchanged (o := opLdgWr) htakes (ldgWrBody_unaligned hodd)⟩
  · obtain ⟨hans, hsame⟩ := issue_inlayQuery htakes
    exact ⟨_, _, rfl, hans, s.ldg.inlayBytes_length, hsame, s.ldg.inlayBytes_entry⟩
  · refine ⟨_, exec_planeVisit hside, ?_⟩
    rw [State.planeVisit_sweeps hempty hpass hclear hagree]
    by_cases hlast : s.ldg.visit.toNat = 131071
    · simp only [if_pos hlast]
      exact ⟨BitVec.eq_of_toNat_eq (by simp [BitVec.toNat_add, hlast]), rfl, rfl, rfl, rfl, rfl⟩
    · simp only [if_neg hlast]
      exact ⟨rfl, rfl, rfl, rfl, rfl, rfl⟩
  · obtain ⟨hpasses, hstored, hclear, hunqueued, hothers⟩ :=
      State.planeVisit_repairs hok hqueue hclass hwritten hfails htwin hpass hfree hflip hcells
    exact ⟨_, exec_planeVisit hside, hpasses, hstored, hclear, hunqueued, hothers⟩

end Sys2Proof.Machine
end

section
/-! SUPPORT. What leaves the queue: one lemma per operation of the model outside the Ledger, in the order of the model's files. -/
namespace Sys2Proof.Machine

/-! ### Choices and folds -/

@[simp] theorem State.ite_pending (c : Prop) [Decidable c] (s t : State) :
    (if c then s else t).pending = if c then s.pending else t.pending := apply_ite State.pending c s t
/-- A fold over changes that leave the queue leaves it. -/
@[simp] theorem foldl_pending {α : Type} (f : State → α → State) (l : List α) (s : State)
    (hf : ∀ (t : State) (a : α), (f t a).pending = t.pending) : (l.foldl f s).pending = s.pending :=
  foldl_inv (fun t : State => t.pending = s.pending) f (fun t a h => (hf t a).trans h) l s rfl
@[simp] theorem State.ite_snd_pending {α : Type} (c : Prop) [Decidable c] (x y : α × State) :
    (if c then x else y).2.pending = if c then x.2.pending else y.2.pending := apply_ite (fun z : α × State => z.2.pending) c x y
/-- A fold that carries the state beside a value, over changes that leave the queue, leaves it. -/
@[simp] theorem foldl_snd_pending {α β : Type} (f : β × State → α → β × State) (l : List α) (a : β × State)
    (hf : ∀ (b : β × State) (x : α), (f b x).2.pending = b.2.pending) : (l.foldl f a).2.pending = a.2.pending :=
  foldl_inv (fun b : β × State => b.2.pending = a.2.pending) f (fun b x h => (hf b x).trans h) l a rfl

/-! ### Machine/Ops -/

@[simp] theorem State.freeBit_pending (s : State) : s.freeBit.2.pending = s.pending := by simp [State.freeBit]
@[simp] theorem State.freeBelow_pending (s : State) (n : Nat) : (State.freeBelow n s).2.pending = s.pending := by
  simp [State.freeBelow]
@[simp] theorem State.freeBytes_pending (s : State) (n : Nat) : (State.freeBytes n s).2.pending = s.pending := by
  simp [State.freeBytes]
@[simp] theorem State.slotEventExt_pending (s : State) (h : SlotId) (code : Nat) (port : Option PortId) (data : Nat)
    (payload : List Byte) : (s.slotEventExt h code port data payload).pending = s.pending := by simp [State.slotEventExt]
@[simp] theorem State.portEvent_pending (s : State) (k : PortId) (code aux data : Nat) :
    (s.portEvent k code aux data).pending = s.pending := by
  unfold State.portEvent; split <;> simp
@[simp] theorem State.slotsEvent_pending (s : State) (hs : List SlotId) (code aux data : Nat) :
    (s.slotsEvent hs code aux data).pending = s.pending := by simp [State.slotsEvent]
@[simp] theorem State.postHeld_pending (s : State) : s.postHeld.pending = s.pending := by
  exact s.postHeld_evented.pending
@[simp] theorem State.stileEvent_pending (s : State) (k : PortId) (code aux data : Nat) (ext : Option (List Byte)) :
    (s.stileEvent k code aux data ext).pending = s.pending := by
  unfold State.stileEvent; split <;> simp
@[simp] theorem State.deliverKept_pending (s : State) (i : StileId) : (s.deliverKept i).pending = s.pending := by
  exact (s.deliverKept_evented i).pending
@[simp] theorem State.raiseHold_pending (s : State) (g : GroupId) (c : Cause) (who : Option ChanId) :
    (s.raiseHold g c who).pending = s.pending := by simp [State.raiseHold]
@[simp] theorem State.holdPort_pending (s : State) (k : PortId) (c : Cause) : (s.holdPort k c).pending = s.pending := by
  simp [State.holdPort]

/-! ### Machine/Lines -/

@[simp] theorem State.openLine_pending (s : State) (line : Nat) : (s.openLine line).2.2.pending = s.pending :=
  (s.openLine_read line).rest.pending

/-! ### Machine/Tags -/

@[simp] theorem State.finishSlot_pending (s : State) (h : SlotId) (e : TillEntry) (st : Status) (r0 : Word) (data : List Byte) :
    (s.finishSlot h e st r0 data).pending = s.pending := by simp [State.finishSlot]
@[simp] theorem State.finishMbx_pending (s : State) (e : TillEntry) (st : Status) (r0 : Word) (data : List Byte) :
    (s.finishMbx e st r0 data).pending = s.pending := by simp [State.finishMbx]
@[simp] theorem State.noteEnded_pending (s : State) (h : SlotId) (e : TillEntry) (st : Status) :
    (s.noteEnded h e st).pending = s.pending := by
  unfold State.noteEnded; split <;> simp
@[simp] theorem State.outrank_pending (s : State) (k : PortId) (st : Status) : (s.outrank k st).pending = s.pending := by
  exact foldl_pending _ _ _ fun _ _ => by rfl
@[simp] theorem State.endSlotTags_pending (s : State) (h : SlotId) (p : TillEntry → Bool) (st : Status) :
    (s.endSlotTags h p st).pending = s.pending := by simp [State.endSlotTags]
@[simp] theorem State.orphan_pending (s : State) (h : SlotId) (p : TillEntry → Bool) : (s.orphan h p).pending = s.pending := by
  simp [State.orphan]
@[simp] theorem State.endMbxTag_pending (s : State) (p : TillEntry → Bool) (st : Status) :
    (s.endMbxTag p st).pending = s.pending := by
  unfold State.endMbxTag; split <;> simp
@[simp] theorem State.endTags_pending (s : State) (p : TillEntry → Bool) (st : Status) : (s.endTags p st).pending = s.pending := by
  simp [State.endTags]
@[simp] theorem State.endWith_pending (s : State) (p : TillEntry → Bool) (st : Status) (r0 : Word) :
    (s.endWith p st r0).pending = s.pending := by
  unfold State.endWith; dsimp only; split <;> simp
@[simp] theorem State.endWaits_pending (s : State) (p : Wait → Bool) (st : Status) : (s.endWaits p st).pending = s.pending := by
  simp [State.endWaits]
@[simp] theorem State.modEntries_pending (s : State) (p : TillEntry → Bool) (f : TillEntry → TillEntry) :
    (s.modEntries p f).pending = s.pending := by simp [State.modEntries]

/-! ### Machine/Issue -/

@[simp] theorem Res.fail_pending (s : State) (st : Status) : (Res.fail st s).state.pending = s.pending := by simp [Res.fail]
@[simp] theorem Res.ok_pending (s : State) : (Res.ok s).state.pending = s.pending := by simp [Res.ok]
@[simp] theorem State.undrained_pending (s : State) : s.undrained.pending = s.pending := by simp [State.undrained]
@[simp] theorem State.drainAs_pending (s : State) (u : State) : (s.drainAs u).pending = s.pending := by simp [State.drainAs]
@[simp] theorem State.rejectTag_pending (s : State) (h : SlotId) (e : TillEntry) : (s.rejectTag h e).pending = s.pending := by
  simp [State.rejectTag]
@[simp] theorem State.writeMbx_pending (s : State) (op : Byte) (a : CmdArgs) : (s.writeMbx op a).pending = s.pending := by
  simp [State.writeMbx]

/-! ### Machine/PortUsb -/

@[simp] theorem State.hubChange_pending (s : State) (h : SlotId) (k : PortId) (f : HubChange → HubChange) :
    (s.hubChange h k f).pending = s.pending := by simp [State.hubChange]
@[simp] theorem State.relayChange_pending (s : State) (k : PortId) (f : HubChange → HubChange) :
    (s.relayChange k f).pending = s.pending := by
  unfold State.relayChange; split <;> simp
@[simp] theorem State.leaveActive_pending (s : State) (k : PortId) : (s.leaveActive k).pending = s.pending := by
  simp [State.leaveActive]
@[simp] theorem State.loseDevice_pending (s : State) (k : PortId) (dst : PortState) (st : Status) (tell : Bool)
    (which : Wait → Bool) : (s.loseDevice k dst st tell which).pending = s.pending := by simp [State.loseDevice]

/-! ### Machine/Power -/

@[simp] theorem State.powerEvent_pending (s : State) (k : PortId) (aux data : Nat) :
    (s.powerEvent k aux data).pending = s.pending := by
  simp [State.powerEvent]
@[simp] theorem State.requestQueued_pending (s : State) (k : PortId) : (s.requestQueued k).pending = s.pending := by
  simp [State.requestQueued]
@[simp] theorem State.removeRequest_pending (s : State) (k : PortId) : (s.removeRequest k).pending = s.pending := by
  simp [State.removeRequest]
@[simp] theorem State.tryQueue_pending (s : State) (k : PortId) : (s.tryQueue k).pending = s.pending := by simp [State.tryQueue]
@[simp] theorem State.wantPower_pending (s : State) (k : PortId) : (s.wantPower k).pending = s.pending := by
  simp [State.wantPower]
@[simp] theorem State.grant_pending (s : State) (k : PortId) : (s.grant k).pending = s.pending := by simp [State.grant]
@[simp] theorem grantPass_pending (s : State) (l : List PortId) : (grantPass l s).pending = s.pending := by
  induction l generalizing s with
  | nil => rfl
  | cons k l ih =>
    unfold grantPass
    (repeat' split) <;> simp [ih]
@[simp] theorem State.pdEvent_pending (s : State) (k : PortId) (aux data : Nat) : (s.pdEvent k aux data).pending = s.pending := by
  simp [State.pdEvent]
@[simp] theorem State.vconnClose_pending (s : State) (k : PortId) : (s.vconnClose k).pending = s.pending := by
  simp [State.vconnClose]
@[simp] theorem State.tryVconn_pending (s : State) (k : PortId) (tell : Bool) : (s.tryVconn k tell).pending = s.pending := by
  simp [State.tryVconn]
@[simp] theorem State.returnVconn_pending (s : State) (k : PortId) : (s.returnVconn k).pending = s.pending := by
  simp [State.returnVconn]
@[simp] theorem State.vconnOff_pending (s : State) (k : PortId) : (s.vconnOff k).pending = s.pending := by simp [State.vconnOff]
@[simp] theorem State.pathsOff_pending (s : State) (k : PortId) (disch : Bool) : (s.pathsOff k disch).pending = s.pending := by
  simp [State.pathsOff]
@[simp] theorem State.switchOff_pending (s : State) (k : PortId) : (s.switchOff k).pending = s.pending := by
  simp [State.switchOff]
@[simp] theorem State.vbusGone_pending (s : State) (k : PortId) (mv : Nat) : (s.vbusGone k mv).pending = s.pending := by
  simp [State.vbusGone]
@[simp] theorem State.forceOff_pending (s : State) (k : PortId) (fromAux : Option (Nat × Nat)) :
    (s.forceOff k fromAux).pending = s.pending := by
  unfold State.forceOff; dsimp only; (repeat' split) <;> simp
@[simp] theorem State.trip_pending (s : State) (k : PortId) (kind : TripKind) : (s.trip k kind).pending = s.pending := by
  unfold State.trip; split <;> simp
@[simp] theorem State.reportTx_pending (s : State) (k : PortId) (x : PdTx) (st : Status) :
    (s.reportTx k x st).pending = s.pending := by
  simp [State.reportTx]
@[simp] theorem State.pdDetach_pending (s : State) (k : PortId) (c : CcState) (inTransition had : Bool) :
    (s.pdDetach k c inTransition had).pending = s.pending := by simp [State.pdDetach]
@[simp] theorem State.detach_pending (s : State) (k : PortId) (c : CcState) (seat : Bool) :
    (s.detach k c seat).pending = s.pending := by
  simp [State.detach]
@[simp] theorem State.takeContract_pending (s : State) (k : PortId) (c : Contract) : (s.takeContract k c).pending = s.pending := by
  simp [State.takeContract]
@[simp] theorem State.dropContract_pending (s : State) (k : PortId) : (s.dropContract k).pending = s.pending := by
  simp [State.dropContract]

/-! ### Machine/OrderRules -/

@[simp] theorem State.refreshOrders_pending (s : State) : s.refreshOrders.pending = s.pending := by simp [State.refreshOrders]
@[simp] theorem State.rejudge_pending (s : State) (k : PortId) : (s.rejudge k).pending = s.pending := by
  have h : ∀ l, l = allOrders → (s.rejudge k).pending = s.pending := by
    intro l hl
    rw [State.rejudge, ← hl]
    apply foldl_snd_pending
    intro a n
    dsimp only
    (repeat' split) <;> simp
  exact h _ rfl

/-! ### Machine/Pd -/

@[simp] theorem State.stileSend_pending (s : State) (k : PortId) (bytes : List Byte) (o : TxOrigin)
    (replyTo : Option (Nat × Nat)) : (s.stileSend k bytes o replyTo).pending = s.pending := by simp [State.stileSend]
@[simp] theorem State.sendPsRdy_pending (s : State) (k : PortId) (o : TxOrigin) : (s.sendPsRdy k o).pending = s.pending := by
  simp [State.sendPsRdy]
@[simp] theorem State.sendDue_pending (s : State) (k : PortId) : (s.sendDue k).pending = s.pending := by
  unfold State.sendDue; split <;> simp
@[simp] theorem State.releaseVconn_pending (s : State) (k : PortId) : (s.releaseVconn k).pending = s.pending := by
  simp [State.releaseVconn]
@[simp] theorem State.unsend_pending (s : State) (k : PortId) (x : PdTx) : (s.unsend k x).pending = s.pending := by
  simp [State.unsend]
@[simp] theorem State.dropHeld_pending (s : State) (k : PortId) : (s.dropHeld k).pending = s.pending := by
  unfold State.dropHeld; split <;> simp
@[simp] theorem State.cutTx_pending (s : State) (k : PortId) : (s.cutTx k).pending = s.pending := by
  have h : ∀ (l : List PdTx) (t : State), (l.foldl (fun t x => (t.unsend k x).reportTx k x .eXact) t).pending = t.pending :=
    fun l t => foldl_pending _ l t fun t x => by simp
  unfold State.cutTx
  dsimp only
  split <;> simp only [State.reportTx_pending, State.dropHeld_pending, h, State.modPd_pending]
@[simp] theorem State.hardReset_pending (s : State) (k : PortId) (aux data : Nat) :
    (s.hardReset k aux data).pending = s.pending := by
  simp [State.hardReset]
@[simp] theorem State.beginVconnSwap_pending (s : State) (k : PortId) : (s.beginVconnSwap k).pending = s.pending := by
  simp [State.beginVconnSwap]
@[simp] theorem State.beginTransition_pending (s : State) (k : PortId) (c : Contract) :
    (s.beginTransition k c).pending = s.pending := by
  simp [State.beginTransition]
@[simp] theorem State.contractInForce_pending (s : State) (k : PortId) : (s.contractInForce k).pending = s.pending := by
  unfold State.contractInForce; split <;> simp
@[simp] theorem State.setEpr_pending (s : State) (k : PortId) (on : Bool) : (s.setEpr k on).pending = s.pending := by
  simp [State.setEpr]
@[simp] theorem State.sentEffect_pending (s : State) (k : PortId) (x : PdTx) : (s.sentEffect k x).pending = s.pending := by
  unfold State.sentEffect; dsimp only; (repeat' split) <;> simp
@[simp] theorem State.sent_pending (s : State) (k : PortId) (x : PdTx) : (s.sent k x).pending = s.pending := by
  simp [State.sent]
@[simp] theorem State.sendFailed_pending (s : State) (k : PortId) (x : PdTx) : (s.sendFailed k x).pending = s.pending := by
  unfold State.sendFailed; split <;> simp
@[simp] theorem State.autoRespond_pending (s : State) (k : PortId) : (s.autoRespond k).pending = s.pending := by
  unfold State.autoRespond; split <;> simp
@[simp] theorem State.acceptRx_pending (s : State) (k : PortId) (sop : BitVec 2) (m : List Byte) :
    (s.acceptRx k sop m).2.pending = s.pending := by simp [State.acceptRx]
@[simp] theorem State.deferTx_pending (s : State) (k : PortId) : (s.deferTx k).pending = s.pending := by
  unfold State.deferTx; split <;> simp
@[simp] theorem State.dropChunks_pending (s : State) (k : PortId) (sop : BitVec 2) : (s.dropChunks k sop).pending = s.pending := by
  unfold State.dropChunks; split <;> simp
@[simp] theorem State.deliverRx_pending (s : State) (k : PortId) (sop : BitVec 2) (m : List Byte) :
    (s.deliverRx k sop m).pending = s.pending := by
  unfold State.deliverRx; dsimp only; split <;> simp
@[simp] theorem State.vconnAnswer_pending (s : State) (k : PortId) (m : List Byte) : (s.vconnAnswer k m).pending = s.pending := by
  simp [State.vconnAnswer]
@[simp] theorem State.vconnPsRdy_pending (s : State) (k : PortId) : (s.vconnPsRdy k).pending = s.pending := by
  simp [State.vconnPsRdy]
@[simp] theorem State.softReset_pending (s : State) (k : PortId) (sop : BitVec 2) : (s.softReset k sop).pending = s.pending := by
  simp [State.softReset]
@[simp] theorem State.keepAlive_pending (s : State) (k : PortId) : (s.keepAlive k).pending = s.pending := by
  simp [State.keepAlive]
@[simp] theorem State.bistMsg_pending (s : State) (k : PortId) (mode : Nat) : (s.bistMsg k mode).pending = s.pending := by
  simp [State.bistMsg]
@[simp] theorem State.handleSop_pending (s : State) (k : PortId) (m : List Byte) : (s.handleSop k m).pending = s.pending := by
  simp [State.handleSop]
@[simp] theorem State.reassemble_pending (s : State) (k : PortId) (sop : BitVec 2) (m : List Byte) :
    (s.reassemble k sop m).2.pending = s.pending := by simp [State.reassemble]
@[simp] theorem State.handle_pending (s : State) (k : PortId) (sop : BitVec 2) (m : List Byte) :
    (s.handle k sop m).pending = s.pending := by
  unfold State.handle; dsimp only; (repeat' split) <;> simp
@[simp] theorem State.receive_pending (s : State) (k : PortId) (sop : BitVec 2) (m : List Byte) :
    (s.receive k sop m).pending = s.pending := by simp [State.receive]
@[simp] theorem State.enableCc_pending (s : State) (k : PortId) : (s.enableCc k).pending = s.pending := by simp [State.enableCc]
@[simp] theorem State.attach_pending (s : State) (k : PortId) : (s.attach k).pending = s.pending := by simp [State.attach]

/-! ### Machine/Ports -/

@[simp] theorem State.proxyReset_pending (s : State) (k : PortId) (attempt : Nat) :
    (s.proxyReset k attempt).pending = s.pending := by
  simp [State.proxyReset]
@[simp] theorem State.disableRelay_pending (s : State) (k : PortId) : (s.disableRelay k).pending = s.pending := by
  simp [State.disableRelay]
@[simp] theorem State.startResume_pending (s : State) (k : PortId) : (s.startResume k).pending = s.pending := by
  simp [State.startResume]
@[simp] theorem State.toOff_pending (s : State) (k : PortId) : (s.toOff k).pending = s.pending := by simp [State.toOff]
@[simp] theorem State.changeMode_pending (s : State) (k : PortId) (m : PortMode) : (s.changeMode k m).pending = s.pending := by
  unfold State.changeMode
  cases m with
  | off => simp
  | relay | proxy =>
    dsimp only
    split
    · simp
    · rw [State.ite_pending, State.modPort_pending, State.disableRelay_pending, ite_self]
      split <;> simp
@[simp] theorem portModeBody_pending (s : State) (a : CmdArgs) : (portModeBody s a).state.pending = s.pending := by
  simp [portModeBody]
@[simp] theorem State.cyclePaths_pending (s : State) (k : PortId) : (s.cyclePaths k).pending = s.pending := by
  simp [State.cyclePaths]
@[simp] theorem portCycleBody_pending (s : State) (k : PortId) : (portCycleBody s k).state.pending = s.pending := by
  simp [portCycleBody]
@[simp] theorem portResetBody_pending (s : State) (a : CmdArgs) : (portResetBody s a).state.pending = s.pending := by
  simp [portResetBody]
@[simp] theorem State.suspendPort_pending (s : State) (k : PortId) : (s.suspendPort k).pending = s.pending := by
  simp [State.suspendPort]
@[simp] theorem State.followSlot_pending (s : State) (k : PortId) : (s.followSlot k).pending = s.pending := by
  simp [State.followSlot]
@[simp] theorem State.followHub_pending (s : State) (k : PortId) : (s.followHub k).pending = s.pending := by
  unfold State.followHub; split <;> simp
@[simp] theorem portSuspendBody_pending (s : State) (a : CmdArgs) : (portSuspendBody s a).state.pending = s.pending := by
  unfold portSuspendBody; dsimp only; (repeat' split) <;> simp
@[simp] theorem portResumeBody_pending (s : State) (a : CmdArgs) : (portResumeBody s a).state.pending = s.pending := by
  simp [portResumeBody]
@[simp] theorem State.abortOwner_pending (s : State) (h : SlotId) (k : PortId) : (s.abortOwner h k).pending = s.pending := by
  simp [State.abortOwner]
@[simp] theorem State.changeOwner_pending (s : State) (k : PortId) (new : Option SlotId) :
    (s.changeOwner k new).pending = s.pending := by
  unfold State.changeOwner
  cases s.owner k <;> cases new <;> simp
@[simp] theorem State.reply_pending (s : State) (h : SlotId) (r : CtlReply) : (s.reply h r).pending = s.pending := by
  simp [State.reply]
@[simp] theorem State.ttStall_pending (s : State) (h : SlotId) (k : PortId) : (s.ttStall h k).pending = s.pending := by
  simp [State.ttStall]
@[simp] theorem State.portError_pending (s : State) (k : PortId) (aux : Nat) : (s.portError k aux).pending = s.pending := by
  simp [State.portError]
@[simp] theorem State.ttOverflow_pending (s : State) (k : PortId) : (s.ttOverflow k).pending = s.pending := by
  simp [State.ttOverflow]
@[simp] theorem State.slotWake_pending (s : State) (k : PortId) (relay : Bool) : (s.slotWake k relay).pending = s.pending := by
  simp [State.slotWake]

/-! ### Machine/Proxy -/

@[simp] theorem State.refuse_pending (s : State) (k : PortId) (reason : Nat) : (s.refuse k reason).pending = s.pending := by
  simp [State.refuse]
@[simp] theorem State.enumFail_pending (s : State) (k : PortId) (reason : Nat) : (s.enumFail k reason).pending = s.pending := by
  simp [State.enumFail]
@[simp] theorem State.enumDone_pending (s : State) (k : PortId) (restored changed : Bool) :
    (s.enumDone k restored changed).pending = s.pending := by simp [State.enumDone]
@[simp] theorem State.compareIdentity_pending (s : State) (k : PortId) (serial : List Byte) :
    (s.compareIdentity k serial).pending = s.pending := by
  unfold State.compareIdentity; dsimp only; split <;> simp
@[simp] theorem State.nextConfig_pending (s : State) (k : PortId) (c : Nat) : (s.nextConfig k c).pending = s.pending := by
  simp [State.nextConfig]
@[simp] theorem State.enumData_pending (s : State) (k : PortId) (l : List Byte) : (s.enumData k l).pending = s.pending := by
  unfold State.enumData; dsimp only; (repeat' split) <;> simp
@[simp] theorem State.enumBad_pending (s : State) (k : PortId) (reason : Nat) : (s.enumBad k reason).pending = s.pending := by
  unfold State.enumBad; split <;> simp
@[simp] theorem State.enumBabble_pending (s : State) (k : PortId) : (s.enumBabble k).pending = s.pending := by
  simp [State.enumBabble]
@[simp] theorem State.babble_pending (s : State) (k : PortId) : (s.babble k).pending = s.pending := by simp [State.babble]
@[simp] theorem xferBody_pending (s : State) (op : Nat) (a : CmdArgs) : (xferBody op s a).state.pending = s.pending := by
  simp [xferBody]
@[simp] theorem State.clearHalt_pending (s : State) (k : PortId) (epb : Byte) : (s.clearHalt k epb).pending = s.pending := by
  simp [State.clearHalt]
@[simp] theorem State.ctrlDone_pending (s : State) (k : PortId) (setup : List Byte) : (s.ctrlDone k setup).pending = s.pending := by
  simp [State.ctrlDone]
@[simp] theorem State.endXfer_pending (s : State) (k : PortId) (e : TillEntry) (x : Xfer) (st : Status) :
    (s.endXfer k e x st).pending = s.pending := by
  unfold State.endXfer; split <;> simp

/-! ### Machine/Undo -/

@[simp] theorem State.undo_pending (s : State) (e : TillEntry) : (s.undo e).pending = s.pending := by
  unfold State.undo; simp; (repeat' split) <;> simp
@[simp] theorem State.abandonSlot_pending (s : State) (h : SlotId) (st : Status) : (s.abandonSlot h st).pending = s.pending := by
  simp [State.abandonSlot]
@[simp] theorem State.resetTags_pending (s : State) (h : SlotId) : (s.resetTags h).pending = s.pending := by
  simp [State.resetTags]

/-! ### Machine/Descriptors -/

@[simp] theorem State.clearFeature_pending (s : State) (h : SlotId) (k : Option PortId) (f : HubFeature) :
    (s.clearFeature h k f).pending = s.pending := by
  unfold State.clearFeature; split <;> simp

/-! ### Machine/Slots -/

@[simp] theorem State.suspendSlot_pending (s : State) (h : SlotId) : (s.suspendSlot h).pending = s.pending := by
  unfold State.suspendSlot
  split
  · rfl
  · dsimp only
    rw [foldl_pending _ _ _ fun t k => by (repeat' split) <;> simp, foldl_pending _ _ _ fun t k => by simp]
    rfl
@[simp] theorem State.exitS1_pending (s : State) : s.exitS1.pending = s.pending := by simp [State.exitS1]
@[simp] theorem State.resumeSlot_pending (s : State) (h : SlotId) : (s.resumeSlot h).pending = s.pending := by
  simp [State.resumeSlot]
@[simp] theorem State.suspendHub2_pending (s : State) (h : SlotId) : (s.suspendHub2 h).pending = s.pending := by
  simp [State.suspendHub2]
@[simp] theorem State.resumeHub2_pending (s : State) (h : SlotId) : (s.resumeHub2 h).pending = s.pending := by
  simp [State.resumeHub2]
@[simp] theorem State.toPort25_pending (s : State) (h : SlotId) : (s.toPort25 h).pending = s.pending := by simp [State.toPort25]
@[simp] theorem State.domainPresented_pending (s : State) (h : SlotId) : (s.domainPresented h).pending = s.pending := by
  simp [State.domainPresented]
@[simp] theorem State.presentSlot_pending (s : State) (h : SlotId) : (s.presentSlot h).pending = s.pending := by
  simp [State.presentSlot]
@[simp] theorem State.withdrawSlot_pending (s : State) (h : SlotId) : (s.withdrawSlot h).pending = s.pending := by
  simp [State.withdrawSlot]
@[simp] theorem State.resetRelay_pending (s : State) (h : SlotId) (k : PortId) : (s.resetRelay h k).pending = s.pending := by
  simp [State.resetRelay]
@[simp] theorem State.slotReset_pending (s : State) (h : SlotId) : (s.slotReset h).pending = s.pending := by
  simp [State.slotReset]
@[simp] theorem State.configured_pending (s : State) (h : SlotId) : (s.configured h).pending = s.pending := by
  unfold State.configured; dsimp only; split <;> simp
@[simp] theorem State.setConfiguration_pending (s : State) (h : SlotId) (f : SlotFunction) (on : Bool) :
    (s.setConfiguration h f on).pending = s.pending := by
  unfold State.setConfiguration; split <;> simp

/-! ### Machine/Reset -/

@[simp] theorem State.startUp_pending (s : State) (straps : Option (Bool × Bool)) : (s.startUp straps).pending = s.pending := by
  simp [State.startUp]

/-! ### Machine/Nightsafe -/

@[simp] theorem State.presenceEvent_pending (s : State) (aux data : Nat) : (s.presenceEvent aux data).pending = s.pending := by
  simp [State.presenceEvent]
@[simp] theorem State.clearTamper_pending (s : State) : s.clearTamper.pending = s.pending := by simp [State.clearTamper]
@[simp] theorem State.closePresence_pending (s : State) : s.closePresence.pending = s.pending := by simp [State.closePresence]
@[simp] theorem State.sealOpens_pending (s : State) : s.sealOpens.pending = s.pending := by
  unfold State.sealOpens; dsimp only; split <;> simp
@[simp] theorem State.sealCloses_pending (s : State) : s.sealCloses.pending = s.pending := by
  unfold State.sealCloses; dsimp only; split <;> simp
@[simp] theorem State.powerStateEvent_pending (s : State) (aux data : Nat) : (s.powerStateEvent aux data).pending = s.pending := by
  simp [State.powerStateEvent]
@[simp] theorem State.latchForceOff_pending (s : State) (r : Nat) : (s.latchForceOff r).pending = s.pending := by
  simp [State.latchForceOff]
@[simp] theorem State.tryClearForceOff_pending (s : State) : s.tryClearForceOff.pending = s.pending := by
  simp [State.tryClearForceOff]
@[simp] theorem State.ruleActs_pending (s : State) (r : Fin 16) (v : Nat) : (s.ruleActs r v).pending = s.pending := by
  simp [State.ruleActs]
@[simp] theorem State.runRules_pending (s : State) (i : Fin 16) : (s.runRules i).pending = s.pending := by simp [State.runRules]
@[simp] theorem State.applyNsf_pending (s : State) (addr : Nat) (v : Word) : (s.applyNsf addr v).pending = s.pending := by
  simp [State.applyNsf]
@[simp] theorem State.noteParity_pending (s : State) (addr : Nat) : (s.noteParity addr).pending = s.pending := by
  simp [State.noteParity]
@[simp] theorem State.nsfParity_pending (s : State) (addr : Nat) : (s.nsfParity addr).pending = s.pending := by
  simp [State.nsfParity]
@[simp] theorem State.applyPosted_pending (s : State) (l : List PostedWrite) : (State.applyPosted l s).pending = s.pending := by
  induction l generalizing s with
  | nil => rfl
  | cons w l ih =>
    unfold State.applyPosted
    dsimp only
    split
    · rw [ih]; simp
    · simp
@[simp] theorem State.slotOff_pending (s : State) (h : SlotId) : (s.slotOff h).pending = s.pending := by simp [State.slotOff]
@[simp] theorem State.stileOff_pending (s : State) (i : StileId) : (s.stileOff i).pending = s.pending := by
  exact foldl_pending _ _ _ fun t k => by dsimp only; split <;> simp
@[simp] theorem State.entryOff_pending (s : State) : s.entryOff.pending = s.pending := by simp [State.entryOff]
@[simp] theorem State.startDrain_pending (s : State) (d : Drain) : (s.startDrain d).pending = s.pending := by
  unfold State.startDrain
  simp only [State.modTeller_pending]
  exact foldl_pending _ _ _ fun _ _ => by rfl
@[simp] theorem State.wake_pending (s : State) (level : BitVec 2) (l : List (WakeCode × Byte)) :
    (s.wake level l).pending = s.pending := by
  unfold State.wake; split <;> simp
@[simp] theorem State.wakesOccur_pending (s : State) (l : List (WakeCode × Byte)) : (s.wakesOccur l).pending = s.pending := by
  unfold State.wakesOccur; dsimp only; (repeat' split) <;> simp
@[simp] theorem sleepBody_pending (s : State) (a : CmdArgs) : (sleepBody s a).state.pending = s.pending := by simp [sleepBody]
@[simp] theorem State.domainGoesOff_pending (s : State) (d : Nat) : (s.domainGoesOff d).pending = s.pending := by
  unfold State.domainGoesOff; dsimp only; (repeat' split) <;> simp
@[simp] theorem State.domainGoesOn_pending (s : State) (d : Nat) : (s.domainGoesOn d).pending = s.pending := by
  unfold State.domainGoesOn; dsimp only; (repeat' split) <;> simp
@[simp] theorem pwrDomainBody_pending (s : State) (a : CmdArgs) : (pwrDomainBody s a).state.pending = s.pending := by
  simp [pwrDomainBody]
@[simp] theorem State.drainOver_pending (s : State) : s.drainOver.pending = s.pending := by
  unfold State.drainOver; split <;> simp

/-! ### Machine/Vault -/

@[simp] theorem State.programRow_pending (s : State) (r : Nat) (v : Word) : (s.programRow r v).pending = s.pending := by
  unfold State.programRow; split <;> simp
@[simp] theorem otpWriteBody_pending (s : State) (a : CmdArgs) : (otpWriteBody s a).state.pending = s.pending := by
  simp [otpWriteBody]
@[simp] theorem vaultLockBody_pending (s : State) (a : CmdArgs) : (vaultLockBody s a).state.pending = s.pending := by
  simp [vaultLockBody]

/-! ### Machine/Boot -/

@[simp] theorem State.recordFail_pending (s : State) (slot : Bool) (c : Nat) : (s.recordFail slot c).pending = s.pending := by
  simp [State.recordFail]
@[simp] theorem State.applyPort_pending (s : State) (k : PortId) (e : ProfilePort) : (s.applyPort k e).pending = s.pending := by
  simp [State.applyPort]
@[simp] theorem State.applyProfile_pending (s : State) : s.applyProfile.pending = s.pending := by simp [State.applyProfile]
@[simp] theorem State.endStep6_pending (s : State) : s.endStep6.pending = s.pending := by simp [State.endStep6]
@[simp] theorem State.runImage_pending (s : State) (slot : Bool) (i : ImageInfo) : (s.runImage slot i).pending = s.pending := by
  simp [State.runImage]
@[simp] theorem State.enterRecovery_pending (s : State) : s.enterRecovery.pending = s.pending := by simp [State.enterRecovery]
@[simp] theorem State.checkReady_pending (s : State) : s.checkReady.pending = s.pending := by simp [State.checkReady]
@[simp] theorem fwStageBody_pending (s : State) (a : CmdArgs) : (fwStageBody s a).state.pending = s.pending := by
  simp [fwStageBody]
@[simp] theorem State.setImage_pending (s : State) (slot : Bool) (i : ImageInfo) : (s.setImage slot i).pending = s.pending := by
  simp [State.setImage]
@[simp] theorem fwCommitBody_pending (s : State) (n : CmdArgs) : (fwCommitBody s n).state.pending = s.pending := by
  simp [fwCommitBody]
@[simp] theorem fwSwapBody_pending (s : State) (n : CmdArgs) : (fwSwapBody s n).state.pending = s.pending := by
  unfold fwSwapBody; simp; (repeat' split) <;> simp
@[simp] theorem State.fwSwapped_pending (s : State) : s.fwSwapped.pending = s.pending := by simp [State.fwSwapped]
@[simp] theorem State.rollBack_pending (s : State) : s.rollBack.pending = s.pending := by simp [State.rollBack]
@[simp] theorem State.abortAll_pending (s : State) : s.abortAll.pending = s.pending := by
  unfold State.abortAll
  simp only [State.endWith_pending]
  exact foldl_pending _ _ _ fun t e => by simp
@[simp] theorem State.haltTeller_pending (s : State) : s.haltTeller.pending = s.pending := by simp [State.haltTeller]
@[simp] theorem State.firmwareFault_pending (s : State) : s.firmwareFault.pending = s.pending := by
  unfold State.firmwareFault; dsimp only; split <;> simp
@[simp] theorem State.rearmKeys_pending (s : State) : s.rearmKeys.pending = s.pending := by simp [State.rearmKeys]
@[simp] theorem State.restartTeller_pending (s : State) : s.restartTeller.pending = s.pending := by simp [State.restartTeller]

/-! ### Machine/Spline -/

@[simp] theorem State.returnCharges_pending (s : State) (k : PortId) : (s.returnCharges k).pending = s.pending := by
  simp [State.returnCharges]
@[simp] theorem State.shutPort_pending (s : State) (k : PortId) : (s.shutPort k).pending = s.pending := by simp [State.shutPort]
@[simp] theorem State.shutStile_pending (s : State) (i : StileId) : (s.shutStile i).pending = s.pending := by
  simp [State.shutStile]
@[simp] theorem State.linkGoesDown_pending (s : State) (i : StileId) : (s.linkGoesDown i).pending = s.pending := by
  simp [State.linkGoesDown]
@[simp] theorem State.resyncPort_pending (s : State) (k : PortId) : (s.resyncPort k).pending = s.pending := by
  simp [State.resyncPort]

/-! ### Machine/Tally -/

@[simp] theorem State.stampNear_pending (s : State) (x : Dword) (w : Nat) : (s.stampNear x w).2.pending = s.pending := by
  simp [State.stampNear]
@[simp] theorem State.tNow_pending (s : State) : s.tNow.2.pending = s.pending := by simp [State.tNow]
@[simp] theorem State.tallyEvent_pending (s : State) (aux data : Nat) : (s.tallyEvent aux data).pending = s.pending := by
  simp [State.tallyEvent]
@[simp] theorem State.enterHoldover_pending (s : State) : s.enterHoldover.pending = s.pending := by simp [State.enterHoldover]
@[simp] theorem State.refLost_pending (s : State) : s.refLost.pending = s.pending := by
  unfold State.refLost; dsimp only; (repeat' split) <;> simp
@[simp] theorem State.measureMissing_pending (s : State) : s.measureMissing.pending = s.pending := by
  unfold State.measureMissing; dsimp only; split <;> simp
@[simp] theorem State.refChanged_pending (s : State) : s.refChanged.pending = s.pending := by
  unfold State.refChanged; dsimp only; (repeat' split) <;> simp
@[simp] theorem State.measure_pending (s : State) (e : ℤ) : (s.measure e).pending = s.pending := by
  unfold State.measure; dsimp only; (repeat' split) <;> simp
@[simp] theorem tlySetBody_pending (s : State) (a : CmdArgs) : (tlySetBody s a).state.pending = s.pending := by
  simp [tlySetBody]
@[simp] theorem State.hearLink_pending (s : State) (f : DoveFrame) : (s.hearLink f).pending = s.pending := by
  simp [State.hearLink]
@[simp] theorem State.badFrame_pending (s : State) : s.badFrame.pending = s.pending := by simp [State.badFrame]
@[simp] theorem State.dvtTrained_pending (s : State) (size pos : Nat) : (s.dvtTrained size pos).pending = s.pending := by
  simp [State.dvtTrained]
@[simp] theorem State.dvtConflict_pending (s : State) : s.dvtConflict.pending = s.pending := by simp [State.dvtConflict]
@[simp] theorem State.ringClosed_pending (s : State) (hop : Nat) (delayNs : BitVec 16) :
    (s.ringClosed hop delayNs).pending = s.pending := by simp [State.ringClosed]
@[simp] theorem State.hearOrigin_pending (s : State) (o : BitVec 7) (hop : Nat) : (s.hearOrigin o hop).pending = s.pending := by
  unfold State.hearOrigin; simp; (repeat' split) <;> simp
@[simp] theorem State.syncMeasure_pending (s : State) (launch ns arrival : Dword) :
    (s.syncMeasure launch ns arrival).pending = s.pending := by simp [State.syncMeasure]
@[simp] theorem State.sendHold_pending (s : State) (cause : Nat) (before : List (List Byte)) :
    (s.sendHold cause before).pending = s.pending := by simp [State.sendHold]
@[simp] theorem State.loopStep_pending (s : State) (err : ℤ) : (s.loopStep err).pending = s.pending := by simp [State.loopStep]
@[simp] theorem State.pull_pending (s : State) (err : ℤ) : (s.pull err).pending = s.pending := by simp [State.pull]
@[simp] theorem State.discipline_pending (s : State) : s.discipline.pending = s.pending := by
  unfold State.discipline; dsimp only; (repeat' split) <;> simp
@[simp] theorem State.applyMode_pending (s : State) : s.applyMode.pending = s.pending := by
  unfold State.applyMode; dsimp only; (repeat' split) <;> simp
@[simp] theorem State.applyRelabels_pending (s : State) : s.applyRelabels.pending = s.pending := by simp [State.applyRelabels]
@[simp] theorem State.tallySnapshot_pending (s : State) : s.tallySnapshot.pending = s.pending := by simp [State.tallySnapshot]
@[simp] theorem State.syncCheck_pending (s : State) : s.syncCheck.pending = s.pending := by simp [State.syncCheck]
@[simp] theorem State.trainSend_pending (s : State) : s.trainSend.pending = s.pending := by simp [State.trainSend]
@[simp] theorem State.tallyBoundary_pending (s : State) : s.tallyBoundary.pending = s.pending := by simp [State.tallyBoundary]

/-! ### Machine/Mint -/

@[simp] theorem State.mintEvent_pending (s : State) (cs : List ChanId) (aux data : Nat) :
    (s.mintEvent cs aux data).pending = s.pending := by simp [State.mintEvent]
@[simp] theorem State.setGroup_pending (s : State) (g : GroupId) (st : GroupState) : (s.setGroup g st).pending = s.pending := by
  simp [State.setGroup]
@[simp] theorem State.mintHold_pending (s : State) (c : ChanId) (why : Cause) (more : Bool) :
    (s.mintHold c why more).pending = s.pending := by
  unfold State.mintHold; split <;> simp
@[simp] theorem State.followStop_pending (s : State) (c : ChanId) (k : Nat) : (s.followStop c k).pending = s.pending := by
  simp [State.followStop]
@[simp] theorem State.checkHeld_pending (s : State) (g : GroupId) : (s.checkHeld g).pending = s.pending := by
  simp [State.checkHeld]
@[simp] theorem State.reportHold_pending (s : State) (g : GroupId) : (s.reportHold g).pending = s.pending := by
  simp [State.reportHold]
@[simp] theorem State.applyHold_pending (s : State) (g : GroupId) (bits : BitVec 16) (who : Option ChanId) (early : Bool) :
    (s.applyHold g bits who early).pending = s.pending := by
  unfold State.applyHold; dsimp only; split <;> simp
@[simp] theorem State.endStopWaits_pending (s : State) : s.endStopWaits.pending = s.pending := by simp [State.endStopWaits]
@[simp] theorem State.pendMint_pending (s : State) (o : MintOp) : (s.pendMint o).pending = s.pending := by simp [State.pendMint]
@[simp] theorem mntCfgBody_pending (s : State) (a : CmdArgs) : (mntCfgBody s a).state.pending = s.pending := by
  simp [mntCfgBody]
@[simp] theorem mntSegBody_pending (s : State) (a : CmdArgs) : (mntSegBody s a).state.pending = s.pending := by
  simp [mntSegBody]
@[simp] theorem mntStartBody_pending (s : State) (a : CmdArgs) : (mntStartBody s a).state.pending = s.pending := by
  simp [mntStartBody]
@[simp] theorem mntHoldBody_pending (s : State) (a : CmdArgs) : (mntHoldBody s a).state.pending = s.pending := by
  simp [mntHoldBody]
@[simp] theorem mntReleaseBody_pending (s : State) (a : CmdArgs) : (mntReleaseBody s a).state.pending = s.pending := by
  simp [mntReleaseBody]
@[simp] theorem mntFbtemplateBody_pending (s : State) (a : CmdArgs) : (mntFbtemplateBody s a).state.pending = s.pending := by
  simp [mntFbtemplateBody]
@[simp] theorem State.takeSamples_pending (s : State) (t : TemplId) (late : Bool) (l : List Byte) :
    (s.takeSamples t late l).pending = s.pending := by
  exact foldl_pending _ _ _ fun _ _ => by rfl
@[simp] theorem State.feedbackPacket_pending (s : State) (t : TemplId) (late : Bool) (l : List Byte) :
    (s.feedbackPacket t late l).pending = s.pending := by
  unfold State.feedbackPacket; dsimp only; split <;> simp
@[simp] theorem State.useSample_pending (s : State) (c : ChanId) (x : Sample) : (s.useSample c x).pending = s.pending := by
  unfold State.useSample; split <;> simp
@[simp] theorem State.channelSamples_pending (s : State) (c : ChanId) : (s.channelSamples c).pending = s.pending := by
  simp [State.channelSamples]
@[simp] theorem State.raiseMissing_pending (s : State) (c : ChanId) (more : Bool) :
    (s.raiseMissing c more).pending = s.pending := by
  simp [State.raiseMissing]
@[simp] theorem State.emptyGroup_pending (s : State) (g : GroupId) : (s.emptyGroup g).pending = s.pending := by
  unfold State.emptyGroup; simp; (repeat' split) <;> simp
@[simp] theorem State.releaseGroup_pending (s : State) (g : GroupId) : (s.releaseGroup g).pending = s.pending := by
  unfold State.releaseGroup
  dsimp only
  split
  · rfl
  · rw [State.setGroup_pending, foldl_pending _ _ _ fun _ _ => by rfl]; rfl
@[simp] theorem State.abandonStart_pending (s : State) (g : GroupId) : (s.abandonStart g).pending = s.pending := by
  simp [State.abandonStart]
@[simp] theorem State.lateStart_pending (s : State) (g : GroupId) (late : ℤ) : (s.lateStart g late).pending = s.pending := by
  simp [State.lateStart]
@[simp] theorem State.fireStart_pending (s : State) (g : GroupId) (heldToo : Bool) :
    (s.fireStart g heldToo).1.pending = s.pending := by
  have h : ∀ (l : List ChanId) (t : State), (l.foldl (fun t c => t.modChan c Chan.startState) t).pending = t.pending :=
    fun l t => foldl_pending _ l t fun _ _ => rfl
  unfold State.fireStart
  dsimp only
  (repeat' split) <;> simp [h]
@[simp] theorem State.meetGroup_pending (s : State) (g : GroupId) (pend : BitVec 16 × Option ChanId) :
    (s.meetGroup g pend).1.pending = s.pending := by
  unfold State.meetGroup; split <;> simp
@[simp] theorem State.failNext_pending (s : State) (c : ChanId) (why : Cause) : (s.failNext c why).pending = s.pending := by
  simp [State.failNext]

/-! ### Machine/Holds -/

@[simp] theorem State.holdListed_pending (s : State) (c : Cause) : (s.holdListed c).pending = s.pending := by
  simp [State.holdListed]

/-! ### Machine/Clearance -/

@[simp] theorem State.pendClr_pending (s : State) (o : ClrOp) : (s.pendClr o).pending = s.pending := by simp [State.pendClr]
@[simp] theorem clrBodyBody_pending (s : State) (a : CmdArgs) : (clrBodyBody s a).state.pending = s.pending := by
  simp [clrBodyBody]
@[simp] theorem clrArmBody_pending (s : State) (a : CmdArgs) : (clrArmBody s a).state.pending = s.pending := by
  unfold clrArmBody
  dsimp only
  split
  · rfl
  · rw [Res.snap_state, State.pendClr_pending]; exact foldl_pending _ _ _ fun _ _ => by rfl
@[simp] theorem State.clrEvent_pending (s : State) (cs : List ChanId) (aux data : Nat) :
    (s.clrEvent cs aux data).pending = s.pending := by
  simp [State.clrEvent]
@[simp] theorem State.applyClrOp_pending (s : State) (o : ClrOp) : (s.applyClrOp o).pending = s.pending := by
  unfold State.applyClrOp
  split
  · rfl
  · rfl
  · dsimp only
    rw [State.ite_pending, State.clrEvent_pending, foldl_pending _ _ _ fun _ _ => by rfl, ite_self]
  · dsimp only
    rw [State.ite_pending, State.clrEvent_pending, foldl_pending _ _ _ fun _ _ => by rfl, ite_self]
@[simp] theorem State.resolveBody_pending (s : State) (lost : Option BodyId) (b : BodyId) :
    (State.resolveBody lost s b).pending = s.pending := by
  unfold State.resolveBody; dsimp only; split <;> simp
@[simp] theorem State.violate_pending (s : State) (p : PairId) (r : PairRec) (step : Nat) (inside unres : Bool) :
    (s.violate p r step inside unres).pending = s.pending := by simp [State.violate]
@[simp] theorem State.runSlot_pending (s : State) (p : PairId) (step : Nat) : (s.runSlot p step).pending = s.pending := by
  unfold State.runSlot; dsimp only; split <;> simp
@[simp] theorem State.decide_pending (s : State) (p : PairId) : (s.decide_ p).pending = s.pending := by
  unfold State.decide_; dsimp only; split <;> simp
@[simp] theorem State.clrFinish_pending (s : State) : s.clrFinish.pending = s.pending := by simp [State.clrFinish]

/-! ### Machine/MintSend -/

@[simp] theorem State.periodNext_pending (s : State) : s.periodNext.2.pending = s.pending := by simp [State.periodNext]
@[simp] theorem State.sendChannel_pending (s : State) (c : ChanId) : (s.sendChannel c).pending = s.pending := by
  unfold State.sendChannel; dsimp only; split <;> simp
@[simp] theorem State.packFrames_pending (s : State) (period : Nat) : (s.packFrames period).pending = s.pending := by
  have h : ∀ (l : List (OrderId × List Byte)) (t : State), (l.foldl (fun t x =>
      t.modOrder x.1 fun o => { o with occ := o.occ.map fun y => { y with src := x.2 } }) t).pending = t.pending :=
    fun l t => foldl_pending _ l t fun _ _ => by rfl
  simp only [State.packFrames, h]

/-! ### Machine/Purses -/

@[simp] theorem State.purseEvent_pending (s : State) (n : PurseId) (aux data : Nat) :
    (s.purseEvent n aux data).pending = s.pending := by
  simp [State.purseEvent]
@[simp] theorem State.purseLoss_pending (s : State) (n : PurseId) (k : Nat) : (s.purseLoss n k).pending = s.pending := by
  simp [State.purseLoss]
@[simp] theorem State.purseReset_pending (s : State) (n : PurseId) (bad : Option Nat) :
    (s.purseReset n bad).pending = s.pending := by
  simp [State.purseReset]
@[simp] theorem State.purseFault_pending (s : State) (n : PurseId) (bad : Option Nat) :
    (s.purseFault n bad).pending = s.pending := by
  simp [State.purseFault]
@[simp] theorem State.purseRoom_pending (s : State) (n : PurseId) (k fuel : Nat) :
    (State.purseRoom n k fuel s).pending = s.pending := by
  induction fuel generalizing s with
  | zero => rfl
  | succ f ih =>
    unfold State.purseRoom
    dsimp only
    split
    · rfl
    · rw [ih, State.purseLoss_pending]; rfl
@[simp] theorem State.purseStore_pending (s : State) (n : PurseId) (l : List PurseWord) :
    (s.purseStore n l).pending = s.pending := by
  simp [State.purseStore]
@[simp] theorem State.pursePush_pending (s : State) (n : PurseId) (l : List PurseWord) : (s.pursePush n l).pending = s.pending := by
  simp [State.pursePush]
@[simp] theorem prsCfgBody_pending (s : State) (a : CmdArgs) : (prsCfgBody s a).state.pending = s.pending := by
  simp [prsCfgBody]
@[simp] theorem idleItem_pending (s : State) (n : PurseId) : (idleItem s n).state.pending = s.pending := by simp [idleItem]

/-! ### Machine/Orders -/

@[simp] theorem State.stmtEvent_pending (s : State) (h : SlotId) (aux data : Nat) :
    (s.stmtEvent h aux data).pending = s.pending := by
  simp [State.stmtEvent]
@[simp] theorem State.deleteOrder_pending (s : State) (n : OrderId) : (s.deleteOrder n).pending = s.pending := by
  simp [State.deleteOrder]
@[simp] theorem soDeleteBody_pending (s : State) (a : CmdArgs) : (soDeleteBody s a).state.pending = s.pending := by
  unfold soDeleteBody; dsimp only; split <;> simp
@[simp] theorem State.noteSkipped_pending (s : State) : s.noteSkipped.pending = s.pending := by simp [State.noteSkipped]

/-! ### Machine/PowerPath -/

@[simp] theorem portPowerOn_pending (s : State) (k : PortId) (nowait : Bool) :
    (portPowerOn s k nowait).state.pending = s.pending := by
  simp [portPowerOn]
@[simp] theorem portPowerOff_pending (s : State) (k : PortId) : (portPowerOff s k).state.pending = s.pending := by
  simp [portPowerOff]
@[simp] theorem portPowerBody_pending (s : State) (a : CmdArgs) : (portPowerBody s a).state.pending = s.pending := by
  simp [portPowerBody]
@[simp] theorem gateCfgBody_pending (s : State) (a : CmdArgs) : (gateCfgBody s a).state.pending = s.pending := by
  simp [gateCfgBody]
@[simp] theorem modelCfgBody_pending (s : State) (a : CmdArgs) : (modelCfgBody s a).state.pending = s.pending := by
  simp [modelCfgBody]
@[simp] theorem State.purgeQueue_pending (s : State) : s.purgeQueue.pending = s.pending := by simp [State.purgeQueue]
@[simp] theorem State.unpower_pending (s : State) (k : PortId) : (s.unpower k).pending = s.pending := by simp [State.unpower]

/-! ### Machine/Statements -/

@[simp] theorem stmtLayoutBody_pending (s : State) (a : CmdArgs) : (stmtLayoutBody s a).state.pending = s.pending := by
  unfold stmtLayoutBody; split <;> simp
@[simp] theorem stmtSubscribeBody_pending (s : State) (a : CmdArgs) : (stmtSubscribeBody s a).state.pending = s.pending := by
  unfold stmtSubscribeBody; split <;> simp
@[simp] theorem State.stmtAccess_pending (s : State) (h : SlotId) : (s.stmtAccess h).pending = s.pending := by
  unfold State.stmtAccess; dsimp only; split <;> simp
@[simp] theorem State.stmtBoundary_pending (s : State) : s.stmtBoundary.pending = s.pending := by simp [State.stmtBoundary]
@[simp] theorem State.queueStatement_pending (s : State) (h : SlotId) (st : Statement) :
    (s.queueStatement h st).pending = s.pending := by
  simp [State.queueStatement]
@[simp] theorem State.assemble_pending (s : State) (h : SlotId) : (s.assemble h).pending = s.pending := by
  unfold State.assemble; dsimp only; split <;> simp

/-! ### Machine/StileRegs -/

@[simp] theorem State.refreshStile_pending (s : State) (i : StileId) : (s.refreshStile i).pending = s.pending := by
  simp [State.refreshStile]
@[simp] theorem State.stileBoundary_pending (s : State) : s.stileBoundary.pending = s.pending := by simp [State.stileBoundary]

/-! ### Machine/Registers -/

@[simp] theorem State.setUnlocked_pending (s : State) (p : Path) (b : Bool) : (s.setUnlocked p b).pending = s.pending := by
  unfold State.setUnlocked; split <;> simp
@[simp] theorem State.post_pending (s : State) (addr : Nat) (v : Word) : (s.post addr v).pending = s.pending := by
  simp [State.post]
@[simp] theorem State.violation_pending (s : State) (p : Path) (code addr : Nat) :
    (s.violation p code addr).pending = s.pending := by
  simp [State.violation]
@[simp] theorem State.writeUnlock_pending (s : State) (p : Path) (v : Word) : (s.writeUnlock p v).pending = s.pending := by
  simp [State.writeUnlock]
@[simp] theorem State.rowParity_pending (s : State) (row : Fin 128) : (s.rowParity row).pending = s.pending := by
  simp [State.rowParity]

/-! ### Machine/General -/

@[simp] theorem cancelBody_pending (s : State) (a : CmdArgs) : (cancelBody s a).state.pending = s.pending := by
  unfold cancelBody; dsimp only; (repeat' split) <;> simp

/-! ### Machine/RegOps -/

@[simp] theorem State.accessTime_pending (s : State) (a n : Nat) : (s.accessTime a n).2.pending = s.pending := by
  simp [State.accessTime]

/-! ### Machine/Boundary -/

@[simp] theorem State.releaseKeys_pending (s : State) : s.releaseKeys.pending = s.pending := by simp [State.releaseKeys]
@[simp] theorem State.launchSof_pending (s : State) (k : PortId) : (s.launchSof k).pending = s.pending := by
  simp [State.launchSof]
@[simp] theorem State.launchSofs_pending (s : State) : s.launchSofs.pending = s.pending := by simp [State.launchSofs]

/-! ### Machine/CcPd -/

@[simp] theorem State.applyCc_pending (s : State) (k : PortId) (r : CcRec) : (s.applyCc k r).pending = s.pending := by
  simp [State.applyCc]
@[simp] theorem ccCfgBody_pending (s : State) (a : CmdArgs) : (ccCfgBody s a).state.pending = s.pending := by simp [ccCfgBody]
@[simp] theorem pdCfgBody_pending (s : State) (a : CmdArgs) : (pdCfgBody s a).state.pending = s.pending := by simp [pdCfgBody]
@[simp] theorem txFail_pending (s : State) (st : Status) (r0 : Nat) : (txFail st r0 s).state.pending = s.pending := by
  simp [txFail]
@[simp] theorem State.txTake_pending (s : State) (k : PortId) (sop : Nat) (m : List Byte) :
    (s.txTake k sop m).pending = s.pending := by
  unfold State.txTake; dsimp only; split <;> simp
@[simp] theorem pdTxBody_pending (s : State) (a : CmdArgs) : (pdTxBody s a).state.pending = s.pending := by
  unfold pdTxBody; dsimp only; (repeat' split) <;> simp
@[simp] theorem pdHardresetBody_pending (s : State) (a : CmdArgs) : (pdHardresetBody s a).state.pending = s.pending := by
  simp [pdHardresetBody]

/-! ### Machine/Teller -/

@[simp] theorem State.cutOff_pending (s : State) (h : SlotId) (op : Byte) (a : CmdArgs) (plen : Nat) :
    (s.cutOff h op a plen).pending = s.pending := by simp [State.cutOff]
@[simp] theorem State.framing_pending (s : State) (h : SlotId) (n : Nat) : (s.framing h n).pending = s.pending := by
  simp [State.framing]
@[simp] theorem State.takeEntry_pending (s : State) (i pos : Nat) : (s.takeEntry i pos).pending = s.pending := by
  unfold State.takeEntry; split <;> simp

end Sys2Proof.Machine
end

section
/-! SUPPORT. What leaves the queue of commands waiting: the Ledger's work on its lines (R385 to R390, R392). -/
namespace Sys2Proof.Machine

@[simp] theorem State.ledgerEvent_pending (s : State) (x d : Nat) : (s.ledgerEvent x d).pending = s.pending :=
  (s.ledgerEvent_worked x d).pending
@[simp] theorem State.suspectLine_pending (s : State) (line : Nat) : (s.suspectLine line).pending = s.pending :=
  (s.suspectLine_read line).rest.pending
@[simp] theorem State.noteCorrected_pending (s : State) (line : Nat) (f : Finder) :
    (s.noteCorrected line f).pending = s.pending := (s.noteCorrected_read line f).rest.pending
@[simp] theorem State.noteUncorrectable_pending (s : State) (line : Nat) (f : Finder) :
    (s.noteUncorrectable line f).pending = s.pending := (s.noteUncorrectable_read line f).rest.pending
@[simp] theorem State.inlayCheck_pending (s : State) (line : Nat) : (s.inlayCheck line).2.pending = s.pending :=
  (s.inlayCheck_read line).rest.pending
@[simp] theorem State.cleanSource_pending (s : State) (line : Nat) : (s.cleanSource line).2.pending = s.pending := by
  unfold State.cleanSource
  split
  all_goals rfl
@[simp] theorem State.readLine_pending (s : State) (f : Finder) (line : Nat) : (s.readLine f line).2.2.pending = s.pending :=
  (s.readLine_read f line).rest.pending
@[simp] theorem State.readLines_pending (s : State) (f : Finder) (line n : Nat) : (s.readLines f line n).2.pending = s.pending := by
  simp [State.readLines]
@[simp] theorem State.readLedger_pending (s : State) (f : Finder) (a len : Nat) : (s.readLedger f a len).2.pending = s.pending := by
  simp [State.readLedger]
@[simp] theorem State.checkRecord_pending (s : State) (a len : Nat) : (s.checkRecord a len).2.pending = s.pending := by
  simp [State.checkRecord]
@[simp] theorem State.remap_pending (s : State) (line : Nat) (l : List Byte) : (s.remap line l).pending = s.pending :=
  (s.remap_worked line l).pending
@[simp] theorem State.verifyLine_pending (s : State) (line : Nat) (l : List Byte) : (s.verifyLine line l).pending = s.pending :=
  (s.verifyLine_worked line l).pending
@[simp] theorem State.storeLine_pending (s : State) (line : Nat) (l : List Byte) (d : Word) :
    (s.storeLine line l d).pending = s.pending := (s.storeLine_worked line l d).pending
@[simp] theorem State.writeLine_pending (s : State) (line off : Nat) (l : List Byte) :
    (s.writeLine line off l).pending = s.pending := (s.writeLine_worked line off l).pending
@[simp] theorem State.writeClassed_pending (s : State) (line off : Nat) (l : List Byte) :
    (s.writeClassed line off l).pending = s.pending := by simp [State.writeClassed]
@[simp] theorem State.ledgerWrite_pending {f a : Nat} {l : List Byte} (s : State) :
    (State.ledgerWrite f a l s).pending = s.pending := by
  exact (State.ledgerWrite_worked f a l s).pending
@[simp] theorem State.writeLedger_pending (s : State) (a : Nat) (l : List Byte) : (s.writeLedger a l).pending = s.pending :=
  (s.writeLedger_worked a l).pending
@[simp] theorem State.writeOrderRecord_pending (s : State) (n : OrderId) (l : List Byte) :
    (s.writeOrderRecord n l).pending = s.pending := by simp [State.writeOrderRecord]
@[simp] theorem State.writeChanRecord_pending (s : State) (c : ChanId) (l : List Byte) :
    (s.writeChanRecord c l).pending = s.pending := by simp [State.writeChanRecord]
@[simp] theorem State.planeRewrite_pending (s : State) (line : Nat) (l : List Byte) :
    (s.planeRewrite line l).pending = s.pending := by simp [State.planeRewrite]
@[simp] theorem State.planeLine_pending (s : State) (line : Nat) (b : Bool) : (s.planeLine line b).pending = s.pending := by
  unfold State.planeLine
  have hinlay : (if s.ldg.isWritten line then (s.inlayCheck line).2 else s).pending = s.pending := by
    split <;> simp
  generalize (if s.ldg.isWritten line then (s.inlayCheck line).2 else s) = u at hinlay
  rw [← hinlay]
  dsimp only
  split
  · rfl
  · split
    · split <;> simp
    · split
      · split <;> simp
      · simp
    all_goals
      split
      · have hread := u.readLine_pending .plane line
        split
        next hline => rw [hline] at hread; exact (State.planeRewrite_pending ..).trans hread
        next hline => rw [hline] at hread; exact hread
      · simp
@[simp] theorem State.planeVisit_pending (s : State) : s.planeVisit.pending = s.pending := by
  unfold State.planeVisit; split <;> simp
@[simp] theorem State.testStore_pending (s : State) (l : List Byte) (c : Word) : (s.testStore l c).pending = s.pending := by
  simp [State.testStore]

/-! ### The hardware's own writes and reads -/

@[simp] theorem State.writeOwn_pending (s : State) (line : Nat) : (s.writeOwn line).pending = s.pending := by
  unfold State.writeOwn
  split
  · simp
  · dsimp only
    split <;> simp
@[simp] theorem State.ownWrites_pending (s : State) (p : Nat → Bool) : (s.ownWrites p).pending = s.pending :=
  foldl_pending _ _ _ fun t line => by
    dsimp only
    split <;> simp
@[simp] theorem State.ownReads_pending (s : State) (f : Finder) (p : Nat → Bool) : (s.ownReads f p).2.pending = s.pending :=
  foldl_snd_pending _ _ _ fun a line => by
    dsimp only
    split <;> simp
@[simp] theorem State.meets_pending (s : State) (p : Nat → Bool) : (s.meets p).2.pending = s.pending :=
  foldl_snd_pending _ _ _ fun a line => by
    dsimp only
    split
    · simp
    · split <;> simp
@[simp] theorem State.draftHalts_pending (s : State) (line : Nat) : (s.draftHalts line).pending = s.pending :=
  (State.modLdg_pending ..).trans (s.freeBelow_pending 32)
@[simp] theorem State.haltJob_pending (s : State) (p : Nat → Bool) : (s.haltJob p).2.pending = s.pending := by
  unfold State.haltJob; dsimp only; (repeat' split) <;> simp
@[simp] theorem State.fetchParams_pending (s : State) (e : TillEntry) : (s.fetchParams e).2.pending = s.pending := by
  unfold State.fetchParams; split <;> simp

end Sys2Proof.Machine
end

section
/-! SUPPORT. What leaves the queue: the operations that read and write the Ledger, resets, sleep, images, and the boundary's parts. -/
namespace Sys2Proof.Machine

@[simp] theorem State.carcassReset_pending (s : State) (cause : BitVec 3) (held sleep : Bool) :
    (s.carcassReset cause held sleep).pending = s.pending := rfl
@[simp] theorem State.tested_pending (s : State) (ok : Bool) (g : Ledger) : (s.tested ok g).pending = s.pending := rfl

/-! ### Segments, templates and Drafts -/

@[simp] theorem State.writeSegment_pending (s : State) (c : ChanId) (e : Nat) (l : List Byte) :
    (s.writeSegment c e l).pending = s.pending := by simp [State.writeSegment]
@[simp] theorem State.writeTemplate_pending (s : State) (t : TemplId) (l : List Byte) :
    (s.writeTemplate t l).pending = s.pending := by simp [State.writeTemplate]
@[simp] theorem State.frameJob_pending (s : State) : s.frameJob.2.pending = s.pending := by
  unfold State.frameJob; dsimp only; (repeat' split) <;> simp
@[simp] theorem State.takeDraft_pending (s : State) (client : BitVec 4) : (s.takeDraft client).2.pending = s.pending := by
  unfold State.takeDraft; dsimp only; (repeat' split) <;> simp
@[simp] theorem State.freeDraft_pending (s : State) (d : Option (Fin 32)) : (s.freeDraft d).pending = s.pending := by
  unfold State.freeDraft; split <;> simp

/-! ### Opcodes of the Ledger, and its test modes -/

@[simp] theorem ldgRdBody_pending (s : State) (a : CmdArgs) : (ldgRdBody s a).state.pending = s.pending := by
  unfold ldgRdBody; dsimp only; (repeat' split) <;> simp
@[simp] theorem ldgWrBody_pending (s : State) (a : CmdArgs) : (ldgWrBody s a).state.pending = s.pending := by simp [ldgWrBody]
@[simp] theorem State.testStored_pending (s : State) : s.testStored.2.2.pending = s.pending := by
  unfold State.testStored; dsimp only; (repeat' split) <;> simp
@[simp] theorem State.testLoad_pending (s : State) : s.testLoad.pending = s.pending := by simp [State.testLoad]
@[simp] theorem State.testOp_pending (s : State) (op : Nat) : (s.testOp op).pending = s.pending := by simp [State.testOp]

/-! ### Resets, sleep and self-test -/

@[simp] theorem State.fallAsleep_pending (s : State) (level : BitVec 2) : (s.fallAsleep level).pending = s.pending := by
  unfold State.fallAsleep
  dsimp only
  split
  · split <;> simp
  · simp
@[simp] theorem State.entryTick_pending (s : State) : s.entryTick.pending = s.pending := by
  unfold State.entryTick; split <;> simp

/-! ### Images and Teller's own reads -/

@[simp] theorem State.tryImages_pending (s : State) (f : FlashView) : (s.tryImages f).pending = s.pending := by
  simp [State.tryImages]
@[simp] theorem State.rehashRetained_pending (s : State) : s.rehashRetained.pending = s.pending := by
  simp [State.rehashRetained]
@[simp] theorem State.discardRetained_pending (s : State) (f : FlashView) (badLines badSpares : List Nat) :
    (s.discardRetained f badLines badSpares).pending = s.pending := by
  unfold State.discardRetained
  dsimp only
  split
  · rw [State.tryImages_pending]
    rfl
  · rfl
@[simp] theorem State.refetchCode_pending (s : State) : s.refetchCode.2.pending = s.pending := by simp [State.refetchCode]
@[simp] theorem State.tellerRead_pending (s : State) (line : Nat) : (s.tellerRead line).pending = s.pending := by
  simp [State.tellerRead]
@[simp] theorem State.tellerReads_pending (s : State) : s.tellerReads.pending = s.pending := by simp [State.tellerReads]

/-! ### Mint and Clearance -/

@[simp] theorem State.applyMintOp_pending (s : State) (o : MintOp) : (s.applyMintOp o).pending = s.pending := by
  cases o with
  | config c r reseed flush => simp [State.applyMintOp]
  | segments c l => exact foldl_pending _ _ _ fun t g => t.writeSegment_pending c _ _
  | template t p => simp [State.applyMintOp]
@[simp] theorem State.readChannel_pending (s : State) (c : ChanId) : (s.readChannel c).2.2.pending = s.pending := by
  unfold State.readChannel; dsimp only; (repeat' split) <;> simp
@[simp] theorem State.evaluate_pending (s : State) (c : ChanId) (start : Bool) : (s.evaluate c start).pending = s.pending := by
  unfold State.evaluate; dsimp only; (repeat' split) <;> simp
@[simp] theorem State.mintBoundary_pending (s : State) : s.mintBoundary.pending = s.pending := by
  unfold State.mintBoundary
  extract_lets s1 s2 n m3 s3 pends ops m4 s4 s5 s6 s7 r s8 s9 load m10 s10 m11 s11
  have h5 : s5.pending = s.pending := (foldl_pending _ _ _ fun t o => t.applyMintOp_pending o).trans (by simp [s4, s3, s2, s1])
  have hr : r.1.pending = s7.pending :=
    foldl_inv (fun a : State × List ChanId => a.1.pending = s7.pending) _ (fun a gp ha => by simpa using ha) _ _ rfl
  have h8 : s8.pending = s.pending := (foldl_pending _ _ _ fun t c => t.evaluate_pending c _).trans (by simp [hr, s7, s6, h5])
  simp [s11, s10, s9, h8]
@[simp] theorem State.clrBoundary_pending (s : State) : s.clrBoundary.pending = s.pending := by simp [State.clrBoundary]
@[simp] theorem State.lostBody_pending (s : State) : s.lostBody.2.pending = s.pending := by
  unfold State.lostBody; dsimp only; (repeat' split) <;> simp
@[simp] theorem State.clrPrepare_pending (s : State) : s.clrPrepare.pending = s.pending := by simp [State.clrPrepare]
@[simp] theorem State.writeProduced_pending (s : State) : s.writeProduced.pending = s.pending := by simp [State.writeProduced]

/-! ### Purses and orders -/

@[simp] theorem State.startCopy_pending (s : State) (n : PurseId) : (s.startCopy n).pending = s.pending := by
  simp [State.startCopy]
@[simp] theorem prsReadBody_pending (s : State) (a : CmdArgs) : (prsReadBody s a).state.pending = s.pending := by
  unfold prsReadBody; dsimp only; (repeat' split) <;> simp
@[simp] theorem State.writeOrder_pending (s : State) (n : OrderId) (r : OrderRec) : (s.writeOrder n r).pending = s.pending := by
  simp [State.writeOrder]
@[simp] theorem soCreateBody_pending (s : State) (a : CmdArgs) : (soCreateBody s a).state.pending = s.pending := by
  unfold soCreateBody; dsimp only; (repeat' split) <;> simp
@[simp] theorem soModifyBody_pending (s : State) (a : CmdArgs) : (soModifyBody s a).state.pending = s.pending := by
  unfold soModifyBody; dsimp only; (repeat' split) <;> simp
@[simp] theorem State.ringEntry_pending (s : State) (n : OrderId) (c : Occurrence) (st : OccStatus) (l : List Byte) :
    (s.ringEntry n c st l).pending = s.pending := by simp [State.ringEntry]
@[simp] theorem State.place_pending (s : State) (n : OrderId) (c : Occurrence) (st : OccStatus) (late : Bool) :
    (s.place n c st late).pending = s.pending := by
  unfold State.place; dsimp only; (repeat' split) <;> simp
@[simp] theorem State.endOccurrence_pending (s : State) (n : OrderId) (c : Occurrence) (st : OccStatus) (late : Bool) :
    (s.endOccurrence n c st late).pending = s.pending := by simp [State.endOccurrence]
@[simp] theorem State.buildOut_pending (s : State) (c : Occurrence) : (s.buildOut c).2.pending = s.pending := by
  simp [State.buildOut]
@[simp] theorem State.buildNext_pending (s : State) (f : Nat) (k : PortId) : (State.buildNext f k s).pending = s.pending := by
  induction f generalizing s with
  | zero => rw [State.buildNext_zero]
  | succ f ih =>
    rw [State.buildNext_succ]
    split
    · rfl
    · split <;> simp [ih]
@[simp] theorem State.windowEnd_pending (s : State) (n : OrderId) : (s.windowEnd n).pending = s.pending := by
  unfold State.windowEnd; split <;> simp
@[simp] theorem State.windowEnds_pending (s : State) (l : List OrderId) : (l.foldl State.windowEnd s).pending = s.pending :=
  foldl_pending _ l s fun t n => t.windowEnd_pending n
@[simp] theorem State.closeOrders_pending (s : State) (n : Dword) : (s.closeOrders n).pending = s.pending := by
  simp [State.closeOrders]
@[simp] theorem State.takeDue_pending (s : State) (m : OrderId) : (s.takeDue m).pending = s.pending := by
  unfold State.takeDue; dsimp only; (repeat' split) <;> simp
@[simp] theorem State.ordersBoundary_pending (s : State) : s.ordersBoundary.pending = s.pending := by
  simp [State.ordersBoundary]
@[simp] theorem State.readBuffer_pending (s : State) (h : SlotId) (n : Word) (l : List Byte) :
    (s.readBuffer h n l).2.pending = s.pending := by simp [State.readBuffer]

end Sys2Proof.Machine
end

section
/-! SUPPORT. What leaves the queue: registers and commands, each row of the opcode tables. -/
namespace Sys2Proof.Machine

/-! ### What a command keeps -/

/-- A row of the opcode tables whose body leaves the queue. -/
def OpSpec.KeepsPending (o : OpSpec) : Prop := ∀ (s : State) (a : CmdArgs), (o.body s a).state.pending = s.pending

/-- Dispatching a command leaves the queue. -/
theorem OpSpec.KeepsPending.runEntry {o : OpSpec} (ho : o.KeepsPending) (s : State) (e : TillEntry) (pos : Nat) :
    (runEntry o s e pos).pending = s.pending :=
  runEntry_keeps (fun t => t.pending = s.pending) o s e pos (fun _ _ h hs => h.pending.trans hs) (fun t ht => by simpa using ht)
    (fun t ht => by simpa using ht) (fun t ht => by simpa using ht) (fun t u ht => by simpa using ht)
    (fun t ht => (ho t e.args).trans ht) rfl

/-- A command handed to Teller leaves the queue. -/
theorem OpSpec.KeepsPending.issue {o : OpSpec} (ho : o.KeepsPending) (s : State) (a : CmdArgs) :
    (issue o a s).pending = s.pending :=
  issue_keeps (fun t => t.pending = s.pending) o a s (fun _ _ h hs => h.pending.trans hs) (fun t ht => by simpa using ht)
    (fun t e ht => by simpa using ht) (fun t ht => by simpa using ht) (fun t u ht => by simpa using ht)
    (fun t ht => (ho t a).trans ht) rfl

theorem State.enter_pending (s : State) {o : Option OpSpec} (ho : ∀ x, o = some x → x.KeepsPending) (op : Byte) (h : SlotId)
    (a : CmdArgs) : (s.enter o op h a).pending = s.pending := by
  unfold State.enter
  dsimp only
  split
  · simp
  · split
    · simp
    · split
      · simp
      · simp
      · next x _ =>
        split
        · simp
        · split
          · exact ((ho x rfl).runEntry _ _ _).trans (by simp)
          · simp
theorem State.startMbx_pending (s : State) {o : Option OpSpec} (ho : ∀ x, o = some x → x.KeepsPending) (op : Byte)
    (a : CmdArgs) : (s.startMbx o op a).pending = s.pending := by
  unfold State.startMbx
  dsimp only
  split
  · simp
  · split
    · simp
    · simp
    · next x _ =>
      split
      · simp
      · split
        · exact ((ho x rfl).runEntry _ _ _).trans (by simp)
        · simp

/-! ### Registers -/

@[simp] theorem State.clearRc_pending (s : State) (r : Reg) : (s.clearRc r).pending = s.pending := by
  cases r with
  | stlPwrCnt k => rw [State.clearRc_stlPwrCnt]; split <;> rfl
  | stlPdCnt k => rw [State.clearRc_stlPdCnt]; split <;> rfl
  | _ => rfl
theorem State.storeReg_pending {go : State → State} (hgo : ∀ t : State, (go t).pending = t.pending) (s : State) (p : Path)
    (addr : Nat) (r : Reg) (v : Word) : (State.storeReg go s p addr r v).pending = s.pending := by
  cases r with
  | unlock => simp only [State.storeReg, State.writeUnlock_pending]
  | presence => simp only [State.storeReg, State.ite_pending, State.closePresence_pending, ite_self]
  | mbxGo =>
    simp only [State.storeReg]
    split
    · exact hgo s
    · rfl
  | ldgTestCtrl => exact s.testOp_pending _
  | nsfRuleHit => simp only [State.storeReg, State.ite_pending, State.post_pending, State.modNsf_pending, ite_self]
  | _ => rfl
@[simp] theorem State.coreParity_pending (s : State) (addr : Nat) (r : Reg) : (s.coreParity addr r).pending = s.pending := by
  unfold State.coreParity
  dsimp only
  split
  case h_7 => exact (State.storeReg_pending (fun _ => rfl) ..).trans (s.noteParity_pending addr)
  all_goals simp
@[simp] theorem State.parityRead_pending (s : State) (addr : Nat) (r : Reg) : (s.parityRead addr r).pending = s.pending := by
  unfold State.parityRead; split <;> simp
@[simp] theorem State.regRead_pending (s : State) (p : Path) (now : Dword) (clear : Bool) (addr : Nat) :
    (s.regRead p now clear addr).2.2.pending = s.pending := by
  unfold State.regRead; split <;> simp
theorem State.regWrite_pending {go : State → State} (hgo : ∀ t : State, (go t).pending = t.pending) (s : State) (p : Path)
    (addr : Nat) (v : Word) : (State.regWrite go s p addr v).2.pending = s.pending := by
  unfold State.regWrite
  split
  · simp
  · unfold State.regPut
    split
    · simp
    · extract_lets t u
      split
      · simp [t]
      · exact (State.storeReg_pending hgo u ..).trans (by simp [u, t])
@[simp] theorem State.readWords_pending (s : State) (p : Path) (now : Dword) (a : Nat) (l : List Nat) :
    (State.readWords p now a l s).2.2.pending = s.pending := by
  induction l generalizing s with
  | nil => rfl
  | cons i l ih =>
    unfold State.readWords
    dsimp only
    split <;> simp [ih]
@[simp] theorem regRdBody_pending (s : State) (a : CmdArgs) : (regRdBody s a).state.pending = s.pending := by simp [regRdBody]
theorem State.writeWords_pending {go : State → State} (hgo : ∀ t : State, (go t).pending = t.pending) (s : State) (p : Path)
    (a : Nat) (l : List Word) : (State.writeWords go p a l s).2.pending = s.pending := by
  induction l generalizing a s with
  | nil => rfl
  | cons w l ih =>
    have hput := State.regWrite_pending hgo s p a w
    unfold State.writeWords
    dsimp only
    split
    · exact hput
    · exact (ih _ _).trans hput
theorem opRegWrG_keepsPending {go : State → State} (hgo : ∀ t : State, (go t).pending = t.pending) :
    (opRegWrG go).KeepsPending :=
  fun s _ => State.writeWords_pending hgo s ..
theorem opRegRmwG_keepsPending {go : State → State} (hgo : ∀ t : State, (go t).pending = t.pending) :
    (opRegRmwG go).KeepsPending := by
  intro s a
  simp only [opRegRmwG]
  unfold regRmwBody
  dsimp only
  split
  · simp
  · exact (State.regWrite_pending hgo ..).trans (by simp)

/-! ### The rows of the opcode tables -/

theorem opNop_keepsPending : opNop.KeepsPending := fun _ _ => rfl
theorem opEcho_keepsPending : opEcho.KeepsPending := fun _ _ => rfl
theorem opGetInfo_keepsPending : opGetInfo.KeepsPending := fun _ _ => rfl
theorem opFence_keepsPending : opFence.KeepsPending := fun _ _ => rfl
theorem opCancel_keepsPending : opCancel.KeepsPending := cancelBody_pending
theorem opRegRd_keepsPending : opRegRd.KeepsPending := regRdBody_pending
theorem opPortMode_keepsPending : opPortMode.KeepsPending := portModeBody_pending
theorem opPortPower_keepsPending : opPortPower.KeepsPending := portPowerBody_pending
theorem opPortReset_keepsPending : opPortReset.KeepsPending := portResetBody_pending
theorem opPortSuspend_keepsPending : opPortSuspend.KeepsPending := portSuspendBody_pending
theorem opPortResume_keepsPending : opPortResume.KeepsPending := portResumeBody_pending
theorem opDeedRelease_keepsPending : opDeedRelease.KeepsPending := fun s a => by simp [opDeedRelease, deedDone]
theorem opDeedClaim_keepsPending : opDeedClaim.KeepsPending := fun s a => by simp [opDeedClaim, deedDone]
theorem opDeedSeize_keepsPending : opDeedSeize.KeepsPending := fun s a => by simp [opDeedSeize, deedDone]
theorem opDeedView_keepsPending : opDeedView.KeepsPending := fun s a => by simp [opDeedView, deedDone]
theorem opCtrlXfer_keepsPending : opCtrlXfer.KeepsPending := (xferBody_pending · 0x30)
theorem opBulkXfer_keepsPending : opBulkXfer.KeepsPending := (xferBody_pending · 0x31)
theorem opIntXfer_keepsPending : opIntXfer.KeepsPending := (xferBody_pending · 0x32)
theorem opIsoXfer_keepsPending : opIsoXfer.KeepsPending := (xferBody_pending · 0x33)
theorem opSoCreate_keepsPending : opSoCreate.KeepsPending := soCreateBody_pending
theorem opSoModify_keepsPending : opSoModify.KeepsPending := soModifyBody_pending
theorem opSoDelete_keepsPending : opSoDelete.KeepsPending := soDeleteBody_pending
theorem opSoQuery_keepsPending : opSoQuery.KeepsPending := fun _ _ => rfl
theorem opStmtLayout_keepsPending : opStmtLayout.KeepsPending := stmtLayoutBody_pending
theorem opStmtSubscribe_keepsPending : opStmtSubscribe.KeepsPending := stmtSubscribeBody_pending
theorem opMntCfg_keepsPending : opMntCfg.KeepsPending := mntCfgBody_pending
theorem opMntSeg_keepsPending : opMntSeg.KeepsPending := mntSegBody_pending
theorem opMntStart_keepsPending : opMntStart.KeepsPending := mntStartBody_pending
theorem opMntHold_keepsPending : opMntHold.KeepsPending := mntHoldBody_pending
theorem opMntRelease_keepsPending : opMntRelease.KeepsPending := mntReleaseBody_pending
theorem opMntQuery_keepsPending : opMntQuery.KeepsPending := fun _ _ => rfl
theorem opMntFbtemplate_keepsPending : opMntFbtemplate.KeepsPending := mntFbtemplateBody_pending
theorem opClrBody_keepsPending : opClrBody.KeepsPending := clrBodyBody_pending
theorem opClrPair_keepsPending : opClrPair.KeepsPending := fun s a => by simp [opClrPair]
theorem opClrArm_keepsPending : opClrArm.KeepsPending := clrArmBody_pending
theorem opClrDisarm_keepsPending : opClrDisarm.KeepsPending := fun s a => by simp [opClrDisarm]
theorem opTlySet_keepsPending : opTlySet.KeepsPending := tlySetBody_pending
theorem opTlyMode_keepsPending : opTlyMode.KeepsPending := fun _ _ => rfl
theorem opTlyQuery_keepsPending : opTlyQuery.KeepsPending := fun s _ => by simp [opTlyQuery]
theorem opCcCfg_keepsPending : opCcCfg.KeepsPending := ccCfgBody_pending
theorem opPdCfg_keepsPending : opPdCfg.KeepsPending := pdCfgBody_pending
theorem opPdTx_keepsPending : opPdTx.KeepsPending := pdTxBody_pending
theorem opPdHardreset_keepsPending : opPdHardreset.KeepsPending := pdHardresetBody_pending
theorem opEscBudget_keepsPending : opEscBudget.KeepsPending := fun s a => by simp [opEscBudget]
theorem opEscPriority_keepsPending : opEscPriority.KeepsPending := fun s a => by simp [opEscPriority]
theorem opGateCfg_keepsPending : opGateCfg.KeepsPending := gateCfgBody_pending
theorem opModelCfg_keepsPending : opModelCfg.KeepsPending := modelCfgBody_pending
theorem opEscQuery_keepsPending : opEscQuery.KeepsPending := fun _ _ => rfl
theorem opLdgRd_keepsPending : opLdgRd.KeepsPending := ldgRdBody_pending
theorem opLdgWr_keepsPending : opLdgWr.KeepsPending := ldgWrBody_pending
theorem opPlaneCfg_keepsPending : opPlaneCfg.KeepsPending := fun _ _ => rfl
theorem opInlayQuery_keepsPending : opInlayQuery.KeepsPending := fun _ _ => rfl
theorem opPrsCfg_keepsPending : opPrsCfg.KeepsPending := prsCfgBody_pending
theorem opPrsRead_keepsPending : opPrsRead.KeepsPending := prsReadBody_pending
theorem opPwrDomain_keepsPending : opPwrDomain.KeepsPending := pwrDomainBody_pending
theorem opSleep_keepsPending : opSleep.KeepsPending := sleepBody_pending
theorem opFwStage_keepsPending : opFwStage.KeepsPending := fwStageBody_pending
theorem opFwCommit_keepsPending : opFwCommit.KeepsPending := fwCommitBody_pending
theorem opFwSwap_keepsPending : opFwSwap.KeepsPending := fwSwapBody_pending
theorem opOtpWrite_keepsPending : opOtpWrite.KeepsPending := otpWriteBody_pending
theorem opVaultLock_keepsPending : opVaultLock.KeepsPending := vaultLockBody_pending
theorem mbxOps_keepsPending : ∀ o ∈ mbxOps, o.KeepsPending := by
  have hid : ∀ t : State, (id t).pending = t.pending := fun _ => rfl
  simp only [mbxOps, List.forall_mem_cons]
  exact ⟨opNop_keepsPending, opEcho_keepsPending, opGetInfo_keepsPending, opRegRd_keepsPending, opRegWrG_keepsPending hid,
    opRegRmwG_keepsPending hid, opPortPower_keepsPending, opDeedRelease_keepsPending, opEscQuery_keepsPending,
    opTlyQuery_keepsPending, opInlayQuery_keepsPending, opPwrDomain_keepsPending, opSleep_keepsPending,
    opFwStage_keepsPending, opFwCommit_keepsPending, opFwSwap_keepsPending, opOtpWrite_keepsPending, opVaultLock_keepsPending,
    List.forall_mem_nil _⟩
@[simp] theorem State.mbxStart_pending (s : State) : s.mbxStart.pending = s.pending :=
  s.startMbx_pending (fun x hx => mbxOps_keepsPending x (opOf_mem hx)) _ _
theorem opRegWr_keepsPending : opRegWr.KeepsPending := opRegWrG_keepsPending State.mbxStart_pending
theorem opRegRmw_keepsPending : opRegRmw.KeepsPending := opRegRmwG_keepsPending State.mbxStart_pending
theorem opTable_keepsPending : ∀ o ∈ opTable, o.KeepsPending := by
  simp only [opTable, List.forall_mem_append, List.forall_mem_cons]
  exact ⟨⟨⟨opNop_keepsPending, opEcho_keepsPending, opGetInfo_keepsPending, opFence_keepsPending, opCancel_keepsPending,
    opRegRd_keepsPending, opRegWr_keepsPending, opRegRmw_keepsPending, opPortMode_keepsPending, opPortPower_keepsPending,
    opPortReset_keepsPending, opPortSuspend_keepsPending, opPortResume_keepsPending, opDeedRelease_keepsPending,
    opDeedClaim_keepsPending, opDeedSeize_keepsPending, opDeedView_keepsPending, opCtrlXfer_keepsPending,
    opBulkXfer_keepsPending, opIntXfer_keepsPending, opIsoXfer_keepsPending, List.forall_mem_nil _⟩, opSoCreate_keepsPending,
    opSoModify_keepsPending, opSoDelete_keepsPending, opSoQuery_keepsPending, opStmtLayout_keepsPending,
    opStmtSubscribe_keepsPending, opMntCfg_keepsPending, opMntSeg_keepsPending, opMntStart_keepsPending,
    opMntHold_keepsPending, opMntRelease_keepsPending, opMntQuery_keepsPending, opMntFbtemplate_keepsPending,
    opClrBody_keepsPending, opClrPair_keepsPending, opClrArm_keepsPending, opClrDisarm_keepsPending, opTlySet_keepsPending,
    opTlyMode_keepsPending, opTlyQuery_keepsPending, List.forall_mem_nil _⟩, opCcCfg_keepsPending, opPdCfg_keepsPending,
    opPdTx_keepsPending, opPdHardreset_keepsPending, opEscBudget_keepsPending, opEscPriority_keepsPending,
    opGateCfg_keepsPending, opModelCfg_keepsPending, opEscQuery_keepsPending, opLdgRd_keepsPending, opLdgWr_keepsPending,
    opPlaneCfg_keepsPending, opInlayQuery_keepsPending, opPrsCfg_keepsPending, opPrsRead_keepsPending,
    opPwrDomain_keepsPending, opSleep_keepsPending, opFwStage_keepsPending, opFwCommit_keepsPending, opFwSwap_keepsPending,
    opOtpWrite_keepsPending, opVaultLock_keepsPending, List.forall_mem_nil _⟩

end Sys2Proof.Machine
end

section
/-! SUPPORT. What leaves the queue: registers on a path, the MGMT bus, the boundary, and the transport. -/
namespace Sys2Proof.Machine

/-! ### Registers on a path, and the MGMT bus -/

@[simp] theorem State.writeBy_pending (s : State) (p : Path) (addr : Nat) (v : Word) :
    (s.writeBy p addr v).pending = s.pending := by
  have hgo : ∀ t : State, t.mbxStart.pending = t.pending := State.mbxStart_pending
  unfold State.writeBy
  split
  · rfl
  · split
    · split
      · exact State.regWrite_pending hgo ..
      · rfl
    · exact State.regWrite_pending (fun _ => rfl) ..
    · exact State.regWrite_pending hgo ..
@[simp] theorem State.mgmtReadWord_pending (s : State) (now : Dword) (a n : Nat) (seen : Bool) :
    (s.mgmtReadWord now a n seen).2.2.pending = s.pending := by
  cases hreg : regAt a with
  | none => simp [State.mgmtReadWord, hreg]
  | some r => simp [State.mgmtReadWord, hreg]
@[simp] theorem State.mgmtRead_pending (s : State) (now : Dword) (a : Nat) (l : List Nat) (n : Nat) (seen : Bool) :
    (State.mgmtRead now a l n seen s).2.pending = s.pending := by
  induction l generalizing n seen s with
  | nil => rfl
  | cons i l ih => exact (ih ..).trans (s.mgmtReadWord_pending now _ _ seen)
@[simp] theorem State.mgmtWrite_pending (s : State) (a : Nat) (l : List Word) (seen : Bool) :
    (State.mgmtWrite a l seen s).pending = s.pending := by
  induction l generalizing a seen s with
  | nil => rfl
  | cons w l ih =>
    unfold State.mgmtWrite
    split
    · exact (ih ..).trans (by simp)
    · exact (ih ..).trans (State.regWrite_pending State.mbxStart_pending ..)
@[simp] theorem State.mgmtWriteXact_pending (s : State) (a : Nat) (addr data : List Byte) :
    (s.mgmtWriteXact a addr data).pending = s.pending := by simp [State.mgmtWriteXact]
@[simp] theorem State.mgmtXact_pending (s : State) (x : MgmtXact) : (s.mgmtXact x).pending = s.pending := by
  simp [State.mgmtXact]
@[simp] theorem State.mgmtBus_pending (s : State) (x : MgmtXact) : (s.mgmtBus x).pending = s.pending := by simp [State.mgmtBus]

/-! ### The microframe boundary -/

@[simp] theorem State.tallyParity_pending (s : State) : s.tallyParity.pending = s.pending :=
  foldl_pending _ _ _ fun t x => by
    split <;> simp
@[simp] theorem State.boundary_pending (s : State) : s.boundary.pending = s.pending := by simp [State.boundary]

/-! ### Commands and records of a slot -/

@[simp] theorem State.takeCommands_pending (s : State) (h : SlotId) (f : Nat) (b : List Byte) :
    (State.takeCommands h f b s).pending = s.pending := by
  induction f generalizing b s with
  | zero => rfl
  | succ f ih =>
    unfold State.takeCommands
    dsimp only
    split_ifs
    · rfl
    · simp
    · rfl
    · simp
    · exact (ih ..).trans (s.enter_pending (fun x hx => opTable_keepsPending x (opOf_mem hx)) _ h _)
@[simp] theorem State.sendRecord_pending (s : State) (h : SlotId) (r : Record) : (s.sendRecord h r).2.pending = s.pending := by
  unfold State.sendRecord; split <;> simp
@[simp] theorem State.sendRecords_pending (s : State) (h : SlotId) (l : List Record) :
    (State.sendRecords h l s).2.pending = s.pending := by
  induction l generalizing s with
  | nil => rfl
  | cons r l ih => exact (ih _).trans (s.sendRecord_pending h r)

end Sys2Proof.Machine
end

section
/-! SUPPORT. Every event answers a next state, and leaves the queue. -/
namespace Sys2Proof.Machine

/-- The answer is a next state whose queue of commands waiting is `q`. -/
def Out.Keeps (o : Out) (q : List Instr) : Prop := ∃ t, o = .next t ∧ t.pending = q
@[simp] theorem Out.keeps_next {t : State} {q : List Instr} : Out.Keeps (.next t) q ↔ t.pending = q :=
  ⟨fun ⟨_, ht, hq⟩ => by injection ht with h; rw [h]; exact hq, fun h => ⟨t, rfl, h⟩⟩

/-! ### Machine/Ports -/

theorem execResumeSignallingEnd_keeps (s : State) (k : PortId) : Out.Keeps (execResumeSignallingEnd k s) s.pending := by
  simp [execResumeSignallingEnd]
theorem execSetPortPower_keeps (s : State) (h : SlotId) (k : PortId) : Out.Keeps (execSetPortPower h k s) s.pending := by
  simp [execSetPortPower, State.hubRequest]
theorem execClearPortPower_keeps (s : State) (h : SlotId) (k : PortId) : Out.Keeps (execClearPortPower h k s) s.pending := by
  simp [execClearPortPower, State.hubRequest]
theorem execSetPortReset_keeps (s : State) (h : SlotId) (k : PortId) : Out.Keeps (execSetPortReset h k s) s.pending := by
  simp [execSetPortReset, State.hubRequest]
theorem execSetPortSuspend_keeps (s : State) (h : SlotId) (k : PortId) : Out.Keeps (execSetPortSuspend h k s) s.pending := by
  simp [execSetPortSuspend, State.hubRequest]
theorem execClearPortSuspend_keeps (s : State) (h : SlotId) (k : PortId) : Out.Keeps (execClearPortSuspend h k s) s.pending := by
  simp [execClearPortSuspend, State.hubRequest]
theorem execSetPortIndicator_keeps (s : State) (h : SlotId) (k : PortId) (m : LedMode) :
    Out.Keeps (execSetPortIndicator h k m s) s.pending := by
  simp [execSetPortIndicator, State.hubRequest]
theorem execGetPortStatus_keeps (s : State) (h : SlotId) (k : PortId) : Out.Keeps (execGetPortStatus h k s) s.pending := by
  simp [execGetPortStatus]
theorem execSetPortTest_keeps (s : State) (h : SlotId) (k : PortId) (m : TestMode) :
    Out.Keeps (execSetPortTest h k m s) s.pending := by
  simp [execSetPortTest]
theorem execClearTtBuffer_keeps (s : State) (h : SlotId) (k : PortId) (key : BitVec 16) :
    Out.Keeps (execClearTtBuffer h k key s) s.pending := by
  simp [execClearTtBuffer, State.hubRequest]
theorem execResetTt_keeps (s : State) (h : SlotId) (k : PortId) : Out.Keeps (execResetTt h k s) s.pending := by
  simp [execResetTt, State.hubRequest]
theorem execGetTtState_keeps (s : State) (h : SlotId) (k : PortId) : Out.Keeps (execGetTtState h k s) s.pending := by
  simp [execGetTtState]
theorem execStopTt_keeps (s : State) (h : SlotId) (k : PortId) : Out.Keeps (execStopTt h k s) s.pending := by
  simp [execStopTt]
theorem execTtStartSplit_keeps (s : State) (k : PortId) (periodic isoOut : Bool) (key : BitVec 16) (bytes : Nat) :
    Out.Keeps (execTtStartSplit k periodic isoOut key bytes s) s.pending := by
  simp [execTtStartSplit]
theorem execTtCompleteSplit_keeps (s : State) (k : PortId) (periodic : Bool) (key : BitVec 16) (r : TtResult) :
    Out.Keeps (execTtCompleteSplit k periodic key r s) s.pending := by
  rw [execTtCompleteSplit, Out.keeps_next]; dsimp only; (repeat' split) <;> simp
theorem execTtResultDiscard_keeps (s : State) (k : PortId) (key : BitVec 16) :
    Out.Keeps (execTtResultDiscard k key s) s.pending := by
  simp [execTtResultDiscard]
theorem execUsbConnect_keeps (s : State) (k : PortId) (_dplus : Bool) : Out.Keeps (execUsbConnect k _dplus s) s.pending := by
  simp [execUsbConnect]
theorem execUsbDisconnect_keeps (s : State) (k : PortId) : Out.Keeps (execUsbDisconnect k s) s.pending := by
  simp [execUsbDisconnect]
theorem execConnectDebounceEnd_keeps (s : State) (k : PortId) : Out.Keeps (execConnectDebounceEnd k s) s.pending := by
  simp [execConnectDebounceEnd]
theorem execPortResetEnd_keeps (s : State) (k : PortId) (chirp dplus : Bool) :
    Out.Keeps (execPortResetEnd k chirp dplus s) s.pending := by
  simp [execPortResetEnd]
theorem execPowerCycleNoConnect_keeps (s : State) (k : PortId) : Out.Keeps (execPowerCycleNoConnect k s) s.pending := by
  simp [execPowerCycleNoConnect]
theorem execRelayRemoteWake_keeps (s : State) (k : PortId) : Out.Keeps (execRelayRemoteWake k s) s.pending := by
  rw [execRelayRemoteWake, Out.keeps_next]; dsimp only; (repeat' split) <;> simp

/-! ### Machine/Proxy -/

theorem execEnumRequestDone_keeps (s : State) (k : PortId) (r : XactResult) : Out.Keeps (execEnumRequestDone k r s) s.pending := by
  unfold execEnumRequestDone
  rw [Out.keeps_next]
  (repeat' split) <;> simp
theorem execEnumRequestTimeout_keeps (s : State) (k : PortId) : Out.Keeps (execEnumRequestTimeout k s) s.pending := by
  simp [execEnumRequestTimeout]
theorem execPortBabble_keeps (s : State) (k : PortId) : Out.Keeps (execPortBabble k s) s.pending := by
  simp [execPortBabble]
theorem execProxyRemoteWake_keeps (s : State) (k : PortId) : Out.Keeps (execProxyRemoteWake k s) s.pending := by
  unfold execProxyRemoteWake
  rw [Out.keeps_next]
  (repeat' split) <;> simp
theorem execXferTransactionDone_keeps (s : State) (k : PortId) (ep : BitVec 4) (isIn : Bool) (r : XactResult) :
    Out.Keeps (execXferTransactionDone k ep isIn r s) s.pending := by
  rw [execXferTransactionDone, Out.keeps_next]; dsimp only; (repeat' split) <;> simp
theorem execXferTimeout_keeps (s : State) (k : PortId) (ep : BitVec 4) (isIn : Bool) :
    Out.Keeps (execXferTimeout k ep isIn s) s.pending := by
  rw [execXferTimeout, Out.keeps_next]; split <;> simp

/-! ### Machine/Slots -/

theorem execSlotVbusRise_keeps (s : State) (h : SlotId) (cc : BitVec 2) : Out.Keeps (execSlotVbusRise h cc s) s.pending := by
  simp [execSlotVbusRise]
theorem execSlotVbusLoss_keeps (s : State) (h : SlotId) : Out.Keeps (execSlotVbusLoss h s) s.pending := by
  simp [execSlotVbusLoss]
theorem execSsTrainingTimeout_keeps (s : State) (h : SlotId) : Out.Keeps (execSsTrainingTimeout h s) s.pending := by
  simp [execSsTrainingTimeout]
theorem execSsLinkTrained_keeps (s : State) (h : SlotId) (gen2 : Bool) : Out.Keeps (execSsLinkTrained h gen2 s) s.pending := by
  simp [execSsLinkTrained]
theorem execSsLinkFailure_keeps (s : State) (h : SlotId) : Out.Keeps (execSsLinkFailure h s) s.pending := by
  simp [execSsLinkFailure]
theorem execSlotBusReset_keeps (s : State) (h : SlotId) (kind : BusReset) : Out.Keeps (execSlotBusReset h kind s) s.pending := by
  rw [execSlotBusReset, Out.keeps_next]; split <;> simp
theorem execSlotSuspend_keeps (s : State) (h : SlotId) : Out.Keeps (execSlotSuspend h s) s.pending := by
  simp [execSlotSuspend]
theorem execSlotResume_keeps (s : State) (h : SlotId) : Out.Keeps (execSlotResume h s) s.pending := by
  simp [execSlotResume]
theorem execUsb2HubSuspend_keeps (s : State) (h : SlotId) : Out.Keeps (execUsb2HubSuspend h s) s.pending := by
  simp [execUsb2HubSuspend]
theorem execUsb2HubResume_keeps (s : State) (h : SlotId) : Out.Keeps (execUsb2HubResume h s) s.pending := by
  simp [execUsb2HubResume]
theorem execUpstreamLinkU1U2_keeps (s : State) (h : SlotId) (st : BitVec 2) (own : Bool) :
    Out.Keeps (execUpstreamLinkU1U2 h st own s) s.pending := by
  simp [execUpstreamLinkU1U2]
theorem execUpstreamSof_keeps (s : State) (h : SlotId) (ts : Dword) (itp : Bool) :
    Out.Keeps (execUpstreamSof h ts itp s) s.pending := by
  simp [execUpstreamSof]
theorem execStandardRequest_keeps (s : State) (h : SlotId) (f : SlotFunction) (r : StdRequest) :
    Out.Keeps (execStandardRequest h f r s) s.pending := by
  unfold execStandardRequest
  rw [Out.keeps_next]
  (repeat' split) <;> simp

/-! ### Machine/Ledger -/

theorem execPlaneVisit_keeps (s : State) : Out.Keeps (execPlaneVisit s) s.pending := by
  simp [execPlaneVisit]

/-! ### Machine/Nightsafe -/

theorem execCabKeyDebounced_keeps (s : State) : Out.Keeps (execCabKeyDebounced s) s.pending := by
  simp [execCabKeyDebounced]
theorem execCabKeyRelease_keeps (s : State) : Out.Keeps (execCabKeyRelease s) s.pending := by
  simp [execCabKeyRelease]
theorem execPresenceWindowExpiry_keeps (s : State) : Out.Keeps (execPresenceWindowExpiry s) s.pending := by
  simp [execPresenceWindowExpiry]
theorem execSealBit_keeps (s : State) (r : SealReturn) : Out.Keeps (execSealBit r s) s.pending := by
  rw [execSealBit, Out.keeps_next]; dsimp only; (repeat' split) <;> simp
theorem execAdcSample_keeps (s : State) (x : BitVec 12) : Out.Keeps (execAdcSample x s) s.pending := by
  rw [execAdcSample, Out.keeps_next]; dsimp only; (repeat' split) <;> simp
theorem execBoardTempUpdate_keeps (s : State) : Out.Keeps (execBoardTempUpdate s) s.pending := by
  simp [execBoardTempUpdate]
theorem execNightsafeCycle_keeps (s : State) : Out.Keeps (execNightsafeCycle s) s.pending := by
  simp [execNightsafeCycle]
theorem execSleepDecision_keeps (s : State) (pending : BitVec 8) (detail : Byte) :
    Out.Keeps (execSleepDecision pending detail s) s.pending := by
  rw [execSleepDecision, Out.keeps_next]; split <;> simp
theorem execWakeSource_keeps (s : State) (l : List (WakeCode × Byte)) : Out.Keeps (execWakeSource l s) s.pending := by
  simp [execWakeSource]
theorem execLatchedWake_keeps (s : State) : Out.Keeps (execLatchedWake s) s.pending := by
  rw [execLatchedWake, Out.keeps_next]; split <;> simp
theorem execXt32Switch_keeps (s : State) : Out.Keeps (execXt32Switch s) s.pending := by
  simp [execXt32Switch]
theorem execVsvcRise_keeps (s : State) (mgmtAddr : BitVec 3) (vbusDet : BitVec 4) (keyLow : Bool) :
    Out.Keeps (execVsvcRise mgmtAddr vbusDet keyLow s) s.pending := by
  simp [execVsvcRise]
theorem execDrainEnd_keeps (s : State) : Out.Keeps (execDrainEnd s) s.pending := by
  simp [execDrainEnd]
theorem execDrainTimeout_keeps (s : State) : Out.Keeps (execDrainTimeout s) s.pending := by
  simp [execDrainTimeout]

/-! ### Machine/Boot -/

theorem execPorNLow_keeps (s : State) : Out.Keeps (execPorNLow s) s.pending := by
  simp [execPorNLow]
theorem execResetNLow_keeps (s : State) (bootSlot cascadeEn : Bool) : Out.Keeps (execResetNLow bootSlot cascadeEn s) s.pending := by
  simp [execResetNLow]
theorem execSupplyMonitorReset_keeps (s : State) : Out.Keeps (execSupplyMonitorReset s) s.pending := by
  simp [execSupplyMonitorReset]
theorem execClockLoss_keeps (s : State) : Out.Keeps (execClockLoss s) s.pending := by
  simp [execClockLoss]
theorem execVsvcLoss_keeps (s : State) : Out.Keeps (execVsvcLoss s) s.pending := by
  simp [execVsvcLoss]
theorem execPowerGood_keeps (s : State) (bootSlot cascadeEn : Bool) : Out.Keeps (execPowerGood bootSlot cascadeEn s) s.pending := by
  simp [execPowerGood]
theorem execStileResetLine_keeps (s : State) (i : StileId) : Out.Keeps (execStileResetLine i s) s.pending := by
  simp [execStileResetLine]
theorem execClocksStable_keeps (s : State) (ssLocked : BitVec 4) : Out.Keeps (execClocksStable ssLocked s) s.pending := by
  simp [execClocksStable]
theorem execPllLockTimeout_keeps (s : State) (w : PllWhich) : Out.Keeps (execPllLockTimeout w s) s.pending := by
  unfold execPllLockTimeout
  rw [Out.keeps_next]
  (repeat' split) <;> simp
theorem execLedgerSelfTestEnd_keeps (s : State) (badLines badSpares : List Nat) :
    Out.Keeps (execLedgerSelfTestEnd badLines badSpares s) s.pending := by
  simp [execLedgerSelfTestEnd]
theorem execImageCheckEnd_keeps (s : State) (f : FlashView) (badLines badSpares : List Nat) :
    Out.Keeps (execImageCheckEnd f badLines badSpares s) s.pending := by
  rw [execImageCheckEnd, Out.keeps_next]; dsimp only; (repeat' split) <;> simp
theorem execSwapReady_keeps (s : State) : Out.Keeps (execSwapReady s) s.pending := by
  rw [execSwapReady, Out.keeps_next]; dsimp only; (repeat' split) <;> simp
theorem execSwapRollback_keeps (s : State) : Out.Keeps (execSwapRollback s) s.pending := by
  simp [execSwapRollback]
theorem execTellerWatchdogExpiry_keeps (s : State) : Out.Keeps (execTellerWatchdogExpiry s) s.pending := by
  simp [execTellerWatchdogExpiry]
theorem execTellerRestartEnd_keeps (s : State) : Out.Keeps (execTellerRestartEnd s) s.pending := by
  simp [execTellerRestartEnd]

/-! ### Machine/Spline -/

theorem execSplineFlitError_keeps (s : State) (i : StileId) (place : BitVec 3) (seen : Option (List Byte)) (again : Bool) :
    Out.Keeps (execSplineFlitError i place seen again s) s.pending := by
  simp [execSplineFlitError]
theorem execSplineLinkDown_keeps (s : State) (i : StileId) : Out.Keeps (execSplineLinkDown i s) s.pending := by
  simp [execSplineLinkDown]
theorem execSplineHoldoverExpiry_keeps (s : State) (i : StileId) : Out.Keeps (execSplineHoldoverExpiry i s) s.pending := by
  simp [execSplineHoldoverExpiry]
theorem execSplineLinkUp_keeps (s : State) (i : StileId) : Out.Keeps (execSplineLinkUp i s) s.pending := by
  simp [execSplineLinkUp]

/-! ### Machine/Tally -/

theorem execMsyncInEdge_keeps (s : State) (rising : Bool) (ts : Dword) (widthNs : Nat) :
    Out.Keeps (execMsyncInEdge rising ts widthNs s) s.pending := by
  simp [execMsyncInEdge]
theorem execMsyncInMissing_keeps (s : State) : Out.Keeps (execMsyncInMissing s) s.pending := by
  simp [execMsyncInMissing]
theorem execMsyncOutPulse_keeps (s : State) : Out.Keeps (execMsyncOutPulse s) s.pending := by
  simp [execMsyncOutPulse]
theorem execDovetailTrainReceived_keeps (s : State) (f : DoveFrame) (delayNs : BitVec 16) :
    Out.Keeps (execDovetailTrainReceived f delayNs s) s.pending := by
  simp [execDovetailTrainReceived]
theorem execDovetailTrainTimeout_keeps (s : State) : Out.Keeps (execDovetailTrainTimeout s) s.pending := by
  simp [execDovetailTrainTimeout]
theorem execDovetailSyncLaunch_keeps (s : State) : Out.Keeps (execDovetailSyncLaunch s) s.pending := by
  simp [execDovetailSyncLaunch]
theorem execDovetailSyncReceived_keeps (s : State) (f : DoveFrame) (arrival : Dword) :
    Out.Keeps (execDovetailSyncReceived f arrival s) s.pending := by
  simp [execDovetailSyncReceived]
theorem execDoveInReturn_keeps (s : State) : Out.Keeps (execDoveInReturn s) s.pending := by
  simp [execDoveInReturn]

/-! ### Machine/Mint -/

theorem execFeedbackMissing_keeps (s : State) (c : ChanId) : Out.Keeps (execFeedbackMissing c s) s.pending := by
  simp [execFeedbackMissing]
theorem execMntStartAbandon_keeps (s : State) (g : GroupId) : Out.Keeps (execMntStartAbandon g s) s.pending := by
  rw [execMntStartAbandon, Out.keeps_next]; dsimp only; (repeat' split) <;> simp

/-! ### Machine/Holds -/

theorem execDovetailHoldReceived_keeps (s : State) (f : DoveFrame) : Out.Keeps (execDovetailHoldReceived f s) s.pending := by
  simp [execDovetailHoldReceived]
theorem execDoveInLoss_keeps (s : State) (invalid : Nat) : Out.Keeps (execDoveInLoss invalid s) s.pending := by
  simp [execDoveInLoss]

/-! ### Machine/Clearance -/

theorem execClearanceSlot_keeps (s : State) (i : Fin 896) : Out.Keeps (execClearanceSlot i s) s.pending := by
  simp [execClearanceSlot]
theorem execYoungCountExpiry_keeps (s : State) (b : BodyId) : Out.Keeps (execYoungCountExpiry b s) s.pending := by
  simp [execYoungCountExpiry]

/-! ### Machine/MintSend -/

theorem execMintSend_keeps (s : State) : Out.Keeps (execMintSend s) s.pending := by
  simp [execMintSend]

/-! ### Machine/Purses -/

theorem execPrsReadCopyDone_keeps (s : State) (n : PurseId) : Out.Keeps (execPrsReadCopyDone n s) s.pending := by
  simp [execPrsReadCopyDone]

/-! ### Machine/Orders -/

theorem execOrderTransactionDone_keeps (s : State) (n : OrderId) (r : XactResult) (late retryFits : Bool) :
    Out.Keeps (execOrderTransactionDone n r late retryFits s) s.pending := by
  rw [execOrderTransactionDone, Out.keeps_next]; dsimp only; (repeat' split) <;> simp
theorem execOrderWindowEnd_keeps (s : State) (k : PortId) (w : OrderWindow) : Out.Keeps (execOrderWindowEnd k w s) s.pending := by
  simp [execOrderWindowEnd]

/-! ### Machine/PowerPath -/

theorem execSeatPinChange_keeps (s : State) (k : PortId) (aLow bLow : Bool) :
    Out.Keeps (execSeatPinChange k aLow bLow s) s.pending := by
  simp [execSeatPinChange]
theorem execSeatingConfirmed_keeps (s : State) (k : PortId) : Out.Keeps (execSeatingConfirmed k s) s.pending := by
  simp [execSeatingConfirmed]
theorem execSeatingLost_keeps (s : State) (k : PortId) : Out.Keeps (execSeatingLost k s) s.pending := by
  simp [execSeatingLost]
theorem execEscrowGrant_keeps (s : State) : Out.Keeps (execEscrowGrant s) s.pending := by
  simp [execEscrowGrant]
theorem execRampPrechargeEnd_keeps (s : State) (k : PortId) : Out.Keeps (execRampPrechargeEnd k s) s.pending := by
  simp [execRampPrechargeEnd]
theorem execRampSlewEnd_keeps (s : State) (k : PortId) (vbusMv : Nat) : Out.Keeps (execRampSlewEnd k vbusMv s) s.pending := by
  simp [execRampSlewEnd]
theorem execPortPowerGood_keeps (s : State) (k : PortId) (vbusMv vgsMv : Nat) :
    Out.Keeps (execPortPowerGood k vbusMv vgsMv s) s.pending := by
  simp [execPortPowerGood]
theorem execRampTimeout_keeps (s : State) (k : PortId) : Out.Keeps (execRampTimeout k s) s.pending := by
  simp [execRampTimeout]
theorem execTransitionSettled_keeps (s : State) (k : PortId) (vbusMv : Nat) :
    Out.Keeps (execTransitionSettled k vbusMv s) s.pending := by
  simp [execTransitionSettled]
theorem execDischargeTo5v_keeps (s : State) (k : PortId) : Out.Keeps (execDischargeTo5v k s) s.pending := by
  simp [execDischargeTo5v]
theorem execDischargeFailure_keeps (s : State) (k : PortId) : Out.Keeps (execDischargeFailure k s) s.pending := by
  simp [execDischargeFailure]
theorem execSwitchOffDischarged_keeps (s : State) (k : PortId) (vbusMv : Nat) :
    Out.Keeps (execSwitchOffDischarged k vbusMv s) s.pending := by
  simp [execSwitchOffDischarged]
theorem execSwitchOffDischTimeout_keeps (s : State) (k : PortId) (vbusMv : Nat) :
    Out.Keeps (execSwitchOffDischTimeout k vbusMv s) s.pending := by
  simp [execSwitchOffDischTimeout]
theorem execCurrentLimit_keeps (s : State) (k : PortId) (iMa : Int) : Out.Keeps (execCurrentLimit k iMa s) s.pending := by
  simp [execCurrentLimit]
theorem execLimitingEnd_keeps (s : State) (k : PortId) : Out.Keeps (execLimitingEnd k s) s.pending := by
  simp [execLimitingEnd]
theorem execFastTrip_keeps (s : State) (k : PortId) (iMa : Int) (vbusMv : Nat) :
    Out.Keeps (execFastTrip k iMa vbusMv s) s.pending := by
  simp [execFastTrip]
theorem execOverVoltage_keeps (s : State) (k : PortId) (vbusMv : Nat) : Out.Keeps (execOverVoltage k vbusMv s) s.pending := by
  simp [execOverVoltage]
theorem execVbusLow_keeps (s : State) (k : PortId) (vbusMv : Nat) : Out.Keeps (execVbusLow k vbusMv s) s.pending := by
  simp [execVbusLow]
theorem execCooldownEnd_keeps (s : State) (k : PortId) : Out.Keeps (execCooldownEnd k s) s.pending := by
  simp [execCooldownEnd]
theorem execThermalModelStep_keeps (s : State) (k : PortId) (m : StileSample) :
    Out.Keeps (execThermalModelStep k m s) s.pending := by
  simp [execThermalModelStep]
theorem execVgdUndervoltage_keeps (s : State) (i : StileId) : Out.Keeps (execVgdUndervoltage i s) s.pending := by
  simp [execVgdUndervoltage]
theorem execVgdRecover_keeps (s : State) (i : StileId) : Out.Keeps (execVgdRecover i s) s.pending := by
  simp [execVgdRecover]
theorem execVgdLoss_keeps (s : State) (i : StileId) : Out.Keeps (execVgdLoss i s) s.pending := by
  simp [execVgdLoss]
theorem execVgdPresent_keeps (s : State) (i : StileId) : Out.Keeps (execVgdPresent i s) s.pending := by
  rw [execVgdPresent, Out.keeps_next]
  split
  · rfl
  · dsimp only
    rw [foldl_pending _ _ _ fun _ _ => by rfl]
    rfl
theorem execRail5vInRange_keeps (s : State) (i : StileId) (mv : Nat) : Out.Keeps (execRail5vInRange i mv s) s.pending := by
  simp [execRail5vInRange]

/-! ### Machine/Statements -/

theorem execStatementAssembly_keeps (s : State) : Out.Keeps (execStatementAssembly s) s.pending := by
  simp [execStatementAssembly]
theorem execStatementDelivery_keeps (s : State) (h : SlotId) : Out.Keeps (execStatementDelivery h s) s.pending := by
  rw [execStatementDelivery, Out.keeps_next]; dsimp only; (repeat' split) <;> simp

/-! ### Machine/RegOps -/

theorem execMgmtMbxGo_keeps (s : State) (p : Path) : Out.Keeps (execMgmtMbxGo p s) s.pending := by
  simp [execMgmtMbxGo]
theorem execGlbUnlock_keeps (s : State) (p : Path) (v : Word) : Out.Keeps (execGlbUnlock p v s) s.pending := by
  simp [execGlbUnlock]
theorem execGlbLock_keeps (s : State) (p : Path) (v : Word) : Out.Keeps (execGlbLock p v s) s.pending := by
  simp [execGlbLock]
theorem execPresenceClose_keeps (s : State) (p : Path) : Out.Keeps (execPresenceClose p s) s.pending := by
  simp [execPresenceClose]
theorem execLdgTestLoad_keeps (s : State) (p : Path) : Out.Keeps (execLdgTestLoad p s) s.pending := by
  simp [execLdgTestLoad]
theorem execLdgTestStoreData_keeps (s : State) (p : Path) : Out.Keeps (execLdgTestStoreData p s) s.pending := by
  simp [execLdgTestStoreData]
theorem execLdgTestStoreCheck_keeps (s : State) (p : Path) : Out.Keeps (execLdgTestStoreCheck p s) s.pending := by
  simp [execLdgTestStoreCheck]
theorem execLdgTestStoreBoth_keeps (s : State) (p : Path) : Out.Keeps (execLdgTestStoreBoth p s) s.pending := by
  simp [execLdgTestStoreBoth]
theorem execLdgFlip_keeps (s : State) (p : Path) (v : Word) : Out.Keeps (execLdgFlip p v s) s.pending := by
  simp [execLdgFlip]
theorem execForceOffClear_keeps (s : State) (p : Path) (hits : BitVec 16) : Out.Keeps (execForceOffClear p hits s) s.pending := by
  simp [execForceOffClear]
theorem execRegisterWrite_keeps (s : State) (p : Path) (addr v : Word) : Out.Keeps (execRegisterWrite p addr v s) s.pending := by
  simp [execRegisterWrite]
theorem execMgmtTransaction_keeps (s : State) (x : MgmtXact) : Out.Keeps (execMgmtTransaction x s) s.pending := by
  simp [execMgmtTransaction]
theorem execSclLowTimeout_keeps (s : State) (x : MgmtXact) : Out.Keeps (execSclLowTimeout x s) s.pending := by
  simp [execSclLowTimeout]

/-! ### Machine/Boundary -/

theorem execMicroframeBoundary_keeps (s : State) : Out.Keeps (execMicroframeBoundary s) s.pending := by
  simp [execMicroframeBoundary]

/-! ### Machine/CcPd -/

theorem execCcChange_keeps (s : State) (k : PortId) (cc1 cc2 : CcTerm) : Out.Keeps (execCcChange k cc1 cc2 s) s.pending := by
  simp [execCcChange]
theorem execCcAttachConfirmed_keeps (s : State) (k : PortId) : Out.Keeps (execCcAttachConfirmed k s) s.pending := by
  rw [execCcAttachConfirmed, Out.keeps_next]; dsimp only; (repeat' split) <;> simp
theorem execCcDetach_keeps (s : State) (k : PortId) : Out.Keeps (execCcDetach k s) s.pending := by
  rw [execCcDetach, Out.keeps_next]; dsimp only; (repeat' split) <;> simp
theorem execDrpToggle_keeps (s : State) (k : PortId) : Out.Keeps (execDrpToggle k s) s.pending := by
  simp [execDrpToggle]
theorem execTrySrcTimeout_keeps (s : State) (k : PortId) : Out.Keeps (execTrySrcTimeout k s) s.pending := by
  simp [execTrySrcTimeout]
theorem execSourcePartnerBackoff_keeps (s : State) (k : PortId) : Out.Keeps (execSourcePartnerBackoff k s) s.pending := by
  simp [execSourcePartnerBackoff]
theorem execPdMessageReceived_keeps (s : State) (k : PortId) (sop : BitVec 2) (msg : List Byte) (crcOk : Bool) :
    Out.Keeps (execPdMessageReceived k sop msg crcOk s) s.pending := by
  simp [execPdMessageReceived]
theorem execPdRequestReceived_keeps (s : State) (k : PortId) (msg : List Byte) :
    Out.Keeps (execPdRequestReceived k msg s) s.pending := by
  simp [execPdRequestReceived]
theorem execSoftResetReceived_keeps (s : State) (k : PortId) (sop : BitVec 2) :
    Out.Keeps (execSoftResetReceived k sop s) s.pending := by
  simp [execSoftResetReceived, State.ownRx]
theorem execEprKeepaliveReceived_keeps (s : State) (k : PortId) : Out.Keeps (execEprKeepaliveReceived k s) s.pending := by
  simp [execEprKeepaliveReceived, State.ownRx]
theorem execHardResetReceived_keeps (s : State) (k : PortId) : Out.Keeps (execHardResetReceived k s) s.pending := by
  simp [execHardResetReceived]
theorem execBistReceived_keeps (s : State) (k : PortId) (carrier : Bool) : Out.Keeps (execBistReceived k carrier s) s.pending := by
  simp [execBistReceived, State.ownRx]
theorem execPsRdyReceived_keeps (s : State) (k : PortId) : Out.Keeps (execPsRdyReceived k s) s.pending := by
  simp [execPsRdyReceived, State.ownRx]
theorem execGoodcrcReceived_keeps (s : State) (k : PortId) : Out.Keeps (execGoodcrcReceived k s) s.pending := by
  rw [execGoodcrcReceived, Out.keeps_next]; split <;> simp
theorem execCrcReceiveTimeout_keeps (s : State) (k : PortId) : Out.Keeps (execCrcReceiveTimeout k s) s.pending := by
  rw [execCrcReceiveTimeout, Out.keeps_next]; split <;> simp
theorem execAutoResponse_keeps (s : State) (k : PortId) : Out.Keeps (execAutoResponse k s) s.pending := by
  simp [execAutoResponse]
theorem execWaitTimerExpiry_keeps (s : State) (k : PortId) : Out.Keeps (execWaitTimerExpiry k s) s.pending := by
  simp [execWaitTimerExpiry]
theorem execSinkTxWaitEnd_keeps (s : State) (k : PortId) : Out.Keeps (execSinkTxWaitEnd k s) s.pending := by
  rw [execSinkTxWaitEnd, Out.keeps_next]; split <;> simp
theorem execExchangeEnd_keeps (s : State) (k : PortId) : Out.Keeps (execExchangeEnd k s) s.pending := by
  simp [execExchangeEnd]
theorem execSrcTransitionEnd_keeps (s : State) (k : PortId) : Out.Keeps (execSrcTransitionEnd k s) s.pending := by
  unfold execSrcTransitionEnd
  rw [Out.keeps_next]
  (repeat' split) <;> simp
theorem execEprKeepaliveTimeout_keeps (s : State) (k : PortId) : Out.Keeps (execEprKeepaliveTimeout k s) s.pending := by
  simp [execEprKeepaliveTimeout]
theorem execEprVbusGuard_keeps (s : State) (k : PortId) : Out.Keeps (execEprVbusGuard k s) s.pending := by
  simp [execEprVbusGuard]
theorem execVconnSourceTimeout_keeps (s : State) (k : PortId) : Out.Keeps (execVconnSourceTimeout k s) s.pending := by
  simp [execVconnSourceTimeout]
theorem execVconnSwapPsRdySend_keeps (s : State) (k : PortId) : Out.Keeps (execVconnSwapPsRdySend k s) s.pending := by
  simp [execVconnSwapPsRdySend]
theorem execHardResetPathsOff_keeps (s : State) (k : PortId) : Out.Keeps (execHardResetPathsOff k s) s.pending := by
  simp [execHardResetPathsOff]
theorem execHardResetVsafe0v_keeps (s : State) (k : PortId) : Out.Keeps (execHardResetVsafe0v k s) s.pending := by
  simp [execHardResetVsafe0v]
theorem execHardResetRecover_keeps (s : State) (k : PortId) : Out.Keeps (execHardResetRecover k s) s.pending := by
  simp [execHardResetRecover]
theorem execBistCarrierEnd_keeps (s : State) (k : PortId) : Out.Keeps (execBistCarrierEnd k s) s.pending := by
  simp [execBistCarrierEnd]
theorem execVconnTrip_keeps (s : State) (k : PortId) : Out.Keeps (execVconnTrip k s) s.pending := by
  simp [execVconnTrip]

/-! ### Machine/Teller -/

theorem execCommandTransfer_keeps (s : State) (h : SlotId) (bytes : List Byte) :
    Out.Keeps (execCommandTransfer h bytes s) s.pending := by
  simp [execCommandTransfer]
theorem execCommandDispatch_keeps (s : State) : Out.Keeps (execCommandDispatch s) s.pending := by
  rw [execCommandDispatch, Out.keeps_next]
  (repeat' split)
  · rfl
  · rfl
  · rfl
  · next o ho => exact ((opTable_keepsPending o (opOf_mem ho)).runEntry _ _ _).trans (by simp)
theorem execRecordDelivery_keeps (s : State) (h : SlotId) : Out.Keeps (execRecordDelivery h s) s.pending := by
  simp [execRecordDelivery]

/-! ### Every command -/

/-! ### Every command -/

/-- Whatever command runs, it answers a next state with the same queue. -/
theorem exec_keeps (s : State) (i : Instr) : Out.Keeps (exec i s) s.pending := by
  cases i with
  | nop a => exact Out.keeps_next.mpr (opNop_keepsPending.issue s a)
  | echo a => exact Out.keeps_next.mpr (opEcho_keepsPending.issue s a)
  | getInfo a => exact Out.keeps_next.mpr (opGetInfo_keepsPending.issue s a)
  | fence a => exact Out.keeps_next.mpr (opFence_keepsPending.issue s a)
  | cancel a => exact Out.keeps_next.mpr (opCancel_keepsPending.issue s a)
  | regRd a => exact Out.keeps_next.mpr (opRegRd_keepsPending.issue s a)
  | regWr a => exact Out.keeps_next.mpr (opRegWr_keepsPending.issue s a)
  | regRmw a => exact Out.keeps_next.mpr (opRegRmw_keepsPending.issue s a)
  | portMode a => exact Out.keeps_next.mpr (opPortMode_keepsPending.issue s a)
  | portPower a => exact Out.keeps_next.mpr (opPortPower_keepsPending.issue s a)
  | portReset a => exact Out.keeps_next.mpr (opPortReset_keepsPending.issue s a)
  | portSuspend a => exact Out.keeps_next.mpr (opPortSuspend_keepsPending.issue s a)
  | portResume a => exact Out.keeps_next.mpr (opPortResume_keepsPending.issue s a)
  | deedRelease a => exact Out.keeps_next.mpr (opDeedRelease_keepsPending.issue s a)
  | deedClaim a => exact Out.keeps_next.mpr (opDeedClaim_keepsPending.issue s a)
  | deedSeize a => exact Out.keeps_next.mpr (opDeedSeize_keepsPending.issue s a)
  | deedView a => exact Out.keeps_next.mpr (opDeedView_keepsPending.issue s a)
  | ctrlXfer a => exact Out.keeps_next.mpr (opCtrlXfer_keepsPending.issue s a)
  | bulkXfer a => exact Out.keeps_next.mpr (opBulkXfer_keepsPending.issue s a)
  | intXfer a => exact Out.keeps_next.mpr (opIntXfer_keepsPending.issue s a)
  | isoXfer a => exact Out.keeps_next.mpr (opIsoXfer_keepsPending.issue s a)
  | soCreate a => exact Out.keeps_next.mpr (opSoCreate_keepsPending.issue s a)
  | soModify a => exact Out.keeps_next.mpr (opSoModify_keepsPending.issue s a)
  | soDelete a => exact Out.keeps_next.mpr (opSoDelete_keepsPending.issue s a)
  | soQuery a => exact Out.keeps_next.mpr (opSoQuery_keepsPending.issue s a)
  | stmtLayout a => exact Out.keeps_next.mpr (opStmtLayout_keepsPending.issue s a)
  | stmtSubscribe a => exact Out.keeps_next.mpr (opStmtSubscribe_keepsPending.issue s a)
  | mntCfg a => exact Out.keeps_next.mpr (opMntCfg_keepsPending.issue s a)
  | mntSeg a => exact Out.keeps_next.mpr (opMntSeg_keepsPending.issue s a)
  | mntStart a => exact Out.keeps_next.mpr (opMntStart_keepsPending.issue s a)
  | mntHold a => exact Out.keeps_next.mpr (opMntHold_keepsPending.issue s a)
  | mntRelease a => exact Out.keeps_next.mpr (opMntRelease_keepsPending.issue s a)
  | mntQuery a => exact Out.keeps_next.mpr (opMntQuery_keepsPending.issue s a)
  | mntFbtemplate a => exact Out.keeps_next.mpr (opMntFbtemplate_keepsPending.issue s a)
  | clrBody a => exact Out.keeps_next.mpr (opClrBody_keepsPending.issue s a)
  | clrPair a => exact Out.keeps_next.mpr (opClrPair_keepsPending.issue s a)
  | clrArm a => exact Out.keeps_next.mpr (opClrArm_keepsPending.issue s a)
  | clrDisarm a => exact Out.keeps_next.mpr (opClrDisarm_keepsPending.issue s a)
  | tlySet a => exact Out.keeps_next.mpr (opTlySet_keepsPending.issue s a)
  | tlyMode a => exact Out.keeps_next.mpr (opTlyMode_keepsPending.issue s a)
  | tlyQuery a => exact Out.keeps_next.mpr (opTlyQuery_keepsPending.issue s a)
  | ccCfg a => exact Out.keeps_next.mpr (opCcCfg_keepsPending.issue s a)
  | pdCfg a => exact Out.keeps_next.mpr (opPdCfg_keepsPending.issue s a)
  | pdTx a => exact Out.keeps_next.mpr (opPdTx_keepsPending.issue s a)
  | pdHardreset a => exact Out.keeps_next.mpr (opPdHardreset_keepsPending.issue s a)
  | escBudget a => exact Out.keeps_next.mpr (opEscBudget_keepsPending.issue s a)
  | escPriority a => exact Out.keeps_next.mpr (opEscPriority_keepsPending.issue s a)
  | gateCfg a => exact Out.keeps_next.mpr (opGateCfg_keepsPending.issue s a)
  | modelCfg a => exact Out.keeps_next.mpr (opModelCfg_keepsPending.issue s a)
  | escQuery a => exact Out.keeps_next.mpr (opEscQuery_keepsPending.issue s a)
  | ldgRd a => exact Out.keeps_next.mpr (opLdgRd_keepsPending.issue s a)
  | ldgWr a => exact Out.keeps_next.mpr (opLdgWr_keepsPending.issue s a)
  | planeCfg a => exact Out.keeps_next.mpr (opPlaneCfg_keepsPending.issue s a)
  | inlayQuery a => exact Out.keeps_next.mpr (opInlayQuery_keepsPending.issue s a)
  | prsCfg a => exact Out.keeps_next.mpr (opPrsCfg_keepsPending.issue s a)
  | prsRead a => exact Out.keeps_next.mpr (opPrsRead_keepsPending.issue s a)
  | pwrDomain a => exact Out.keeps_next.mpr (opPwrDomain_keepsPending.issue s a)
  | sleep a => exact Out.keeps_next.mpr (opSleep_keepsPending.issue s a)
  | fwStage a => exact Out.keeps_next.mpr (opFwStage_keepsPending.issue s a)
  | fwCommit a => exact Out.keeps_next.mpr (opFwCommit_keepsPending.issue s a)
  | fwSwap a => exact Out.keeps_next.mpr (opFwSwap_keepsPending.issue s a)
  | otpWrite a => exact Out.keeps_next.mpr (opOtpWrite_keepsPending.issue s a)
  | vaultLock a => exact Out.keeps_next.mpr (opVaultLock_keepsPending.issue s a)
  | commandTransfer g bytes => exact execCommandTransfer_keeps s g bytes
  | commandDispatch => exact execCommandDispatch_keeps s
  | recordDelivery g => exact execRecordDelivery_keeps s g
  | statementDelivery g => exact execStatementDelivery_keeps s g
  | mgmtMbxGo p => exact execMgmtMbxGo_keeps s p
  | mgmtTransaction x => exact execMgmtTransaction_keeps s x
  | glbUnlock p v => exact execGlbUnlock_keeps s p v
  | glbLock p v => exact execGlbLock_keeps s p v
  | presenceClose p => exact execPresenceClose_keeps s p
  | ldgTestLoad p => exact execLdgTestLoad_keeps s p
  | ldgTestStoreData p => exact execLdgTestStoreData_keeps s p
  | ldgTestStoreCheck p => exact execLdgTestStoreCheck_keeps s p
  | ldgTestStoreBoth p => exact execLdgTestStoreBoth_keeps s p
  | ldgFlip p v => exact execLdgFlip_keeps s p v
  | forceOffClear p hits => exact execForceOffClear_keeps s p hits
  | registerWrite p addr v => exact execRegisterWrite_keeps s p addr v
  | setPortPower g k => exact execSetPortPower_keeps s g k
  | clearPortPower g k => exact execClearPortPower_keeps s g k
  | setPortReset g k => exact execSetPortReset_keeps s g k
  | setPortSuspend g k => exact execSetPortSuspend_keeps s g k
  | clearPortSuspend g k => exact execClearPortSuspend_keeps s g k
  | setPortIndicator g k m => exact execSetPortIndicator_keeps s g k m
  | getPortStatus g k => exact execGetPortStatus_keeps s g k
  | setPortTest g k m => exact execSetPortTest_keeps s g k m
  | clearTtBuffer g k key => exact execClearTtBuffer_keeps s g k key
  | resetTt g k => exact execResetTt_keeps s g k
  | getTtState g k => exact execGetTtState_keeps s g k
  | stopTt g k => exact execStopTt_keeps s g k
  | slotVbusRise g cc => exact execSlotVbusRise_keeps s g cc
  | slotVbusLoss g => exact execSlotVbusLoss_keeps s g
  | ssTrainingTimeout g => exact execSsTrainingTimeout_keeps s g
  | ssLinkFailure g => exact execSsLinkFailure_keeps s g
  | slotBusReset g kind => exact execSlotBusReset_keeps s g kind
  | slotSuspend g => exact execSlotSuspend_keeps s g
  | slotResume g => exact execSlotResume_keeps s g
  | upstreamSof g ts itp => exact execUpstreamSof_keeps s g ts itp
  | proxyRemoteWake k => exact execProxyRemoteWake_keeps s k
  | relayRemoteWake k => exact execRelayRemoteWake_keeps s k
  | microframeBoundary => exact execMicroframeBoundary_keeps s
  | feedbackMissing c => exact execFeedbackMissing_keeps s c
  | mntStartAbandon g => exact execMntStartAbandon_keeps s g
  | mintSend => exact execMintSend_keeps s
  | clearanceSlot j => exact execClearanceSlot_keeps s j
  | youngCountExpiry b => exact execYoungCountExpiry_keeps s b
  | statementAssembly => exact execStatementAssembly_keeps s
  | orderTransactionDone n r late retryFits => exact execOrderTransactionDone_keeps s n r late retryFits
  | orderWindowEnd k w => exact execOrderWindowEnd_keeps s k w
  | prsReadCopyDone n => exact execPrsReadCopyDone_keeps s n
  | msyncInEdge rising ts widthNs => exact execMsyncInEdge_keeps s rising ts widthNs
  | msyncInMissing => exact execMsyncInMissing_keeps s
  | msyncOutPulse => exact execMsyncOutPulse_keeps s
  | dovetailTrainReceived frame delayNs => exact execDovetailTrainReceived_keeps s frame delayNs
  | dovetailTrainTimeout => exact execDovetailTrainTimeout_keeps s
  | dovetailSyncLaunch => exact execDovetailSyncLaunch_keeps s
  | dovetailSyncReceived frame arrival => exact execDovetailSyncReceived_keeps s frame arrival
  | dovetailHoldReceived frame => exact execDovetailHoldReceived_keeps s frame
  | doveInLoss invalid => exact execDoveInLoss_keeps s invalid
  | doveInReturn => exact execDoveInReturn_keeps s
  | usbConnect k dplus => exact execUsbConnect_keeps s k dplus
  | usbDisconnect k => exact execUsbDisconnect_keeps s k
  | connectDebounceEnd k => exact execConnectDebounceEnd_keeps s k
  | portResetEnd k chirp dplus => exact execPortResetEnd_keeps s k chirp dplus
  | enumRequestDone k r => exact execEnumRequestDone_keeps s k r
  | enumRequestTimeout k => exact execEnumRequestTimeout_keeps s k
  | portBabble k => exact execPortBabble_keeps s k
  | xferTransactionDone k ep isIn r => exact execXferTransactionDone_keeps s k ep isIn r
  | xferTimeout k ep isIn => exact execXferTimeout_keeps s k ep isIn
  | resumeSignallingEnd k => exact execResumeSignallingEnd_keeps s k
  | ttStartSplit k periodic isoOut key bytes => exact execTtStartSplit_keeps s k periodic isoOut key bytes
  | ttResultDiscard k key => exact execTtResultDiscard_keeps s k key
  | powerCycleNoConnect k => exact execPowerCycleNoConnect_keeps s k
  | seatPinChange k aLow bLow => exact execSeatPinChange_keeps s k aLow bLow
  | seatingConfirmed k => exact execSeatingConfirmed_keeps s k
  | seatingLost k => exact execSeatingLost_keeps s k
  | ccChange k cc1 cc2 => exact execCcChange_keeps s k cc1 cc2
  | ccAttachConfirmed k => exact execCcAttachConfirmed_keeps s k
  | ccDetach k => exact execCcDetach_keeps s k
  | drpToggle k => exact execDrpToggle_keeps s k
  | trySrcTimeout k => exact execTrySrcTimeout_keeps s k
  | sourcePartnerBackoff k => exact execSourcePartnerBackoff_keeps s k
  | pdMessageReceived k sop msg crcOk => exact execPdMessageReceived_keeps s k sop msg crcOk
  | pdRequestReceived k msg => exact execPdRequestReceived_keeps s k msg
  | softResetReceived k sop => exact execSoftResetReceived_keeps s k sop
  | eprKeepaliveReceived k => exact execEprKeepaliveReceived_keeps s k
  | hardResetReceived k => exact execHardResetReceived_keeps s k
  | bistReceived k carrier => exact execBistReceived_keeps s k carrier
  | psRdyReceived k => exact execPsRdyReceived_keeps s k
  | goodcrcReceived k => exact execGoodcrcReceived_keeps s k
  | crcReceiveTimeout k => exact execCrcReceiveTimeout_keeps s k
  | autoResponse k => exact execAutoResponse_keeps s k
  | waitTimerExpiry k => exact execWaitTimerExpiry_keeps s k
  | sinkTxWaitEnd k => exact execSinkTxWaitEnd_keeps s k
  | exchangeEnd k => exact execExchangeEnd_keeps s k
  | srcTransitionEnd k => exact execSrcTransitionEnd_keeps s k
  | eprKeepaliveTimeout k => exact execEprKeepaliveTimeout_keeps s k
  | eprVbusGuard k => exact execEprVbusGuard_keeps s k
  | vconnSourceTimeout k => exact execVconnSourceTimeout_keeps s k
  | vconnSwapPsRdySend k => exact execVconnSwapPsRdySend_keeps s k
  | hardResetPathsOff k => exact execHardResetPathsOff_keeps s k
  | hardResetVsafe0v k => exact execHardResetVsafe0v_keeps s k
  | hardResetRecover k => exact execHardResetRecover_keeps s k
  | bistCarrierEnd k => exact execBistCarrierEnd_keeps s k
  | vconnTrip k => exact execVconnTrip_keeps s k
  | escrowGrant => exact execEscrowGrant_keeps s
  | rampPrechargeEnd k => exact execRampPrechargeEnd_keeps s k
  | rampSlewEnd k vbusMv => exact execRampSlewEnd_keeps s k vbusMv
  | portPowerGood k vbusMv vgsMv => exact execPortPowerGood_keeps s k vbusMv vgsMv
  | rampTimeout k => exact execRampTimeout_keeps s k
  | transitionSettled k vbusMv => exact execTransitionSettled_keeps s k vbusMv
  | dischargeTo5v k => exact execDischargeTo5v_keeps s k
  | dischargeFailure k => exact execDischargeFailure_keeps s k
  | switchOffDischarged k vbusMv => exact execSwitchOffDischarged_keeps s k vbusMv
  | switchOffDischTimeout k vbusMv => exact execSwitchOffDischTimeout_keeps s k vbusMv
  | currentLimit k iMa => exact execCurrentLimit_keeps s k iMa
  | limitingEnd k => exact execLimitingEnd_keeps s k
  | fastTrip k iMa vbusMv => exact execFastTrip_keeps s k iMa vbusMv
  | overVoltage k vbusMv => exact execOverVoltage_keeps s k vbusMv
  | vbusLow k vbusMv => exact execVbusLow_keeps s k vbusMv
  | thermalModelStep k m => exact execThermalModelStep_keeps s k m
  | cooldownEnd k => exact execCooldownEnd_keeps s k
  | boardTempUpdate => exact execBoardTempUpdate_keeps s
  | vgdUndervoltage j => exact execVgdUndervoltage_keeps s j
  | vgdRecover j => exact execVgdRecover_keeps s j
  | vgdLoss j => exact execVgdLoss_keeps s j
  | vgdPresent j => exact execVgdPresent_keeps s j
  | splineFlitError j place seen again => exact execSplineFlitError_keeps s j place seen again
  | splineLinkDown j => exact execSplineLinkDown_keeps s j
  | splineHoldoverExpiry j => exact execSplineHoldoverExpiry_keeps s j
  | splineLinkUp j => exact execSplineLinkUp_keeps s j
  | stileResetLine j => exact execStileResetLine_keeps s j
  | planeVisit => exact execPlaneVisit_keeps s
  | cabKeyDebounced => exact execCabKeyDebounced_keeps s
  | presenceWindowExpiry => exact execPresenceWindowExpiry_keeps s
  | sealBit r => exact execSealBit_keeps s r
  | adcSample x => exact execAdcSample_keeps s x
  | wakeSource l => exact execWakeSource_keeps s l
  | sleepDecision pending detail => exact execSleepDecision_keeps s pending detail
  | drainEnd => exact execDrainEnd_keeps s
  | drainTimeout => exact execDrainTimeout_keeps s
  | latchedWake => exact execLatchedWake_keeps s
  | xt32Switch => exact execXt32Switch_keeps s
  | vsvcRise mgmtAddr vbusDet keyLow => exact execVsvcRise_keeps s mgmtAddr vbusDet keyLow
  | vsvcLoss => exact execVsvcLoss_keeps s
  | porNLow => exact execPorNLow_keeps s
  | resetNLow bootSlot cascadeEn => exact execResetNLow_keeps s bootSlot cascadeEn
  | supplyMonitorReset => exact execSupplyMonitorReset_keeps s
  | powerGood bootSlot cascadeEn => exact execPowerGood_keeps s bootSlot cascadeEn
  | pllLockTimeout w => exact execPllLockTimeout_keeps s w
  | ledgerSelfTestEnd badLines badSpares => exact execLedgerSelfTestEnd_keeps s badLines badSpares
  | imageCheckEnd f badLines badSpares => exact execImageCheckEnd_keeps s f badLines badSpares
  | clockLoss => exact execClockLoss_keeps s
  | tellerWatchdogExpiry => exact execTellerWatchdogExpiry_keeps s
  | tellerRestartEnd => exact execTellerRestartEnd_keeps s
  | swapRollback => exact execSwapRollback_keeps s
  | cabKeyRelease => exact execCabKeyRelease_keeps s
  | ssLinkTrained g gen2 => exact execSsLinkTrained_keeps s g gen2
  | standardRequest g f r => exact execStandardRequest_keeps s g f r
  | sclLowTimeout x => exact execSclLowTimeout_keeps s x
  | ttCompleteSplit k periodic key r => exact execTtCompleteSplit_keeps s k periodic key r
  | clocksStable ssLocked => exact execClocksStable_keeps s ssLocked
  | swapReady => exact execSwapReady_keeps s
  | nightsafeCycle => exact execNightsafeCycle_keeps s
  | usb2HubSuspend g => exact execUsb2HubSuspend_keeps s g
  | usb2HubResume g => exact execUsb2HubResume_keeps s g
  | upstreamLinkU1U2 g st own => exact execUpstreamLinkU1U2_keeps s g st own
  | rail5vInRange j mv => exact execRail5vInRange_keeps s j mv

end Sys2Proof.Machine
end

section
/-! The queue of commands. -/
namespace Sys2Proof.Machine

/-- Settles O5: no operation of the model touches the queue, and each step takes its front command off (log entry 1: that commands
wait in one queue is the model's own). -/
theorem everyCommandCompletesAndLeavesTheQueue : Obligations.EveryCommandCompletesAndLeavesTheQueue := by
  unfold Obligations.EveryCommandCompletesAndLeavesTheQueue
  refine ⟨fun s => ?_, fun c s => exec_keeps s c⟩
  cases hp : s.pending with
  | nil => exact ⟨s, by simp only [step, hp], hp⟩
  | cons c rest =>
    obtain ⟨t, hexec, hrest⟩ := exec_keeps { s with pending := rest } c
    exact ⟨t, by simpa only [step, hp] using hexec, hrest⟩

end Sys2Proof.Machine
end
